-- ==== Sys2Proof/Word.lean ====
section
/-! DEFINITION. The plain data types that the whole model shares: bytes and sparse maps. -/

namespace Sys2Proof

/-- One byte as the spec stores it in frames, objects and host memory. -/
abbrev Byte := BitVec 8

/-- A sparse map from keys to values: strictly rising keys, no entry equal to what an unlisted key reads as
(`Sys2Proof.SMap.wf` says so). -/
abbrev SMap := List (Nat × Nat)

/-- A sparse map from keys to byte strings, in the same canonical form. -/
abbrev BMap := List (Nat × List Byte)

end Sys2Proof
end

