-- ==== Sys2Proof/Syntax.lean ====
section
/-! DEFINITION. The commands of the block, one constructor of `Instr` for each row of the spec's table of operations and
events, and the types of their operands. -/

namespace Sys2Proof

/-- Who issues a request for one named entry: a mailbox with the TAG of its request, or the frame at the head of the
Tendril queue (R68, R79). -/
inductive Requester where
  | kernel (n tag : Nat)
  | user (n tag : Nat)
  | tendril
deriving DecidableEq, Repr

/-- A request: what stands in a mailbox's registers when its doorbell is written (Table 3.4), or the frame at the head
of the Tendril queue (R82). -/
inductive Request where
  | mailbox (kernel : Bool) (n tag : Nat) (current windowWrite : Bool) (addr length offset : Nat) (data : List Byte)
  | tendril
deriving DecidableEq, Repr

/-- The path of a write to the event registers: BAR0, or a Cellar Book write (R446). -/
inductive EventVia where
  | bar0
  | book (r : Requester)
deriving DecidableEq, Repr

/-- The state of a memory word that an access meets (R183, R250, R252): sound, correctable, uncorrectable, or a
failing comparison or CRC. -/
inductive MemFault where
  | none | correctable | uncorrectable | mismatch
deriving DecidableEq, Repr

/-- A 64-bit word of a bank's free bitmap (R228): its level, 0 to 2, and its number within the level. -/
structure BitmapWord where
  bank : Nat
  level : Nat
  word : Nat
deriving DecidableEq, Repr

/-- A memory fault that the data path meets in a slot: the word at an address of a slice's Cooper store (R193), the
data or header of a Cask cell, a bitmap word of a Cask bank (R252), a frame record, a copy descriptor, or a bitmap level
that cannot be rebuilt (R456); a correctable error in a Cask word (R251); an uncorrectable word that the Cellarhand's word of the slot reads (R216), or one that is the word it fetches (R453). -/
inductive SlotFault where
  | caskCorrected
  | handRead
  | handFetch
  | storeWord (slice addr : Nat)
  | cellData (handle : Nat)
  | cellHeader (handle : Nat)
  | cellBitmap (w : BitmapWord)
  | bitmapLost (handle : Nat)
  | frameRecord (record : Nat)
  | copyDescriptor (record : Nat)
deriving DecidableEq, Repr

/-- What the rails and sensors measured over an epoch (R401, R411): energies in microjoules of rails 0 to 11, the
hottest junction in 0.01 degrees, and whether the evaluation that runs in the epoch which closes next overruns it
(R405). -/
structure EpochMeasure where
  rails : List Nat
  tjMax : Int
  overran : Bool
deriving DecidableEq, Repr

/-- A frame's end at a receive MAC (R122, R128): its bytes with FCS, the picoseconds since its first bit crossed the
balls (R314), whether an error code-group was met, how many non-final preemptable fragments it came in, whether their
reassembly failed, and whether it came by the preemptable MAC (R127). A frame of a 3.2T port may come as the 66-bit blocks of
its two instances instead, those of the instance that has its first block before those of the other (R118). -/
structure RxEnd where
  bytes : List Byte
  agePs : Nat
  pcsError : Bool
  fragments : Nat
  assemblyFault : Bool
  preemptable : Bool := false
  blocks : Option (List Nat × List Nat) := none
deriving DecidableEq, Repr

/-- The fields of a Cooper ALU slot after OP (R197). -/
structure AluArgs where
  width : Nat
  dst : Nat
  srcA : Nat
  bImm : Bool
  b : Nat
deriving DecidableEq, Repr

/-- The fields of a Cooper action slot after ACT (R198). -/
structure ActArgs where
  pred : Nat
  aAddr : Bool
  arg : Nat
deriving DecidableEq, Repr

/-- The fields of a Cellarhand word after OP (Table 8.5), and whether its read meets an uncorrectable error (R216), or its
fetch did (R453). -/
structure HandArgs where
  faulty : Bool := false
  badFetch : Bool := false
  commit : Bool
  dst : Nat
  sa : Nat
  sb : Nat
  useImm : Bool
  cond : Nat
  target : Nat
  imm : Nat
deriving DecidableEq, Repr

/-- What a factory operation of the Cellarhand does (Table 8.6): an entry write, a move, a restore from the shadow, or
a Cellar Book write. -/
inductive FactoryOp where
  | entryWrite (store loc : Nat) (bytes : List Byte) (v0 v1 : Bool)
  | entryMove (store src dst : Nat)
  | restore (store loc : Nat)
  | bookWrite (addr value : Nat)
deriving DecidableEq, Repr

/-- A 4,096-symbol window of a lane (R102): the data bits that the lane's transmitter is given in it, and the symbol values
that come to its receiver (R94; in NRZ, bits). -/
structure AdaptWindow where
  data : List Bool
  received : List Nat
deriving DecidableEq, Repr

/-- A difference that a shadow comparison found and that persisted on the second read (R185): the store and location,
and whether the shadow and the die copy pass SECDED and ENTRY_CHECK. -/
structure ShadowDifference where
  store : Nat
  loc : Nat
  shadowPasses : Bool
  diePasses : Bool
deriving DecidableEq, Repr

/-- What a scrubber pass found (R454, R455). -/
inductive ScrubFind where
  | correctable (area : Nat)
  | cellData (handle : Nat)
  | cellHeader (handle : Nat)
  | cellBitmap (w : BitmapWord)
  | bitmapLost (handle : Nat)
  | frameRecord (record : Nat)
  | copyDescriptor (record : Nat)
  | tableEntry (store loc : Nat)
  | storeWord (slice addr : Nat)
  | handWord (addr : Nat)
  | bookCopy (addr : Nat) (bothCopies : Bool)
  | shadowEntry (store loc : Nat) (diePasses : Bool)
  | systemWord
deriving DecidableEq, Repr

/-- A DMA read that misses its 50 µs (R387): its channel, and the bytes of the buffer that had come by then. -/
structure ReadTimeout where
  channel : Nat
  came : List Byte
deriving DecidableEq, Repr

/-- A pass of the scrubber (R454): of the words on die, or of the Cellar system region, and what it found. -/
structure ScrubReport where
  systemRegion : Bool
  finds : List ScrubFind
deriving DecidableEq, Repr

/-- What a GAUGE_RESTART tells of (R376, R477): VDD_GAUGE goes, VDD_GAUGE is back and the die restarts, or the die restarts
from an assertion of GAUGE_RESET_N. -/
inductive GaugeCause where
  | supplyGone
  | supplyBack
  | resetPin
deriving DecidableEq, Repr

/-- How a Boot phase ended (R460 to R462): a fault that self-test retires, one it cannot, or neither; for phase 2, the
bytes of the image slots' headers and digests stand in the state. -/
structure BootReport where
  /-- resources that self-test retires: kind, instance -/
  retires : List (Nat × Nat)
  /-- a fatal cause of Table 18.7 with its detail -/
  fatal : Option (Nat × Nat)
  /-- neither copy of the Cellar Book passes self-test -/
  bookDead : Bool
  /-- microseconds from the start of Boot to the end of this phase -/
  elapsedUs : Nat
  /-- phase 3: the magic or CRC-32C of map copy A, or B, in flash is wrong -/
  badA : Bool := false
  badB : Bool := false
  /-- phase 1: what the regulators of VDD_CORE and VDD_SRAM have answered to VOUT_MODE (R478) -/
  voutModes : Nat × Nat := (0, 0)
  /-- phase 2: the board flash does not respond (Table 20.7) -/
  flashDead : Bool := false
deriving DecidableEq, Repr

/-- The PCI Express endpoint (R65): the codes of the trained width and rate (Table 3.3), Bus Master Enable, the maximum
payload and read request in bytes, whether the function is in D3hot, and the AER status bits that the host's write clears.
Before its link has trained it reads 0. -/
structure PciControl where
  width : Nat := 0
  rate : Nat := 0
  busMaster : Bool := false
  payload : Nat := 128
  readRequest : Nat := 512
  d3hot : Bool := false
  aerClear : Nat := 0
deriving DecidableEq, Repr

/-- A HELLO message (chapter 17). -/
structure HelloMsg where
  serial : Nat
  stepping : Nat
  firmware : List Byte
  role : Nat
  width : Nat
deriving DecidableEq, Repr

/-- A MAP message: the direction's epoch and active lanes by join index (R436). -/
structure MapMsg where
  epoch : Nat
  lanes : List Nat
deriving DecidableEq, Repr

/-- A PACE_PLAN message: the partner's operating point and skips for an epoch (R432). -/
structure PacePlanMsg where
  epoch : Nat
  op : Nat
  skips : Nat
deriving DecidableEq, Repr

/-- A BOOK message (R429; log entry 215): a joint write forwarded to the partner, or its result; a new value of one of the
partner's member entries (R430); the partner is ready to change its mode; and the round boundary at which both change
(R466). -/
inductive BookMsg where
  | request (addr : Nat) (data : List Byte) (principal : Nat)
  | result (code : Nat)
  | notice (addr : Nat) (data : List Byte)
  | ready
  | change (boundary : Nat)
deriving DecidableEq, Repr

/-- A stripe as received (R420, R421): the join index of each lane that brought a block, and the information bits of the
block's 16 codewords; none for an uncorrectable one. -/
structure Stripe where
  blocks : List (Nat × List (Option Nat))
deriving DecidableEq, Repr

/-- What Mirroring ends with (R435, R482): the primary's ROUND_COUNT, and the round trip of the PACE pins and the flight
time of the slowest active lane as they were measured. -/
structure MirrorReport where
  roundCount : Nat
  roundTripPs : Nat
  flightPs : Nat
deriving DecidableEq, Repr

/-- The primary's device time as it sends a mark (R433): nanoseconds, TIME_RATE, TIME_VALID. -/
structure MarkTime where
  ns : Nat
  rate : Nat
  valid : Bool
deriving DecidableEq, Repr

/-- A mark on PACE_IN (R432); a boundary's brings the partner's device time (log entry 217). -/
inductive PaceMark where
  | boundary (time : MarkTime)
  | droop (skips : Nat)
deriving DecidableEq, Repr

/-- The bytes of a frame that have reached intake, and the MAC of its port that receives it (R127, R137). -/
structure HeadBytes where
  preemptable : Bool
  bytes : List Byte
deriving DecidableEq, Repr

/-- The state of the words that a search uses, and the location of an uncorrectable one (R183). -/
structure WordFault where
  state : MemFault
  loc : Nat
deriving DecidableEq, Repr

/-- A lane, with the levels of the last comma words that its receiver met in mode 6 (R99), and how late its alignment lies in
ps against a common instant (R97). -/
structure LaneReport where
  lane : Nat
  commas : List (List Int)
  skewPs : Nat
deriving DecidableEq, Repr

/-- A PCS instance of a front port: instance A, or the `second` one of a 3.2T port (R118). -/
structure PcsSide where
  port : Nat
  second : Bool
deriving DecidableEq, Repr

/-- A Cellarhand context that becomes ready, and whether it is the scrubber that runs in it (R211, R454). -/
structure ContextStart where
  context : Nat
  scrubs : Bool := false
deriving DecidableEq, Repr

/-- The commands, in the order of the table. Each docstring names the rule of the row. -/
inductive Instr where
  /-- COUNTED_SLOT (R17) -/
  | countedSlot (faults : List SlotFault)
  /-- SKIP_SLOT (R23) -/
  | skipSlot
  /-- ROUND_BOUNDARY (R27) -/
  | roundBoundary (overran : Bool)
  /-- TAP_PERIOD_BOUNDARY (R354) -/
  | tapPeriodBoundary
  /-- POWER_EPOCH_BOUNDARY (R404) -/
  | powerEpochBoundary (m : EpochMeasure)
  /-- SETPOINT_REQUEST (R404) -/
  | setpointRequest
  /-- SETPOINT_REACHED (R478) -/
  | setpointReached
  /-- DROOP_DETECTION (R410) -/
  | droopDetection
  /-- DROOP_BURST_END (R410) -/
  | droopBurstEnd
  /-- THERMAL_FATAL (R411) -/
  | thermalFatal (sensor : Nat)
  /-- HARDWARE_TRIP (R411) -/
  | hardwareTrip
  /-- HBM_THROTTLE_ON (R412) -/
  | hbmThrottleOn (celsius : Nat)
  /-- HBM_THROTTLE_OFF (R412) -/
  | hbmThrottleOff (celsius : Nat)
  /-- FRAME_HEAD_READY (R137): the bytes of the frame that have reached intake, by the preemptable MAC or the other one -/
  | frameHeadReady (port agePs : Nat) (head : HeadBytes)
  /-- RX_FRAME_END (R122) -/
  | rxFrameEnd (port : Nat) (e : RxEnd)
  /-- VERDICT_ARRIVAL (R123) -/
  | verdictArrival (frame : Nat)
  /-- SEARCH_LAUNCH (R163) -/
  | searchLaunch (h profile dest : Nat)
  /-- SEARCH_RESULT (R175) -/
  | searchResult (h reg : Nat) (fault : WordFault)
  /-- ALU_NOP (R197) -/
  | aluNop (h : Nat) (a : AluArgs)
  /-- ALU_MOV (R197) -/
  | aluMov (h : Nat) (a : AluArgs)
  /-- ALU_ADD (R197) -/
  | aluAdd (h : Nat) (a : AluArgs)
  /-- ALU_SUB (R197) -/
  | aluSub (h : Nat) (a : AluArgs)
  /-- ALU_AND (R197) -/
  | aluAnd (h : Nat) (a : AluArgs)
  /-- ALU_OR (R197) -/
  | aluOr (h : Nat) (a : AluArgs)
  /-- ALU_XOR (R197) -/
  | aluXor (h : Nat) (a : AluArgs)
  /-- ALU_SHL (R197) -/
  | aluShl (h : Nat) (a : AluArgs)
  /-- ALU_SHR (R197) -/
  | aluShr (h : Nat) (a : AluArgs)
  /-- OSUM (R197) -/
  | osum (h : Nat) (a : AluArgs)
  /-- CEQ (R197) -/
  | ceq (h : Nat) (a : AluArgs)
  /-- CNE (R197) -/
  | cne (h : Nat) (a : AluArgs)
  /-- CLTU (R197) -/
  | cltu (h : Nat) (a : AluArgs)
  /-- CGEU (R197) -/
  | cgeu (h : Nat) (a : AluArgs)
  /-- TBIT (R197) -/
  | tbit (h : Nat) (a : AluArgs)
  /-- ACTION_NONE (R198) -/
  | actionNone (h : Nat) (a : ActArgs)
  /-- FORWARD (R198) -/
  | forward (h : Nat) (a : ActArgs)
  /-- MCAST (R198) -/
  | mcast (h : Nat) (a : ActArgs)
  /-- TRAP (R155) -/
  | trap (h : Nat) (a : ActArgs)
  /-- DISCARD (R198) -/
  | discard (h : Nat) (a : ActArgs)
  /-- RECIRC (R209) -/
  | recirc (h : Nat) (a : ActArgs)
  /-- COUNT (R332) -/
  | count (h : Nat) (a : ActArgs)
  /-- POLICE (R278) -/
  | police (h : Nat) (a : ActArgs)
  /-- MIRROR (R298) -/
  | mirror (h : Nat) (a : ActArgs)
  /-- SET_EGRESS (R198) -/
  | setEgress (h : Nat) (a : ActArgs)
  /-- SET_EMIT (R201) -/
  | setEmit (h : Nat) (a : ActArgs)
  /-- SAMPLE (R339) -/
  | sample (h : Nat) (a : ActArgs)
  /-- TIMESTAMP (R316) -/
  | timestamp (h : Nat) (a : ActArgs)
  /-- IOAM (R349) -/
  | ioam (h : Nat) (a : ActArgs)
  /-- FLOW (R346) -/
  | flow (h : Nat) (a : ActArgs)
  /-- FACTORY_ACTION (R198) -/
  | factoryAction (h : Nat) (a : ActArgs)
  /-- REPLICATION_JOB_START (R242) -/
  | replicationJobStart (slice : Nat)
  /-- COPY_TX_START (R261) -/
  | copyTxStart (copy : Nat)
  /-- COPY_TX_END (R133) -/
  | copyTxEnd (copy : Nat)
  /-- GATE_OVERRUN (R274) -/
  | gateOverrun (queue : Nat)
  /-- RACK_OUT_COMPLETE (R249) -/
  | rackOutComplete (copy : Nat)
  /-- RACK_RETURN (R250) -/
  | rackReturn (fault : MemFault) (cell : Nat)
  /-- RECIRC_INTAKE_MOVE (R293) -/
  | recircIntakeMove (slice : Nat)
  /-- LINK_UP (R119) -/
  | linkUp (port : Nat)
  /-- PFC_HOLD_EXPIRY (R129) -/
  | pfcHoldExpiry (port cls : Nat)
  /-- PFC_REFRESH (R130) -/
  | pfcRefresh (port cls : Nat)
  /-- PREEMPT_VERIFY_SEND (R127) -/
  | preemptVerifySend (port : Nat)
  /-- PREEMPT_VERIFY_RESPONSE (R127) -/
  | preemptVerifyResponse (port : Nat)
  /-- LPI_TX_ENTRY (R132) -/
  | lpiTxEntry (port : Nat)
  /-- LPI_TX_EXIT (R132) -/
  | lpiTxExit (port : Nat)
  /-- LANE_SIGNAL_DETECT (R93) -/
  | laneSignalDetect (lane : Nat) (present : Bool)
  /-- LANE_LOCK (R104), with the levels of the last comma words that a mode-6 receiver met (R99) -/
  | laneLock (r : LaneReport)
  /-- LANE_LOCK_LOST (R105), with the same -/
  | laneLockLost (r : LaneReport) (cdrFell alignFell : Bool)
  /-- RELOCK_TIMEOUT (R105) -/
  | relockTimeout (lane : Nat)
  /-- ADAPT_WINDOW (R102) -/
  | adaptWindow (lane : Nat) (w : AdaptWindow)
  /-- ERROR_MONITOR_WINDOW (R102) -/
  | errorMonitorWindow (lane corrected : Nat) (uncorrectable : Bool)
  /-- ADAPT_SNAPSHOT (R103) -/
  | adaptSnapshot (lane : Nat)
  /-- LANE_SLEEP (R108) -/
  | laneSleep (lane : Nat) (tx : Bool) (depth : Nat)
  /-- LANE_WAKE (R109) -/
  | laneWake (lane : Nat) (tx : Bool)
  /-- BRIDGE_CHECK_WORD (R112) -/
  | bridgeCheckWord (stave dir group : Nat) (failing : List Nat)
  /-- READ (R71) -/
  | read (q : Request)
  /-- WRITE (R71) -/
  | write (q : Request)
  /-- DESCRIBE (R38) -/
  | describe (q : Request)
  /-- DOMAIN_READ (R82) -/
  | domainRead (q : Request)
  /-- DOMAIN_BEGIN (R87) -/
  | domainBegin (q : Request)
  /-- DOMAIN_SEGMENT (R87) -/
  | domainSegment (q : Request)
  /-- DOMAIN_END (R73) -/
  | domainEnd (q : Request)
  /-- WINDOW_READ (R73) -/
  | windowRead (q : Request)
  /-- WINDOW_CLOSE (R73) -/
  | windowClose (q : Request)
  /-- DOMAIN_WRITE_TIMEOUT (R87) -/
  | domainWriteTimeout (controller : Nat)
  /-- FUNCTION_LEVEL_RESET (R66) -/
  | functionLevelReset
  /-- HOST_BAD_WRITE (R67) -/
  | hostBadWrite (bar offset size value : Nat)
  /-- REGISTER_WRITE (R7) -/
  | registerWrite (bar offset size value : Nat)
  /-- GRANT_WRITE (R76) -/
  | grantWrite (r : Requester) (grant sub value : Nat)
  /-- KEY_WRITE (R78) -/
  | keyWrite (r : Requester) (controller : Nat) (slotB : Bool) (key : List Byte)
  /-- BEACON (R88) -/
  | beacon
  /-- ENABLE (R45) -/
  | enable (r : Requester) (value : Nat)
  /-- CHECK_COMPLETE (R47) -/
  | checkComplete
  /-- EVENT_FRAME_COALESCED (R445) -/
  | eventFrameCoalesced (controller source : Nat)
  /-- COMMIT (R53) -/
  | commit (r : Requester) (value : Nat)
  /-- COMMIT_CHECKING_END (R54) -/
  | commitCheckingEnd
  /-- COMMIT_PREPARE (R54) -/
  | commitPrepare
  /-- COPY_SWEEP_END (R57) -/
  | copySweepEnd
  /-- DISCARD_STAGING (R42) -/
  | discardStaging (r : Requester) (value : Nat)
  /-- DIGEST_VERIFY_PASS (R64) -/
  | digestVerifyPass
  /-- CARE_LOAD_DONE (R173) -/
  | careLoadDone
  /-- SHADOW_PASS (R185) -/
  | shadowPass (differences : List ShadowDifference)
  /-- SPARE_COPY_DONE (R186) -/
  | spareCopyDone (kind inst : Nat)
  /-- AGING_PASS (R218) -/
  | agingPass
  /-- CONTEXT_PREEMPT (R211) -/
  | contextPreempt (c : ContextStart)
  /-- CELLARHAND_NOP (R212) -/
  | cellarhandNop (context : Nat) (w : HandArgs)
  /-- CELLARHAND_MOV (R212) -/
  | cellarhandMov (context : Nat) (w : HandArgs)
  /-- CELLARHAND_ADD (R212) -/
  | cellarhandAdd (context : Nat) (w : HandArgs)
  /-- CELLARHAND_SUB (R212) -/
  | cellarhandSub (context : Nat) (w : HandArgs)
  /-- CELLARHAND_AND (R212) -/
  | cellarhandAnd (context : Nat) (w : HandArgs)
  /-- CELLARHAND_OR (R212) -/
  | cellarhandOr (context : Nat) (w : HandArgs)
  /-- CELLARHAND_XOR (R212) -/
  | cellarhandXor (context : Nat) (w : HandArgs)
  /-- CELLARHAND_SHL (R212) -/
  | cellarhandShl (context : Nat) (w : HandArgs)
  /-- CELLARHAND_SHR (R212) -/
  | cellarhandShr (context : Nat) (w : HandArgs)
  /-- CMP (R212) -/
  | cmp (context : Nat) (w : HandArgs)
  /-- BR (R212) -/
  | br (context : Nat) (w : HandArgs)
  /-- RDCNT (R212) -/
  | rdcnt (context : Nat) (w : HandArgs)
  /-- RDPAIR (R212) -/
  | rdpair (context : Nat) (w : HandArgs)
  /-- WRCNT (R212) -/
  | wrcnt (context : Nat) (w : HandArgs)
  /-- RDENT (R212) -/
  | rdent (context : Nat) (w : HandArgs)
  /-- TSTHIT (R215) -/
  | tsthit (context : Nat) (w : HandArgs)
  /-- RDBOOK (R212) -/
  | rdbook (context : Nat) (w : HandArgs)
  /-- RAISE (R212) -/
  | raiseUser (context : Nat) (w : HandArgs)
  /-- WAIT (R212) -/
  | wait (context : Nat) (w : HandArgs)
  /-- END (R214) -/
  | endRoutine (context : Nat) (w : HandArgs)
  /-- APPEND (R219) -/
  | appendRecord (context : Nat) (w : HandArgs)
  /-- FACTORY_OPERATION (R212) -/
  | factoryOperation (context : Nat) (op : FactoryOp) (commit : Bool)
  /-- JOURNAL_COMMIT (R214) -/
  | journalCommit (context : Nat)
  /-- RING (R384) -/
  | ring (channel value : Nat)
  /-- RESTART (R381) -/
  | restart (channel value : Nat)
  /-- STOP (R381) -/
  | stop (channel value : Nat)
  /-- SIPHON_HEAD_WRITE (R380) -/
  | siphonHeadWrite (channel address : Nat)
  /-- SIPHON_CONSUMED_WRITE (R383) -/
  | siphonConsumedWrite (channel value : Nat)
  /-- DOMAIN_ARM (R394) -/
  | domainArm (r : Requester) (channel value : Nat)
  /-- DESCRIPTOR_FETCH (R384) -/
  | descriptorFetch (channel : Nat) (bytes : List Byte)
  /-- DESCRIPTOR_COMPLETION (R383) -/
  | descriptorCompletion (channel : Nat) (bytes : List Byte) (staging : Bool)
  /-- READ_TIMEOUT (R387) -/
  | readTimeout (r : ReadTimeout)
  /-- CPU_RX_COPY (R391) -/
  | cpuRxCopy (channel : Nat)
  /-- INJECT_FRAME (R392) -/
  | injectFrame (channel : Nat)
  /-- EXPORT_ITEM (R393) -/
  | exportItem (ring : Nat) (staging : Bool)
  /-- HARVEST_WRITE (R344) -/
  | harvestWrite (staging : Bool)
  /-- BUS_MASTER_ENABLE_CHANGE (R397) -/
  | busMasterEnableChange (c : PciControl)
  /-- CLEAR (R335) -/
  | clear (r : Requester) (value : Nat)
  /-- FLOW_SCAN (R347) -/
  | flowScan
  /-- IPFIX_MESSAGE_SEND (R348) -/
  | ipfixMessageSend
  /-- TIME_STEP_NS (R309) -/
  | timeStepNs (r : Requester) (value : Nat)
  /-- PPS_SECONDS (R310) -/
  | ppsSeconds (r : Requester) (value : Nat)
  /-- TIME_RELEASE (R311) -/
  | timeRelease (r : Requester) (value : Nat)
  /-- TIME_CAPTURE (R313) -/
  | timeCapture (r : Requester) (value : Nat)
  /-- PPS_IN_EDGE (R323) -/
  | ppsInEdge
  /-- REF10M_LOSS (R312) -/
  | ref10mLoss
  /-- REF10M_RESTORE (R312) -/
  | ref10mRestore
  /-- PPS_IN_LOST (R312) -/
  | ppsInLost
  /-- PPS_OUT_PULSE (R322) -/
  | ppsOutPulse
  /-- RCLK_RESUME (R324) -/
  | rclkResume (output : Nat)
  /-- DELTA_RECORD (R356) -/
  | deltaRecord (bytes : List Byte)
  /-- TIME_RECORD (R355) -/
  | timeRecord (bytes : List Byte)
  /-- GAUGE_PULSE (R357) -/
  | gaugePulse
  /-- GAUGE_HOLDOVER_START (R358) -/
  | gaugeHoldoverStart
  /-- HOLDOVER_EXCEEDED (R358) -/
  | holdoverExceeded
  /-- TAP_SILENT (R361) -/
  | tapSilent
  /-- GAUGE_INTERVAL_BOUNDARY (R359) -/
  | gaugeIntervalBoundary
  /-- GAUGE_SEAL (R367) -/
  | gaugeSeal (r : Requester) (value : Nat)
  /-- GAUGE_PARAM_WRITE (R369) -/
  | gaugeParamWrite (r : Requester) (sub : Nat) (data : List Byte)
  /-- SEAL_BREAK_ASSERT (R367) -/
  | sealBreakAssert (asserted : Bool)
  /-- GAUGE_CHECKPOINT (R376) -/
  | gaugeCheckpoint
  /-- GAUGE_RESTART (R376) -/
  | gaugeRestart (cause : GaugeCause) (sealUnreadable : Bool)
  /-- GAUGE_STATUS_PUBLISH (R374) -/
  | gaugeStatusPublish
  /-- GAUGE_MIRROR_CYCLE_END (R374) -/
  | gaugeMirrorCycleEnd
  /-- POWER_CAP_W (R406) -/
  | powerCapW (r : Requester) (value : Nat)
  /-- JOIN_ENABLE (R435) -/
  | joinEnable (r : Requester) (value : Nat)
  /-- HELLO (R435) -/
  | hello (m : HelloMsg)
  /-- JOIN_MIRRORING_END (R435) -/
  | joinMirroringEnd (report : MirrorReport) (entries : List (Nat × Nat)) (objects : List (Nat × List Byte))
  /-- MAP (R436) -/
  | map (m : MapMsg)
  /-- PACE_PLAN (R432) -/
  | pacePlan (m : PacePlanMsg)
  /-- BOOK (R429) -/
  | book (m : BookMsg)
  /-- PREPARE (R434) -/
  | prepare (vintage : Nat)
  /-- PREPARED (R434) -/
  | prepared (vintage : Nat)
  /-- ARM (R434) -/
  | arm (vintage boundary : Nat)
  /-- ACK (R434) -/
  | ack (vintage : Nat)
  /-- GO (R434) -/
  | go (vintage : Nat)
  /-- ABORT (R434) -/
  | abort (vintage : Nat)
  /-- ACK_TIMEOUT (R434) -/
  | ackTimeout
  /-- FLIP_WITHOUT_GO (R434) -/
  | flipWithoutGo
  /-- LEAVE (R437) -/
  | leave
  /-- STRIPE_RECEIVED (R421) -/
  | stripeReceived (m : Stripe)
  /-- STRIPE_ACK_TIMEOUT (R437) -/
  | stripeAckTimeout
  /-- PACE_IN_MARK (R432) -/
  | paceInMark (m : PaceMark)
  /-- GROUP_STATUS_CLEAR (R442) -/
  | groupStatusClear (v : EventVia) (group value : Nat) (raised : List (Nat × Nat))
  /-- SOURCE_OCC_WRITE (R442) -/
  | sourceOccWrite (v : EventVia) (source value : Nat)
  /-- GROUP_ENABLE_WRITE (R443) -/
  | groupEnableWrite (v : EventVia) (group value : Nat)
  /-- RETIRE_REQUEST (R450) -/
  | retireRequest (r : Requester) (value : Nat)
  /-- UNRETIRE_REQUEST (R450) -/
  | unretireRequest (r : Requester) (value : Nat)
  /-- RETIREMENT_MAP_WRITE (R451) -/
  | retirementMapWrite (failed : Bool)
  /-- SCRUB_PASS (R454) -/
  | scrubPass (r : ScrubReport)
  /-- SAFE_HOLD_QUEUE_FLUSH (R457) -/
  | safeHoldQueueFlush
  /-- SUPPLIES_IN_RANGE (R475) -/
  | suppliesInRange
  /-- CORE_SUPPLY_LOST (R475) -/
  | coreSupplyLost
  /-- RESET_N_FALL (R459) -/
  | resetNFall
  /-- RESET_N_RISE (R476) -/
  | resetNRise (straps : Nat)
  /-- REQUESTED_RESET_HOLD_END (R459) -/
  | requestedResetHoldEnd
  /-- BOOT_PHASE_END (R460) -/
  | bootPhaseEnd (b : BootReport)
  /-- IMAGE_RETRY (R462) -/
  | imageRetry
  /-- IMAGE_SLOT_PROGRAMMED (R484) -/
  | imageSlotProgrammed (slotB readBack : Bool)
  /-- ROLLBACK_ADVANCE (R463) -/
  | rollbackAdvance (r : Requester) (value : Nat)
  /-- MODE_REQUEST (R464) -/
  | modeRequest (r : Requester) (value : Nat)
  /-- DRAIN_LIMIT_EXPIRY (R467) -/
  | drainLimitExpiry
  /-- RECOVERY_COMPARISON_END (R468) -/
  | recoveryComparisonEnd
  /-- CARE_TEST_GO (R471) -/
  | careTestGo (r : Requester) (value : Nat)
  /-- BUS_REQUEST (R485) -/
  | busRequest (r : Requester) (bus value : Nat)
  /-- BUS_TRANSACTION_END (R485) -/
  | busTransactionEnd (bus result : Nat) (data : List Byte)
  /-- EXTEST (R487) -/
  | extest (shift : Nat)
  /-- IDCODE (R487) -/
  | idcode
  /-- SAMPLE_PRELOAD (R487) -/
  | samplePreload (shift : Nat)
  /-- EXTEST_PULSE (R487) -/
  | extestPulse
  /-- EXTEST_TRAIN (R487) -/
  | extestTrain
  /-- BOOT_STATUS (R487) -/
  | bootStatus
  /-- BYPASS (R487) -/
  | bypass
  /-- LOCAL_FAULT (R119), of one PCS instance (R118) -/
  | localFault (side : PcsSide) (present : Bool)
  /-- REMOTE_FAULT (R119), of an instance as for LOCAL_FAULT -/
  | remoteFault (side : PcsSide) (present : Bool)
  /-- MGMT_STATUS (R136) -/
  | mgmtStatus (link localFault remoteFault : Bool)
  /-- CORE_PLL (R456) -/
  | corePll
  /-- SUPPLY_UNDERVOLTAGE (R456) -/
  | supplyUndervoltage (rail : Nat)
  /-- FIRMWARE_SUPERVISION_FAULT (R456) -/
  | firmwareSupervisionFault (code : Nat)
deriving DecidableEq, Repr

end Sys2Proof
end

