-- ==== Sys2Proof/Config.lean ====
section
/-! DEFINITION. The free values: what the spec leaves open, as constants without a body, and what one board fixes. -/

namespace Sys2Proof.Config

open Sys2Proof

/-- A value the spec leaves open, one for each draw number; nothing in Lean knows any of them (log entry 2). -/
opaque freeValue : Nat → Nat

/-- The Gauge's Ed25519 private key of a key number: the key stays inside the Gauge die, so the spec gives no value
(log entry 9). -/
opaque gaugeKey : Nat → List Byte

/-- The Ed25519 public key of a key number (RFC 8032); the curve arithmetic is not modelled (log entry 9). -/
opaque ed25519Public : List Byte → List Byte

/-- The Ed25519 signature of a message under a key (RFC 8032); the curve arithmetic is not modelled (log entry 9). -/
opaque ed25519Sign : List Byte → List Byte → List Byte

/-- The Ed25519 verification of (public key, message, signature) (RFC 8032; log entry 9). -/
opaque ed25519Verify : List Byte → List Byte → List Byte → Bool

/-- The logical pseudo-channel whose part of the system region holds the shadow of an entry, by store and location: the spec
lays that region out no further (R244, R254, log entry 174). -/
opaque shadowChannel : Nat → Nat → Nat

/-- The 8 bytes of control at the head of a frame's head block (R226): the spec gives them no content (log entry 31). -/
opaque headControl : Nat → Nat

/-- The Cooper words of the factory region after word 0 (R204): Kergolet's programs, which the spec does not print
(log entry 24). -/
opaque factoryWord : Nat → Nat

/-- DROOP_SKIP_BURST and DROOP_STORM_LIMIT (R410): the spec names them and gives neither a value nor an entry (log entry
35). -/
opaque droopSkipBurst : Nat
opaque droopStormLimit : Nat

/-- Where GAUGE_CLK lies within its tolerance and that of the slot clock (R479, log entry 37). -/
opaque gaugeClkOffset : Nat

/-- What the two image slots of the board flash hold as delivered: a header and an image that the spec does not print
(R462; log entry 25). `true` is slot B. -/
opaque deliveredSlot : Bool → List Byte

/-- The fuses' SHA-256 hash of a root key index (R462; log entry 25). -/
opaque rootHash : Nat → List Byte

/-- The length in bits of the boundary register, and what the pins hold when it captures them (R487): the spec gives
neither (log entry 44). -/
opaque boundaryLength : Nat

/-- Kergolet's manufacturer code of IDCODE, which the spec does not print (R487, log entry 44). -/
opaque manufacturer : Nat

/-- The instance that carries the first block of a frame of a 3.2T port (R118), by how much the block has sent before: no rule
counts the idle blocks between frames (log entry 209). -/
opaque blockPhase : Nat → Nat → Bool

/-- Kergolet's PCI Express Vendor ID, which is read from configuration space and not printed (R65, log entry 165). -/
opaque vendor : Nat

end Sys2Proof.Config
end

