-- ==== Sys2Proof/Machine/Bits.lean ====
section
/-! DEFINITION. Bit fields, byte orders, sparse maps and checksums. -/

namespace Sys2Proof.Machine

open Sys2Proof

/-- Bits `[lo + w - 1 : lo]` of `v` (bit 0 least significant, Scope and Conventions). -/
def bits (v lo w : Nat) : Nat := v / 2 ^ lo % 2 ^ w

/-- Bit `i` of `v`. -/
def bit (v i : Nat) : Bool := v.testBit i

/-- `v` with bits `[lo + w - 1 : lo]` replaced by the low `w` bits of `x`. -/
def setBits (v lo w x : Nat) : Nat :=
  v - bits v lo w * 2 ^ lo + x % 2 ^ w * 2 ^ lo

/-- `v` with bit `i` equal to `b`. -/
def setBit (v i : Nat) (b : Bool) : Nat := setBits v i 1 b.toNat

/-- The number that bytes spell, the most significant byte first (R5, frames). -/
def beNat (bs : List Byte) : Nat := bs.foldl (fun a b => a * 256 + b.toNat) 0

/-- The number that bytes spell, the least significant byte first (R5, host memory). -/
def leNat (bs : List Byte) : Nat := bs.foldr (fun b a => a * 256 + b.toNat) 0

/-- The low `n` bytes of `v`, the least significant first. -/
def leBytes : Nat → Nat → List Byte
  | 0, _ => []
  | n + 1, v => BitVec.ofNat 8 v :: leBytes n (v / 256)

/-- The low `n` bytes of `v`, the most significant first. -/
def beBytes (n v : Nat) : List Byte := (leBytes n v).reverse

/-- Byte `i` of a string as a number, 0 beyond its end. -/
def byteAt (bs : List Byte) (i : Nat) : Nat := (bs.getD i 0).toNat

/-- Bytes `i` to `i + n - 1`; bytes beyond the end read 0. -/
def slice (bs : List Byte) (i n : Nat) : List Byte :=
  let t := (bs.drop i).take n
  t ++ List.replicate (n - t.length) 0

/-- The bytes with `new` laid over positions `i` and up, inside the string's length. -/
def overlay (bs : List Byte) (i : Nat) (new : List Byte) : List Byte :=
  (bs.take i ++ new ++ bs.drop (i + new.length)).take bs.length

/-- Two's complement value of the low `w` bits of `v`. -/
def toInt (w v : Nat) : Int :=
  let m := v % 2 ^ w
  if m < 2 ^ (w - 1) then (m : Int) else (m : Int) - (2 ^ w : Nat)

/-- The two's complement of `x` in `w` bits. -/
def ofSigned (w : Nat) (x : Int) : Nat := (x % ((2 ^ w : Nat) : Int)).toNat

/-- The number with the low `w` bits of `v` complemented. -/
def lnot (w v : Nat) : Nat := (2 ^ w - 1) - v % 2 ^ w

/-! ### Sparse maps -/

/-- The value at a key; `d` where the key is not listed. -/
def SMap.get (m : SMap) (d k : Nat) : Nat :=
  match m with
  | [] => d
  | (k', v) :: t => if k' = k then v else SMap.get t d k

/-- The map with no entry for a key. -/
def SMap.del (m : SMap) (k : Nat) : SMap := m.filter (fun e => e.1 ≠ k)

/-- The map with `v` listed at `k`, in key order. -/
def SMap.ins (m : SMap) (k v : Nat) : SMap :=
  match m with
  | [] => [(k, v)]
  | (k', v') :: t =>
    if k < k' then (k, v) :: (k', v') :: t
    else if k' = k then (k, v) :: t
    else (k', v') :: SMap.ins t k v

/-- The map after `v` is written at `k`, where `d` is what the unlisted key reads as: writing `d` removes the entry. -/
def SMap.set (m : SMap) (d k v : Nat) : SMap :=
  if v = d then SMap.del m k else SMap.ins m k v

/-- Keys strictly rising. -/
def SMap.sorted : SMap → Bool
  | [] => true
  | [_] => true
  | (k, _) :: (k', v') :: t => decide (k < k') && SMap.sorted ((k', v') :: t)

/-- The canonical form: keys strictly rising, no entry equal to what the unlisted key reads as. -/
def SMap.wf (dflt : Nat → Nat) (m : SMap) : Bool :=
  SMap.sorted m && m.all (fun e => e.2 ≠ dflt e.1)

/-- The bytes at a key; `dflt` where the key is not listed. -/
def BMap.get (m : BMap) (dflt : List Byte) (k : Nat) : List Byte :=
  match m with
  | [] => dflt
  | (k', v) :: t => if k' = k then v else BMap.get t dflt k

/-- The map with `v` listed at `k`, in key order. -/
def BMap.ins (m : BMap) (k : Nat) (v : List Byte) : BMap :=
  match m with
  | [] => [(k, v)]
  | (k', v') :: t =>
    if k < k' then (k, v) :: (k', v') :: t
    else if k' = k then (k, v) :: t
    else (k', v') :: BMap.ins t k v

/-- The map after `v` is written at `k`; writing what the unlisted key reads as removes the entry. -/
def BMap.set (m : BMap) (dflt : List Byte) (k : Nat) (v : List Byte) : BMap :=
  if v = dflt then m.filter (fun e => e.1 ≠ k) else BMap.ins m k v

/-! ### Lists as tables -/

/-- The list with element `i` replaced through `f`; unchanged where there is no such element. -/
def modAt {α : Type} (xs : List α) (i : Nat) (f : α → α) : List α :=
  match xs, i with
  | [], _ => []
  | x :: t, 0 => f x :: t
  | x :: t, i + 1 => x :: modAt t i f

/-- The first element that satisfies `p`, with `f` applied to it in place. -/
def modFirst {α : Type} (xs : List α) (p : α → Bool) (f : α → α) : List α :=
  match xs with
  | [] => []
  | x :: t => if p x then f x :: t else x :: modFirst t p f

/-- Cuts a string into pieces of `n` bytes; a short last piece is dropped. `fuel` bounds the number of pieces. -/
def chunks (n : Nat) : Nat → List Byte → List (List Byte)
  | 0, _ => []
  | fuel + 1, bs => if n = 0 ∨ bs.length < n then [] else bs.take n :: chunks n fuel (bs.drop n)

/-- Every whole piece of `n` bytes of a string. -/
def pieces (n : Nat) (bs : List Byte) : List (List Byte) := chunks n bs.length bs

/-- The sum of `f` over a list. -/
def sumOn {α : Type} (xs : List α) (f : α → Nat) : Nat := xs.foldl (fun a x => a + f x) 0

/-- The least number of steps of `d` that cover `n`. -/
def ceilDiv (n d : Nat) : Nat := (n + d - 1) / d

/-! ### Checksums -/

/-- One bit of a reflected CRC register. -/
def crcBit (poly c : Nat) : Nat := if c % 2 = 1 then (c / 2) ^^^ poly else c / 2

/-- One byte into a reflected CRC register. -/
def crcByte (poly c : Nat) (b : Byte) : Nat :=
  let c := c ^^^ b.toNat
  crcBit poly (crcBit poly (crcBit poly (crcBit poly (crcBit poly (crcBit poly (crcBit poly (crcBit poly c)))))))

/-- CRC-32C (Castagnoli polynomial, R73) of a string: reflected, initial value and final inversion all ones
(PRESUMED, the polynomial's usual form). -/
def crc32c (bs : List Byte) : Nat := (bs.foldl (crcByte 0x82F63B78) 0xFFFFFFFF) ^^^ 0xFFFFFFFF

/-- CRC-32C of a string from a given initial value of the reflected register, with the final XOR of all ones (R165,
R167; log entry 15). -/
def crc32cFrom (init : Nat) (bs : List Byte) : Nat := (bs.foldl (crcByte 0x82F63B78) init) ^^^ 0xFFFFFFFF

/-- The Ethernet frame check sequence of a string (IEEE 802.3), as the number whose bytes follow the frame least
significant first. -/
def crc32eth (bs : List Byte) : Nat := (bs.foldl (crcByte 0xEDB88320) 0xFFFFFFFF) ^^^ 0xFFFFFFFF

/-- One bit of a CRC-16 register, most significant bit first. -/
def crc16Bit (poly c : Nat) : Nat :=
  if bit c 15 then ((c * 2) % 65536) ^^^ poly else (c * 2) % 65536

/-- A most-significant-first CRC-16 over a string. -/
def crc16 (poly init : Nat) (bs : List Byte) : Nat :=
  bs.foldl (fun c b =>
    let c := c ^^^ (b.toNat * 256)
    crc16Bit poly (crc16Bit poly (crc16Bit poly (crc16Bit poly (crc16Bit poly (crc16Bit poly
      (crc16Bit poly (crc16Bit poly c)))))))) init

/-! ### SHA-256 and HMAC (R54, R83; FIPS 180-4, RFC 2104) -/

/-- The first `n` primes above the list `found` (ascending), looking from `k` on; `fuel` bounds the search. -/
def primesFrom : Nat → Nat → List Nat → List Nat
  | 0, _, found => found
  | fuel + 1, k, found => primesFrom fuel (k + 1) (if found.any (fun p => k % p = 0) then found else found ++ [k])

/-- The 64 primes up to 311, whose roots give SHA-256 its constants. -/
def shaPrimes : List Nat := primesFrom 310 2 []

/-- The largest number below 2^`n` whose `e`-th power, on top of `r`, does not exceed `x`: its bits from the highest
down. -/
def rootBits (e x : Nat) : Nat → Nat → Nat
  | 0, r => r
  | n + 1, r => rootBits e x n (if (r + 2 ^ n) ^ e ≤ x then r + 2 ^ n else r)

/-- The first 32 bits of the fractional part of the `e`-th root of a prime: the root of p·2^(32e), modulo 2^32. -/
def rootFraction (e p : Nat) : Nat := rootBits e (p * 2 ^ (32 * e)) 40 0 % 2 ^ 32

/-- A round constant for every prime, and the words that a digest starts from. -/
def shaK : List Nat := shaPrimes.map (rootFraction 3)
def shaInit : List Nat := (shaPrimes.take 8).map (rootFraction 2)

/-- A 32-bit word turned right by `n`. -/
def rotr32 (x n : Nat) : Nat := (x / 2 ^ n) ||| (x * 2 ^ (32 - n) % 4294967296)

/-- The message schedule: `fuel` words more, from the last 16 words (newest first in `acc`). -/
def shaSchedule : Nat → List Nat → List Nat
  | 0, acc => acc.reverse
  | fuel + 1, acc =>
    let w15 := acc.getD 14 0
    let w2 := acc.getD 1 0
    let s0 := (rotr32 w15 7 ^^^ rotr32 w15 18) ^^^ (w15 / 2 ^ 3)
    let s1 := (rotr32 w2 17 ^^^ rotr32 w2 19) ^^^ (w2 / 2 ^ 10)
    shaSchedule fuel ((acc.getD 15 0 + s0 + acc.getD 6 0 + s1) % 4294967296 :: acc)

def shaRound (st : List Nat) (kw : Nat × Nat) : List Nat :=
  match st with
  | [a, b, c, d, e, f, g, h] =>
    let s1 := (rotr32 e 6 ^^^ rotr32 e 11) ^^^ rotr32 e 25
    let ch := (e &&& f) ^^^ ((4294967295 - e) &&& g)
    let t1 := h + s1 + ch + kw.1 + kw.2
    let s0 := (rotr32 a 2 ^^^ rotr32 a 13) ^^^ rotr32 a 22
    let maj := ((a &&& b) ^^^ (a &&& c)) ^^^ (b &&& c)
    [(t1 + s0 + maj) % 4294967296, a, b, c, (d + t1) % 4294967296, e, f, g]
  | other => other

/-- One 64-byte block into the SHA-256 state. -/
def shaBlock (st : List Nat) (blk : List Byte) : List Nat :=
  let w := shaSchedule 48 ((pieces 4 blk).map beNat).reverse
  let out := (shaK.zip w).foldl shaRound st
  (st.zip out).map (fun p => (p.1 + p.2) % 4294967296)

/-- SHA-256 of a string, 32 bytes. -/
def sha256 (m : List Byte) : List Byte :=
  let pad := (119 - m.length % 64) % 64
  let padded := m ++ [0x80] ++ List.replicate pad 0 ++ beBytes 8 (8 * m.length)
  ((pieces 64 padded).foldl shaBlock shaInit).flatMap (beBytes 4)

/-- HMAC-SHA-256 of a string under a key. -/
def hmac256 (key m : List Byte) : List Byte :=
  let k := if key.length > 64 then sha256 key else key
  let k := slice k 0 64
  sha256 (k.map (· ^^^ 0x5C) ++ sha256 (k.map (· ^^^ 0x36) ++ m))

end Sys2Proof.Machine
end

