-- ==== Sys2Proof/Machine/BookTypes.lean ====
section
/-! DEFINITION. The types of the Cellar Book's catalogue (Tables 0.2, 2.2 and R490). -/

namespace Sys2Proof.Machine

/-- The address of an entry: `index * 256 + subindex` (R33). -/
abbrev Addr := Nat

/-- The entry `index:subindex`. -/
def entry (index sub : Nat) : Addr := index * 256 + sub

/-- The index of an entry's address. -/
def indexOf (a : Addr) : Nat := a / 256

/-- The subindex of an entry's address. -/
def subOf (a : Addr) : Nat := a % 256

/-- The data types of Table 2.2. -/
inductive Ty where
  | bool | u8 | u16 | u32 | u64 | i32 | i64 | bits32 | enum8 | time80
  | octets (n : Nat)
  | domain
deriving DecidableEq, Repr

/-- The access codes of Table 0.2. -/
inductive Acc where
  | ro | rw | rwc | rwv | wo | w1c | w1s | sealed
deriving DecidableEq, Repr

/-- The Default column of a Cellar Book table. -/
inductive Dflt where
  /-- one default for every element -/
  | const (v : Nat)
  /-- the first record's default, and what each further record adds -/
  | step (v k : Nat)
  /-- one default for each element of an array -/
  | list (vs : List Nat)
  /-- no default that reset loads ("—"); the value the model's reset holds there (log entry 4) -/
  | none (v : Nat)
deriving DecidableEq, Repr

/-- The range or set of permitted values that an entry's Meaning gives (R490). -/
inductive Allowed where
  | any
  | range (lo hi : Nat)
  /-- 0, or a value of the range -/
  | zeroOr (lo hi : Nat)
  /-- a value of the range, or one value more -/
  | orValue (lo hi v : Nat)
  /-- two's complement in `w` bits, from `-neg` to `pos` -/
  | signed (w neg pos : Nat)
  /-- a multiple of `k` in the range -/
  | stepped (lo hi k : Nat)
  /-- for each (low bit, width, greatest value): the field is at most that value -/
  | fields (fs : List (Nat × Nat × Nat))
deriving DecidableEq, Repr

/-- One row of the catalogue: `count` records from `index`, the subindices `sub0` to `sub1` of each. -/
structure Row where
  index : Nat
  count : Nat
  sub0 : Nat
  sub1 : Nat
  ty : Ty
  acc : Acc
  dflt : Dflt
  allowed : Allowed
  /-- the bits that are not reserved (R6); 0 where the entry has no reserved bit -/
  kept : Nat
  /-- the enable check judges `allowed` with reason 0x0103 (R490) -/
  checked : Bool
deriving DecidableEq, Repr

/-- The row holds the address. -/
def Row.covers (r : Row) (a : Addr) : Bool :=
  r.index ≤ indexOf a && indexOf a < r.index + r.count && r.sub0 ≤ subOf a && subOf a ≤ r.sub1

/-- The default of the entry at an address of the row. -/
def Row.default (r : Row) (a : Addr) : Nat :=
  match r.dflt with
  | .const v => v
  | .step v k => v + k * (indexOf a - r.index)
  | .list vs => vs.getD (subOf a - r.sub0) 0
  | .none v => v

/-- The size in bytes of a type (Table 2.2); 0 for DOMAIN, whose length is its object's. -/
def Ty.size : Ty → Nat
  | .bool => 1 | .u8 => 1 | .u16 => 2 | .u32 => 4 | .u64 => 8 | .i32 => 4 | .i64 => 8
  | .bits32 => 4 | .enum8 => 1 | .time80 => 10 | .octets n => n | .domain => 0

/-- The type codes of Table 2.2. -/
def Ty.code : Ty → Nat
  | .bool => 1 | .u8 => 2 | .u16 => 3 | .u32 => 4 | .u64 => 5 | .i32 => 6 | .i64 => 7
  | .bits32 => 8 | .enum8 => 9 | .time80 => 0x0A | .octets _ => 0x0B | .domain => 0x0C

/-- The access codes' encoding (R37). -/
def Acc.code : Acc → Nat
  | .ro => 0 | .rw => 1 | .rwc => 2 | .rwv => 3 | .wo => 4 | .w1c => 5 | .w1s => 6 | .sealed => 7

/-- The value is one that the Meaning permits (R490). -/
def Allowed.ok (al : Allowed) (v : Nat) : Bool :=
  match al with
  | .any => true
  | .range lo hi => lo ≤ v && v ≤ hi
  | .zeroOr lo hi => v = 0 || (lo ≤ v && v ≤ hi)
  | .orValue lo hi x => v = x || (lo ≤ v && v ≤ hi)
  | .signed w neg pos => decide (-(neg : Int) ≤ toInt w v ∧ toInt w v ≤ (pos : Int))
  | .stepped lo hi k => lo ≤ v && v ≤ hi && v % k = 0
  | .fields fs => fs.all (fun f => bits v f.1 f.2.1 ≤ f.2.2)

end Sys2Proof.Machine
end

