-- ==== Sys2Proof/Machine/Book.lean ====
section
/-! DEFINITION. The Cellar Book's catalogue: one row per entry (or array of entries) of the spec's Cellar Book
tables, in ascending address order. Each line names the entry; its table stands in the chapter file named by the list. -/

namespace Sys2Proof.Machine

/-- Entries of chapter file 01 of the spec (part 0). -/
def bookRows01_0 : List Row := [
  ⟨0x1030, 1, 0, 0, .u8, .ro, .const 4, .any, 0, false⟩,  -- PACE_COUNT
  ⟨0x1030, 1, 1, 1, .u32, .ro, .const 625, .any, 0, false⟩,  -- SLOT_PERIOD_PS
  ⟨0x1030, 1, 2, 2, .u64, .ro, .const 0, .any, 0, false⟩,  -- ROUND_COUNT
  ⟨0x1030, 1, 3, 3, .u64, .ro, .const 0, .any, 0, false⟩,  -- EPOCH_COUNT
  ⟨0x1030, 1, 4, 4, .u64, .ro, .const 0, .any, 0, false⟩,  -- SKIP_COUNT
  ⟨0xC010, 1, 0, 0, .u8, .ro, .const 3, .any, 0, false⟩,  -- OVERRUN_COUNT
  ⟨0xC010, 1, 1, 1, .u32, .ro, .const 0, .any, 0, false⟩,  -- ROUND_OVERRUNS
  ⟨0xC010, 1, 2, 2, .u32, .ro, .const 0, .any, 0, false⟩,  -- TAP_OVERRUNS
  ⟨0xC010, 1, 3, 3, .u32, .ro, .const 0, .any, 0, false⟩  -- EPOCH_OVERRUNS
  ]

/-- Entries of chapter file 02 of the spec (part 0). -/
def bookRows02_0 : List Row := [
  ⟨0x1000, 1, 0, 0, .u8, .ro, .const 6, .any, 0, false⟩,  -- DEVICE_COUNT
  ⟨0x1000, 1, 1, 1, .enum8, .rw, .const 3, .range 0 11, 0, false⟩,  -- MODE_REQUEST
  ⟨0x1000, 1, 2, 2, .enum8, .ro, .none 1, .any, 0, false⟩,  -- MODE_STATE
  ⟨0x1000, 1, 3, 3, .bool, .w1s, .const 0, .range 0 1, 0, false⟩,  -- ENABLE
  ⟨0x1000, 1, 4, 4, .u16, .ro, .const 0, .any, 0, false⟩,  -- CHECK_REASON
  ⟨0x1000, 1, 5, 5, .u32, .ro, .const 0, .any, 0, false⟩,  -- CHECK_ENTRY
  ⟨0x1000, 1, 6, 6, .u32, .ro, .const 0, .any, 0, false⟩,  -- CHECK_DETAIL
  ⟨0x1010, 1, 0, 0, .u8, .ro, .const 10, .any, 0, false⟩,  -- VINTAGE_COUNT
  ⟨0x1010, 1, 1, 1, .u32, .ro, .const 0, .any, 0, false⟩,  -- VINTAGE_CURRENT
  ⟨0x1010, 1, 2, 2, .u32, .ro, .const 1, .any, 0, false⟩,  -- VINTAGE_STAGING
  ⟨0x1010, 1, 3, 3, .bool, .w1s, .const 0, .range 0 1, 0, false⟩,  -- COMMIT
  ⟨0x1010, 1, 4, 4, .time80, .rw, .const 0, .any, 0, false⟩,  -- COMMIT_TIME
  ⟨0x1010, 1, 5, 5, .u32, .ro, .const 0, .any, 0, false⟩,  -- COMMIT_STATE
  ⟨0x1010, 1, 6, 6, .u32, .ro, .const 0, .any, 0, false⟩,  -- INFLIGHT_PREVIOUS
  ⟨0x1010, 1, 7, 7, .u64, .ro, .const 0, .any, 0, false⟩,  -- COMMIT_ROUND
  ⟨0x1010, 1, 8, 8, .bool, .w1s, .const 0, .range 0 1, 0, false⟩,  -- DISCARD_STAGING
  ⟨0x1010, 1, 9, 9, .u32, .ro, .const 0, .any, 0, false⟩,  -- EXPIRED_TOTAL
  ⟨0x1010, 1, 10, 10, .u32, .ro, .const 0, .any, 0, false⟩,  -- EGRESS_PREVIOUS
  ⟨0x1020, 1, 0, 0, .u8, .ro, .const 12, .any, 0, false⟩,  -- DIGEST_COUNT
  ⟨0x1020, 1, 1, 8, .u32, .ro, .none 0, .any, 0, false⟩,  -- VINTAGE_DIGEST
  ⟨0x1020, 1, 9, 9, .u32, .ro, .const 0, .any, 0, false⟩,  -- DIGEST_VINTAGE
  ⟨0x1020, 1, 10, 10, .enum8, .ro, .const 0, .any, 0, false⟩,  -- DIGEST_STATE
  ⟨0x1020, 1, 11, 11, .u32, .ro, .const 0, .any, 0, false⟩,  -- VERIFY_PASSES
  ⟨0x1020, 1, 12, 12, .u32, .ro, .const 0, .any, 0, false⟩,  -- DIGEST_MISMATCHES
  ⟨0x1140, 64, 0, 0, .u8, .ro, .const 4, .any, 0, false⟩,  -- DENY_COUNT
  ⟨0x1140, 64, 1, 1, .u16, .rw, .const 65535, .any, 0, false⟩,  -- DENY_FIRST
  ⟨0x1140, 64, 2, 2, .u16, .rw, .const 0, .any, 0, false⟩,  -- DENY_LAST
  ⟨0x1140, 64, 3, 3, .bits32, .rw, .const 0, .any, 0, false⟩,  -- READ_DENY
  ⟨0x1140, 64, 4, 4, .bits32, .rw, .const 0, .any, 0, false⟩  -- WRITE_DENY
  ]

/-- Entries of chapter file 03 of the spec (part 0). -/
def bookRows03_0 : List Row := [
  ⟨0x1100, 1, 0, 0, .u8, .ro, .const 7, .any, 0, false⟩,  -- TENDRIL_COUNT
  ⟨0x1100, 1, 1, 1, .bool, .rw, .const 1, .range 0 1, 0, false⟩,  -- TENDRIL_ENABLE
  ⟨0x1100, 1, 2, 2, .u16, .rwc, .const 34997, .any, 0, false⟩,  -- TENDRIL_ETHERTYPE
  ⟨0x1100, 1, 3, 3, (.octets 6), .rwc, .none 2199023255553, .any, 0, false⟩,  -- TENDRIL_MAC
  ⟨0x1100, 1, 4, 4, .u16, .rw, .const 100, .zeroOr 10 10000, 0, false⟩,  -- BEACON_PERIOD_MS
  ⟨0x1100, 1, 5, 5, .u32, .ro, .const 0, .any, 0, false⟩,  -- AUTH_DROPS
  ⟨0x1100, 1, 6, 6, .u32, .ro, .const 0, .any, 0, false⟩,  -- REPLAY_DROPS
  ⟨0x1100, 1, 7, 7, .u32, .ro, .const 0, .any, 0, false⟩,  -- QUEUE_DROPS
  ⟨0x1101, 16, 0, 0, .u8, .ro, .const 10, .any, 0, false⟩,  -- CTRL_COUNT
  ⟨0x1101, 16, 1, 1, .bool, .rw, .const 0, .range 0 1, 0, false⟩,  -- CTRL_ENABLE
  ⟨0x1101, 16, 2, 2, (.octets 32), .wo, .const 0, .any, 0, false⟩,  -- KEY_A
  ⟨0x1101, 16, 3, 3, (.octets 32), .wo, .const 0, .any, 0, false⟩,  -- KEY_B
  ⟨0x1101, 16, 4, 4, .bits32, .rw, .const 0, .any, 3, false⟩,  -- KEY_SLOTS
  ⟨0x1101, 16, 5, 5, (.octets 6), .rw, .const 0, .any, 0, false⟩,  -- CTRL_MAC
  ⟨0x1101, 16, 6, 6, .u16, .rw, .const 2112, .any, 0, false⟩,  -- CTRL_PORT
  ⟨0x1101, 16, 7, 7, .u32, .ro, .const 0, .any, 0, false⟩,  -- RX_SEQ_A
  ⟨0x1101, 16, 8, 8, .u32, .ro, .const 0, .any, 0, false⟩,  -- RX_SEQ_B
  ⟨0x1101, 16, 9, 10, .bits32, .rw, .const 0, .any, 0, false⟩,  -- EVENT_GROUPS
  ⟨0x1120, 1, 0, 0, .u8, .ro, .const 16, .any, 0, false⟩,  -- GRANT_PORT_COUNT
  ⟨0x1120, 1, 1, 16, .bits32, .rw, .const 0, .any, 0, false⟩,  -- FRONT_GRANT
  ⟨0x1180, 128, 0, 0, .u8, .ro, .const 5, .any, 0, false⟩,  -- GRANT_COUNT
  ⟨0x1180, 128, 1, 1, .bool, .rw, .const 0, .range 0 1, 0, false⟩,  -- GRANT_ENABLE
  ⟨0x1180, 128, 2, 2, .enum8, .rw, .const 0, .range 0 1, 0, false⟩,  -- GRANT_TARGET
  ⟨0x1180, 128, 3, 3, .u32, .rw, .const 0, .any, 0, false⟩,  -- GRANT_FIRST
  ⟨0x1180, 128, 4, 4, .u32, .rw, .const 0, .any, 0, false⟩,  -- GRANT_PAGES
  ⟨0x1180, 128, 5, 5, .u32, .rw, .const 0, .any, 0, false⟩  -- GRANT_OWNER
  ]

/-- Entries of chapter file 04 of the spec (part 0). -/
def bookRows04_0 : List Row := [
  ⟨0x2000, 512, 0, 0, .u8, .ro, .const 10, .any, 0, false⟩,  -- LANE_ENTRY_COUNT
  ⟨0x2000, 512, 1, 1, .enum8, .rwv, .const 0, .range 0 6, 0, false⟩,  -- LANE_MODE
  ⟨0x2000, 512, 2, 2, .bits32, .rwv, .const 2616, .fields [(8,2,2),(10,2,2)], 3899, true⟩,  -- LANE_CONTROL
  ⟨0x2000, 512, 3, 3, .bits32, .ro, .none 960, .any, 0, false⟩,  -- LANE_STATUS
  ⟨0x2000, 512, 4, 4, .u32, .ro, .const 0, .any, 0, false⟩,  -- LOCK_LOSSES
  ⟨0x2000, 512, 5, 5, .u32, .ro, .const 0, .any, 0, false⟩,  -- LOCK_STRIKES
  ⟨0x2000, 512, 6, 6, .u32, .ro, .const 0, .any, 0, false⟩,  -- FREEZES
  ⟨0x2000, 512, 7, 7, .u32, .ro, .const 0, .any, 0, false⟩,  -- REVERTS
  ⟨0x2000, 512, 8, 8, .u16, .rw, .const 2048, .any, 0, false⟩,  -- ADAPT_ERR_LIMIT
  ⟨0x2000, 512, 9, 9, .u64, .ro, .const 0, .any, 0, false⟩,  -- SYMBOL_ERRORS
  ⟨0x2000, 512, 10, 10, .u16, .ro, .none 0, .any, 0, false⟩,  -- RX_SNR
  ⟨0x2200, 1, 0, 0, .u8, .ro, .const 5, .any, 0, false⟩,  -- ADAPT_COUNT
  ⟨0x2200, 1, 1, 1, .u8, .rw, .const 32, .any, 0, false⟩,  -- FREEZE_TRANSITION_MIN
  ⟨0x2200, 1, 2, 2, .u8, .rw, .const 4, .any, 0, false⟩,  -- FREEZE_LEVEL_MIN
  ⟨0x2200, 1, 3, 3, .u16, .rw, .const 1000, .range 100 10000, 0, false⟩,  -- SNAPSHOT_PERIOD_US
  ⟨0x2200, 1, 4, 4, .u16, .rw, .const 1000, .any, 0, false⟩,  -- STRIKE_SETTLE_MS
  ⟨0x2200, 1, 5, 5, .u16, .rw, .const 10, .any, 0, false⟩,  -- RELOCK_LIMIT_MS
  ⟨0x2210, 8, 0, 0, .u8, .ro, .const 4, .any, 0, false⟩,  -- BRIDGE_COUNT
  ⟨0x2210, 8, 1, 1, .bits32, .ro, .none 0, .any, 0, false⟩,  -- RX_SPARE_MAP
  ⟨0x2210, 8, 2, 2, .bits32, .ro, .none 0, .any, 0, false⟩,  -- TX_SPARE_MAP
  ⟨0x2210, 8, 3, 3, .u32, .ro, .const 0, .any, 0, false⟩,  -- CHECK_FAILS
  ⟨0x2210, 8, 4, 4, .bits32, .ro, .none 0, .any, 0, false⟩,  -- EXHAUSTED_MAP
  ⟨0x2F00, 256, 0, 0, .u8, .ro, .const 8, .any, 0, false⟩,  -- BOARD_COUNT
  ⟨0x2F00, 256, 1, 1, .u32, .rwc, .const 0, .any, 268435207, false⟩,  -- BOARD_CHANNEL
  ⟨0x2F00, 256, 2, 2, .u32, .rwc, .const 0, .any, 0, false⟩,  -- BOARD_TX_FAST
  ⟨0x2F00, 256, 3, 3, .u32, .rwc, .const 0, .any, 0, false⟩,  -- BOARD_TX_STD
  ⟨0x2F00, 256, 4, 4, .u32, .rwc, .const 0, .any, 4144959, false⟩,  -- BOARD_RX_AND_SWING
  ⟨0x2F00, 256, 5, 5, .u32, .rwc, .const 0, .any, 268435207, false⟩,  -- BOARD_CHANNEL
  ⟨0x2F00, 256, 6, 6, .u32, .rwc, .const 0, .any, 0, false⟩,  -- BOARD_TX_FAST
  ⟨0x2F00, 256, 7, 7, .u32, .rwc, .const 0, .any, 0, false⟩,  -- BOARD_TX_STD
  ⟨0x2F00, 256, 8, 8, .u32, .rwc, .const 0, .any, 4144959, false⟩  -- BOARD_RX_AND_SWING
  ]

/-- Entries of chapter file 05 of the spec (part 0). -/
def bookRows05_0 : List Row := [
  ⟨0x2400, 512, 0, 0, .u8, .ro, .const 10, .any, 0, false⟩,  -- PORT_ENTRY_COUNT
  ⟨0x2400, 512, 1, 1, .u16, .rwv, .const 0, .range 0 511, 0, true⟩,  -- PORT_LANE_BASE
  ⟨0x2400, 512, 2, 2, .u8, .rwv, .const 0, .any, 0, false⟩,  -- PORT_WIDTH
  ⟨0x2400, 512, 3, 3, .u16, .rwv, .const 1518, .any, 0, false⟩,  -- PORT_MTU
  ⟨0x2400, 512, 4, 4, .bits32, .rwv, .const 3, .any, 16777215, false⟩,  -- PORT_CONTROL
  ⟨0x2400, 512, 5, 5, .u16, .rwv, .const 65535, .any, 0, false⟩,  -- PFC_TX_QUANTA
  ⟨0x2400, 512, 6, 6, .u16, .rwv, .const 10, .range 1 1000, 0, true⟩,  -- LPI_TX_IDLE_US
  ⟨0x2400, 512, 7, 7, .u8, .rwv, .const 10, .range 1 128, 0, true⟩,  -- PREEMPT_VERIFY_MS
  ⟨0x2400, 512, 8, 8, .u16, .rw, .const 10, .range 0 1000, 0, false⟩,  -- LINK_UP_HOLD_MS
  ⟨0x2400, 512, 9, 9, .bits32, .ro, .none 0, .any, 0, false⟩,  -- PORT_STATUS
  ⟨0x2400, 512, 10, 10, .u16, .ro, .const 0, .any, 0, false⟩,  -- PORT_RATE_GBPS
  ⟨0x2600, 512, 0, 0, .u8, .ro, .const 21, .any, 0, false⟩,  -- PORT_COUNTER_COUNT
  ⟨0x2600, 512, 1, 1, .u64, .ro, .const 0, .any, 0, false⟩,  -- RX_FRAMES_OK
  ⟨0x2600, 512, 2, 2, .u64, .ro, .const 0, .any, 0, false⟩,  -- RX_BYTES_OK
  ⟨0x2600, 512, 3, 3, .u64, .ro, .const 0, .any, 0, false⟩,  -- RX_FCS_ERRORS
  ⟨0x2600, 512, 4, 4, .u64, .ro, .const 0, .any, 0, false⟩,  -- RX_PCS_ERRORS
  ⟨0x2600, 512, 5, 5, .u64, .ro, .const 0, .any, 0, false⟩,  -- RX_UNDERSIZE
  ⟨0x2600, 512, 6, 6, .u64, .ro, .const 0, .any, 0, false⟩,  -- RX_OVERSIZE
  ⟨0x2600, 512, 7, 7, .u64, .ro, .const 0, .any, 0, false⟩,  -- RX_STOMPED
  ⟨0x2600, 512, 8, 8, .u64, .ro, .const 0, .any, 0, false⟩,  -- RX_MAC_CONTROL_DISCARDS
  ⟨0x2600, 512, 9, 9, .u64, .ro, .const 0, .any, 0, false⟩,  -- RX_PFC_FRAMES
  ⟨0x2600, 512, 10, 10, .u64, .ro, .const 0, .any, 0, false⟩,  -- RX_PFC_TC7_IGNORED
  ⟨0x2600, 512, 11, 11, .u64, .ro, .const 0, .any, 0, false⟩,  -- RX_DISABLED_DISCARDS
  ⟨0x2600, 512, 12, 12, .u64, .ro, .const 0, .any, 0, false⟩,  -- TX_FRAMES_OK
  ⟨0x2600, 512, 13, 13, .u64, .ro, .const 0, .any, 0, false⟩,  -- TX_BYTES_OK
  ⟨0x2600, 512, 14, 14, .u64, .ro, .const 0, .any, 0, false⟩,  -- TX_STOMPED
  ⟨0x2600, 512, 15, 15, .u64, .ro, .const 0, .any, 0, false⟩,  -- TX_ABORTED
  ⟨0x2600, 512, 16, 16, .u64, .ro, .const 0, .any, 0, false⟩,  -- TX_PFC_FRAMES
  ⟨0x2600, 512, 17, 17, .u64, .ro, .const 0, .any, 0, false⟩,  -- PREEMPT_TX_FRAGMENTS
  ⟨0x2600, 512, 18, 18, .u64, .ro, .const 0, .any, 0, false⟩,  -- PREEMPT_RX_FRAGMENTS
  ⟨0x2600, 512, 19, 19, .u64, .ro, .const 0, .any, 0, false⟩,  -- PREEMPT_ASSEMBLY_ERRORS
  ⟨0x2600, 512, 20, 20, .u64, .ro, .const 0, .any, 0, false⟩,  -- LPI_TX_ENTRIES
  ⟨0x2600, 512, 21, 21, .u64, .ro, .const 0, .any, 0, false⟩,  -- LINK_DOWNS
  ⟨0x2800, 1, 0, 0, .u8, .ro, .const 4, .any, 0, false⟩,  -- MGMT_COUNT
  ⟨0x2800, 1, 1, 1, .enum8, .rwc, .const 1, .range 0 4, 0, false⟩,  -- MGMT_MODE
  ⟨0x2800, 1, 2, 2, .u16, .rwc, .const 1518, .range 1518 9216, 0, true⟩,  -- MGMT_MTU
  ⟨0x2800, 1, 3, 3, .bits32, .ro, .none 2, .any, 0, false⟩,  -- MGMT_STATUS
  ⟨0x2800, 1, 4, 4, .u32, .ro, .const 0, .any, 0, false⟩  -- MGMT_FIFO_DROPS
  ]

/-- Entries of chapter file 06 of the spec (part 0). -/
def bookRows06_0 : List Row := [
  ⟨0x3000, 1, 0, 0, .u8, .ro, .const 4, .any, 0, false⟩,  -- START_COUNT
  ⟨0x3000, 1, 1, 1, .u16, .rwv, .const 0, .any, 0, false⟩,  -- START_FRONT
  ⟨0x3000, 1, 2, 2, .u16, .rwv, .const 0, .any, 0, false⟩,  -- START_RECIRC
  ⟨0x3000, 1, 3, 3, .u16, .rwv, .const 0, .any, 0, false⟩,  -- START_INJECT
  ⟨0x3000, 1, 4, 4, .u16, .rwv, .const 0, .any, 0, false⟩,  -- START_MGMT
  ⟨0x3010, 1, 0, 0, .u8, .ro, .const 6, .any, 0, false⟩,  -- ACTION_COUNT
  ⟨0x3010, 1, 1, 1, .enum8, .rwv, .const 0, .range 0 2, 0, false⟩,  -- LEN_CONFLICT_ACTION
  ⟨0x3010, 1, 2, 2, .enum8, .rwv, .const 0, .range 0 2, 0, false⟩,  -- TRUNCATED_ACTION
  ⟨0x3010, 1, 3, 3, .enum8, .rwv, .const 1, .range 0 2, 0, false⟩,  -- FAIL_ACTION
  ⟨0x3010, 1, 4, 4, .enum8, .rwv, .const 2, .range 0 2, 0, false⟩,  -- CSUM_ACTION
  ⟨0x3010, 1, 5, 5, .enum8, .rwv, .const 0, .range 0 2, 0, false⟩,  -- SIEVE_OVERFLOW_ACTION
  ⟨0x3010, 1, 6, 6, .enum8, .rwv, .const 0, .range 0 2, 0, false⟩,  -- SKIPPED_ACTION
  ⟨0x3101, 255, 0, 0, .u8, .ro, .const 5, .any, 0, false⟩,  -- REASON_COUNT
  ⟨0x3101, 255, 1, 1, .u32, .rwv, .step 261889 1, .any, 0, false⟩,  -- TRAP_POLICER
  ⟨0x3101, 255, 2, 2, .u8, .rwv, .const 0, .range 0 127, 0, true⟩,  -- TRAP_QUEUE
  ⟨0x3101, 2, 3, 3, .bool, .rwv, .const 0, .range 0 1, 0, false⟩,  -- IS_PUNT
  ⟨0x3101, 255, 4, 4, .u64, .ro, .const 0, .any, 0, false⟩,  -- TRAPPED
  ⟨0x3101, 255, 5, 5, .u64, .ro, .const 0, .any, 0, false⟩,  -- POLICED
  ⟨0x3103, 1, 3, 3, .bool, .rwv, .const 1, .range 0 1, 0, false⟩,  -- IS_PUNT
  ⟨0x3104, 252, 3, 3, .bool, .rwv, .const 0, .range 0 1, 0, false⟩,  -- IS_PUNT
  ⟨0x3200, 32, 0, 0, .u8, .ro, .const 9, .any, 0, false⟩,  -- PRESS_COUNTER_COUNT
  ⟨0x3200, 32, 1, 1, .u64, .ro, .const 0, .any, 0, false⟩,  -- PARSED
  ⟨0x3200, 32, 2, 2, .u64, .ro, .const 0, .any, 0, false⟩,  -- DONE
  ⟨0x3200, 32, 3, 3, .u64, .ro, .const 0, .any, 0, false⟩,  -- TRUNCATED
  ⟨0x3200, 32, 4, 4, .u64, .ro, .const 0, .any, 0, false⟩,  -- LEN_CONFLICTS
  ⟨0x3200, 32, 5, 5, .u64, .ro, .const 0, .any, 0, false⟩,  -- FAILS
  ⟨0x3200, 32, 6, 6, .u64, .ro, .const 0, .any, 0, false⟩,  -- CSUM_BAD
  ⟨0x3200, 32, 7, 7, .u64, .ro, .const 0, .any, 0, false⟩,  -- SIEVE_OVERFLOWS
  ⟨0x3200, 32, 8, 8, .u64, .ro, .const 0, .any, 0, false⟩,  -- SKIPPED
  ⟨0x3200, 32, 9, 9, .u64, .ro, .const 0, .any, 0, false⟩,  -- LATE_LEN_CONFLICTS
  ⟨0xE300, 1, 0, 0, .domain, .rwv, .const 0, .any, 0, false⟩,  -- PARSE_STATES
  ⟨0xE301, 1, 0, 0, .domain, .rwv, .const 0, .any, 0, false⟩,  -- PARSE_ROWS
  ⟨0xE302, 1, 0, 0, .domain, .rwv, .const 0, .any, 0, false⟩  -- SIEVE_PATTERNS
  ]

/-- Entries of chapter file 07 of the spec (part 0). -/
def bookRows07_0 : List Row := [
  ⟨0x4000, 1, 0, 0, .u8, .ro, .const 7, .any, 0, false⟩,  -- SORT_COUNT
  ⟨0x4000, 1, 1, 3, .u32, .rwc, .list [1, 2, 3], .any, 0, false⟩,  -- HASH_SEED_0–2
  ⟨0x4000, 1, 4, 4, .enum8, .rw, .const 0, .range 0 1, 0, false⟩,  -- BANK_LOSS_ACTION
  ⟨0x4000, 1, 5, 5, .u16, .rw, .const 30, .range 10 600, 0, false⟩,  -- SHADOW_PASS_S
  ⟨0x4000, 1, 6, 6, .u32, .ro, .const 0, .any, 0, false⟩,  -- EDIT_REFUSED_RECORD
  ⟨0x4000, 1, 7, 7, .enum8, .ro, .const 0, .any, 0, false⟩,  -- EDIT_REFUSED_CAUSE
  ⟨0x4100, 256, 0, 0, .u8, .ro, .const 14, .any, 0, false⟩,  -- PROFILE_ENTRY_COUNT
  ⟨0x4100, 256, 1, 1, .enum8, .rwv, .const 0, .range 0 5, 0, false⟩,  -- TARGET
  ⟨0x4100, 256, 2, 9, .u32, .rwv, .const 0, .any, 2032127, false⟩,  -- KEY_FIELD_0–7
  ⟨0x4100, 256, 10, 10, .u8, .rwv, .const 0, .any, 0, false⟩,  -- EXACT_TID
  ⟨0x4100, 256, 11, 11, .enum8, .rwv, .const 0, .range 0 1, 0, false⟩,  -- POWER_MODE
  ⟨0x4100, 256, 12, 12, .bits32, .rwv, .const 0, .any, 7, false⟩,  -- PROFILE_FLAGS
  ⟨0x4100, 256, 13, 13, .u64, .rwv, .const 0, .any, 0, false⟩,  -- MISS_DATA
  ⟨0x4100, 256, 14, 14, .u8, .ro, .const 0, .any, 0, false⟩,  -- LATENCY
  ⟨0x4200, 496, 0, 0, .u8, .ro, .const 4, .any, 0, false⟩,  -- BANK_ENTRY_COUNT
  ⟨0x4200, 496, 1, 1, .u16, .rwv, .const 65535, .any, 0, false⟩,  -- BANK_PROFILE
  ⟨0x4200, 496, 2, 2, (.octets 20), .rwv, .const 0, .any, 0, false⟩,  -- BANK_MASK
  ⟨0x4200, 496, 3, 3, .u16, .ro, .none 0, .any, 0, false⟩,  -- BANK_PHYSICAL
  ⟨0x4200, 496, 4, 4, .u16, .ro, .const 0, .any, 0, false⟩,  -- BANK_ROWS
  ⟨0x4400, 1, 0, 0, .u8, .ro, .const 17, .any, 0, false⟩,  -- SORT_STATUS_COUNT
  ⟨0x4400, 1, 1, 1, .u8, .ro, .none 0, .any, 0, false⟩,  -- MASK_SPARES_FREE
  ⟨0x4400, 1, 2, 2, .u8, .ro, .none 0, .any, 0, false⟩,  -- EXACT_SPARES_FREE
  ⟨0x4400, 1, 3, 3, .u8, .ro, .none 0, .any, 0, false⟩,  -- LPM_SPARES_FREE
  ⟨0x4400, 1, 4, 4, .u16, .ro, .none 0, .any, 0, false⟩,  -- MASK_BANKS_OUT
  ⟨0x4400, 1, 5, 5, .u8, .ro, .none 0, .any, 0, false⟩,  -- EXACT_BANKS_OUT
  ⟨0x4400, 1, 6, 6, .u8, .ro, .none 0, .any, 0, false⟩,  -- LPM_BANKS_OUT
  ⟨0x4400, 1, 7, 7, .u8, .ro, .none 0, .any, 0, false⟩,  -- CARE_BANKS_OUT
  ⟨0x4400, 1, 8, 8, .u32, .ro, .const 0, .any, 0, false⟩,  -- ENTRIES_LOST
  ⟨0x4400, 1, 9, 9, .u64, .ro, .const 0, .any, 0, false⟩,  -- CORRECTED
  ⟨0x4400, 1, 10, 10, .u64, .ro, .const 0, .any, 0, false⟩,  -- UNCORRECTABLE
  ⟨0x4400, 1, 11, 11, .u32, .ro, .const 0, .any, 0, false⟩,  -- SHADOW_PASSES
  ⟨0x4400, 1, 12, 12, .u64, .ro, .const 0, .any, 0, false⟩,  -- SHADOW_MISMATCHES
  ⟨0x4400, 1, 13, 13, .u32, .ro, .const 0, .any, 0, false⟩,  -- EXACT_USED
  ⟨0x4400, 1, 14, 14, .u32, .ro, .const 0, .any, 0, false⟩,  -- LPM4_USED
  ⟨0x4400, 1, 15, 15, .u32, .ro, .const 0, .any, 0, false⟩,  -- LPM6_USED
  ⟨0x4400, 1, 16, 16, .u32, .ro, .const 0, .any, 0, false⟩,  -- MASK_USED
  ⟨0x4400, 1, 17, 17, .u16, .ro, .const 0, .any, 0, false⟩,  -- CARE_USED
  ⟨0x4500, 256, 0, 0, .u8, .ro, .const 5, .any, 0, false⟩,  -- PROFILE_COUNTER_COUNT
  ⟨0x4500, 256, 1, 1, .u64, .ro, .const 0, .any, 0, false⟩,  -- SEARCHES
  ⟨0x4500, 256, 2, 2, .u64, .ro, .const 0, .any, 0, false⟩  -- HITS
  ]

/-- Entries of chapter file 07 of the spec (part 1). -/
def bookRows07_1 : List Row := [
  ⟨0x4500, 256, 3, 3, .u64, .ro, .const 0, .any, 0, false⟩,  -- TIES
  ⟨0x4500, 256, 4, 4, .u64, .ro, .const 0, .any, 0, false⟩,  -- VERIFY_FAILS
  ⟨0x4500, 256, 5, 5, .u64, .ro, .const 0, .any, 0, false⟩,  -- DEGRADED_RESULTS
  ⟨0xE400, 1, 0, 0, .domain, .rwv, .const 0, .any, 0, false⟩,  -- EXACT_ENTRIES
  ⟨0xE401, 1, 0, 0, .domain, .rwv, .const 0, .any, 0, false⟩,  -- LPM_ENTRIES
  ⟨0xE402, 1, 0, 0, .domain, .rwv, .const 0, .any, 0, false⟩,  -- MASK_ROWS
  ⟨0xE403, 1, 0, 0, .domain, .rwv, .const 0, .any, 0, false⟩,  -- CARE_ENTRIES
  ⟨0xE40F, 1, 0, 0, .domain, .wo, .const 0, .any, 0, false⟩  -- TABLE_EDITS
  ]

/-- Entries of chapter file 08 of the spec (part 0). -/
def bookRows08_0 : List Row := [
  ⟨0x5000, 1, 0, 0, .u8, .ro, .const 6, .any, 0, false⟩,  -- COOPER_COUNT
  ⟨0x5000, 1, 1, 1, .u8, .rwv, .const 4, .range 1 15, 0, true⟩,  -- PASS_LIMIT_MAX
  ⟨0x5000, 1, 2, 2, .u32, .rw, .const 1048576, .any, 0, false⟩,  -- BG_WORD_LIMIT
  ⟨0x5000, 1, 3, 3, .bits32, .ro, .const 0, .any, 0, false⟩,  -- BG_STATUS
  ⟨0x5000, 1, 4, 4, .u32, .ro, .const 0, .any, 0, false⟩,  -- BG_ABORTS
  ⟨0x5000, 1, 5, 5, .u32, .ro, .const 0, .any, 0, false⟩,  -- BG_LAST_ABORT
  ⟨0x5000, 1, 6, 6, .u32, .ro, .const 0, .any, 0, false⟩,  -- BG_OUTPUT_LOST
  ⟨0x5001, 1, 0, 0, .u8, .ro, .const 3, .any, 0, false⟩,  -- AGE_COUNT
  ⟨0x5001, 1, 1, 1, .bool, .rw, .const 0, .range 0 1, 0, false⟩,  -- AGE_ENABLE
  ⟨0x5001, 1, 2, 2, .u16, .rw, .const 300, .range 10 65535, 0, false⟩,  -- AGE_PERIOD_S
  ⟨0x5001, 1, 3, 3, .u32, .ro, .const 0, .any, 0, false⟩,  -- AGED_PASSES
  ⟨0x5200, 16, 0, 0, .u8, .ro, .const 5, .any, 0, false⟩,  -- TRIG_COUNT
  ⟨0x5200, 16, 1, 1, .bool, .rwv, .const 0, .range 0 1, 0, false⟩,  -- ENABLE
  ⟨0x5200, 16, 2, 2, .u16, .rwv, .const 6144, .any, 0, false⟩,  -- TRIG_ENTRY
  ⟨0x5200, 16, 3, 3, .u32, .rwv, .const 1024, .range 1 16777216, 0, true⟩,  -- TRIG_PERIOD
  ⟨0x5200, 16, 4, 4, .u32, .ro, .const 0, .any, 0, false⟩,  -- TRIG_STARTS
  ⟨0x5200, 16, 5, 5, .u32, .ro, .const 0, .any, 0, false⟩,  -- TRIG_SKIPPED
  ⟨0x5300, 32, 0, 0, .u8, .ro, .const 9, .any, 0, false⟩,  -- COOPER_COUNTER_COUNT
  ⟨0x5300, 32, 1, 1, .u64, .ro, .const 0, .any, 0, false⟩,  -- NO_PROGRAM
  ⟨0x5300, 32, 2, 2, .u64, .ro, .const 0, .any, 0, false⟩,  -- NO_DISPOSITION
  ⟨0x5300, 32, 3, 3, .u64, .ro, .const 0, .any, 0, false⟩,  -- PROGRAM_DISCARDS
  ⟨0x5300, 32, 4, 4, .u64, .ro, .const 0, .any, 0, false⟩,  -- PASS_LIMIT_DISCARDS
  ⟨0x5300, 32, 5, 5, .u64, .ro, .const 0, .any, 0, false⟩,  -- VINTAGE_EXPIRED
  ⟨0x5300, 32, 6, 6, .u64, .ro, .const 0, .any, 0, false⟩,  -- RECIRC_PASSES
  ⟨0x5300, 32, 7, 7, .u64, .ro, .const 0, .any, 0, false⟩,  -- MIRROR_EXCESS
  ⟨0x5300, 32, 8, 8, .u64, .ro, .const 0, .any, 0, false⟩,  -- STORE_ERRORS
  ⟨0x5300, 32, 9, 9, .u64, .ro, .const 0, .any, 0, false⟩,  -- BAD_PORT
  ⟨0xE500, 1, 0, 0, .domain, .rwv, .const 0, .any, 0, false⟩,  -- INGRESS_PROGRAMS
  ⟨0xE501, 1, 0, 0, .domain, .rwv, .const 0, .any, 0, false⟩,  -- EGRESS_PROGRAMS
  ⟨0xE502, 1, 0, 0, .domain, .ro, .const 0, .any, 0, false⟩,  -- FACTORY_IMAGE
  ⟨0xE503, 1, 0, 0, .domain, .wo, .none 0, .any, 0, false⟩,  -- OPEN_IMAGE_ALL
  ⟨0xE504, 1, 0, 0, .domain, .rwv, .const 0, .any, 0, false⟩,  -- BG_OPEN_IMAGE
  ⟨0xE505, 1, 0, 0, .domain, .ro, .const 0, .any, 0, false⟩,  -- BG_OUTPUT
  ⟨0xE506, 1, 0, 0, .domain, .ro, .const 0, .any, 0, false⟩,  -- AGED_LIST
  ⟨0xE520, 32, 0, 0, .domain, .rwv, .const 0, .any, 0, false⟩  -- OPEN_IMAGE
  ]

/-- Entries of chapter file 09 of the spec (part 0). -/
def bookRows09_0 : List Row := [
  ⟨0x6000, 1, 0, 0, .u8, .ro, .const 9, .any, 0, false⟩,  -- BIN_COUNT
  ⟨0x6000, 1, 1, 4, .u8, .rwc, .list [64, 0, 32, 0], .any, 0, false⟩,  -- BIN_BANKS_0–3
  ⟨0x6000, 1, 5, 8, .u16, .rwv, .list [1536, 4096, 16000, 16000], .range 64 16000, 0, true⟩,  -- BIN_MAX_LENGTH_0–3
  ⟨0x6000, 1, 9, 9, .u8, .ro, .none 0, .any, 0, false⟩,  -- RESERVE_CLASS
  ⟨0x6010, 1, 0, 0, .u8, .ro, .const 10, .any, 0, false⟩,  -- BUFFER_COUNT
  ⟨0x6010, 1, 1, 1, .u32, .ro, .none 0, .any, 0, false⟩,  -- UNITS_IN_SERVICE
  ⟨0x6010, 1, 2, 2, .u32, .ro, .none 0, .any, 0, false⟩,  -- FREE_UNITS
  ⟨0x6010, 1, 3, 3, .u32, .ro, .none 0, .any, 0, false⟩,  -- GUARD_UNITS
  ⟨0x6010, 1, 4, 4, .u32, .rwv, .const 64, .any, 0, false⟩,  -- XON_DELTA
  ⟨0x6010, 1, 5, 5, .u32, .rwv, .const 64, .any, 0, false⟩,  -- CPU_Q_MIN
  ⟨0x6010, 1, 6, 6, .enum8, .rwv, .const 2, .range 0 9, 0, false⟩,  -- CPU_ALPHA
  ⟨0x6010, 1, 7, 7, .u32, .rwv, .const 256, .any, 0, false⟩,  -- RECIRC_Q_MIN
  ⟨0x6010, 1, 8, 8, .enum8, .rwv, .const 4, .range 0 9, 0, false⟩,  -- RECIRC_ALPHA
  ⟨0x6010, 1, 9, 9, .u32, .ro, .none 0, .any, 0, false⟩,  -- FRAME_RECORDS_FREE
  ⟨0x6010, 1, 10, 10, .u32, .ro, .none 0, .any, 0, false⟩,  -- COPY_DESCRIPTORS_FREE
  ⟨0x6100, 512, 0, 0, .u8, .ro, .const 18, .any, 0, false⟩,  -- INGRESS_COUNT
  ⟨0x6100, 512, 1, 8, .u32, .rwv, .const 16, .any, 0, false⟩,  -- IN_MIN_0–7
  ⟨0x6100, 512, 9, 9, .bits32, .rwv, .const 1145324612, .fields [(0,4,9),(4,4,9),(8,4,9),(12,4,9),(16,4,9),(20,4,9),(24,4,9),(28,4,9)], 0, true⟩,  -- IN_ALPHA
  ⟨0x6100, 512, 10, 17, .u32, .rwv, .const 0, .any, 0, false⟩,  -- HEADROOM_0–7
  ⟨0x6100, 512, 18, 18, .u8, .rwv, .const 0, .range 0 7, 0, true⟩,  -- PCP_DEFAULT
  ⟨0x6300, 512, 0, 0, .u8, .ro, .const 23, .any, 0, false⟩,  -- EGRESS_COUNT
  ⟨0x6300, 512, 1, 8, .u32, .rwv, .const 32, .any, 0, false⟩,  -- Q_MIN_UC_0–7
  ⟨0x6300, 512, 9, 16, .u32, .rwv, .const 16, .any, 0, false⟩,  -- Q_MIN_MC_0–7
  ⟨0x6300, 512, 17, 17, .bits32, .rwv, .const 1145324612, .fields [(0,4,9),(4,4,9),(8,4,9),(12,4,9),(16,4,9),(20,4,9),(24,4,9),(28,4,9)], 0, true⟩,  -- Q_ALPHA_UC
  ⟨0x6300, 512, 18, 18, .bits32, .rwv, .const 858993459, .fields [(0,4,9),(4,4,9),(8,4,9),(12,4,9),(16,4,9),(20,4,9),(24,4,9),(28,4,9)], 0, true⟩,  -- Q_ALPHA_MC
  ⟨0x6300, 512, 19, 19, .bits32, .rwv, .const 0, .any, 255, false⟩,  -- RACK_CLASSES
  ⟨0x6300, 512, 20, 20, .u32, .rwv, .const 4096, .any, 0, false⟩,  -- RACK_START
  ⟨0x6300, 512, 21, 21, .u32, .rwv, .const 1024, .any, 0, false⟩,  -- RACK_KEEP
  ⟨0x6300, 512, 22, 22, .u32, .rwv, .const 4096, .any, 0, false⟩,  -- RACK_BACKLOG_MAX
  ⟨0x6300, 512, 23, 23, .u32, .rwv, .const 16777216, .any, 0, false⟩,  -- CELLAR_MAX
  ⟨0x6500, 512, 0, 0, .u8, .ro, .const 19, .any, 0, false⟩,  -- BUFFER_COUNTER_COUNT
  ⟨0x6500, 512, 1, 8, .u64, .ro, .const 0, .any, 0, false⟩,  -- NO_CELL_0–7
  ⟨0x6500, 512, 9, 9, .u64, .ro, .const 0, .any, 0, false⟩,  -- INGRESS_LIMIT
  ⟨0x6500, 512, 10, 10, .u64, .ro, .const 0, .any, 0, false⟩,  -- QUEUE_LIMIT
  ⟨0x6500, 512, 11, 11, .u64, .ro, .const 0, .any, 0, false⟩,  -- RACK_LIMIT
  ⟨0x6500, 512, 12, 12, .u64, .ro, .const 0, .any, 0, false⟩,  -- CELLAR_ERROR
  ⟨0x6500, 512, 13, 13, .u64, .ro, .const 0, .any, 0, false⟩,  -- CELL_ERROR
  ⟨0x6500, 512, 14, 14, .u64, .ro, .const 0, .any, 0, false⟩,  -- MC_COPY_DISCARDS
  ⟨0x6500, 512, 15, 15, .u64, .ro, .const 0, .any, 0, false⟩,  -- RACKED_OUT
  ⟨0x6500, 512, 16, 16, .u64, .ro, .const 0, .any, 0, false⟩  -- RETURNED
  ]

/-- Entries of chapter file 09 of the spec (part 1). -/
def bookRows09_1 : List Row := [
  ⟨0x6500, 512, 17, 17, .u64, .ro, .const 0, .any, 0, false⟩,  -- RACK_STALLS
  ⟨0x6500, 512, 18, 18, .bits32, .ro, .const 0, .any, 0, false⟩,  -- XOFF_CLASSES
  ⟨0x6500, 512, 19, 19, .u32, .ro, .const 0, .any, 0, false⟩,  -- CELLAR_UNITS
  ⟨0x6700, 1, 0, 0, .u8, .ro, .const 7, .any, 0, false⟩,  -- RACK_COUNT
  ⟨0x6700, 1, 1, 1, .u16, .rwv, .const 16000, .any, 0, false⟩,  -- RACK_OUT_GBPS
  ⟨0x6700, 1, 2, 2, .u16, .rwv, .const 16000, .any, 0, false⟩,  -- RACK_IN_GBPS
  ⟨0x6700, 1, 3, 3, .u32, .ro, .none 0, .any, 0, false⟩,  -- CELLAR_CELLS_IN_SERVICE
  ⟨0x6700, 1, 4, 4, .u32, .ro, .none 0, .any, 0, false⟩,  -- CELLAR_CELLS_FREE
  ⟨0x6700, 1, 5, 5, .u32, .ro, .const 0, .any, 0, false⟩,  -- RACKED_RECORDS
  ⟨0x6700, 1, 6, 6, .u8, .ro, .none 0, .any, 0, false⟩,  -- PC_SPARES_FREE
  ⟨0x6700, 1, 7, 7, .u8, .ro, .none 0, .any, 0, false⟩,  -- PC_OUT
  ⟨0x6800, 1, 0, 0, .u8, .ro, .const 11, .any, 0, false⟩,  -- CASK_STATUS_COUNT
  ⟨0x6800, 1, 1, 1, .u8, .ro, .none 0, .any, 0, false⟩,  -- CASK_SPARES_FREE
  ⟨0x6800, 1, 2, 2, .u8, .ro, .none 0, .any, 0, false⟩,  -- CASK_BANKS_OUT
  ⟨0x6800, 1, 3, 3, .u32, .ro, .const 0, .any, 0, false⟩,  -- CELLS_LOST
  ⟨0x6800, 1, 4, 4, .u32, .ro, .const 0, .any, 0, false⟩,  -- FREE_REJECTS
  ⟨0x6800, 1, 5, 5, .u64, .ro, .const 0, .any, 0, false⟩,  -- FREE_REJECT_LAST
  ⟨0x6800, 1, 6, 6, .u64, .ro, .const 0, .any, 0, false⟩,  -- CASK_CORRECTED
  ⟨0x6800, 1, 7, 7, .u64, .ro, .const 0, .any, 0, false⟩,  -- CASK_UNCORRECTABLE
  ⟨0x6800, 1, 8, 8, .u64, .ro, .const 0, .any, 0, false⟩,  -- REPLICATION_FULL
  ⟨0x6800, 1, 9, 9, .u64, .ro, .const 0, .any, 0, false⟩,  -- NO_DESCRIPTOR
  ⟨0x6800, 1, 10, 10, .u64, .ro, .const 0, .any, 0, false⟩,  -- NO_CELL_INTERNAL
  ⟨0x6800, 1, 11, 11, .u64, .ro, .const 0, .any, 0, false⟩,  -- QUEUE_LIMIT_INTERNAL
  ⟨0xE600, 1, 0, 0, .domain, .rwv, .const 0, .any, 0, false⟩  -- MC_GROUPS
  ]

/-- Entries of chapter file 10 of the spec (part 0). -/
def bookRows10_0 : List Row := [
  ⟨0x7100, 512, 0, 0, .u8, .ro, .const 65, .any, 0, false⟩,  -- DECANTER_COUNT
  ⟨0x7100, 512, 1, 1, .bits32, .rwv, .const 0, .any, 65283, false⟩,  -- PORT_SCHED
  ⟨0x7100, 512, 2, 2, .u32, .rwv, .const 0, .any, 0, false⟩,  -- PORT_RATE_MBPS
  ⟨0x7100, 512, 3, 3, .u32, .rwv, .const 16384, .any, 0, false⟩,  -- PORT_BURST
  ⟨0x7100, 512, 4, 4, .i32, .rwv, .const 20, .signed 32 64 64, 0, true⟩,  -- LENGTH_ADJUST
  ⟨0x7100, 512, 5, 5, .u16, .rwv, .const 65535, .any, 0, false⟩,  -- GATE_LIST
  ⟨0x7100, 512, 6, 9, .bits32, .rwv, .list [17, 0, 0, 0], .any, 65533, false⟩,  -- GROUP_0–3
  ⟨0x7100, 512, 10, 13, .u32, .rwv, .const 0, .any, 0, false⟩,  -- GROUP_RATE_MBPS_0–3
  ⟨0x7100, 512, 14, 17, .u32, .rwv, .const 16384, .any, 0, false⟩,  -- GROUP_BURST_0–3
  ⟨0x7100, 512, 18, 33, .bits32, .rwv, .const 16, .any, 131059, false⟩,  -- QUEUE_CTRL_0–15
  ⟨0x7100, 512, 34, 49, .u32, .rwv, .const 0, .any, 0, false⟩,  -- QUEUE_RATE_MBPS_0–15
  ⟨0x7100, 512, 50, 65, .u32, .rwv, .const 16384, .any, 0, false⟩,  -- QUEUE_BURST_0–15
  ⟨0x7300, 512, 0, 0, .u8, .ro, .const 3, .any, 0, false⟩,  -- DECANTER_COUNTER_COUNT
  ⟨0x7300, 512, 1, 1, .u64, .ro, .const 0, .any, 0, false⟩,  -- GATE_OVERRUNS
  ⟨0x7300, 512, 2, 2, .u64, .ro, .const 0, .any, 0, false⟩,  -- GATE_WAITS
  ⟨0x7300, 512, 3, 3, .u32, .rw, .const 0, .range 0 0, 0, false⟩,  -- TC7_WAIT_MAX
  ⟨0x7600, 64, 0, 0, .u8, .ro, .const 66, .any, 0, false⟩,  -- GATE_COUNT
  ⟨0x7600, 64, 1, 1, .time80, .rwv, .const 0, .any, 0, false⟩,  -- GATE_BASE_TIME
  ⟨0x7600, 64, 2, 2, .u8, .rwv, .const 0, .range 0 64, 0, true⟩,  -- GATE_LENGTH
  ⟨0x7600, 64, 3, 66, .bits32, .rwv, .const 0, .any, 0, false⟩,  -- GATE_ENTRY_0–63
  ⟨0xE700, 1, 0, 0, .domain, .rwv, .const 0, .any, 0, false⟩  -- POLICERS
  ]

/-- Entries of chapter file 11 of the spec (part 0). -/
def bookRows11_0 : List Row := [
  ⟨0x6900, 64, 0, 0, .u8, .ro, .const 8, .any, 0, false⟩,  -- MIRROR_COUNT
  ⟨0x6900, 64, 1, 1, .u16, .rwv, .const 65535, .any, 0, false⟩,  -- MIRROR_DEST
  ⟨0x6900, 64, 2, 2, .u8, .rwv, .const 0, .range 0 6, 0, true⟩,  -- MIRROR_CLASS
  ⟨0x6900, 64, 3, 3, .u8, .rwv, .const 0, .range 0 127, 0, true⟩,  -- MIRROR_CPU_QUEUE
  ⟨0x6900, 64, 4, 4, .u16, .rwv, .const 0, .zeroOr 64 16000, 0, true⟩,  -- MIRROR_TRUNCATE
  ⟨0x6900, 64, 5, 5, .bits32, .rwv, .const 0, .any, 1, false⟩,  -- MIRROR_FLAGS
  ⟨0x6900, 64, 6, 6, .u32, .rwv, .const 4294967295, .orValue 0 262143 0xFFFFFFFF, 0, true⟩,  -- MIRROR_POLICER
  ⟨0x6900, 64, 7, 7, .u64, .ro, .const 0, .any, 0, false⟩,  -- MIRROR_COPIES
  ⟨0x6900, 64, 8, 8, .u64, .ro, .const 0, .any, 0, false⟩,  -- MIRROR_POLICED
  ⟨0x6A00, 1, 0, 0, .u8, .ro, .const 36, .any, 0, false⟩,  -- DISCARD_COUNT
  ⟨0x6A00, 1, 1, 36, .u64, .ro, .const 0, .any, 0, false⟩,  -- DISCARDS_BY_REASON
  ⟨0x6B00, 512, 0, 0, .u8, .ro, .const 3, .any, 0, false⟩,  -- PORT_DISCARD_COUNT
  ⟨0x6B00, 512, 1, 1, .u64, .ro, .const 0, .any, 0, false⟩,  -- INTAKE_FULL
  ⟨0x6B00, 512, 2, 2, .u64, .ro, .const 0, .any, 0, false⟩,  -- LINK_DOWN
  ⟨0x6B00, 512, 3, 3, .u64, .ro, .const 0, .any, 0, false⟩  -- EGRESS_MTU
  ]

/-- Entries of chapter file 12 of the spec (part 0). -/
def bookRows12_0 : List Row := [
  ⟨0x8000, 1, 0, 0, .u8, .ro, .const 16, .any, 0, false⟩,  -- TIME_COUNT
  ⟨0x8000, 1, 1, 1, .bits32, .ro, .const 0, .any, 0, false⟩,  -- TIME_STATUS
  ⟨0x8000, 1, 2, 2, .enum8, .rwv, .const 0, .range 0 2, 0, false⟩,  -- TIME_SOURCE
  ⟨0x8000, 1, 3, 3, .enum8, .rwc, .const 0, .range 0 1, 0, false⟩,  -- TIME_CLOCK
  ⟨0x8000, 1, 4, 4, .time80, .ro, .none 0, .any, 0, false⟩,  -- TIME_NOW
  ⟨0x8000, 1, 5, 5, .i64, .wo, .const 0, .any, 0, false⟩,  -- TIME_STEP_NS
  ⟨0x8000, 1, 6, 6, .u64, .wo, .const 0, .range 0 0xFFFFFFFFFFFF, 0, false⟩,  -- PPS_SECONDS
  ⟨0x8000, 1, 7, 7, .bool, .w1s, .const 0, .range 0 1, 0, false⟩,  -- TIME_RELEASE
  ⟨0x8000, 1, 8, 8, .i32, .rw, .const 0, .signed 32 549755813 549755813, 0, false⟩,  -- TIME_RATE
  ⟨0x8000, 1, 9, 9, .bool, .w1s, .const 0, .range 0 1, 0, false⟩,  -- TIME_CAPTURE
  ⟨0x8000, 1, 10, 10, .time80, .ro, .const 0, .any, 0, false⟩,  -- CAPTURED_TIME
  ⟨0x8000, 1, 11, 11, .u16, .ro, .const 0, .any, 0, false⟩,  -- CAPTURED_FRAC
  ⟨0x8000, 1, 12, 12, .u64, .ro, .const 0, .any, 0, false⟩,  -- CAPTURED_ROUND
  ⟨0x8000, 1, 13, 13, .time80, .ro, .const 0, .any, 0, false⟩,  -- BOUNDARY_TIME
  ⟨0x8000, 1, 14, 14, .i32, .ro, .const 0, .any, 0, false⟩,  -- PPS_PHASE_NS
  ⟨0x8000, 1, 15, 15, .u32, .ro, .const 0, .any, 0, false⟩,  -- STEP_COUNT
  ⟨0x8000, 1, 16, 16, .u64, .ro, .const 0, .any, 0, false⟩,  -- TS_SKIPPED
  ⟨0x8001, 1, 0, 0, .u8, .ro, .const 9, .any, 0, false⟩,  -- PIN_COUNT
  ⟨0x8001, 1, 1, 1, .enum8, .rwv, .const 255, .orValue 0 1 0xFF, 0, false⟩,  -- PPS_IN_PIN
  ⟨0x8001, 1, 2, 2, .enum8, .rwv, .const 1, .orValue 0 1 0xFF, 0, false⟩,  -- PPS_OUT_PIN
  ⟨0x8001, 1, 3, 3, .i32, .rwv, .const 0, .signed 32 1000000 1000000, 0, true⟩,  -- PPS_IN_DELAY_PS
  ⟨0x8001, 1, 4, 4, .u16, .rwv, .const 100, .range 1 50000, 0, true⟩,  -- PPS_OUT_WIDTH_US
  ⟨0x8001, 1, 5, 5, .u16, .rwv, .const 65535, .orValue 0 511 0xFFFF, 0, true⟩,  -- RCLK_LANE_0
  ⟨0x8001, 1, 6, 6, .u16, .rwv, .const 1360, .range 2 65535, 0, true⟩,  -- RCLK_DIV_0
  ⟨0x8001, 1, 7, 7, .u16, .rwv, .const 65535, .orValue 0 511 0xFFFF, 0, true⟩,  -- RCLK_LANE_1
  ⟨0x8001, 1, 8, 8, .u16, .rwv, .const 1360, .range 2 65535, 0, true⟩,  -- RCLK_DIV_1
  ⟨0x8001, 1, 9, 9, .bits32, .ro, .const 3, .any, 0, false⟩,  -- RCLK_STATUS
  ⟨0x8010, 4, 0, 0, .u8, .ro, .const 128, .any, 0, false⟩,  -- TX_LAT_COUNT
  ⟨0x8010, 4, 1, 128, .u32, .rwv, .const 0, .any, 0, false⟩,  -- TX_LATENCY_PS
  ⟨0x8014, 4, 0, 0, .u8, .ro, .const 128, .any, 0, false⟩,  -- RX_LAT_COUNT
  ⟨0x8014, 4, 1, 128, .u32, .rwv, .const 0, .any, 0, false⟩,  -- RX_LATENCY_PS
  ⟨0x8018, 4, 0, 0, .u8, .ro, .const 128, .any, 0, false⟩,  -- ASYM_COUNT
  ⟨0x8018, 4, 1, 128, .i32, .rwv, .const 0, .any, 0, false⟩,  -- ASYMMETRY_PS
  ⟨0x8020, 1, 0, 0, .u8, .ro, .const 16, .any, 0, false⟩,  -- ONE_STEP_COUNT
  ⟨0x8020, 1, 1, 16, .bits32, .rwv, .const 0, .any, 0, false⟩,  -- ONE_STEP_PORTS
  ⟨0x8030, 1, 0, 0, .u8, .ro, .const 3, .any, 0, false⟩,  -- TX_STAMP_COUNT
  ⟨0x8030, 1, 1, 1, .u32, .ro, .const 0, .any, 0, false⟩,  -- TX_STAMPS_WRITTEN
  ⟨0x8030, 1, 2, 2, .u32, .rw, .const 0, .any, 0, false⟩,  -- TX_STAMP_READ
  ⟨0x8030, 1, 3, 3, .u32, .ro, .const 0, .any, 0, false⟩,  -- TX_STAMPS_LOST
  ⟨0xE800, 1, 0, 0, .domain, .ro, .const 0, .any, 0, false⟩  -- TX_STAMPS
  ]

/-- Entries of chapter file 13 of the spec (part 0). -/
def bookRows13_0 : List Row := [
  ⟨0x8100, 1, 0, 0, .u8, .ro, .const 4, .any, 0, false⟩,  -- COUNTER_CTRL_COUNT
  ⟨0x8100, 1, 1, 1, .u32, .rw, .const 0, .any, 0, false⟩,  -- CLEAR_FIRST
  ⟨0x8100, 1, 2, 2, .u32, .rw, .const 0, .any, 0, false⟩,  -- CLEAR_COUNT
  ⟨0x8100, 1, 3, 3, .bool, .w1s, .const 0, .range 0 1, 0, false⟩,  -- CLEAR
  ⟨0x8100, 1, 4, 4, .u32, .ro, .const 0, .any, 0, false⟩,  -- CLEARS_DONE
  ⟨0x8110, 64, 0, 0, .u8, .ro, .const 2, .any, 0, false⟩,  -- CHAIN_ENTRY_COUNT
  ⟨0x8110, 64, 1, 1, .u32, .rwc, .const 0, .any, 0, false⟩,  -- CHAIN_FIRST
  ⟨0x8110, 64, 2, 2, .u32, .rwc, .const 0, .any, 0, false⟩,  -- CHAIN_COUNT
  ⟨0x8200, 512, 0, 0, .u8, .ro, .const 9, .any, 0, false⟩,  -- PORT_TELEMETRY_COUNT
  ⟨0x8200, 512, 1, 1, .u32, .rwv, .const 1024, .range 1 65536, 0, true⟩,  -- BW_WINDOW_ROUNDS
  ⟨0x8200, 512, 2, 2, .u64, .ro, .const 0, .any, 0, false⟩,  -- WINDOW_NS
  ⟨0x8200, 512, 3, 3, .u64, .ro, .const 0, .any, 0, false⟩,  -- RX_WINDOW_BYTES
  ⟨0x8200, 512, 4, 4, .u64, .ro, .const 0, .any, 0, false⟩,  -- TX_WINDOW_BYTES
  ⟨0x8200, 512, 5, 5, .u64, .rw, .const 0, .range 0 0, 0, false⟩,  -- RX_PEAK_BYTES
  ⟨0x8200, 512, 6, 6, .u64, .rw, .const 0, .range 0 0, 0, false⟩,  -- TX_PEAK_BYTES
  ⟨0x8200, 512, 7, 7, .bits32, .rwv, .const 0, .any, 499, false⟩,  -- HIST_CONTROL
  ⟨0x8200, 512, 8, 8, .u32, .rwv, .const 0, .any, 0, false⟩,  -- HIST_BASE
  ⟨0x8200, 512, 9, 9, .u64, .ro, .const 0, .any, 0, false⟩,  -- STOMPS_CAUSED
  ⟨0x8600, 1, 0, 0, .u8, .ro, .const 12, .any, 0, false⟩,  -- HARVEST_COUNT
  ⟨0x8600, 1, 1, 1, .bool, .rwv, .const 0, .range 0 1, 0, false⟩,  -- HARVEST_ENABLE
  ⟨0x8600, 1, 2, 2, .u64, .rwv, .const 655360, .any, 0, false⟩,  -- HARVEST_PERIOD_NS
  ⟨0x8600, 1, 3, 3, .time80, .rwv, .const 0, .any, 0, false⟩,  -- HARVEST_BASE_TIME
  ⟨0x8600, 1, 4, 4, .u16, .rwv, .const 0, .range 0 2047, 0, true⟩,  -- HARVEST_FIRST_PAGE
  ⟨0x8600, 1, 5, 5, .u16, .rwv, .const 2048, .any, 0, false⟩,  -- HARVEST_PAGES
  ⟨0x8600, 1, 6, 6, .u16, .rwv, .const 65535, .any, 0, false⟩,  -- HARVEST_CHANNEL
  ⟨0x8600, 1, 7, 7, .u64, .rwv, .const 0, .any, 0, false⟩,  -- HARVEST_RING_BASE
  ⟨0x8600, 1, 8, 8, .u16, .rwv, .const 2, .range 2 1024, 0, true⟩,  -- HARVEST_RING_SLOTS
  ⟨0x8600, 1, 9, 9, .u32, .rwv, .const 8388736, .any, 0, false⟩,  -- HARVEST_SLOT_BYTES
  ⟨0x8600, 1, 10, 10, .u32, .rw, .const 0, .any, 0, false⟩,  -- HARVEST_CONSUMED
  ⟨0x8600, 1, 11, 11, .u32, .ro, .const 0, .any, 0, false⟩,  -- HARVEST_WRITTEN
  ⟨0x8600, 1, 12, 12, .u32, .ro, .const 0, .any, 0, false⟩,  -- HARVEST_SKIPPED
  ⟨0x8700, 256, 0, 0, .u8, .ro, .const 3, .any, 0, false⟩,  -- SAMPLER_COUNT
  ⟨0x8700, 256, 1, 1, .bits32, .rwv, .const 0, .any, 65283, false⟩,  -- SAMPLER_CONTROL
  ⟨0x8700, 256, 2, 2, .u32, .rwv, .const 1, .any, 0, false⟩,  -- SAMPLE_RATE
  ⟨0x8700, 256, 3, 3, .u64, .ro, .const 0, .any, 0, false⟩,  -- SAMPLED
  ⟨0x8800, 3, 0, 0, .u8, .ro, .const 6, .any, 0, false⟩,  -- RING_ENTRY_COUNT
  ⟨0x8800, 3, 1, 1, .u16, .rwv, .const 65535, .any, 0, false⟩,  -- RING_CHANNEL
  ⟨0x8800, 3, 2, 2, .u64, .rwv, .const 0, .any, 0, false⟩,  -- RING_BASE
  ⟨0x8800, 3, 3, 3, .u32, .rwv, .const 1024, .range 2 1048576, 0, true⟩,  -- RING_RECORDS
  ⟨0x8800, 3, 4, 4, .u32, .rw, .const 0, .any, 0, false⟩  -- RING_CONSUMED
  ]

/-- Entries of chapter file 13 of the spec (part 1). -/
def bookRows13_1 : List Row := [
  ⟨0x8800, 3, 5, 5, .u32, .ro, .const 0, .any, 0, false⟩,  -- RING_WRITTEN
  ⟨0x8800, 3, 6, 6, .u64, .ro, .const 0, .any, 0, false⟩,  -- RING_LOST
  ⟨0x8900, 1, 0, 0, .u8, .ro, .const 7, .any, 0, false⟩,  -- FLOW_CTRL_COUNT
  ⟨0x8900, 1, 1, 1, .u32, .rwv, .const 0, .any, 0, false⟩,  -- OBS_DOMAIN_ID
  ⟨0x8900, 1, 2, 2, .i64, .rwv, .const 0, .any, 0, false⟩,  -- IPFIX_EPOCH_OFFSET
  ⟨0x8900, 1, 3, 3, .u16, .rwv, .const 64, .range 1 65535, 0, true⟩,  -- TEMPLATE_REFRESH
  ⟨0x8900, 1, 4, 4, .u16, .rwv, .const 1400, .range 512 2032, 0, true⟩,  -- IPFIX_MESSAGE_MAX
  ⟨0x8900, 1, 5, 5, .u64, .ro, .const 0, .any, 0, false⟩,  -- FLOW_EXPORTED
  ⟨0x8900, 1, 6, 6, .u64, .ro, .const 0, .any, 0, false⟩,  -- FLOW_COLLISIONS
  ⟨0x8900, 1, 7, 7, .u64, .ro, .const 0, .any, 0, false⟩,  -- FLOW_IGNORED
  ⟨0x8910, 16, 0, 0, .u8, .ro, .const 21, .any, 0, false⟩,  -- FLOW_PROFILE_COUNT
  ⟨0x8910, 16, 1, 1, .u32, .rwv, .const 0, .any, 0, false⟩,  -- FLOW_FIRST
  ⟨0x8910, 16, 2, 2, .u32, .rwv, .const 0, .any, 0, false⟩,  -- FLOW_COUNT
  ⟨0x8910, 16, 3, 3, .u16, .rwv, .const 0, .any, 0, false⟩,  -- TEMPLATE_ID
  ⟨0x8910, 16, 4, 4, .u16, .rwv, .const 15, .range 1 65535, 0, true⟩,  -- IDLE_TIMEOUT_S
  ⟨0x8910, 16, 5, 5, .u16, .rwv, .const 60, .range 1 65535, 0, true⟩,  -- ACTIVE_TIMEOUT_S
  ⟨0x8910, 16, 6, 13, .u32, .rwv, .const 0, .any, 2032127, false⟩,  -- KEY_FIELD_0–7
  ⟨0x8910, 16, 14, 21, .u16, .rwv, .const 0, .any, 0, false⟩,  -- KEY_IE_0–7
  ⟨0x8A00, 1, 0, 0, .u8, .ro, .const 6, .any, 0, false⟩,  -- IOAM_COUNT
  ⟨0x8A00, 1, 1, 1, .u64, .rwv, .const 0, .range 0 0xFFFFFFFFFFFFFF, 0, true⟩,  -- IOAM_NODE_ID
  ⟨0x8A00, 1, 2, 2, .u16, .rwv, .const 0, .any, 0, false⟩,  -- IOAM_NAMESPACE
  ⟨0x8A00, 1, 3, 3, .u32, .rwv, .const 0, .any, 0, false⟩,  -- IOAM_NS_DATA
  ⟨0x8A00, 1, 4, 4, .u16, .rwv, .const 0, .range 0 256, 0, true⟩,  -- IOAM_MAX_ADD
  ⟨0x8A00, 1, 5, 5, .u64, .ro, .const 0, .any, 0, false⟩,  -- IOAM_SKIPPED
  ⟨0x8A00, 1, 6, 6, .u64, .ro, .const 0, .any, 0, false⟩,  -- IOAM_OVERFLOWS
  ⟨0x8A01, 1, 0, 0, .u8, .ro, .const 16, .any, 0, false⟩,  -- IOAM_PORT_COUNT
  ⟨0x8A01, 1, 1, 16, .bits32, .rwv, .const 0, .any, 0, false⟩,  -- IOAM_PORTS
  ⟨0xE820, 1, 0, 0, .domain, .ro, .const 0, .any, 0, false⟩  -- COUNTERS
  ]

/-- Entries of chapter file 14 of the spec (part 0). -/
def bookRows14_0 : List Row := [
  ⟨0x9000, 1, 0, 0, .u8, .ro, .const 11, .any, 0, false⟩,  -- GAUGE_COUNT
  ⟨0x9000, 1, 1, 1, .enum8, .ro, .none 0, .any, 0, false⟩,  -- SEAL_STATE
  ⟨0x9000, 1, 2, 2, .bits32, .ro, .none 0, .any, 0, false⟩,  -- GAUGE_STATUS
  ⟨0x9000, 1, 3, 3, .time80, .ro, .none 0, .any, 0, false⟩,  -- GAUGE_TIME
  ⟨0x9000, 1, 4, 4, .u32, .ro, .none 0, .any, 0, false⟩,  -- RESEAL_COUNT
  ⟨0x9000, 1, 5, 5, .u32, .ro, .none 0, .any, 0, false⟩,  -- KEY_NUMBER
  ⟨0x9000, 1, 6, 6, (.octets 32), .ro, .none 0, .any, 0, false⟩,  -- PUBLIC_KEY
  ⟨0x9000, 1, 7, 7, .u64, .ro, .none 0, .any, 0, false⟩,  -- NEXT_RECORD
  ⟨0x9000, 1, 8, 8, .u32, .ro, .none 0, .any, 0, false⟩,  -- NEXT_AUDIT
  ⟨0x9000, 1, 9, 9, .u32, .ro, .none 0, .any, 0, false⟩,  -- TAP_CRC_ERRORS
  ⟨0x9000, 1, 10, 10, .u32, .ro, .none 0, .any, 0, false⟩,  -- TAP_SEQUENCE_GAPS
  ⟨0x9000, 1, 11, 11, .u64, .ro, .none 0, .any, 0, false⟩,  -- TAP_TOTAL
  ⟨0x9010, 1, 0, 0, .u8, .ro, .const 5, .any, 0, false⟩,  -- PARAM_COUNT
  ⟨0x9010, 1, 1, 1, .u8, .sealed, .const 5, .range 1 60, 0, false⟩,  -- INTERVAL_MINUTES
  ⟨0x9010, 1, 2, 2, .u16, .sealed, .const 60, .range 1 3600, 0, false⟩,  -- HOLDOVER_LIMIT_S
  ⟨0x9010, 1, 3, 3, .u32, .sealed, .const 1000, .range 100 1000000, 0, false⟩,  -- PPS_WINDOW_NS
  ⟨0x9010, 1, 4, 4, (.octets 32), .sealed, .const 0, .any, 0, false⟩,  -- METER_LABEL
  ⟨0x9010, 1, 5, 5, (.octets 32), .ro, .none 0, .any, 0, false⟩,  -- PARAM_DIGEST
  ⟨0x9020, 1, 0, 0, .u8, .ro, .const 1, .any, 0, false⟩,  -- SEAL_CMD_COUNT
  ⟨0x9020, 1, 1, 1, .bool, .sealed, .const 0, .range 0 1, 0, false⟩,  -- GAUGE_SEAL
  ⟨0xE900, 1, 0, 0, .domain, .ro, .none 0, .any, 0, false⟩,  -- GAUGE_RECORDS
  ⟨0xE901, 1, 0, 0, .domain, .ro, .none 0, .any, 0, false⟩  -- GAUGE_AUDIT
  ]

/-- Entries of chapter file 15 of the spec (part 0). -/
def bookRows15_0 : List Row := [
  ⟨0xA000, 1, 0, 0, .u8, .ro, .const 3, .any, 0, false⟩,  -- SIPHON_COUNT
  ⟨0xA000, 1, 1, 1, .u16, .ro, .const 1920, .any, 0, false⟩,  -- BULK_SHARE_TOTAL_KIB
  ⟨0xA000, 1, 2, 2, .u64, .ro, .const 0, .any, 0, false⟩,  -- PRIORITY_PREEMPTS
  ⟨0xA000, 1, 3, 3, .u16, .ro, .none 0, .any, 0, false⟩,  -- CHANNELS_RETIRED
  ⟨0xA010, 1, 0, 0, .u8, .ro, .const 128, .any, 0, false⟩,  -- CPU_MAP_COUNT
  ⟨0xA010, 1, 1, 128, .u16, .rwv, .const 65535, .any, 0, false⟩,  -- CPU_QUEUE_CHANNEL
  ⟨0xA020, 1, 0, 0, .u8, .ro, .const 32, .any, 0, false⟩,  -- PENDING_COUNT
  ⟨0xA020, 1, 1, 32, .bits32, .w1c, .const 0, .any, 0, false⟩,  -- COMPLETION_PENDING
  ⟨0xA100, 1024, 0, 0, .u8, .ro, .const 19, .any, 0, false⟩,  -- CHANNEL_ENTRY_COUNT
  ⟨0xA100, 1024, 1, 1, .enum8, .rwv, .const 0, .range 0 4, 0, false⟩,  -- CHANNEL_USE
  ⟨0xA100, 1024, 2, 2, .u32, .rwv, .const 4096, .range 0 1048576, 0, true⟩,  -- WALK_BUDGET
  ⟨0xA100, 64, 3, 3, .u16, .rwc, .const 0, .range 0 2048, 0, true⟩,  -- BUFFER_SHARE_KIB
  ⟨0xA100, 1024, 4, 4, .u64, .rwv, .const 0, .any, 0, false⟩,  -- COMPL_BASE
  ⟨0xA100, 1024, 5, 5, .u32, .rwv, .const 256, .any, 0, false⟩,  -- COMPL_SLOTS
  ⟨0xA100, 1024, 6, 6, .u32, .rw, .const 0, .any, 16777215, false⟩,  -- DOMAIN_ENTRY
  ⟨0xA100, 1024, 7, 7, .bits32, .rw, .const 0, .any, 3, false⟩,  -- DOMAIN_CONTROL
  ⟨0xA100, 1024, 8, 8, .u32, .rw, .const 0, .any, 0, false⟩,  -- DOMAIN_OFFSET
  ⟨0xA100, 1024, 9, 9, .u32, .rw, .const 0, .range 1 0xFFFFFFFF, 0, false⟩,  -- DOMAIN_LENGTH
  ⟨0xA100, 1024, 10, 10, .u32, .rw, .const 0, .any, 0, false⟩,  -- DOMAIN_CRC
  ⟨0xA100, 1024, 11, 11, .bool, .w1s, .const 0, .range 0 1, 0, false⟩,  -- DOMAIN_ARM
  ⟨0xA100, 1024, 12, 12, .u16, .ro, .const 0, .any, 0, false⟩,  -- DOMAIN_RESULT
  ⟨0xA100, 1024, 13, 13, .bits32, .ro, .const 0, .any, 0, false⟩,  -- CHANNEL_STATUS
  ⟨0xA100, 1024, 14, 14, .u64, .ro, .const 0, .any, 0, false⟩,  -- DESCRIPTORS_DONE
  ⟨0xA100, 1024, 15, 15, .u64, .ro, .const 0, .any, 0, false⟩,  -- BYTES_MOVED
  ⟨0xA100, 1024, 16, 16, .u64, .ro, .const 0, .any, 0, false⟩,  -- BAD_DESCRIPTORS
  ⟨0xA100, 1024, 17, 17, .u32, .ro, .const 0, .any, 0, false⟩,  -- CHAIN_LOOPS
  ⟨0xA100, 1024, 18, 18, .u32, .ro, .const 0, .any, 0, false⟩,  -- STRIKES
  ⟨0xA100, 1024, 19, 19, .u32, .ro, .const 0, .any, 0, false⟩,  -- IGNORED_WRITES
  ⟨0xA140, 960, 3, 3, .u16, .rwc, .const 2, .range 0 2048, 0, true⟩  -- BUFFER_SHARE_KIB
  ]

/-- Entries of chapter file 16 of the spec (part 0). -/
def bookRows16_0 : List Row := [
  ⟨0xB000, 1, 0, 0, .u8, .ro, .const 11, .any, 0, false⟩,  -- POWER_CTRL_COUNT
  ⟨0xB000, 1, 1, 1, .u16, .rw, .const 0, .any, 0, false⟩,  -- POWER_CAP_W
  ⟨0xB000, 1, 2, 2, .u16, .rwc, .const 600, .range 400 1300, 0, true⟩,  -- POWER_CAP_FLOOR_W
  ⟨0xB000, 1, 3, 3, .u16, .rw, .const 20, .range 0 200, 0, false⟩,  -- CAP_MARGIN_W
  ⟨0xB000, 1, 4, 4, .u16, .rw, .const 512, .stepped 0 512 64, 0, false⟩,  -- SKIP_MAX
  ⟨0xB000, 1, 5, 5, .bits32, .rwv, .const 127, .any, 255, false⟩,  -- NARROW_ALLOWED
  ⟨0xB000, 1, 6, 6, .u8, .rwv, .const 100, .range 60 125, 0, true⟩,  -- THROTTLE_TJ_C
  ⟨0xB000, 1, 7, 7, .u8, .rwv, .const 90, .range 60 125, 0, true⟩,  -- HBM_THROTTLE_C
  ⟨0xB000, 1, 8, 8, .u16, .rw, .const 16, .range 1 1024, 0, false⟩,  -- LOW_BAND_HOLD
  ⟨0xB000, 1, 9, 11, .u8, .rw, .list [32, 64, 128], .any, 0, false⟩,  -- BAND_EDGE_1–3
  ⟨0xB001, 1, 0, 0, .u8, .ro, .const 16, .any, 0, false⟩,  -- REST_COUNT
  ⟨0xB001, 1, 1, 16, .bits32, .rwv, .const 0, .any, 0, false⟩,  -- REST_SLEEP_PORTS
  ⟨0xB010, 1, 0, 0, .u8, .ro, .const 15, .any, 0, false⟩,  -- PREF_COUNT
  ⟨0xB010, 1, 1, 7, .u8, .rwv, .list [4, 4, 0, 5, 0, 0, 7], .any, 0, false⟩,  -- PREF_MODE
  ⟨0xB010, 1, 8, 11, .u8, .rwv, .const 0, .any, 0, false⟩,  -- PREF_RUN
  ⟨0xB010, 1, 12, 15, .u8, .rwv, .const 0, .any, 0, false⟩,  -- PREF_JOINED
  ⟨0xB020, 1, 0, 0, .u8, .ro, .const 11, .any, 0, false⟩,  -- POWER_STATUS_COUNT
  ⟨0xB020, 1, 1, 1, .bits32, .ro, .none 0, .any, 0, false⟩,  -- POWER_STATE
  ⟨0xB020, 1, 2, 2, .u16, .ro, .const 0, .any, 0, false⟩,  -- POWER_SKIPS
  ⟨0xB020, 1, 3, 3, .u32, .ro, .const 0, .any, 0, false⟩,  -- EPOCH_POWER_MW
  ⟨0xB020, 1, 4, 4, .i32, .ro, .none 0, .any, 0, false⟩,  -- TJ_MAX
  ⟨0xB020, 1, 5, 5, .u32, .ro, .const 0, .any, 0, false⟩,  -- OP_CHANGES
  ⟨0xB020, 1, 6, 6, .u64, .ro, .const 0, .any, 0, false⟩,  -- DROOP_EVENTS
  ⟨0xB020, 1, 7, 7, .u64, .ro, .const 0, .any, 0, false⟩,  -- DROOP_SKIPS
  ⟨0xB020, 1, 8, 8, .u64, .ro, .const 0, .any, 0, false⟩,  -- CAP_SKIPS
  ⟨0xB020, 1, 9, 9, .u64, .ro, .const 0, .any, 0, false⟩,  -- NARROW_DISCARDS
  ⟨0xB020, 1, 10, 10, .u64, .ro, .const 0, .any, 0, false⟩,  -- ENERGY_TOTAL_UJ
  ⟨0xB020, 1, 11, 11, .u64, .ro, .const 0, .any, 0, false⟩,  -- ENERGY_UNATTRIBUTED_UJ
  ⟨0xB030, 1, 0, 0, .u8, .ro, .const 24, .any, 0, false⟩,  -- RAIL_COUNT
  ⟨0xB030, 1, 1, 12, .u32, .ro, .const 0, .any, 0, false⟩,  -- RAIL_POWER_MW
  ⟨0xB030, 1, 13, 24, .u64, .ro, .const 0, .any, 0, false⟩,  -- RAIL_ENERGY_UJ
  ⟨0xB040, 4, 0, 0, .u8, .ro, .const 128, .any, 0, false⟩,  -- PORT_ENERGY_COUNT
  ⟨0xB040, 4, 1, 128, .u64, .ro, .const 0, .any, 0, false⟩  -- PORT_ENERGY_UJ
  ]

/-- Entries of chapter file 17 of the spec (part 0). -/
def bookRows17_0 : List Row := [
  ⟨0xB100, 1, 0, 0, .u8, .ro, .const 15, .any, 0, false⟩,  -- JOIN_COUNT
  ⟨0xB100, 1, 1, 1, .bool, .rwc, .const 0, .range 0 1, 0, false⟩,  -- JOIN_ENABLE
  ⟨0xB100, 1, 2, 2, .enum8, .rwc, .const 0, .range 0 1, 0, false⟩,  -- JOIN_ROLE
  ⟨0xB100, 1, 3, 3, .u16, .rwc, .const 64, .any, 0, false⟩,  -- JOIN_WIDTH
  ⟨0xB100, 1, 4, 4, .enum8, .ro, .const 0, .any, 0, false⟩,  -- JOIN_STATE
  ⟨0xB100, 1, 5, 5, (.octets 8), .ro, .const 0, .any, 0, false⟩,  -- PARTNER_SERIAL
  ⟨0xB100, 1, 6, 6, .u16, .ro, .const 0, .any, 0, false⟩,  -- PARTNER_STEPPING
  ⟨0xB100, 1, 7, 7, .u8, .ro, .const 0, .any, 0, false⟩,  -- CHECK_MEMBER
  ⟨0xB100, 1, 8, 8, .u16, .rw, .const 16, .range 1 240, 0, false⟩,  -- MIN_ACTIVE_LANES
  ⟨0xB100, 1, 9, 9, .enum8, .rwv, .const 0, .range 0 1, 0, false⟩,  -- SPLIT_ACTION
  ⟨0xB100, 1, 10, 10, .u32, .ro, .const 0, .any, 0, false⟩,  -- JOIN_DELAY_PS
  ⟨0xB100, 1, 11, 11, .u16, .ro, .const 0, .any, 0, false⟩,  -- PACE_OFFSET_MAX
  ⟨0xB100, 1, 12, 12, .u32, .ro, .const 0, .any, 0, false⟩,  -- SPLITS
  ⟨0xB100, 1, 13, 13, .enum8, .ro, .const 0, .any, 0, false⟩,  -- SPLIT_CAUSE
  ⟨0xB100, 1, 14, 14, .u64, .ro, .const 0, .any, 0, false⟩,  -- CROSS_LOST
  ⟨0xB100, 1, 15, 15, .u64, .ro, .const 0, .any, 0, false⟩,  -- JOIN_INGRESS_LIMIT
  ⟨0xB110, 2, 0, 0, .u8, .ro, .const 14, .any, 0, false⟩,  -- DIRECTION_COUNT
  ⟨0xB110, 2, 1, 1, .u16, .ro, .const 0, .any, 0, false⟩,  -- ACTIVE_LANES
  ⟨0xB110, 2, 2, 9, .bits32, .ro, .const 0, .any, 0, false⟩,  -- LANE_MAP
  ⟨0xB110, 2, 10, 10, .u32, .ro, .const 0, .any, 0, false⟩,  -- CROSS_RATE_GBPS
  ⟨0xB110, 2, 11, 11, .u32, .ro, .const 0, .any, 0, false⟩,  -- NARROWINGS
  ⟨0xB110, 2, 12, 12, .u64, .ro, .const 0, .any, 0, false⟩,  -- REPLAYS
  ⟨0xB110, 2, 13, 13, .u64, .ro, .const 0, .any, 0, false⟩,  -- CROSSINGS
  ⟨0xB110, 2, 14, 14, .bits32, .ro, .const 0, .any, 0, false⟩,  -- HOLD_ACTIVE
  ⟨0xB120, 1, 0, 0, .u8, .ro, .const 26, .any, 0, false⟩,  -- ADMISSION_COUNT
  ⟨0xB120, 1, 1, 8, .u32, .rwv, .const 32, .any, 0, false⟩,  -- CROSS_Q_MIN_0–7
  ⟨0xB120, 1, 9, 9, .bits32, .rwv, .const 1145324612, .fields [(0,4,9),(4,4,9),(8,4,9),(12,4,9),(16,4,9),(20,4,9),(24,4,9),(28,4,9)], 0, true⟩,  -- CROSS_ALPHA
  ⟨0xB120, 1, 10, 17, .u32, .rwv, .const 16, .any, 0, false⟩,  -- JOIN_IN_MIN_0–7
  ⟨0xB120, 1, 18, 18, .bits32, .rwv, .const 1145324612, .fields [(0,4,9),(4,4,9),(8,4,9),(12,4,9),(16,4,9),(20,4,9),(24,4,9),(28,4,9)], 0, true⟩,  -- JOIN_ALPHA
  ⟨0xB120, 1, 19, 26, .u32, .rwv, .const 0, .any, 0, false⟩  -- JOIN_HEADROOM_0–7
  ]

/-- Entries of chapter file 18 of the spec (part 0). -/
def bookRows18_0 : List Row := [
  ⟨0xC021, 10, 0, 0, .u8, .ro, .const 4, .any, 0, false⟩,  -- STRIKE_KIND_COUNT
  ⟨0xC021, 10, 1, 1, .u8, .rw, .const 3, .range 1 15, 0, false⟩,  -- STRIKE_THRESHOLD
  ⟨0xC021, 10, 2, 2, .u32, .rw, .const 10000, .range 100 3600000, 0, false⟩,  -- STRIKE_WINDOW_MS
  ⟨0xC021, 10, 3, 3, .u64, .ro, .const 0, .any, 0, false⟩,  -- STRIKES_TOTAL
  ⟨0xC021, 10, 4, 4, .u32, .ro, .const 0, .any, 0, false⟩,  -- RETIREMENTS
  ⟨0xC040, 1, 0, 0, .u8, .ro, .const 7, .any, 0, false⟩,  -- MAP_COUNT
  ⟨0xC040, 1, 1, 1, .enum8, .ro, .none 0, .any, 0, false⟩,  -- MAP_STATE
  ⟨0xC040, 1, 2, 2, .u16, .ro, .none 0, .any, 0, false⟩,  -- MAP_RECORDS
  ⟨0xC040, 1, 3, 3, .u32, .ro, .none 0, .any, 0, false⟩,  -- MAP_SEQUENCE
  ⟨0xC040, 1, 4, 4, .u32, .ro, .const 0, .any, 0, false⟩,  -- MAP_WRITE_FAILS
  ⟨0xC040, 1, 5, 5, .u32, .wo, .const 0, .any, 0, false⟩,  -- RETIRE_REQUEST
  ⟨0xC040, 1, 6, 6, .u32, .wo, .const 0, .any, 0, false⟩,  -- UNRETIRE_REQUEST
  ⟨0xC040, 1, 7, 7, .u16, .ro, .const 0, .any, 0, false⟩,  -- UNRETIRE_PENDING
  ⟨0xC050, 1, 0, 0, .u8, .ro, .const 5, .any, 0, false⟩,  -- SCRUB_COUNT
  ⟨0xC050, 1, 1, 1, .u16, .rw, .const 60, .range 10 3600, 0, false⟩,  -- SCRUB_PASS_S
  ⟨0xC050, 1, 2, 2, .u32, .ro, .const 0, .any, 0, false⟩,  -- SCRUB_PASSES
  ⟨0xC050, 1, 3, 3, .u64, .ro, .const 0, .any, 0, false⟩,  -- SCRUB_CORRECTED
  ⟨0xC050, 1, 4, 4, .u64, .ro, .const 0, .any, 0, false⟩,  -- SCRUB_UNCORRECTABLE
  ⟨0xC050, 1, 5, 5, .u32, .ro, .const 0, .any, 0, false⟩,  -- BOOK_REPAIRS
  ⟨0xC060, 1, 0, 0, .u8, .ro, .const 5, .any, 0, false⟩,  -- SAFE_HOLD_ENTRY_COUNT
  ⟨0xC060, 1, 1, 1, .enum8, .ro, .const 0, .any, 0, false⟩,  -- SAFE_HOLD_CAUSE
  ⟨0xC060, 1, 2, 2, .u32, .ro, .const 0, .any, 0, false⟩,  -- SAFE_HOLD_DETAIL
  ⟨0xC060, 1, 3, 3, .time80, .ro, .const 0, .any, 0, false⟩,  -- SAFE_HOLD_TIME
  ⟨0xC060, 1, 4, 4, .enum8, .ro, .none 0, .any, 0, false⟩,  -- LAST_SAFE_HOLD_CAUSE
  ⟨0xC060, 1, 5, 5, .u32, .ro, .none 0, .any, 0, false⟩,  -- SAFE_HOLD_TOTAL
  ⟨0xC100, 64, 0, 0, .u8, .ro, .const 3, .any, 0, false⟩,  -- EVENT_GROUP_COUNT
  ⟨0xC100, 64, 1, 1, .bits32, .w1c, .const 0, .any, 65535, false⟩,  -- GROUP_STATUS
  ⟨0xC100, 64, 2, 2, .bits32, .rw, .const 0, .any, 65535, false⟩,  -- GROUP_ENABLE
  ⟨0xC100, 64, 3, 3, .bits32, .rw, .step 256 1, .any, 895, false⟩,  -- GROUP_ROUTE
  ⟨0xC200, 64, 0, 0, .u8, .ro, .const 16, .any, 0, false⟩,  -- OCC_COUNT
  ⟨0xC200, 64, 1, 16, .u32, .rw, .const 0, .any, 0, false⟩,  -- SOURCE_OCC
  ⟨0xC300, 64, 0, 0, .u8, .ro, .const 16, .any, 0, false⟩,  -- DETAIL_COUNT
  ⟨0xC300, 64, 1, 16, .u32, .ro, .const 0, .any, 0, false⟩,  -- SOURCE_DETAIL
  ⟨0xC400, 64, 0, 0, .u8, .ro, .const 16, .any, 0, false⟩,  -- RAISES_COUNT
  ⟨0xC400, 64, 1, 16, .u32, .ro, .const 0, .any, 0, false⟩,  -- SOURCE_RAISES
  ⟨0xEC00, 1, 0, 0, .domain, .ro, .none 0, .any, 0, false⟩  -- RETIREMENT_MAP
  ]

/-- Entries of chapter file 19 of the spec (part 0). -/
def bookRows19_0 : List Row := [
  ⟨0x0000, 1, 0, 0, .u8, .ro, .const 11, .any, 0, false⟩,  -- IDENTITY_COUNT
  ⟨0x0000, 1, 1, 1, .u32, .ro, .const 8264, .any, 0, false⟩,  -- DEVICE_ID
  ⟨0x0000, 1, 2, 2, .u16, .ro, .none 16688, .any, 0, false⟩,  -- STEPPING
  ⟨0x0000, 1, 3, 3, (.octets 8), .ro, .none 1, .any, 0, false⟩,  -- SERIAL
  ⟨0x0000, 1, 4, 4, .enum8, .ro, .none 0, .any, 0, false⟩,  -- GRADE
  ⟨0x0000, 1, 5, 5, .bits32, .ro, .none 15, .any, 0, false⟩,  -- CAPABILITIES
  ⟨0x0000, 1, 6, 6, .u32, .ro, .none 1, .any, 0, false⟩,  -- FIRMWARE_VERSION
  ⟨0x0000, 1, 7, 7, (.octets 32), .ro, .none 0, .any, 0, false⟩,  -- FIRMWARE_DIGEST
  ⟨0x0000, 1, 8, 8, .enum8, .ro, .none 0, .any, 0, false⟩,  -- BOOT_SLOT
  ⟨0x0000, 1, 9, 9, .u32, .ro, .none 0, .any, 0, false⟩,  -- BOOT_TIME_US
  ⟨0x0000, 1, 10, 10, .u8, .ro, .none 0, .any, 0, false⟩,  -- ROLLBACK_MIN
  ⟨0x0000, 1, 11, 11, .bits32, .ro, .none 0, .any, 0, false⟩,  -- ROOT_REVOKED
  ⟨0xD000, 1, 0, 0, .u8, .ro, .const 4, .any, 0, false⟩,  -- MODE_CTRL_COUNT
  ⟨0xD000, 1, 1, 1, .bool, .w1s, .const 0, .range 0 1, 0, false⟩,  -- ROLLBACK_ADVANCE
  ⟨0xD000, 1, 2, 2, .u16, .rw, .const 100, .range 1 60000, 0, false⟩,  -- DRAIN_LIMIT_MS
  ⟨0xD000, 1, 3, 3, .enum8, .ro, .const 0, .any, 0, false⟩,  -- DRAIN_STATE
  ⟨0xD000, 1, 4, 4, .enum8, .ro, .const 0, .any, 0, false⟩,  -- RECOVERY_STATE
  ⟨0xD100, 1, 0, 0, .u8, .ro, .const 3, .any, 0, false⟩,  -- CARE_TEST_COUNT
  ⟨0xD100, 1, 1, 1, (.octets 40), .rw, .const 0, .any, 0, false⟩,  -- CARE_TEST_KEY
  ⟨0xD100, 1, 2, 2, .bool, .w1s, .const 0, .range 0 1, 0, false⟩,  -- CARE_TEST_GO
  ⟨0xD100, 1, 3, 3, (.octets 16), .ro, .const 0, .any, 0, false⟩,  -- CARE_TEST_RESULT
  ⟨0xD200, 512, 0, 0, .u8, .ro, .const 3, .any, 0, false⟩,  -- DIAG_LANE_COUNT
  ⟨0xD200, 512, 1, 1, .bits32, .rw, .const 0, .fields [(0,2,2),(2,3,2)], 287, false⟩,  -- DIAG_LANE_CTRL
  ⟨0xD200, 512, 2, 2, .u64, .ro, .const 0, .any, 0, false⟩,  -- DIAG_ERRORS
  ⟨0xD200, 512, 3, 3, .u64, .ro, .const 0, .any, 0, false⟩,  -- DIAG_BITS
  ⟨0xD400, 1, 0, 0, .u8, .ro, .const 2, .any, 0, false⟩,  -- CELL_ACCESS_COUNT
  ⟨0xD400, 1, 1, 1, .u32, .rw, .const 0, .any, 2097151, false⟩,  -- CELL_HANDLE
  ⟨0xD400, 1, 2, 2, (.octets 12), .ro, .none 0, .any, 0, false⟩  -- CELL_HEADER
  ]

/-- Entries of chapter file 20 of the spec (part 0). -/
def bookRows20_0 : List Row := [
  ⟨0x2E00, 18, 0, 0, .u8, .ro, .const 4, .any, 0, false⟩,  -- BUS_COUNT
  ⟨0x2E00, 18, 1, 1, .enum8, .rwc, .const 0, .range 0 6, 0, false⟩,  -- BUS_MODE
  ⟨0x2E00, 18, 2, 2, .u32, .rw, .const 0, .any, 121634815, false⟩,  -- BUS_REQUEST
  ⟨0x2E00, 18, 3, 3, (.octets 32), .rw, .const 0, .any, 0, false⟩,  -- BUS_DATA
  ⟨0x2E00, 18, 4, 4, .u32, .ro, .const 0, .any, 0, false⟩,  -- BUS_STATUS
  ⟨0x2E20, 1, 0, 0, .u8, .ro, .const 3, .any, 0, false⟩,  -- GPIO_COUNT
  ⟨0x2E20, 1, 1, 1, .bits32, .rw, .const 0, .any, 0, false⟩,  -- GPIO_DIR
  ⟨0x2E20, 1, 2, 2, .bits32, .rw, .const 0, .any, 0, false⟩,  -- GPIO_OUT
  ⟨0x2E20, 1, 3, 3, .bits32, .ro, .none 0, .any, 0, false⟩,  -- GPIO_IN
  ⟨0xEF00, 1, 0, 0, .domain, .rwc, .const 0, .any, 0, false⟩,  -- IMAGE_SLOT_A
  ⟨0xEF01, 1, 0, 0, .domain, .rwc, .const 0, .any, 0, false⟩  -- IMAGE_SLOT_B
  ]

/-- Every row of the catalogue. -/
def bookRows : List Row :=
  bookRows01_0 ++ bookRows02_0 ++ bookRows03_0 ++ bookRows04_0 ++ bookRows05_0 ++ bookRows06_0 ++ bookRows07_0 ++ bookRows07_1 ++ bookRows08_0 ++ bookRows09_0 ++ bookRows09_1 ++ bookRows10_0 ++ bookRows11_0 ++ bookRows12_0 ++ bookRows13_0 ++ bookRows13_1 ++ bookRows14_0 ++ bookRows15_0 ++ bookRows16_0 ++ bookRows17_0 ++ bookRows18_0 ++ bookRows19_0 ++ bookRows20_0

end Sys2Proof.Machine
end

