-- ==== Sys2Proof/Machine/Keys.lean ====
section
/-! DEFINITION. The addresses of the Cellar Book's entries under the spec's own names. An array takes its
zero-based element first; a record indexed by port, lane, slice, ... takes that number. -/

namespace Sys2Proof.Machine.E

def SLOT_PERIOD_PS : Addr := entry 0x1030 0x01
def ROUND_COUNT : Addr := entry 0x1030 0x02
def EPOCH_COUNT : Addr := entry 0x1030 0x03
def SKIP_COUNT : Addr := entry 0x1030 0x04
def ROUND_OVERRUNS : Addr := entry 0xC010 0x01
def TAP_OVERRUNS : Addr := entry 0xC010 0x02
def EPOCH_OVERRUNS : Addr := entry 0xC010 0x03
def DENY_FIRST (n : Nat) : Addr := entry (0x1140 + n) 0x01
def DENY_LAST (n : Nat) : Addr := entry (0x1140 + n) 0x02
def READ_DENY (n : Nat) : Addr := entry (0x1140 + n) 0x03
def WRITE_DENY (n : Nat) : Addr := entry (0x1140 + n) 0x04
def MODE_REQUEST : Addr := entry 0x1000 0x01
def MODE_STATE : Addr := entry 0x1000 0x02
def ENABLE : Addr := entry 0x1000 0x03
def CHECK_REASON : Addr := entry 0x1000 0x04
def CHECK_ENTRY : Addr := entry 0x1000 0x05
def CHECK_DETAIL : Addr := entry 0x1000 0x06
def VINTAGE_CURRENT : Addr := entry 0x1010 0x01
def VINTAGE_STAGING : Addr := entry 0x1010 0x02
def COMMIT : Addr := entry 0x1010 0x03
def COMMIT_TIME : Addr := entry 0x1010 0x04
def COMMIT_STATE : Addr := entry 0x1010 0x05
def INFLIGHT_PREVIOUS : Addr := entry 0x1010 0x06
def COMMIT_ROUND : Addr := entry 0x1010 0x07
def DISCARD_STAGING : Addr := entry 0x1010 0x08
def EXPIRED_TOTAL : Addr := entry 0x1010 0x09
def EGRESS_PREVIOUS : Addr := entry 0x1010 0x0A
def VINTAGE_DIGEST (i : Nat) : Addr := entry 0x1020 (0x01 + i)
def DIGEST_VINTAGE : Addr := entry 0x1020 0x09
def DIGEST_STATE : Addr := entry 0x1020 0x0A
def VERIFY_PASSES : Addr := entry 0x1020 0x0B
def DIGEST_MISMATCHES : Addr := entry 0x1020 0x0C
def GRANT_ENABLE (g : Nat) : Addr := entry (0x1180 + g) 0x01
def GRANT_TARGET (g : Nat) : Addr := entry (0x1180 + g) 0x02
def GRANT_FIRST (g : Nat) : Addr := entry (0x1180 + g) 0x03
def GRANT_PAGES (g : Nat) : Addr := entry (0x1180 + g) 0x04
def GRANT_OWNER (g : Nat) : Addr := entry (0x1180 + g) 0x05
def TENDRIL_ENABLE : Addr := entry 0x1100 0x01
def TENDRIL_ETHERTYPE : Addr := entry 0x1100 0x02
def TENDRIL_MAC : Addr := entry 0x1100 0x03
def BEACON_PERIOD_MS : Addr := entry 0x1100 0x04
def AUTH_DROPS : Addr := entry 0x1100 0x05
def REPLAY_DROPS : Addr := entry 0x1100 0x06
def QUEUE_DROPS : Addr := entry 0x1100 0x07
def CTRL_ENABLE (c : Nat) : Addr := entry (0x1101 + c) 0x01
def KEY_A (c : Nat) : Addr := entry (0x1101 + c) 0x02
def KEY_B (c : Nat) : Addr := entry (0x1101 + c) 0x03
def KEY_SLOTS (c : Nat) : Addr := entry (0x1101 + c) 0x04
def CTRL_MAC (c : Nat) : Addr := entry (0x1101 + c) 0x05
def CTRL_PORT (c : Nat) : Addr := entry (0x1101 + c) 0x06
def RX_SEQ_A (c : Nat) : Addr := entry (0x1101 + c) 0x07
def RX_SEQ_B (c : Nat) : Addr := entry (0x1101 + c) 0x08
def EVENT_GROUPS (c : Nat) (i : Nat) : Addr := entry (0x1101 + c) (0x09 + i)
def FRONT_GRANT (i : Nat) : Addr := entry 0x1120 (0x01 + i)
def LANE_MODE (l : Nat) : Addr := entry (0x2000 + l) 0x01
def LANE_CONTROL (l : Nat) : Addr := entry (0x2000 + l) 0x02
def LANE_STATUS (l : Nat) : Addr := entry (0x2000 + l) 0x03
def LOCK_LOSSES (l : Nat) : Addr := entry (0x2000 + l) 0x04
def LOCK_STRIKES (l : Nat) : Addr := entry (0x2000 + l) 0x05
def FREEZES (l : Nat) : Addr := entry (0x2000 + l) 0x06
def REVERTS (l : Nat) : Addr := entry (0x2000 + l) 0x07
def ADAPT_ERR_LIMIT (l : Nat) : Addr := entry (0x2000 + l) 0x08
def SYMBOL_ERRORS (l : Nat) : Addr := entry (0x2000 + l) 0x09
def RX_SNR (l : Nat) : Addr := entry (0x2000 + l) 0x0A
def FREEZE_TRANSITION_MIN : Addr := entry 0x2200 0x01
def FREEZE_LEVEL_MIN : Addr := entry 0x2200 0x02
def SNAPSHOT_PERIOD_US : Addr := entry 0x2200 0x03
def STRIKE_SETTLE_MS : Addr := entry 0x2200 0x04
def RELOCK_LIMIT_MS : Addr := entry 0x2200 0x05
def RX_SPARE_MAP (k : Nat) : Addr := entry (0x2210 + k) 0x01
def TX_SPARE_MAP (k : Nat) : Addr := entry (0x2210 + k) 0x02
def CHECK_FAILS (k : Nat) : Addr := entry (0x2210 + k) 0x03
def EXHAUSTED_MAP (k : Nat) : Addr := entry (0x2210 + k) 0x04
def PORT_LANE_BASE (p : Nat) : Addr := entry (0x2400 + p) 0x01
def PORT_WIDTH (p : Nat) : Addr := entry (0x2400 + p) 0x02
def PORT_MTU (p : Nat) : Addr := entry (0x2400 + p) 0x03
def PORT_CONTROL (p : Nat) : Addr := entry (0x2400 + p) 0x04
def PFC_TX_QUANTA (p : Nat) : Addr := entry (0x2400 + p) 0x05
def LPI_TX_IDLE_US (p : Nat) : Addr := entry (0x2400 + p) 0x06
def PREEMPT_VERIFY_MS (p : Nat) : Addr := entry (0x2400 + p) 0x07
def LINK_UP_HOLD_MS (p : Nat) : Addr := entry (0x2400 + p) 0x08
def PORT_STATUS (p : Nat) : Addr := entry (0x2400 + p) 0x09
def PORT_RATE_GBPS (p : Nat) : Addr := entry (0x2400 + p) 0x0A
def RX_FRAMES_OK (p : Nat) : Addr := entry (0x2600 + p) 0x01
def RX_BYTES_OK (p : Nat) : Addr := entry (0x2600 + p) 0x02
def RX_FCS_ERRORS (p : Nat) : Addr := entry (0x2600 + p) 0x03
def RX_PCS_ERRORS (p : Nat) : Addr := entry (0x2600 + p) 0x04
def RX_UNDERSIZE (p : Nat) : Addr := entry (0x2600 + p) 0x05
def RX_OVERSIZE (p : Nat) : Addr := entry (0x2600 + p) 0x06
def RX_STOMPED (p : Nat) : Addr := entry (0x2600 + p) 0x07
def RX_MAC_CONTROL_DISCARDS (p : Nat) : Addr := entry (0x2600 + p) 0x08
def RX_PFC_FRAMES (p : Nat) : Addr := entry (0x2600 + p) 0x09
def RX_PFC_TC7_IGNORED (p : Nat) : Addr := entry (0x2600 + p) 0x0A
def RX_DISABLED_DISCARDS (p : Nat) : Addr := entry (0x2600 + p) 0x0B
def TX_FRAMES_OK (p : Nat) : Addr := entry (0x2600 + p) 0x0C
def TX_BYTES_OK (p : Nat) : Addr := entry (0x2600 + p) 0x0D
def TX_STOMPED (p : Nat) : Addr := entry (0x2600 + p) 0x0E
def TX_ABORTED (p : Nat) : Addr := entry (0x2600 + p) 0x0F
def TX_PFC_FRAMES (p : Nat) : Addr := entry (0x2600 + p) 0x10
def PREEMPT_TX_FRAGMENTS (p : Nat) : Addr := entry (0x2600 + p) 0x11
def PREEMPT_RX_FRAGMENTS (p : Nat) : Addr := entry (0x2600 + p) 0x12
def PREEMPT_ASSEMBLY_ERRORS (p : Nat) : Addr := entry (0x2600 + p) 0x13
def LPI_TX_ENTRIES (p : Nat) : Addr := entry (0x2600 + p) 0x14
def LINK_DOWNS (p : Nat) : Addr := entry (0x2600 + p) 0x15
def MGMT_MODE : Addr := entry 0x2800 0x01
def MGMT_MTU : Addr := entry 0x2800 0x02
def MGMT_STATUS : Addr := entry 0x2800 0x03
def MGMT_FIFO_DROPS : Addr := entry 0x2800 0x04
def START_FRONT : Addr := entry 0x3000 0x01
def START_RECIRC : Addr := entry 0x3000 0x02
def START_INJECT : Addr := entry 0x3000 0x03
def START_MGMT : Addr := entry 0x3000 0x04
def PARSE_STATES : Addr := entry 0xE300 0x00
def PARSE_ROWS : Addr := entry 0xE301 0x00
def SIEVE_PATTERNS : Addr := entry 0xE302 0x00
def LEN_CONFLICT_ACTION : Addr := entry 0x3010 0x01
def TRUNCATED_ACTION : Addr := entry 0x3010 0x02
def FAIL_ACTION : Addr := entry 0x3010 0x03
def CSUM_ACTION : Addr := entry 0x3010 0x04
def SIEVE_OVERFLOW_ACTION : Addr := entry 0x3010 0x05
def SKIPPED_ACTION : Addr := entry 0x3010 0x06
def TRAP_POLICER (r : Nat) : Addr := entry (0x3100 + r) 0x01
def TRAP_QUEUE (r : Nat) : Addr := entry (0x3100 + r) 0x02
def IS_PUNT (r : Nat) : Addr := entry (0x3100 + r) 0x03
def REASON_TRAPPED (r : Nat) : Addr := entry (0x3100 + r) 0x04
def REASON_POLICED (r : Nat) : Addr := entry (0x3100 + r) 0x05
def PRESS_PARSED (s : Nat) : Addr := entry (0x3200 + s) 0x01
def PRESS_DONE (s : Nat) : Addr := entry (0x3200 + s) 0x02
def TRUNCATED (s : Nat) : Addr := entry (0x3200 + s) 0x03
def LEN_CONFLICTS (s : Nat) : Addr := entry (0x3200 + s) 0x04
def FAILS (s : Nat) : Addr := entry (0x3200 + s) 0x05
def CSUM_BAD (s : Nat) : Addr := entry (0x3200 + s) 0x06
def SIEVE_OVERFLOWS (s : Nat) : Addr := entry (0x3200 + s) 0x07
def SKIPPED (s : Nat) : Addr := entry (0x3200 + s) 0x08
def LATE_LEN_CONFLICTS (s : Nat) : Addr := entry (0x3200 + s) 0x09
def TARGET (n : Nat) : Addr := entry (0x4100 + n) 0x01
def PROFILE_KEY_FIELD (n : Nat) (i : Nat) : Addr := entry (0x4100 + n) (0x02 + i)
def EXACT_TID (n : Nat) : Addr := entry (0x4100 + n) 0x0A
def POWER_MODE (n : Nat) : Addr := entry (0x4100 + n) 0x0B
def PROFILE_FLAGS (n : Nat) : Addr := entry (0x4100 + n) 0x0C
def MISS_DATA (n : Nat) : Addr := entry (0x4100 + n) 0x0D
def LATENCY (n : Nat) : Addr := entry (0x4100 + n) 0x0E
def BANK_PROFILE (b : Nat) : Addr := entry (0x4200 + b) 0x01
def BANK_MASK (b : Nat) : Addr := entry (0x4200 + b) 0x02
def BANK_PHYSICAL (b : Nat) : Addr := entry (0x4200 + b) 0x03
def BANK_ROWS (b : Nat) : Addr := entry (0x4200 + b) 0x04
def HASH_SEED (i : Nat) : Addr := entry 0x4000 (0x01 + i)
def BANK_LOSS_ACTION : Addr := entry 0x4000 0x04
def SHADOW_PASS_S : Addr := entry 0x4000 0x05
def EDIT_REFUSED_RECORD : Addr := entry 0x4000 0x06
def EDIT_REFUSED_CAUSE : Addr := entry 0x4000 0x07
def EXACT_ENTRIES : Addr := entry 0xE400 0x00
def LPM_ENTRIES : Addr := entry 0xE401 0x00
def MASK_ROWS : Addr := entry 0xE402 0x00
def CARE_ENTRIES : Addr := entry 0xE403 0x00
def TABLE_EDITS : Addr := entry 0xE40F 0x00
def MASK_SPARES_FREE : Addr := entry 0x4400 0x01
def EXACT_SPARES_FREE : Addr := entry 0x4400 0x02
def LPM_SPARES_FREE : Addr := entry 0x4400 0x03
def MASK_BANKS_OUT : Addr := entry 0x4400 0x04
def EXACT_BANKS_OUT : Addr := entry 0x4400 0x05
def LPM_BANKS_OUT : Addr := entry 0x4400 0x06
def CARE_BANKS_OUT : Addr := entry 0x4400 0x07
def ENTRIES_LOST : Addr := entry 0x4400 0x08
def CORRECTED : Addr := entry 0x4400 0x09
def UNCORRECTABLE : Addr := entry 0x4400 0x0A
def SHADOW_PASSES : Addr := entry 0x4400 0x0B
def SHADOW_MISMATCHES : Addr := entry 0x4400 0x0C
def EXACT_USED : Addr := entry 0x4400 0x0D
def LPM4_USED : Addr := entry 0x4400 0x0E
def LPM6_USED : Addr := entry 0x4400 0x0F
def MASK_USED : Addr := entry 0x4400 0x10
def CARE_USED : Addr := entry 0x4400 0x11
def SEARCHES (n : Nat) : Addr := entry (0x4500 + n) 0x01
def HITS (n : Nat) : Addr := entry (0x4500 + n) 0x02
def TIES (n : Nat) : Addr := entry (0x4500 + n) 0x03
def VERIFY_FAILS (n : Nat) : Addr := entry (0x4500 + n) 0x04
def DEGRADED_RESULTS (n : Nat) : Addr := entry (0x4500 + n) 0x05
def PASS_LIMIT_MAX : Addr := entry 0x5000 0x01
def BG_WORD_LIMIT : Addr := entry 0x5000 0x02
def BG_STATUS : Addr := entry 0x5000 0x03
def BG_ABORTS : Addr := entry 0x5000 0x04
def BG_LAST_ABORT : Addr := entry 0x5000 0x05
def BG_OUTPUT_LOST : Addr := entry 0x5000 0x06
def AGE_ENABLE : Addr := entry 0x5001 0x01
def AGE_PERIOD_S : Addr := entry 0x5001 0x02
def AGED_PASSES : Addr := entry 0x5001 0x03
def TRIG_ENABLE (t : Nat) : Addr := entry (0x5200 + t) 0x01
def TRIG_ENTRY (t : Nat) : Addr := entry (0x5200 + t) 0x02
def TRIG_PERIOD (t : Nat) : Addr := entry (0x5200 + t) 0x03
def TRIG_STARTS (t : Nat) : Addr := entry (0x5200 + t) 0x04
def TRIG_SKIPPED (t : Nat) : Addr := entry (0x5200 + t) 0x05
def NO_PROGRAM (s : Nat) : Addr := entry (0x5300 + s) 0x01
def NO_DISPOSITION (s : Nat) : Addr := entry (0x5300 + s) 0x02
def PROGRAM_DISCARDS (s : Nat) : Addr := entry (0x5300 + s) 0x03
def PASS_LIMIT_DISCARDS (s : Nat) : Addr := entry (0x5300 + s) 0x04
def VINTAGE_EXPIRED (s : Nat) : Addr := entry (0x5300 + s) 0x05
def RECIRC_PASSES (s : Nat) : Addr := entry (0x5300 + s) 0x06
def MIRROR_EXCESS (s : Nat) : Addr := entry (0x5300 + s) 0x07
def STORE_ERRORS (s : Nat) : Addr := entry (0x5300 + s) 0x08
def BAD_PORT (s : Nat) : Addr := entry (0x5300 + s) 0x09
def INGRESS_PROGRAMS : Addr := entry 0xE500 0x00
def EGRESS_PROGRAMS : Addr := entry 0xE501 0x00
def FACTORY_IMAGE : Addr := entry 0xE502 0x00
def OPEN_IMAGE_ALL : Addr := entry 0xE503 0x00
def BG_OPEN_IMAGE : Addr := entry 0xE504 0x00
def BG_OUTPUT : Addr := entry 0xE505 0x00
def AGED_LIST : Addr := entry 0xE506 0x00
def OPEN_IMAGE (s : Nat) : Addr := entry (0xE520 + s) 0x00
def BIN_BANKS (i : Nat) : Addr := entry 0x6000 (0x01 + i)
def BIN_MAX_LENGTH (i : Nat) : Addr := entry 0x6000 (0x05 + i)
def RESERVE_CLASS : Addr := entry 0x6000 0x09
def UNITS_IN_SERVICE : Addr := entry 0x6010 0x01
def FREE_UNITS : Addr := entry 0x6010 0x02
def GUARD_UNITS : Addr := entry 0x6010 0x03
def XON_DELTA : Addr := entry 0x6010 0x04
def CPU_Q_MIN : Addr := entry 0x6010 0x05
def CPU_ALPHA : Addr := entry 0x6010 0x06
def RECIRC_Q_MIN : Addr := entry 0x6010 0x07
def RECIRC_ALPHA : Addr := entry 0x6010 0x08
def FRAME_RECORDS_FREE : Addr := entry 0x6010 0x09
def COPY_DESCRIPTORS_FREE : Addr := entry 0x6010 0x0A
def MC_GROUPS : Addr := entry 0xE600 0x00
def IN_MIN (p : Nat) (i : Nat) : Addr := entry (0x6100 + p) (0x01 + i)
def IN_ALPHA (p : Nat) : Addr := entry (0x6100 + p) 0x09
def HEADROOM (p : Nat) (i : Nat) : Addr := entry (0x6100 + p) (0x0A + i)
def PCP_DEFAULT (p : Nat) : Addr := entry (0x6100 + p) 0x12
def Q_MIN_UC (p : Nat) (i : Nat) : Addr := entry (0x6300 + p) (0x01 + i)
def Q_MIN_MC (p : Nat) (i : Nat) : Addr := entry (0x6300 + p) (0x09 + i)
def Q_ALPHA_UC (p : Nat) : Addr := entry (0x6300 + p) 0x11
def Q_ALPHA_MC (p : Nat) : Addr := entry (0x6300 + p) 0x12
def RACK_CLASSES (p : Nat) : Addr := entry (0x6300 + p) 0x13
def RACK_START (p : Nat) : Addr := entry (0x6300 + p) 0x14
def RACK_KEEP (p : Nat) : Addr := entry (0x6300 + p) 0x15
def RACK_BACKLOG_MAX (p : Nat) : Addr := entry (0x6300 + p) 0x16
def CELLAR_MAX (p : Nat) : Addr := entry (0x6300 + p) 0x17
def NO_CELL (p : Nat) (i : Nat) : Addr := entry (0x6500 + p) (0x01 + i)
def INGRESS_LIMIT (p : Nat) : Addr := entry (0x6500 + p) 0x09
def QUEUE_LIMIT (p : Nat) : Addr := entry (0x6500 + p) 0x0A
def RACK_LIMIT (p : Nat) : Addr := entry (0x6500 + p) 0x0B
def CELLAR_ERROR (p : Nat) : Addr := entry (0x6500 + p) 0x0C
def CELL_ERROR (p : Nat) : Addr := entry (0x6500 + p) 0x0D
def MC_COPY_DISCARDS (p : Nat) : Addr := entry (0x6500 + p) 0x0E
def RACKED_OUT (p : Nat) : Addr := entry (0x6500 + p) 0x0F
def RETURNED (p : Nat) : Addr := entry (0x6500 + p) 0x10
def RACK_STALLS (p : Nat) : Addr := entry (0x6500 + p) 0x11
def XOFF_CLASSES (p : Nat) : Addr := entry (0x6500 + p) 0x12
def CELLAR_UNITS (p : Nat) : Addr := entry (0x6500 + p) 0x13
def RACK_OUT_GBPS : Addr := entry 0x6700 0x01
def RACK_IN_GBPS : Addr := entry 0x6700 0x02
def CELLAR_CELLS_IN_SERVICE : Addr := entry 0x6700 0x03
def CELLAR_CELLS_FREE : Addr := entry 0x6700 0x04
def RACKED_RECORDS : Addr := entry 0x6700 0x05
def PC_SPARES_FREE : Addr := entry 0x6700 0x06
def PC_OUT : Addr := entry 0x6700 0x07
def CASK_SPARES_FREE : Addr := entry 0x6800 0x01
def CASK_BANKS_OUT : Addr := entry 0x6800 0x02
def CELLS_LOST : Addr := entry 0x6800 0x03
def FREE_REJECTS : Addr := entry 0x6800 0x04
def FREE_REJECT_LAST : Addr := entry 0x6800 0x05
def CASK_CORRECTED : Addr := entry 0x6800 0x06
def CASK_UNCORRECTABLE : Addr := entry 0x6800 0x07
def REPLICATION_FULL : Addr := entry 0x6800 0x08
def NO_DESCRIPTOR : Addr := entry 0x6800 0x09
def NO_CELL_INTERNAL : Addr := entry 0x6800 0x0A
def QUEUE_LIMIT_INTERNAL : Addr := entry 0x6800 0x0B
def PORT_SCHED (p : Nat) : Addr := entry (0x7100 + p) 0x01
def PORT_RATE_MBPS (p : Nat) : Addr := entry (0x7100 + p) 0x02
def PORT_BURST (p : Nat) : Addr := entry (0x7100 + p) 0x03
def LENGTH_ADJUST (p : Nat) : Addr := entry (0x7100 + p) 0x04
def GATE_LIST (p : Nat) : Addr := entry (0x7100 + p) 0x05
def GROUP (p : Nat) (i : Nat) : Addr := entry (0x7100 + p) (0x06 + i)
def GROUP_RATE_MBPS (p : Nat) (i : Nat) : Addr := entry (0x7100 + p) (0x0A + i)
def GROUP_BURST (p : Nat) (i : Nat) : Addr := entry (0x7100 + p) (0x0E + i)
def QUEUE_CTRL (p : Nat) (i : Nat) : Addr := entry (0x7100 + p) (0x12 + i)
def QUEUE_RATE_MBPS (p : Nat) (i : Nat) : Addr := entry (0x7100 + p) (0x22 + i)
def QUEUE_BURST (p : Nat) (i : Nat) : Addr := entry (0x7100 + p) (0x32 + i)
def GATE_BASE_TIME (g : Nat) : Addr := entry (0x7600 + g) 0x01
def GATE_LENGTH (g : Nat) : Addr := entry (0x7600 + g) 0x02
def GATE_ENTRY (g : Nat) (i : Nat) : Addr := entry (0x7600 + g) (0x03 + i)
def GATE_OVERRUNS (p : Nat) : Addr := entry (0x7300 + p) 0x01
def GATE_WAITS (p : Nat) : Addr := entry (0x7300 + p) 0x02
def TC7_WAIT_MAX (p : Nat) : Addr := entry (0x7300 + p) 0x03
def MIRROR_DEST (m : Nat) : Addr := entry (0x6900 + m) 0x01
def MIRROR_CLASS (m : Nat) : Addr := entry (0x6900 + m) 0x02
def MIRROR_CPU_QUEUE (m : Nat) : Addr := entry (0x6900 + m) 0x03
def MIRROR_TRUNCATE (m : Nat) : Addr := entry (0x6900 + m) 0x04
def MIRROR_FLAGS (m : Nat) : Addr := entry (0x6900 + m) 0x05
def MIRROR_POLICER (m : Nat) : Addr := entry (0x6900 + m) 0x06
def MIRROR_COPIES (m : Nat) : Addr := entry (0x6900 + m) 0x07
def MIRROR_POLICED (m : Nat) : Addr := entry (0x6900 + m) 0x08
def DISCARDS_BY_REASON (i : Nat) : Addr := entry 0x6A00 (0x01 + i)
def PORT_INTAKE_FULL (p : Nat) : Addr := entry (0x6B00 + p) 0x01
def PORT_LINK_DOWN (p : Nat) : Addr := entry (0x6B00 + p) 0x02
def PORT_EGRESS_MTU (p : Nat) : Addr := entry (0x6B00 + p) 0x03
def TIME_STATUS : Addr := entry 0x8000 0x01
def TIME_SOURCE : Addr := entry 0x8000 0x02
def TIME_CLOCK : Addr := entry 0x8000 0x03
def TIME_NOW : Addr := entry 0x8000 0x04
def TIME_STEP_NS : Addr := entry 0x8000 0x05
def PPS_SECONDS : Addr := entry 0x8000 0x06
def TIME_RELEASE : Addr := entry 0x8000 0x07
def TIME_RATE : Addr := entry 0x8000 0x08
def TIME_CAPTURE : Addr := entry 0x8000 0x09
def CAPTURED_TIME : Addr := entry 0x8000 0x0A
def CAPTURED_FRAC : Addr := entry 0x8000 0x0B
def CAPTURED_ROUND : Addr := entry 0x8000 0x0C
def BOUNDARY_TIME : Addr := entry 0x8000 0x0D
def PPS_PHASE_NS : Addr := entry 0x8000 0x0E
def STEP_COUNT : Addr := entry 0x8000 0x0F
def TS_SKIPPED : Addr := entry 0x8000 0x10
def TX_LATENCY_PS (p : Nat) : Addr := entry (0x8010 + p / 128) (p % 128 + 1)
def RX_LATENCY_PS (p : Nat) : Addr := entry (0x8014 + p / 128) (p % 128 + 1)
def ASYMMETRY_PS (p : Nat) : Addr := entry (0x8018 + p / 128) (p % 128 + 1)
def ONE_STEP_PORTS (i : Nat) : Addr := entry 0x8020 (0x01 + i)
def TX_STAMPS_WRITTEN : Addr := entry 0x8030 0x01
def TX_STAMP_READ : Addr := entry 0x8030 0x02
def TX_STAMPS_LOST : Addr := entry 0x8030 0x03
def TX_STAMPS : Addr := entry 0xE800 0x00
def PPS_IN_PIN : Addr := entry 0x8001 0x01
def PPS_OUT_PIN : Addr := entry 0x8001 0x02
def PPS_IN_DELAY_PS : Addr := entry 0x8001 0x03
def PPS_OUT_WIDTH_US : Addr := entry 0x8001 0x04
def RCLK_LANE_0 : Addr := entry 0x8001 0x05
def RCLK_DIV_0 : Addr := entry 0x8001 0x06
def RCLK_LANE_1 : Addr := entry 0x8001 0x07
def RCLK_DIV_1 : Addr := entry 0x8001 0x08
def RCLK_STATUS : Addr := entry 0x8001 0x09
def CLEAR_FIRST : Addr := entry 0x8100 0x01
def CLEAR_COUNT : Addr := entry 0x8100 0x02
def CLEAR : Addr := entry 0x8100 0x03
def CLEARS_DONE : Addr := entry 0x8100 0x04
def CHAIN_FIRST (c : Nat) : Addr := entry (0x8110 + c) 0x01
def CHAIN_COUNT (c : Nat) : Addr := entry (0x8110 + c) 0x02
def COUNTERS : Addr := entry 0xE820 0x00
def BW_WINDOW_ROUNDS (p : Nat) : Addr := entry (0x8200 + p) 0x01
def WINDOW_NS (p : Nat) : Addr := entry (0x8200 + p) 0x02
def RX_WINDOW_BYTES (p : Nat) : Addr := entry (0x8200 + p) 0x03
def TX_WINDOW_BYTES (p : Nat) : Addr := entry (0x8200 + p) 0x04
def RX_PEAK_BYTES (p : Nat) : Addr := entry (0x8200 + p) 0x05
def TX_PEAK_BYTES (p : Nat) : Addr := entry (0x8200 + p) 0x06
def HIST_CONTROL (p : Nat) : Addr := entry (0x8200 + p) 0x07
def HIST_BASE (p : Nat) : Addr := entry (0x8200 + p) 0x08
def STOMPS_CAUSED (p : Nat) : Addr := entry (0x8200 + p) 0x09
def SAMPLER_CONTROL (k : Nat) : Addr := entry (0x8700 + k) 0x01
def SAMPLE_RATE (k : Nat) : Addr := entry (0x8700 + k) 0x02
def SAMPLED (k : Nat) : Addr := entry (0x8700 + k) 0x03
def RING_CHANNEL (x : Nat) : Addr := entry (0x8800 + x) 0x01
def RING_BASE (x : Nat) : Addr := entry (0x8800 + x) 0x02
def RING_RECORDS (x : Nat) : Addr := entry (0x8800 + x) 0x03
def RING_CONSUMED (x : Nat) : Addr := entry (0x8800 + x) 0x04
def RING_WRITTEN (x : Nat) : Addr := entry (0x8800 + x) 0x05
def RING_LOST (x : Nat) : Addr := entry (0x8800 + x) 0x06
def HARVEST_ENABLE : Addr := entry 0x8600 0x01
def HARVEST_PERIOD_NS : Addr := entry 0x8600 0x02
def HARVEST_BASE_TIME : Addr := entry 0x8600 0x03
def HARVEST_FIRST_PAGE : Addr := entry 0x8600 0x04
def HARVEST_PAGES : Addr := entry 0x8600 0x05
def HARVEST_CHANNEL : Addr := entry 0x8600 0x06
def HARVEST_RING_BASE : Addr := entry 0x8600 0x07
def HARVEST_RING_SLOTS : Addr := entry 0x8600 0x08
def HARVEST_SLOT_BYTES : Addr := entry 0x8600 0x09
def HARVEST_CONSUMED : Addr := entry 0x8600 0x0A
def HARVEST_WRITTEN : Addr := entry 0x8600 0x0B
def HARVEST_SKIPPED : Addr := entry 0x8600 0x0C
def OBS_DOMAIN_ID : Addr := entry 0x8900 0x01
def IPFIX_EPOCH_OFFSET : Addr := entry 0x8900 0x02
def TEMPLATE_REFRESH : Addr := entry 0x8900 0x03
def IPFIX_MESSAGE_MAX : Addr := entry 0x8900 0x04
def FLOW_EXPORTED : Addr := entry 0x8900 0x05
def FLOW_COLLISIONS : Addr := entry 0x8900 0x06
def FLOW_IGNORED : Addr := entry 0x8900 0x07
def FLOW_FIRST (t : Nat) : Addr := entry (0x8910 + t) 0x01
def FLOW_COUNT (t : Nat) : Addr := entry (0x8910 + t) 0x02
def TEMPLATE_ID (t : Nat) : Addr := entry (0x8910 + t) 0x03
def IDLE_TIMEOUT_S (t : Nat) : Addr := entry (0x8910 + t) 0x04
def ACTIVE_TIMEOUT_S (t : Nat) : Addr := entry (0x8910 + t) 0x05
def FLOW_KEY_FIELD (t : Nat) (i : Nat) : Addr := entry (0x8910 + t) (0x06 + i)
def FLOW_KEY_IE (t : Nat) (i : Nat) : Addr := entry (0x8910 + t) (0x0E + i)
def IOAM_NODE_ID : Addr := entry 0x8A00 0x01
def IOAM_NAMESPACE : Addr := entry 0x8A00 0x02
def IOAM_NS_DATA : Addr := entry 0x8A00 0x03
def IOAM_MAX_ADD : Addr := entry 0x8A00 0x04
def IOAM_SKIPPED : Addr := entry 0x8A00 0x05
def IOAM_OVERFLOWS : Addr := entry 0x8A00 0x06
def IOAM_PORTS (i : Nat) : Addr := entry 0x8A01 (0x01 + i)
def SEAL_STATE : Addr := entry 0x9000 0x01
def GAUGE_STATUS : Addr := entry 0x9000 0x02
def GAUGE_TIME : Addr := entry 0x9000 0x03
def RESEAL_COUNT : Addr := entry 0x9000 0x04
def KEY_NUMBER : Addr := entry 0x9000 0x05
def PUBLIC_KEY : Addr := entry 0x9000 0x06
def NEXT_RECORD : Addr := entry 0x9000 0x07
def NEXT_AUDIT : Addr := entry 0x9000 0x08
def TAP_CRC_ERRORS : Addr := entry 0x9000 0x09
def TAP_SEQUENCE_GAPS : Addr := entry 0x9000 0x0A
def TAP_TOTAL : Addr := entry 0x9000 0x0B
def INTERVAL_MINUTES : Addr := entry 0x9010 0x01
def HOLDOVER_LIMIT_S : Addr := entry 0x9010 0x02
def PPS_WINDOW_NS : Addr := entry 0x9010 0x03
def METER_LABEL : Addr := entry 0x9010 0x04
def PARAM_DIGEST : Addr := entry 0x9010 0x05
def GAUGE_SEAL : Addr := entry 0x9020 0x01
def GAUGE_RECORDS : Addr := entry 0xE900 0x00
def GAUGE_AUDIT : Addr := entry 0xE901 0x00
def BULK_SHARE_TOTAL_KIB : Addr := entry 0xA000 0x01
def PRIORITY_PREEMPTS : Addr := entry 0xA000 0x02
def CHANNELS_RETIRED : Addr := entry 0xA000 0x03
def CPU_QUEUE_CHANNEL (i : Nat) : Addr := entry 0xA010 (0x01 + i)
def COMPLETION_PENDING (i : Nat) : Addr := entry 0xA020 (0x01 + i)
def CHANNEL_USE (c : Nat) : Addr := entry (0xA100 + c) 0x01
def WALK_BUDGET (c : Nat) : Addr := entry (0xA100 + c) 0x02
def BUFFER_SHARE_KIB (c : Nat) : Addr := entry (0xA100 + c) 0x03
def COMPL_BASE (c : Nat) : Addr := entry (0xA100 + c) 0x04
def COMPL_SLOTS (c : Nat) : Addr := entry (0xA100 + c) 0x05
def DOMAIN_ENTRY (c : Nat) : Addr := entry (0xA100 + c) 0x06
def DOMAIN_CONTROL (c : Nat) : Addr := entry (0xA100 + c) 0x07
def DOMAIN_OFFSET (c : Nat) : Addr := entry (0xA100 + c) 0x08
def DOMAIN_LENGTH (c : Nat) : Addr := entry (0xA100 + c) 0x09
def DOMAIN_CRC (c : Nat) : Addr := entry (0xA100 + c) 0x0A
def DOMAIN_ARM (c : Nat) : Addr := entry (0xA100 + c) 0x0B
def DOMAIN_RESULT (c : Nat) : Addr := entry (0xA100 + c) 0x0C
def CHANNEL_STATUS (c : Nat) : Addr := entry (0xA100 + c) 0x0D
def DESCRIPTORS_DONE (c : Nat) : Addr := entry (0xA100 + c) 0x0E
def BYTES_MOVED (c : Nat) : Addr := entry (0xA100 + c) 0x0F
def BAD_DESCRIPTORS (c : Nat) : Addr := entry (0xA100 + c) 0x10
def CHAIN_LOOPS (c : Nat) : Addr := entry (0xA100 + c) 0x11
def CHANNEL_STRIKES (c : Nat) : Addr := entry (0xA100 + c) 0x12
def IGNORED_WRITES (c : Nat) : Addr := entry (0xA100 + c) 0x13
def POWER_CAP_W : Addr := entry 0xB000 0x01
def POWER_CAP_FLOOR_W : Addr := entry 0xB000 0x02
def CAP_MARGIN_W : Addr := entry 0xB000 0x03
def SKIP_MAX : Addr := entry 0xB000 0x04
def NARROW_ALLOWED : Addr := entry 0xB000 0x05
def THROTTLE_TJ_C : Addr := entry 0xB000 0x06
def HBM_THROTTLE_C : Addr := entry 0xB000 0x07
def LOW_BAND_HOLD : Addr := entry 0xB000 0x08
def BAND_EDGE (i : Nat) : Addr := entry 0xB000 (0x09 + i)
def REST_SLEEP_PORTS (i : Nat) : Addr := entry 0xB001 (0x01 + i)
def PREF_MODE (i : Nat) : Addr := entry 0xB010 (0x01 + i)
def PREF_RUN (i : Nat) : Addr := entry 0xB010 (0x08 + i)
def PREF_JOINED (i : Nat) : Addr := entry 0xB010 (0x0C + i)
def POWER_STATE : Addr := entry 0xB020 0x01
def POWER_SKIPS : Addr := entry 0xB020 0x02
def EPOCH_POWER_MW : Addr := entry 0xB020 0x03
def TJ_MAX : Addr := entry 0xB020 0x04
def OP_CHANGES : Addr := entry 0xB020 0x05
def DROOP_EVENTS : Addr := entry 0xB020 0x06
def DROOP_SKIPS : Addr := entry 0xB020 0x07
def CAP_SKIPS : Addr := entry 0xB020 0x08
def NARROW_DISCARDS : Addr := entry 0xB020 0x09
def ENERGY_TOTAL_UJ : Addr := entry 0xB020 0x0A
def ENERGY_UNATTRIBUTED_UJ : Addr := entry 0xB020 0x0B
def RAIL_POWER_MW (i : Nat) : Addr := entry 0xB030 (0x01 + i)
def RAIL_ENERGY_UJ (i : Nat) : Addr := entry 0xB030 (0x0D + i)
def PORT_ENERGY_UJ (p : Nat) : Addr := entry (0xB040 + p / 128) (p % 128 + 1)
def JOIN_ENABLE : Addr := entry 0xB100 0x01
def JOIN_ROLE : Addr := entry 0xB100 0x02
def JOIN_WIDTH : Addr := entry 0xB100 0x03
def JOIN_STATE : Addr := entry 0xB100 0x04
def PARTNER_SERIAL : Addr := entry 0xB100 0x05
def PARTNER_STEPPING : Addr := entry 0xB100 0x06
def CHECK_MEMBER : Addr := entry 0xB100 0x07
def MIN_ACTIVE_LANES : Addr := entry 0xB100 0x08
def SPLIT_ACTION : Addr := entry 0xB100 0x09
def JOIN_DELAY_PS : Addr := entry 0xB100 0x0A
def PACE_OFFSET_MAX : Addr := entry 0xB100 0x0B
def SPLITS : Addr := entry 0xB100 0x0C
def SPLIT_CAUSE : Addr := entry 0xB100 0x0D
def CROSS_LOST : Addr := entry 0xB100 0x0E
def JOIN_INGRESS_LIMIT : Addr := entry 0xB100 0x0F
def ACTIVE_LANES (d : Nat) : Addr := entry (0xB110 + d) 0x01
def LANE_MAP (d : Nat) (i : Nat) : Addr := entry (0xB110 + d) (0x02 + i)
def CROSS_RATE_GBPS (d : Nat) : Addr := entry (0xB110 + d) 0x0A
def NARROWINGS (d : Nat) : Addr := entry (0xB110 + d) 0x0B
def REPLAYS (d : Nat) : Addr := entry (0xB110 + d) 0x0C
def CROSSINGS (d : Nat) : Addr := entry (0xB110 + d) 0x0D
def HOLD_ACTIVE (d : Nat) : Addr := entry (0xB110 + d) 0x0E
def CROSS_Q_MIN (i : Nat) : Addr := entry 0xB120 (0x01 + i)
def CROSS_ALPHA : Addr := entry 0xB120 0x09
def JOIN_IN_MIN (i : Nat) : Addr := entry 0xB120 (0x0A + i)
def JOIN_ALPHA : Addr := entry 0xB120 0x12
def JOIN_HEADROOM (i : Nat) : Addr := entry 0xB120 (0x13 + i)
def GROUP_STATUS (g : Nat) : Addr := entry (0xC100 + g) 0x01
def GROUP_ENABLE (g : Nat) : Addr := entry (0xC100 + g) 0x02
def GROUP_ROUTE (g : Nat) : Addr := entry (0xC100 + g) 0x03
def SOURCE_OCC (g : Nat) (i : Nat) : Addr := entry (0xC200 + g) (0x01 + i)
def SOURCE_DETAIL (g : Nat) (i : Nat) : Addr := entry (0xC300 + g) (0x01 + i)
def SOURCE_RAISES (g : Nat) (i : Nat) : Addr := entry (0xC400 + g) (0x01 + i)
def STRIKE_THRESHOLD (k : Nat) : Addr := entry (0xC020 + k) 0x01
def STRIKE_WINDOW_MS (k : Nat) : Addr := entry (0xC020 + k) 0x02
def STRIKES_TOTAL (k : Nat) : Addr := entry (0xC020 + k) 0x03
def RETIREMENTS (k : Nat) : Addr := entry (0xC020 + k) 0x04
def MAP_STATE : Addr := entry 0xC040 0x01
def MAP_RECORDS : Addr := entry 0xC040 0x02
def MAP_SEQUENCE : Addr := entry 0xC040 0x03
def MAP_WRITE_FAILS : Addr := entry 0xC040 0x04
def RETIRE_REQUEST : Addr := entry 0xC040 0x05
def UNRETIRE_REQUEST : Addr := entry 0xC040 0x06
def UNRETIRE_PENDING : Addr := entry 0xC040 0x07
def SCRUB_PASS_S : Addr := entry 0xC050 0x01
def SCRUB_PASSES : Addr := entry 0xC050 0x02
def SCRUB_CORRECTED : Addr := entry 0xC050 0x03
def SCRUB_UNCORRECTABLE : Addr := entry 0xC050 0x04
def BOOK_REPAIRS : Addr := entry 0xC050 0x05
def RETIREMENT_MAP : Addr := entry 0xEC00 0x00
def SAFE_HOLD_CAUSE : Addr := entry 0xC060 0x01
def SAFE_HOLD_DETAIL : Addr := entry 0xC060 0x02
def SAFE_HOLD_TIME : Addr := entry 0xC060 0x03
def LAST_SAFE_HOLD_CAUSE : Addr := entry 0xC060 0x04
def SAFE_HOLD_TOTAL : Addr := entry 0xC060 0x05
def DEVICE_ID : Addr := entry 0x0000 0x01
def STEPPING : Addr := entry 0x0000 0x02
def SERIAL : Addr := entry 0x0000 0x03
def GRADE : Addr := entry 0x0000 0x04
def CAPABILITIES : Addr := entry 0x0000 0x05
def FIRMWARE_VERSION : Addr := entry 0x0000 0x06
def FIRMWARE_DIGEST : Addr := entry 0x0000 0x07
def BOOT_SLOT : Addr := entry 0x0000 0x08
def BOOT_TIME_US : Addr := entry 0x0000 0x09
def ROLLBACK_MIN : Addr := entry 0x0000 0x0A
def ROOT_REVOKED : Addr := entry 0x0000 0x0B
def ROLLBACK_ADVANCE : Addr := entry 0xD000 0x01
def DRAIN_LIMIT_MS : Addr := entry 0xD000 0x02
def DRAIN_STATE : Addr := entry 0xD000 0x03
def RECOVERY_STATE : Addr := entry 0xD000 0x04
def CARE_TEST_KEY : Addr := entry 0xD100 0x01
def CARE_TEST_GO : Addr := entry 0xD100 0x02
def CARE_TEST_RESULT : Addr := entry 0xD100 0x03
def DIAG_LANE_CTRL (l : Nat) : Addr := entry (0xD200 + l) 0x01
def DIAG_ERRORS (l : Nat) : Addr := entry (0xD200 + l) 0x02
def DIAG_BITS (l : Nat) : Addr := entry (0xD200 + l) 0x03
def CELL_HANDLE : Addr := entry 0xD400 0x01
def CELL_HEADER : Addr := entry 0xD400 0x02
def BUS_MODE (b : Nat) : Addr := entry (0x2E00 + b) 0x01
def BUS_REQUEST (b : Nat) : Addr := entry (0x2E00 + b) 0x02
def BUS_DATA (b : Nat) : Addr := entry (0x2E00 + b) 0x03
def BUS_STATUS (b : Nat) : Addr := entry (0x2E00 + b) 0x04
def GPIO_DIR : Addr := entry 0x2E20 0x01
def GPIO_OUT : Addr := entry 0x2E20 0x02
def GPIO_IN : Addr := entry 0x2E20 0x03
def BOARD_CHANNEL (L : Nat) : Addr := entry (0x2F00 + L / 2) (1 + 4 * (L % 2))
def BOARD_TX_FAST (L : Nat) : Addr := entry (0x2F00 + L / 2) (2 + 4 * (L % 2))
def BOARD_TX_STD (L : Nat) : Addr := entry (0x2F00 + L / 2) (3 + 4 * (L % 2))
def BOARD_RX_AND_SWING (L : Nat) : Addr := entry (0x2F00 + L / 2) (4 + 4 * (L % 2))
def POLICERS : Addr := entry 0xE700 0x00
def IMAGE_SLOT_A : Addr := entry 0xEF00 0x00
def IMAGE_SLOT_B : Addr := entry 0xEF01 0x00

end Sys2Proof.Machine.E
end

