-- ==== Sys2Proof/Machine/State.lean ====
section
/-! DEFINITION. The block's state: every register, buffer, counter, mode and pin the spec gives it, as plain data,
and the queue of waiting commands. -/

namespace Sys2Proof.Machine

open Sys2Proof

/-! ### Why a command can stop -/

/-- A fault of the block: there is none. A device fault (a discard, a strike, Safe-Hold) is an effect on the state. -/
inductive Fault where
  /-- raised by no command; the type needs a member to be printed. Safe -/
  | none
deriving DecidableEq, Repr

/-- Why a command is refused. -/
inductive Refusal where
  /-- the command has no meaning in this model yet: its mnemonic. Safe -/
  | notModelled (mnemonic : String)
  /-- FACTORY_ACTION: the spec names no effect for the factory action codes 0x18 to 0x1F (R198). Safe -/
  | factoryActionUnspecified
deriving DecidableEq, Repr

/-! ### Modes and phases -/

/-- The twelve major modes of Table 1.7. -/
inductive Mode where
  | off | reset | boot | configure | check | run | joinedRun | drain | rest | recovery | diagnostic | safeHold
deriving DecidableEq, Repr

/-- The phases of a commit (Table 2.7, field STATE). -/
inductive CommitState where
  | idle | checking | preparing | armed | retiring | refused | aborted
deriving DecidableEq, Repr

/-- The round clock (R17, R22, R23). -/
structure Clock where
  /-- counted slots since the last round boundary, 0 to 1,024; at 1,024 the boundary is due -/
  slot : Nat := 0
  /-- skip slots since the last round boundary, and those of them that power and pace planned (R406, R432) -/
  skips : Nat := 0
  planned : Nat := 0
  /-- counted slots since Boot started -/
  slots : Nat := 0
  /-- time since Boot started, in ps -/
  nowPs : Nat := 0
  /-- nowPs at the last round boundary -/
  roundStartPs : Nat := 0
  /-- the length of the last closed round in ps -/
  lastRoundPs : Nat := 0
  /-- a tap period closed at the last boundaries and its records are not yet sent -/
  tapDue : Bool := false
  /-- the tap snapshot of the boundary that comes next is already taken -/
  tapTaken : Bool := false
deriving DecidableEq, Repr

/-- Device time (Time, R304 to R325): nanoseconds since the origin, modulo 2^48 seconds. -/
structure DevTime where
  ns : Nat := 0
  /-- fraction of a nanosecond in units of 2^-42 ns -/
  frac : Nat := 0
  /-- ps that have passed since the last tick of the time clock -/
  restPs : Nat := 0
  /-- a step in ns, two's complement in 64 bits, waiting for the next tick (R309) -/
  stepPending : Option Nat := none
  /-- the seconds armed for the next PPS_IN edge (R310) -/
  ppsArmed : Option Nat := none
  /-- nowPs at the last PPS_IN edge under any source, and how many edges in a row were in range (R323) -/
  lastPps : Option Nat := none
  goodPps : Nat := 0
  /-- REF10M_IN is absent and the time clock runs on the board reference (R312) -/
  refLost : Bool := false
  /-- PPS_IN is missing (R312) -/
  ppsLost : Bool := false
  /-- the whole second that device time has reached and no pulse was sent for (R322) -/
  pulseDue : Option Nat := none
deriving DecidableEq, Repr

/-- What a Tendril controller's sequence rules keep (R85, R86). -/
structure CtrlSeq where
  /-- bit k: sequence RX_SEQ - k of slot A was accepted -/
  seenA : Nat := 0
  seenB : Nat := 0
  /-- the sequence the device sends next -/
  tx : Nat := 1
deriving DecidableEq, Repr

/-- A response kept for a controller (R86): what it answers, and its header and payload. -/
structure Kept where
  ctrl : Nat
  requestId : Nat
  opcode : Nat
  addr : Nat
  offset : Nat
  header : List Byte
  payload : List Byte
deriving DecidableEq, Repr

/-- A frame in the Cellarmaster's Tendril queue (R79): its arrival port, and its bytes from the destination address
on, without FCS. -/
structure TendrilFrame where
  port : Nat
  bytes : List Byte
deriving DecidableEq, Repr

/-- Whom a request that is not yet complete answers: a mailbox with the request's TAG, the sender of a Tendril frame, or
the DOMAIN transfer of a channel; nobody, where a Function Level Reset has abandoned the request (R66). -/
inductive Reply where
  | mailbox (kernel : Bool) (n tag : Nat)
  | frame (f : TendrilFrame)
  | channel (c : Nat)
  | abandoned
deriving DecidableEq, Repr

/-- An access held over a round boundary (R489), with the Tendril frames that had come before it (R71). -/
structure HeldAccess where
  access : Instr
  frames : Nat
deriving DecidableEq, Repr

/-- A mailbox request in the Cellarmaster's queue (R69, R71): the mailbox, how many Tendril frames stand before it, and what
its doorbell latched: the request word, the address, length and offset, and the data. -/
structure Doorbell where
  mailbox : Nat
  ahead : Nat
  request : Nat
  addr : Nat
  length : Nat
  offset : Nat
  data : List Byte
deriving DecidableEq, Repr

/-- A DOMAIN write that a principal has open (R73, R87). `principal` is a bit number of Table 2.4; `window` marks a
write through the BAR0 window, whose segments may come in any order. -/
structure OpenWrite where
  principal : Nat
  addr : Nat
  total : Nat
  window : Bool
  /-- the bytes written so far; a window write starts with `total` bytes of 0 -/
  data : List Byte
  /-- the Siphon channel whose transfer it is -/
  channel : Option Nat := none
deriving DecidableEq, Repr

/-- The DOMAIN window of BAR0 (R73): its mailbox (0-3 kernel, 4-19 user), what it shows, and from where. -/
structure Window where
  owner : Nat
  write : Bool
  addr : Nat
  current : Bool
  base : Nat
deriving DecidableEq, Repr

/-- A strike history (R448): up to 15 strike-clock times in ms, newest first. -/
structure Strikes where
  kind : Nat
  inst : Nat
  times : List Nat
deriving DecidableEq, Repr

/-- A record of the retirement map (Table 18.5). -/
structure Retired where
  kind : Nat
  flags : Nat
  spare : Nat
  inst : Nat
  seconds : Nat
deriving DecidableEq, Repr

/-- A spare substitution in progress (R186, R253, R254): the retired instance, the spare, and whether the copy has
ended, so that the map switches at the next round boundary. -/
structure Substitution where
  kind : Nat
  inst : Nat
  spare : Nat
  copied : Bool
deriving DecidableEq, Repr

/-- An EVENT-frame hold (R445): a controller and a source, when its frame was sent, and whether raises wait. -/
structure EventHold where
  ctrl : Nat
  source : Nat
  sentPs : Nat
  waiting : Bool
deriving DecidableEq, Repr

/-- A step of a module bus transaction (R485): on an I2C or I3C bus, what frees an SDA that is held low (clocks, then STOP),
START or repeated START, a byte to the target, bytes from it, STOP; on MDIO a Clause 45 frame, with its op (0 address, 1 write,
3 read), PRTAD, DEVAD and value. -/
inductive BusStep where
  | free (clocks : Nat)
  | start
  | byte (b : Byte)
  | read (n : Nat)
  | stop
  | mdio (op prtad devad value : Nat)
deriving DecidableEq, Repr

/-- What the block has sent out, in order: the model's record of its outputs (log entry 3). -/
inductive Sent where
  /-- a frame's bytes left a port, whole or stomped or cut off -/
  | frame (port : Nat) (bytes : List Byte) (good : Bool)
  /-- an MSI-X message of a vector (R444) -/
  | msix (vector address data : Nat)
  /-- bytes written into host memory (R383, R391, R393) -/
  | hostWrite (address : Nat) (bytes : List Byte)
  /-- a read request to host memory (R382) -/
  | hostRead (address length : Nat)
  /-- a record to the Gauge over the tap link (R354, R355) -/
  | tapRecord (bytes : List Byte)
  /-- a verify mPacket, or the response to one (R127) -/
  | verify (port : Nat)
  /-- what a lane's transmitter sends in a window: symbol values, or bits in NRZ (R94 to R96) -/
  | symbols (lane : Nat) (values : List Nat)
  /-- a block of a mode-6 lane: its levels (R98, R99) -/
  | block (lane : Nat) (levels : List Int)
  /-- a frame of a 3.2T port as 66-bit blocks: those of instances A and B (R118) -/
  | blocks (port : Nat) (a b : List Nat)
  /-- a stripe to the partner: the 5,140 information bits of its codewords, position 0 of every active lane by ascending
  join index, then position 1, to position 15 (R420) -/
  | stripe (codewords : List Nat)
  /-- a mark on PACE_OUT (R432) -/
  | paceOut (kind skips : Nat)
  /-- a PMBus command to a core regulator: its 7-bit address, the command, and the word it writes, 0 where it reads (R478) -/
  | pmbus (address command value : Nat)
  /-- bytes programmed into the board flash (R451, R483) -/
  | flash (offset : Nat) (bytes : List Byte)
  /-- a pulse to the Gauge (R322) -/
  | pulse (second : Nat)
  /-- a pulse on a pin, high for a number of us (R322) -/
  | ppsPin (pin widthUs : Nat)
  /-- the bits a JTAG data register shifts out (R487) -/
  | tdo (width value : Nat)
  /-- a transaction on a module bus (R485) -/
  | bus (bus : Nat) (steps : List BusStep)
deriving DecidableEq, Repr

/-- Per-lane receiver state beyond the lane record (R102 to R110), keyed by lane; an unlisted lane reads 0. -/
structure LaneState where
  /-- nowPs + 1 at which the lane locked; 0 while it is not locked -/
  lockedAt : SMap := []
  /-- successive failing windows, and successive passing windows, up to 4 (R102) -/
  failRun : SMap := []
  passRun : SMap := []
  /-- nowPs + 1 at which adaptation last resumed from a freeze or a wake; 0 never, or the 1 ms of R103 is spent -/
  resumedAt : SMap := []
  /-- 1 where the monitor crossed its limit in the running snapshot period -/
  crossed : SMap := []
  /-- 1 while the receiver relocks after a loss, 2 while it retrains in full (R105) -/
  relock : SMap := []
  /-- sleep requests waiting for lock (R110): 1 + depth; transmit and receive -/
  txAsked : SMap := []
  rxAsked : SMap := []
  /-- 1 while a sleeping transmitter has been asked to wake -/
  txWaking : SMap := []
  /-- nowPs + 1 at the lane's last revert (R103) -/
  revertedAt : SMap := []
  /-- wires of the bridge, keyed by Stave*64 + direction*32 + group: the position where the spare was shifted in, plus 1 -/
  shifted : SMap := []
  /-- bridge wires whose retirement waits for their group's next check word (R112): instance, retired by request -/
  wiresDue : List (Nat × Bool) := []
  /-- p(j-1) of the precoder, and of the decoder, of a lane (R95) -/
  txLast : SMap := []
  rxLast : SMap := []
  /-- the register of a lane's test pattern, 0 before its first bit (R470) -/
  pattern : SMap := []
  /-- 1 + the LANE_ID that a mode-6 receiver last reported (R99) -/
  laneId : SMap := []
  /-- the 58 bits that a mode-6 transmitter's scrambler sent last (R99) -/
  scrambler : SMap := []
  /-- how late a locked lane's alignment lies, in ps (R97, R118) -/
  skew : SMap := []
  /-- the register of a lane's pattern check, under a 1 that marks how far it has filled (Table 19.4); 0 before its first
  bit -/
  checker : SMap := []
deriving DecidableEq, Repr

/-- The receive constants that a port had until a flip changed them (R314). -/
structure StampPast where
  /-- the wall clock of the flip in ps -/
  before : Nat
  port : Nat
  rx : Nat
  asymmetry : Nat
deriving DecidableEq, Repr

/-- Per-port MAC state beyond the port record (chapter 05); keyed by port, or by port * 8 + class. -/
structure PortState where
  /-- the Reconciliation Sublayer reports local fault of its own, and remote fault (R119): at port, and at port + 512
  for instance B of a 3.2T port (R118) -/
  rsLocal : SMap := []
  rsRemote : SMap := []
  /-- the tap adders of R133: port * 8 + adder * 2 + (0 frames, 1 bytes); adders 0 ingress accepted, 1 ingress
  discarded, 2 egress transmitted, 3 egress discarded -/
  taps : SMap := []
  /-- verify mPackets sent without a response (R127) -/
  verifySends : SMap := []
  /-- the frame that is arriving and has been offered to intake: 1 where intake had no room for it, else 2 + its number; at
  port for a port's express MAC, or its only one, at port + 4096 for its preemptable MAC (R127) -/
  arriving : SMap := []
  /-- the receive constants that flips of the last millisecond replaced, oldest first (R314) -/
  stampPast : List StampPast := []
  /-- what the management port's PCS and Reconciliation Sublayer report (R136) -/
  mgmtLink : Bool := false
  mgmtLocal : Bool := false
  mgmtRemote : Bool := false
deriving DecidableEq, Repr

/-- The Press's walk over one header window (R143 to R146). -/
structure Walk where
  hv : List Byte
  md : List Byte
  pos : Nat := 0
  count : Nat := 0
  bound : Option Nat := none
  /-- the claim that set `bound`, and the states recorded so far, newest first -/
  visits : List Nat := []
  /-- states that have extracted, with their HV_GROUP -/
  extracted : List (Nat × Nat) := []
  /-- PARSE_FLAGS -/
  flags : Nat := 0
  hvValid : Nat := 0
  /-- HV_VALID bits and anchors set by headers of a layer other than 2, and the last PROFILE of a layer-2 header -/
  upperValid : Nat := 0
  upperAnchors : List Nat := []
  profile2 : Nat := 0
  profile : Nat := 0
  anchors : List Nat := [0xFFFF, 0xFFFF, 0xFFFF, 0xFFFF]
  lastState : Nat := 0
deriving DecidableEq, Repr

/-- A stored entry of the Sorting Table (R180): where it lies, its transfer-format bytes, its valid bits, HIT, and the
ENTRY_CHECK computed when it was written. -/
structure TableEntry where
  loc : Nat
  bytes : List Byte
  v0 : Bool
  v1 : Bool
  hit : Bool
  check : Nat
deriving DecidableEq, Repr

/-- The four stores of Table 7.1 on die, or their shadows in the Cellar (R184). -/
structure Stores where
  exact : List TableEntry := []
  lpm : List TableEntry := []
  mask : List TableEntry := []
  care : List TableEntry := []
deriving DecidableEq, Repr

/-- A disposition (R198). -/
inductive Disp where
  | none
  | forward (port tc : Nat)
  | badPort
  | mcast (group tc : Nat)
  | trap (reason : Nat) (miss : Bool)
  | discard (code : Nat)
  | recirc
deriving DecidableEq, Repr

/-- A search on its way (R164): what was fixed at its launch, and the stage that its result reaches. -/
structure Search where
  profile : Nat
  /-- the key bytes of R162, without padding -/
  key : List Byte
  parity : Nat
  /-- served by the Care array, decided in the slot of the launch (R469) -/
  care : Bool
  reg : Nat
  due : Nat
deriving DecidableEq, Repr

/-- What a Cooper pass of one header holds (R190 to R200). -/
structure Pass where
  hv : List Byte := []
  md : List Byte := []
  /-- RES0 to RES3, 128 bits each -/
  res : List Nat := [0, 0, 0, 0]
  /-- P0 to P7 -/
  preds : Nat := 0
  disp : Disp := .none
  /-- the egress program index (SET_EGRESS) -/
  eprog : Nat := 0
  emitLength : Nat := 0
  bodyOffset : Nat := 0
  /-- mirror sessions of the MIRROR actions that took effect, in order -/
  mirrors : List Nat := []
  /-- MIRROR actions executed in the pass -/
  mirrorCount : Nat := 0
  policedRed : Bool := false
  /-- the red counter of the policer that marked the frame red under DROP_RED -/
  redPolicer : Nat := 0
  /-- the colour that is written into P6 and P7 at the start of the next stage (R199): 0 green, 1 yellow, 2 red -/
  colour : Option Nat := none
  searches : List Search := []
  /-- the stage the header is in, and the address of its word there; none once END has executed -/
  stage : Nat := 0
  next : Option Nat := none
  passLimit : Nat := 0
  /-- the frame's length was known in the first slot of the stage (R280) -/
  known : Bool := false
  storeError : Bool := false
  vintageExpired : Bool := false
  /-- samplers that selected the frame (R339) -/
  sampled : List Nat := []
  /-- the value of the last TIMESTAMP action (R316) -/
  stamp : Option Nat := none
  /-- an IOAM action's HV offset -/
  ioam : Option Nat := none
  /-- the program code of a DISCARD -/
  code : Nat := 0
deriving DecidableEq, Repr

/-- What kind of copy a copy is. -/
inductive CopyKind where
  /-- the one copy of a FORWARD, or of a frame injected DIRECT -/
  | unicast
  /-- member `index` of a multicast job; `counter` counts its discard (R243) -/
  | member (index : Nat) (counter : Option Nat)
  /-- a mirror copy of a session; `egress` marks a mirror taken in an egress pass (R299) -/
  | mirror (session : Nat) (egress : Bool)
  | trap (reason : Nat) (punt : Bool)
  | recirc
  /-- the one crossing copy of a multicast frame, with its group (R423) -/
  | cross (group : Nat)
deriving DecidableEq, Repr

/-- Where a copy lies (R246): its frame's cells in the Cask, or its rack record in the Cellar. The copies of a queue in
FIFO order are its Head (in the Cask), its Middle (in the Cellar) and its Tail (in the Cask). -/
inductive Place where
  | cask | cellar
deriving DecidableEq, Repr

/-- A copy of a frame in a queue (R238 to R243). Queues are numbered by `Queue` of Cask.lean. -/
structure Copy where
  id : Nat
  frame : Nat
  queue : Nat
  kind : CopyKind
  eprog : Nat
  tc : Nat
  /-- the egress port; for a CPU copy 0x800 -/
  port : Nat
  /-- counted slots since Boot when it entered its queue -/
  entered : Nat
  place : Place := .cask
  /-- Cellar cells of its rack record, and their first spill cell -/
  spill : List Nat := []
  /-- it has waited at the head for a later open run (R272) and is counted in GATE_WAITS -/
  gateWaited : Bool := false
  /-- Q(q), and units in use in the Cask, when it entered its queue (QUEUE_DEPTH and CASK_UNITS of its record) -/
  depth : Nat := 0
  cask : Option Nat := none
  racked : Bool := false
  /-- bytes of the frame it carries where a mirror session truncates it (R299) -/
  truncate : Nat := 0
  /-- it was in one job with others, so its discard is counted in MC_COPY_DISCARDS (R243) -/
  multi : Bool := false
deriving DecidableEq, Repr

/-- The record of a stored frame (R227), from its admission until its last copy is done. -/
structure Frame where
  id : Nat
  slice : Nat
  /-- INGRESS_PORT of the MD: a front port, 0x840, or the port an injected frame names -/
  inPort : Nat
  /-- the port its cells are charged to; 0x3FF when the source is not a front port -/
  chargePort : Nat
  inClass : Nat
  source : Nat
  /-- the bytes that have arrived, from the destination address, without the FCS -/
  bytes : List Byte
  /-- the frame's end has arrived -/
  ended : Bool
  /-- its length with FCS, once it has ended -/
  len : Nat
  rxTime : Nat
  vtag : Nat
  pass : Nat
  /-- nowPs at which its first 64 bytes had reached intake -/
  sincePs : Nat := 0
  /-- once its end has arrived: 0 passed R122, or the discard code of its class -/
  cls : Nat := 0
  /-- 0 passed, or a discard code, once the verdict has passed (R123) -/
  verdict : Option Nat := none
  /-- counted slots since Boot at the verdict -/
  verdictSlot : Nat := 0
  /-- the new frame of an egress mirror (R298): the frame whose verdict its copy takes, and whether that frame has ended -/
  follows : Option (Nat × Bool) := none
  /-- L of R225, and the class that it chose -/
  admitLength : Nat := 0
  bodyClass : Nat := 0
  /-- body bytes that have a cell -/
  stored : Nat := 0
  /-- the larger class that a losing request is issued to next, with the charge that a reserve or headroom request keeps
  (R229, R231) -/
  retry : Option (Nat × Option Nat) := none
  /-- the last cells of its body chain and of its head chain -/
  bodyLast : Option Nat := none
  headLast : Option Nat := none
  /-- an uncorrectable error struck one of its cells (R252) -/
  cellError : Bool := false
  /-- head-block bytes wanted, and those that have a cell -/
  headBytes : Nat := 0
  headStored : Nat := 0
  /-- the holder's token (Table 9.3) -/
  holder : Nat := 0
  /-- discarded part-way with this code -/
  dropped : Option Nat := none
  /-- copies not yet done, plus one while the ingress path or a job holds it (R243) -/
  count : Nat := 1
  /-- what the ingress pass left for the egress passes (R192) -/
  hv : List Byte := []
  md : List Byte := []
  emitLength : Nat := 0
  bodyOffset : Nat := 0
  /-- its FCS as it arrived, or as it was formed -/
  fcs : List Byte := []
  sampled : List Nat := []
  direct : Option (Nat × Nat × Nat) := none
  /-- flags for its telemetry records: TIE, DEGRADED, LATE_LEN_CONFLICT, TRAPPED and PUNT -/
  tie : Bool := false
  degraded : Bool := false
  late : Bool := false
  trapped : Bool := false
  punt : Bool := false
  /-- its bytes left for intake on a recirculation pass -/
  recirc : Bool := false
  /-- it counts in flight for its VTAG (R52) -/
  flying : Bool := false
deriving DecidableEq, Repr

/-- A header in flight through the Press and the Coopers of a slice (R16, R287). -/
structure Header where
  id : Nat
  frame : Nat
  slice : Nat
  /-- false in the ingress path, true in the egress path -/
  egress : Bool
  /-- counted slots since its admission, or since its head entered egress stage 0 -/
  age : Nat
  /-- the recirculation passes before this one -/
  pass : Nat
  /-- 0 front port, 1 recirculation, 2 injection, 3 management port (SOURCE of the MD) -/
  source : Nat
  vtag : Nat
  parity : Nat
  /-- the Press's flags, as in MD (chapter 06) -/
  flags : Nat := 0
  pressDisp : Disp := .none
  /-- an injected DIRECT frame's port, class and egress program -/
  direct : Option (Nat × Nat × Nat) := none
  /-- the copy that an egress pass belongs to -/
  copy : Option Copy := none
  /-- its frame as the egress pass knows it, for mirrors that outlive the frame (R298) -/
  held : Option Frame := none
  p : Pass := {}
deriving DecidableEq, Repr

/-- A record of a Cellarhand journal (R213). -/
inductive JournalRecord where
  | counter (n v : Nat)
  | raiseUser (n : Nat)
  | append (v : Nat)
  /-- an entry written whole: store, location, bytes, V0, V1 -/
  | entryWrite (store loc : Nat) (bytes : List Byte) (v0 v1 : Bool)
  /-- an entry moved from one location to another (R182) -/
  | entryMove (store src dst : Nat)
  /-- an entry restored from the shadow -/
  | restore (store loc : Nat)
  | bookWrite (addr v : Nat)
deriving DecidableEq, Repr

/-- A Cellarhand context (R210). -/
structure Context where
  regs : List Nat := List.replicate 16 0
  z : Bool := false
  c : Bool := false
  /-- the word it runs next; none while it is idle -/
  pc : Option Nat := none
  /-- counted slots that its running word still waits -/
  stall : Nat := 0
  /-- round boundaries that WAIT still waits -/
  waitRounds : Nat := 0
  /-- words executed by the running instance -/
  words : Nat := 0
  /-- the trigger whose routine context 3 runs -/
  trigger : Nat := 0
  journal : List JournalRecord := []
  /-- a routine runs or stands stopped in the context; it is the scrubber's -/
  busy : Bool := false
  scrubbing : Bool := false
  /-- the records that its routines have appended and committed (contexts 0 to 2) -/
  output : List Nat := []
deriving DecidableEq, Repr

/-- A Cask cell that is not free (Table 9.2), and the frame it belongs to. -/
structure Cell where
  handle : Nat
  /-- 1 allocated, 2 lost -/
  state : Nat
  owner : Nat
  lastOwner : Nat
  fill : Nat
  last : Bool
  /-- 0 reserve, 1 shared, 2 headroom -/
  charge : Nat
  inPort : Nat
  inClass : Nat
  next : Nat
  frame : Nat
deriving DecidableEq, Repr

/-- A job of a slice's replication engine (R242, R291): the copies still to offer. -/
structure Job where
  slice : Nat
  frame : Nat
  copies : List Copy
  /-- the engine works on it, from the counted slot `startSlot` on; not before `due` -/
  started : Bool := false
  due : Nat
  startSlot : Nat := 0
  /-- the frame has more than one copy: the Replicator holds its cells -/
  multi : Bool
deriving DecidableEq, Repr

/-- A frame waiting in intake for admission (R17, R19). -/
structure Waiting where
  slice : Nat
  /-- a front port, 0x820 + slice, or 0xFFF for the internal requester -/
  requester : Nat
  frame : Frame
deriving DecidableEq, Repr

/-- A shaper that is on, or has been (R264 to R268): its tokens in 1/256 byte, and the part of a 1/256 byte carried to
the next refill, in 1/31,250 of it. `key` is port * 32 + n: n = 0 to 15 the queue shapers, 16 to 19 the group shapers,
20 the port shaper. -/
structure Shaper where
  key : Nat
  tokens : Int
  rest : Nat := 0
deriving DecidableEq, Repr

/-- The buckets of a policer (R278, R279) in 1/256 byte, with the parts carried: C, and E of srTCM or P of trTCM. -/
structure Bucket where
  policer : Nat
  c : Nat
  e : Nat
  restC : Nat := 0
  restE : Nat := 0
deriving DecidableEq, Repr

/-- A port's gate lists (R270): the operating copy, and the list that waits for its start. An entry is (open classes,
duration in slots); `startSlot` is the counted slot since Boot at which entry 0 began. -/
structure Gate where
  port : Nat
  entries : List (Nat × Nat)
  startSlot : Nat
  waiting : Option (List (Nat × Nat) × Nat)
  /-- the lattice evaluation of the running round overran (R275) -/
  late : Bool := false
deriving DecidableEq, Repr

/-- A copy selected by a port's Decanter (R261) that has not yet left whole: its egress pass, and its place on the wire.
Times are in half picoseconds from the start of Boot. -/
structure Tx where
  port : Nat
  copy : Copy
  /-- the counted slot of the selection -/
  selected : Nat
  /-- the earliest instant of its first byte -/
  start : Nat
  /-- its egress pass has ended -/
  passed : Bool := false
  started : Bool := false
  /-- its first byte left before its frame's end arrived (R289) -/
  cutThrough : Bool := false
  /-- the HV bytes to emit as the egress pass left them, edited at the start of transmission, and the body offset -/
  head : List Byte := []
  bodyOffset : Nat := 0
  stamp : Option Nat := none
  ioam : Option Nat := none
  /-- MD byte 45 as the egress pass left it -/
  hop : Nat := 0
  /-- a DISCARD reason met after the first byte left: the copy is stomped with it (R125) -/
  stomp : Option Nat := none
  /-- the bytes charged at the selection while the length is unknown (R260) -/
  guess : Option Nat := none
  /-- Q(q) and CASK_UNITS at selection (R349) -/
  depthAt : Nat := 0
  caskAt : Nat := 0
  mirrors : List Nat := []
  sampled : List Nat := []
  /-- the transmit stamp T as a TIME80 value, once it has started -/
  txTime : Nat := 0
  /-- of a preempted or gate-held copy (R273, R276): the start of the fragment on the wire, the bytes that earlier
  fragments carried, and that a closing gate holds the rest back -/
  fragStart : Nat := 0
  sentBefore : Nat := 0
  gateHeld : Bool := false
deriving DecidableEq, Repr

/-- A charge made while a copy's length was unknown (R260), owed back once the frame's verdict has come, whatever has become
of the copy by then: the frame and the copy as selected, the port, the bytes charged, and the keys of the shapers and of
the deficits they were taken from; a member that empties leaves the latter. -/
structure Owing where
  frame : Frame
  copy : Copy
  port : Nat
  guess : Nat
  charged : List Nat
  owed : List Nat
deriving DecidableEq, Repr

/-- A policer charge made with a length not yet known (R280): the frame, the policer, the bytes charged, and the colour
given. -/
structure PoliceGuess where
  frame : Nat
  policer : Nat
  charged : Nat
  colour : Nat
  parity : Nat
deriving DecidableEq, Repr

/-- Refills that a round's overrun left for the next round (R268, R279): the round's length in ps, the shapers that were on
with their rates, and the policers with buckets with their entries. -/
structure LateRefill where
  ps : Nat
  rates : List (Nat × Nat)
  policers : List (Nat × List Byte)
deriving DecidableEq, Repr

/-- A frame that the transmit MAC has inserted and that is still on its port's wire (R263, R276), with its FCS: a PFC frame,
or a Tendril one. `start` is that of the fragment on the wire, `sent` the bytes of earlier fragments; while `waits` an
express frame has cut it and its rest follows that frame. -/
structure OwnTx where
  port : Nat
  bytes : List Byte
  pfc : Bool
  start : Nat
  sent : Nat := 0
  waits : Bool := false
deriving DecidableEq, Repr

/-- The Decanter's state (chapter 10). -/
structure Decanter where
  shapers : List Shaper := []
  buckets : List Bucket := []
  guesses : List PoliceGuess := []
  gates : List Gate := []
  /-- port * 32 + n: the deficit of queue n (0 to 15) or group n - 16 (16 to 19), in bytes -/
  deficits : SMap := []
  /-- port * 32 + n: the ring pointer of group n (0 to 3) or of the groups (4) -/
  rings : SMap := []
  /-- port * 32 + n: 1 where ring n's pointer has not moved since its member's last quantum -/
  visited : SMap := []
  tx : List Tx := []
  /-- the end of what a port's wire last carried whole: port -> half picoseconds (R261) -/
  wireEnd : SMap := []
  /-- the port that made the slice's last TC7 selection, and last other selection, plus 1 (R262): slice * 2 + kind -/
  lastPort : SMap := []
  /-- the refills of a round are late (R268, R279) -/
  lateRefill : Option LateRefill := none
  /-- Tendril frames that wait for a place between frames: port, bytes (R263); and the inserted frames on the wires -/
  own : List (Nat × List Byte) := []
  ownWire : List OwnTx := []
  /-- charges of unknown lengths that are still to be credited (R260) -/
  owing : List Owing := []
  /-- PFC classes that wait for the next PFC frame of their port: (port, class, quanta, the slot in which they fell due) -/
  pfcDue : List (Nat × Nat × Nat × Nat) := []
  /-- counted slots from which a copy that exceeds every open run counts at its queue head: (queue, copy, slot) (R274) -/
  gateStuck : List (Nat × Nat × Nat) := []
deriving DecidableEq, Repr
/-- A flow record in use (R346). -/
structure Flow where
  record : Nat
  key : List Byte
  start : Nat
  stop : Nat
  packets : Nat
  octets : Nat
  port : Nat
deriving DecidableEq, Repr

/-- A Harvest whose assembly runs (R343): the counters' boundary values, and the header made at the boundary. -/
structure Harvest where
  counters : SMap
  header : List Byte
deriving DecidableEq, Repr

/-- Telemetry state (chapter 13). -/
structure Telemetry where
  /-- the hardware counters, each of 32 bits (R330) -/
  counters : SMap := []
  /-- byte additions that wait for a frame's end (R333): frame, counter unit -/
  bytesDue : List (Nat × Nat) := []
  /-- a flow's octets that wait for a frame's end: frame, record -/
  octetsDue : List (Nat × Nat) := []
  /-- the last bound of the Press's walk over a frame whose end was not known to it (R146): frame, slice, bound -/
  lateClaims : List (Nat × Nat × Nat) := []
  /-- discarded copies that the egress discarded adder counts once their frame's end arrives (R133): (frame, port, bytes
  taken from the frame's length, most bytes left, bytes added) -/
  tapsDue : List (Nat × Nat × Nat × Nat × Nat) := []
  clearArmed : Option (Nat × Nat) := none
  /-- a clear took effect at the last boundary -/
  cleared : Bool := false
  /-- the running window's bytes: port * 2 + (0 receive, 1 transmit); its length in ps per port; the running window was
  abandoned (R336) -/
  window : SMap := []
  windowPs : SMap := []
  windowOff : List Nat := []
  /-- events seen since reset or enable, and the LFSR where it differs from its seed k + 1 (R339) -/
  events : SMap := []
  lfsr : SMap := []
  postcards : Nat := 0
  tastings : Nat := 0
  fifos : List (List (List Byte)) := [[], [], []]
  harvest : Option Harvest := none
  /-- Harvests skipped since the last one written, and the j of R342 -/
  harvestSkips : Nat := 0
  harvestNext : Nat := 0
  flows : List Flow := []
  /-- IPFIX Data Records that wait for a message: (profile, bytes) -/
  ipfixRecords : List (Nat × List Byte) := []
  ipfixSequence : Nat := 0
  ipfixMessages : Nat := 0
  /-- the next message opens with a Template Set -/
  ipfixTemplate : Bool := true
  /-- the TX_STAMPS ring (R321) -/
  txStamps : List (List Byte) := []
deriving DecidableEq, Repr
/-- What a Gauge interval gathers, and a checkpoint saves (R361, R362, R376). -/
structure Interval where
  /-- INTERVAL_START in ns of Gauge time -/
  start : Nat := 0
  /-- point -> summed bytes, and frames -/
  bytes : SMap := []
  frames : SMap := []
  /-- bit m: the gap flag of point m -/
  gaps : Nat := 0
  missing : Nat := 0
  received : Nat := 0
  /-- Gauge time was set throughout; holdover, and holdover beyond its limit, occurred; R361 -/
  timeSet : Bool := false
  holdover : Bool := false
  exceeded : Bool := false
  silent : Bool := false
  coreRestart : Bool := false
  /-- bit k: TAP_GAP, or TAP_CRC, of group k (32: time records) is written in this interval -/
  gapNoted : Nat := 0
  crcNoted : Nat := 0
deriving DecidableEq, Repr

/-- The metrology parameters (Table 14.7): minutes, holdover limit, pulse window, label. -/
structure GaugeParams where
  minutes : Nat := 5
  holdoverS : Nat := 60
  windowNs : Nat := 1000
  label : Nat := 0
deriving DecidableEq, Repr

/-- The Gauge die (chapter 14). Its clock counts 2^-40 ps. -/
structure Gauge where
  /-- VDD_GAUGE is present (R477) -/
  powered : Bool := true
  /-- 0 Unsealed, 1 Sealed, 2 Seal-Broken; GAUGE_SEAL_BREAK_N counts as asserted -/
  sealState : Nat := 0
  fuse : Bool := false
  pin : Bool := false
  clock : Nat := 0
  /-- rate correction in units of 2^-40 -/
  rate : Int := 0
  timeSet : Bool := false
  /-- Gauge time in ns at the last named pulse, the last accepted delta record and the last status publish -/
  pulseAt : Nat := 0
  recordAt : Nat := 0
  publishedAt : Nat := 0
  /-- Gauge time in ns at which the running holdover began, on the timescale that a later step of Gauge time made; whether its
  HOLDOVER_EXCEEDED is written -/
  holdover : Option Int := none
  exceeded : Bool := false
  /-- the second that a valid time record named for the next pulse -/
  named : Option Nat := none
  /-- successive pulses outside the window, and the second that the last of them named -/
  offRun : Nat := 0
  offSecond : Nat := 0
  tapActive : Bool := false
  coreSupply : Bool := true
  mirrorComplete : Bool := false
  /-- group -> 1 + last accepted TAP_SEQUENCE; 0 none since the restart -/
  lastSeq : SMap := []
  /-- TAP_SEQUENCE of the last accepted record of any group -/
  lastAny : Nat := 0
  /-- the groups whose START records belong to the Core restart that the last accepted record told of (R361) -/
  starts : Nat := 0
  /-- the interval of a group's last accepted record (R361): group -> 1 + its RECORD_SEQUENCE -/
  seenIn : SMap := []
  interval : Interval := {}
  /-- the boundary at which the last interval opened, in ns (R368) -/
  boundaryAt : Option Nat := none
  /-- the length in force when it changed and the first boundary of the new length has not come (R371) -/
  oldMinutes : Option Nat := none
  params : GaugeParams := {}
  /-- the last accepted values, pending or in force -/
  pending : GaugeParams := {}
  nextRecord : Nat := 0
  prevHash : List Byte := List.replicate 32 0
  /-- ring slot -> record, and log slot -> entry -/
  records : BMap := []
  nextAudit : Nat := 0
  audits : BMap := []
  reseals : Nat := 0
  keyNumber : Nat := 0
  crcErrors : Nat := 0
  seqGaps : Nat := 0
  total : Nat := 0
  /-- the open interval, and Gauge time in ns, at the last checkpoint -/
  saved : Interval := {}
  savedAt : Nat := 0
  /-- the Cellarmaster's mirror of ring and log -/
  mirrorRecords : BMap := []
  mirrorAudits : BMap := []
deriving DecidableEq, Repr

/-- The Core's end of the tap link (R354, R355). -/
structure TapLink where
  /-- the adders' state that the last period's records carried -/
  carried : SMap := []
  /-- the state taken at the boundary whose records are to be sent -/
  taken : SMap := []
  /-- ROUND_COUNT of the round that ended there -/
  round : Nat := 0
  sequence : Nat := 0
  /-- the first period since the Core left Reset -/
  first : Bool := true
  /-- the second that the last time record named (R355); none again once time is set, stepped or released -/
  named : Option Nat := none
deriving DecidableEq, Repr

/-- A DOMAIN transfer of a channel (R394 to R396), fixed at its arming. -/
structure DomTransfer where
  principal : Nat
  addr : Nat
  write : Bool
  current : Bool
  offset : Nat
  length : Nat
  crc : Nat
  /-- bytes moved so far, and those of a write -/
  moved : Nat := 0
  data : List Byte := []
  /-- a BAD descriptor aborted it -/
  aborted : Bool := false
deriving DecidableEq, Repr

/-- A Siphon channel (R380 to R396). An unlisted channel is `Channel.idle`. -/
structure Channel where
  c : Nat
  /-- 0 Idle, 1 Walking or Held, 2 Parked, 4 Halted, 5 Retired -/
  state : Nat := 0
  latched : Bool := false
  cause : Nat := 0
  budget : Nat := 0
  head : Nat := 0
  headWritten : Bool := false
  current : Nat := 0
  /-- the channel's own copy of the descriptor -/
  desc : List Byte := []
  /-- while it walks: 1 the descriptor is to be read, 2 its read is issued, 3 and 4 the same for the re-read of bytes 0 to
  15, 5 it is processed, 6 its bytes are moved and its record is due, 7 its injected frame waits for intake, 8 its read
  failed and the record is due, 9 its DOMAIN_END waits for its result, 10 its buffer is to be read, 11 its buffer's read
  timed out and the record is due; 0 otherwise -/
  phase : Nat := 0
  /-- bytes of a copy that stand in the present descriptor's buffer -/
  moved : Nat := 0
  completed : Nat := 0
  consumed : Nat := 0
  /-- STOP was written and takes effect after the running descriptor or frame -/
  stopping : Bool := false
  /-- a flip changed the use: it halts with RECONFIGURED after the running descriptor or frame (R379) -/
  changing : Bool := false
  /-- the use that the channel works in: that of the current parity, held over until the change takes effect -/
  use : Nat := 0
  /-- INJECT: a run is open; its bytes; the ARG of its FIRST; its rest is abandoned -/
  inRun : Bool := false
  run : List Byte := []
  arg : Nat := 0
  badRun : Bool := false
  /-- CPU_RX: the copy being written, with its header, and the bytes written -/
  rxCopy : Option Nat := none
  rxBytes : List Byte := []
  rxSent : Nat := 0
  /-- bytes of the buffer that had come when its read timed out (R387) -/
  came : List Byte := []
  dom : Option DomTransfer := none
deriving DecidableEq, Repr

/-- What an epoch's evaluation takes (R401 to R403): energies of the rails in microjoules, the epoch's length in ps, the
hottest junction in 0.01 degrees, the state that ran, its skip slots and headers, each Stave's direction weights by the port
that holds the lane (key 1,024 times the Stave and the port) and the ports' bytes (R413), and the entries of Tables 16.3 and 16.4 and MODE_STATE at the boundary that closed it (R403). -/
structure EpochData where
  rails : List Nat
  ps : Nat
  tjMax : Int
  op : Nat
  powerSkips : Nat
  skips : Nat
  headers : Nat
  weights : SMap
  bytes : SMap
  book : SMap := []
deriving DecidableEq, Repr

/-- What an evaluation chose (R403, R407, R408): the state and the narrowed classes. -/
structure PowerChoice where
  op : Nat
  skips : Nat
  narrowed : Nat
deriving DecidableEq, Repr

/-- The power manager (chapter 16). -/
structure Power where
  /-- of the running epoch: headers admitted, skip slots of every cause, its length in ps so far -/
  headers : Nat := 0
  skips : Nat := 0
  epochPs : Nat := 0
  /-- what the last evaluation chose, until the boundary that applies it -/
  choice : Option PowerChoice := none
  /-- the epoch that closes at the boundary due next, with its rails: evaluated at step 3 of it -/
  measured : Option EpochData := none
  /-- closed epochs whose rails are still to come, oldest first: each is evaluated when they come -/
  unmeasured : List EpochData := []
  /-- the evaluation that runs in this epoch does not complete in it (R405) -/
  overran : Bool := false
  /-- successive epochs that measured in band 0, 1 or 2, or below it -/
  lowRuns : List Nat := [0, 0, 0]
  /-- epochs in succession below the throttle limit, over the cap, and at or under it with its margin -/
  coolRun : Nat := 0
  overRun : Nat := 0
  underRun : Nat := 0
  /-- the narrowed classes in the order of their narrowing -/
  narrowOrder : List Nat := []
  /-- droop skip slots still to come, those of this round, and evaluations with the storm's penalty -/
  droopLeft : Nat := 0
  droopRound : Nat := 0
  stormLeft : Nat := 0
  stormed : Bool := false
  /-- the core setpoint that the regulators hold, and the higher one requested, in mV -/
  setpoint : Nat := 720
  requested : Option Nat := none
  /-- every stack is cool again: normal tokens return at the next boundary -/
  hbmCooled : Bool := false
  /-- lane -> direction weights summed over the epoch's rounds (R413) -/
  weights : SMap := []
  /-- the tap adders at the epoch's start -/
  tapsAt : SMap := []
  /-- carried parts of a microjoule in 2^-32: front ports, and 512 the unattributed energy -/
  rest : SMap := []
deriving DecidableEq, Repr

/-- A stripe sent and not yet acknowledged (R421): its BLOCK_SEQ, when it was sent, the MAP_EPOCH that it carries, its
management messages, the copies whose last byte it holds, and where the streams stood at its start (as in `Join.progress`). -/
structure SentStripe where
  seq : Nat
  sentPs : Nat
  epoch : Nat
  messages : List (List Byte)
  copies : List Nat
  progress : SMap
deriving DecidableEq, Repr

/-- A joint write that waits for the partner's BOOK result (R429): the requester, the entry and the data. -/
structure JointWrite where
  reply : Reply
  addr : Nat
  data : List Byte
  principal : Nat
deriving DecidableEq, Repr

/-- The Assemblage's state beyond the join entries (chapter 17). -/
structure Join where
  hello : Option HelloMsg := none
  /-- MAP_EPOCH of the transmit and of the receive direction -/
  txEpoch : Nat := 0
  rxEpoch : Nat := 0
  /-- the maps of the receive direction by MAP_EPOCH: the active lanes' join indices -/
  rxMaps : List (Nat × List Nat) := []
  /-- a MAP for the transmit direction has come, and no stripe on its map is acknowledged yet (R436) -/
  mapOutstanding : Bool := false
  /-- too few lanes of the receive direction are left, one having lost its signal: the join splits in the next slot (R437) -/
  splitDue : Bool := false
  /-- management messages to send, oldest first: OP, three bytes 0, the content (R422) -/
  outbox : List (List Byte) := []
  /-- strikes against the join (R425) -/
  strikes : Nat := 0
  /-- the calibrated delay of the PACE pins (R482) -/
  pinDelayPs : Nat := 0
  /-- crossed frames whose copies the partner has yet to offer: until which slot they stay in flight, slice, VTAG (R426) -/
  landing : List (Nat × Nat × Nat) := []
  /-- the sequence number of the next stripe, and the last stripe received whole -/
  txSeq : Nat := 1
  rxSeq : Nat := 0
  /-- this receiver answers with NAK -/
  nak : Bool := false
  /-- how many times in succession the oldest stripe was NAKed -/
  naks : Nat := 0
  sentStripes : List SentStripe := []
  /-- of stream t with a unit begun: key t its bytes that earlier stripes carried, key 16 + t its CROSS_SEQ, key 32 + t its
  copy's number plus 1, key 48 + t its length; key 100 the CROSS_SEQ of the next unit; key 101 the class served last (0 to
  6) -/
  progress : SMap := []
  /-- nowPs at the end of the last stripe sent -/
  stripePs : Nat := 0
  /-- the next CROSS_SEQ expected; of stream t, the bytes received of its unit that is not whole yet, and the CROSS_SEQ
  expected in it -/
  crossRx : Nat := 0
  rxParts : BMap := []
  rxNumbers : SMap := []
  /-- the partner's latest plan: epoch, operating point, skips; in force from the first epoch boundary after it came -/
  partnerPlan : Option (Nat × Nat × Nat) := none
  /-- skip slots still to come of the partner's droop bursts (R432) -/
  burstLeft : Nat := 0
  /-- pace skip slots of each round of the running epoch, those that a boundary mark adds in the running round, and those
  it adds in the next one -/
  paceSkips : Nat := 0
  markSkips : Nat := 0
  markNext : Nat := 0
  /-- commit in a pair (R434): PREPARED has come; the flip boundary that ARM names, the boundary of the ARM; GO came -/
  prepared : Bool := false
  armFlip : Option Nat := none
  armAt : Nat := 0
  acked : Bool := false
  go : Bool := false
  /-- joint writes that wait for the partner's results, oldest first (R429) -/
  waitingBooks : List JointWrite := []
  /-- a change of mode of both members (R466): the partner is ready, the partner has been told that this member is, and the
  boundary at which both change -/
  partnerReady : Bool := false
  toldReady : Bool := false
  changeAt : Option Nat := none
deriving DecidableEq, Repr

/-- What a member holds of its partner (R430, R431): the staging values of its member entries, their hardware copies by
parity, and its image slots. -/
structure Peer where
  entries : SMap := []
  copy0 : SMap := []
  copy1 : SMap := []
  objs : BMap := []
deriving DecidableEq, Repr

/-- A transaction on a module bus (R485): the latched request, and the data it carries. -/
structure BusJob where
  bus : Nat
  request : Nat
  data : List Byte
deriving DecidableEq, Repr

/-- An image slot that is being programmed (R484): the slot, the object, and whom its DOMAIN_END answers. -/
structure Programming where
  slotB : Bool
  data : List Byte
  reply : Reply
deriving DecidableEq, Repr

/-- The capabilities of the endpoint (Table 3.1). -/
inductive PciCapability where
  | msix
  | aer
  | powerManagement
  | functionLevelReset
deriving DecidableEq, Repr

/-- What the endpoint's configuration space says of it (R65, Table 3.1): Device ID and class code, the sizes of BAR0, BAR2
and BAR4 in bytes, the vectors of MSI-X, and its capabilities: these and no other. The Vendor ID beside them is
`Config.vendor`. -/
structure PciIdentity where
  device : Nat
  classCode : Nat
  bars : List (Nat × Nat)
  vectors : Nat
  capabilities : List PciCapability
deriving DecidableEq, Repr

def pciIdentity : PciIdentity :=
  { device := 0x2048, classCode := 0x028000
    bars := [(0, 2 ^ 24), (2, 2 ^ 28), (4, 2 ^ 20)], vectors := 128
    capabilities := [.msix, .aer, .powerManagement, .functionLevelReset] }

/-- Pins, the JTAG port, the flash and the fuses (chapters 19 and 20). -/
structure Board where
  /-- RESET_N is high -/
  resetPin : Bool := false
  /-- VDD_IO is present (R481) -/
  vddIo : Bool := true
  /-- the JTAG instruction register: IDCODE after a TAP reset (R487) -/
  ir : Nat := 0x01
  /-- the bytes of VOUT_MODE that the regulators of VDD_CORE and VDD_SRAM answered at Boot (R478) -/
  voutModes : Option (Nat × Nat) := none
  /-- the board flash did not respond when the slots were last read (failure code 7 of Table 20.7) -/
  flashDead : Bool := false
  straps : Nat := 0
  /-- failure codes of the image slots A and B, and retries of both (Table 20.7) -/
  failA : Nat := 0
  failB : Nat := 0
  retries : Nat := 0
  /-- the running image's ROLLBACK_LEVEL -/
  runningLevel : Nat := 0
  /-- the boundary register's update latches: the value that SAMPLE/PRELOAD shifted in, and the pins it drives -/
  boundary : Nat := 0
  driven : Option Nat := none
  jobs : List BusJob := []
  /-- the PCI Express endpoint: the link as it has trained, and its configuration (R65, log entry 165) -/
  pci : PciControl := {}
  endpoint : PciIdentity := pciIdentity
  /-- AER: the uncorrectable error status, of which the device sets Completion Timeout (log entry 165) -/
  aer : Nat := 0
  programming : Option Programming := none
  /-- clocks are stopped by the hardware trip (R411) -/
  tripped : Bool := false
deriving DecidableEq, Repr

/-- Recovery's verification (R468). -/
structure Verify where
  /-- the comparison has ended with no entry lost in it: nowPs of its end -/
  comparedAt : Option Nat := none
deriving DecidableEq, Repr

/-- The events of the cycle that the running command stands for (log entry 178): empty between commands. -/
structure Cycle where
  /-- the sources raised, each with the lowest instance (R441) -/
  raised : List (Nat × Nat) := []
  /-- the vectors that have had their message (R444) -/
  vectors : List Nat := []
deriving DecidableEq, Repr

/-- The block: everything but the queue of waiting commands. -/
structure Device where
  /-- what the running command has raised and sent (R441, R444) -/
  cycle : Cycle := {}
  /-- what has been sent out, oldest first -/
  sent : List Sent := []
  /-- how many free values have been drawn (log entry 2) -/
  draws : Nat := 0
  -- The Cellar Book (chapter 02)
  /-- every entry's value but the parity copies of RWV entries; for those, the staging value -/
  bk : SMap := []
  /-- the parity-0 copy of RWV entries -/
  p0 : SMap := []
  /-- the parity-1 copy of RWV entries -/
  p1 : SMap := []
  /-- DOMAIN objects: the staging copy of RWV objects, the object otherwise -/
  objs : BMap := []
  /-- the parity-0 copy of RWV objects -/
  objs0 : BMap := []
  /-- the parity-1 copy of RWV objects -/
  objs1 : BMap := []
  /-- the words of BAR0's own registers: control page, mailboxes, MSI-X table and pending bits -/
  bar0 : SMap := []
  mode : Mode := .reset
  /-- HOST_STATUS.READY -/
  ready : Bool := false
  clk : Clock := {}
  time : DevTime := {}
  -- Vintages (R42 to R64)
  commit : CommitState := .idle
  /-- the commit time latched at the COMMIT write (R53), as a TIME80 value -/
  commitTime : Nat := 0
  lateNs : Nat := 0
  /-- a previous vintage is live: its number, and the round boundary after which it flipped -/
  previous : Option Nat := none
  flipRound : Nat := 0
  /-- the copy sweep of R57 runs -/
  sweeping : Bool := false
  /-- VTAG values marked expired (R57 to R59) -/
  expired : List Nat := []
  /-- in-flight counts, key slice * 256 + VTAG (R52) -/
  inflight : SMap := []
  /-- egress counts, key slice * 2 + parity (R52) -/
  egressCount : SMap := []
  /-- the digest of the new vintage, computed in Preparing (R54); empty before -/
  newDigest : List Byte := []
  /-- a passed enable check waits for its boundary (R465) -/
  installDue : Bool := false
  /-- what the running check will report: none where it passes (R44, log entry 39); and the member of its entry (R431) -/
  checkFound : Option (Nat × Nat × Nat) := none
  checkMember : Nat := 0
  /-- the digest of the current vintage, which the passes of R64 compare with; and whether it is a pair's (R430) -/
  partDigest : List Byte := []
  pairDigest : Bool := false
  /-- the digest passes end while a comparison agrees from this start on: nowPs of the pass's start -/
  digestPassStart : Nat := 0
  -- Reaching the device (chapter 03)
  tendrilQueue : List TendrilFrame := []
  /-- mailbox requests that wait in the request queue while a joint write is under way, oldest first (R71, R429) -/
  doorbells : List Doorbell := []
  /-- accesses executed in the last counted slot of a round, in order: they take effect once its boundary has passed (R489) -/
  held : List HeldAccess := []
  /-- Tendril frames in the queue that came after the held access which now takes effect -/
  lateFrames : Nat := 0
  ctrlSeq : List CtrlSeq := List.replicate 16 {}
  kept : List Kept := []
  writes : List OpenWrite := []
  window : Option Window := none
  /-- EVENT frames waiting per controller for a port that cannot send: (controller, frame) -/
  eventQueue : List (Nat × List Byte) := []
  eventHolds : List EventHold := []
  -- Events (chapter 18): device time, validity and round of each source's latest raise
  raiseTime : SMap := []
  raiseValid : SMap := []
  raiseRound : SMap := []
  -- Strikes, retirement, Safe-Hold (chapter 18)
  strikes : List Strikes := []
  retired : List Retired := []
  subst : List Substitution := []
  /-- instances restored from the map, back in service at the next Reset: kind * 2^24 + instance -/
  unretiring : List Nat := []
  /-- the flash's two map copies: sequence and records (R451) -/
  mapA : Nat × List Retired := (0, [])
  mapB : Nat × List Retired := (0, [])
  /-- Boot has read the map in flash -/
  mapRead : Bool := false
  /-- the flash's Safe-Hold log: last cause and count (R458), and its ring of 4,095 records of 16 bytes (Table 20.5) -/
  flashCause : Nat := 0
  flashTotal : Nat := 0
  flashLog : BMap := []
  /-- counted slots since Safe-Hold was entered -/
  safeHoldSlots : Nat := 0
  /-- a sensor reads 105 degrees or more (R458) -/
  hot : Bool := false
  -- Bring-up (chapter 19)
  /-- the armed transition's target, from MODE_REQUEST or the end of a check (R464) -/
  armed : Option Mode := none
  /-- the armed transition is one of the pair (R466) -/
  armedPair : Bool := false
  resetHold : Bool := false
  bootPhase : Nat := 0
  -- Lanes and ports (chapters 04 and 05)
  lanes : LaneState := {}
  ports : PortState := {}
  -- The Sorting Table (chapter 07)
  stores : Stores := {}
  shadow : Stores := {}
  /-- the pre-filter of a physical Mask bank (R165): 16,384 bits -/
  filters : SMap := []
  /-- pseudo-channels out of service whose part of the table shadows is to be rebuilt from the die (R254) -/
  shadowLost : List Nat := []
  /-- physical banks out of their logical place: (kind, logical bank, physical bank); 0xFFFF out of service -/
  bankMap : List (Nat × Nat × Nat) := []
  /-- the Care array is powered and loaded (R31, R173) -/
  careLoaded : Bool := false
  /-- locations whose restore from the shadow waits for the Cellarhand: (store, location) (R183) -/
  restores : List (Nat × Nat) := []
  /-- logical Exact and LPM banks, gone without a spare, whose entries wait for the Cellarhand's refit: (store, bank) (R187) -/
  refits : List (Nat × Nat) := []
  -- Coopers and the Cellarhand (chapter 08)
  headers : List Header := []
  nextHeader : Nat := 0
  ctx : List Context := [{}, {}, {}, {}]
  /-- triggers waiting for context 3, ascending -/
  trigWaiting : List Nat := []
  /-- records of the BG_OUTPUT ring, and how many were ever written -/
  bgOutput : List (List Byte) := []
  bgWritten : Nat := 0
  -- Cask, Bins and Cellar (chapter 09), and the frames in flight (chapter 11)
  cells : List Cell := []
  /-- cells freed in this slot: they can be granted from the next one onwards (R228) -/
  freedNow : List Nat := []
  /-- bitmap words that the Cellarhand rebuilds (R252): their cells are not allocated in the slot -/
  rebuilding : List BitmapWord := []
  /-- the bank that each class took last, for the rotation of R228 -/
  lastBank : List Nat := [95, 95, 95, 95]
  frames : List Frame := []
  nextFrame : Nat := 0
  /-- queued copies of every queue, each queue in FIFO order -/
  queued : List Copy := []
  nextCopy : Nat := 0
  jobs : List Job := []
  waiting : List Waiting := []
  /-- the requester that took the last opening, per slice (R18) -/
  lastServed : SMap := []
  /-- classes between XOFF and XON: the copy of XOFF_CLASSES is the entry itself; the last quanta sent, port * 8 + class -/
  pfcSent : SMap := []
  /-- spill cells in use, and those withdrawn with a pseudo-channel -/
  spillUsed : List Nat := []
  /-- racker tokens left in the round: rack-out, return (R248) -/
  rackOutTokens : Nat := 0
  rackInTokens : Nat := 0
  /-- the queue after which the racker's next rack-out visit looks (R248) -/
  rackNext : Nat := 0
  /-- the queue of the racker's last return visit, the copies whose cells it asks for in the next slot, and the queues whose
  return lost its cells in this round (R248) -/
  rackInNext : Nat := 0
  returning : List Nat := []
  returnLost : List Nat := []
  /-- rack-outs written but not yet complete: copy id and its spill cells -/
  racking : List (Nat × List Nat) := []
  /-- queues whose Head was empty with a Middle in this round (R249) -/
  stalled : List Nat := []
  /-- recirculation (R293): the slice, the copy that it moves into intake, the bytes moved, and the slot of its next move -/
  recircMoving : List (Nat × Nat × Nat × Nat) := []
  -- The Decanter (chapter 10)
  dec : Decanter := {}
  -- Telemetry (chapter 13)
  tel : Telemetry := {}
  -- The Gauge (chapter 14)
  gauge : Gauge := {}
  tapLink : TapLink := {}
  -- Siphon (chapter 15)
  /-- the Bulk channel that the read engine served last (R390) -/
  readServed : Nat := 0
  writeServed : Nat := 0
  channels : List Channel := []
  busMaster : Bool := false
  -- Power (chapter 16)
  pow : Power := {}
  -- The Assemblage (chapter 17)
  join : Join := {}
  peer : Peer := {}
  -- Bring-up, package and pins (chapters 19 and 20)
  board : Board := {}
  verify : Verify := {}
  /-- the ports that sleep since Rest was entered (R415) -/
  restPorts : List Nat := []
  /-- the limit of this Drain has passed (R467) -/
  drainOver : Bool := false
deriving DecidableEq, Repr

/-- The machine's state: the block, and the commands that wait, first in, first out. -/
structure State where
  dev : Device
  pending : List Instr
deriving DecidableEq, Repr

/-- The block right after reset (R9, R42, R459): the mode Reset, every entry at its default, nothing in flight. -/
def Device.reset : Device := {}

/-- The state right after reset: the block at its reset values, and no command waiting. -/
def State.reset : State := { dev := Device.reset, pending := [] }

end Sys2Proof.Machine
end

