-- ==== Sys2Proof/Machine/Ops.lean ====
section
/-! DEFINITION. The named operations over the state: reading and writing entries, counters, events, discards, outputs. -/

namespace Sys2Proof.Machine

open Sys2Proof

/-- The cycle that a command stands for ends with it (log entry 178). -/
def Device.endCycle (d : Device) : Device := { d with cycle := {} }

/-- A command that changes the block alone, with clocks or without: the queue stays as it is, and the step goes on. -/
def State.onBoard (s : State) (f : Device → Device) : Host.Outcome State Fault Refusal :=
  .next { s with dev := (f s.dev).endCycle }

/-- The block's Core and Stave clocks run: the hardware trip has not stopped them (R411). -/
def Device.clocked (d : Device) (f : Device → Device) : Device := if d.board.tripped then d else f d

/-- A command that the Core's logic carries out: after the hardware trip it finds every clock stopped (R411). -/
def State.on (s : State) (f : Device → Device) : Host.Outcome State Fault Refusal := s.onBoard (fun d => d.clocked f)

/-! ### Entries -/

/-- The catalogue row of an entry (R33, R34); none where the entry does not exist. -/
def findRow (a : Addr) : Option Row := bookRows.find? (fun r => r.covers a)

/-- What reset loads into an entry (R42), and what it reads before anything is written to it. -/
def defaultOf (a : Addr) : Nat :=
  match findRow a with
  | some r => r.default a
  | none => 0

/-- An entry's value: the staging value of an RWV entry. -/
def Device.rd (d : Device) (a : Addr) : Nat := SMap.get d.bk (defaultOf a) a

/-- The device with an entry's value (the staging value of an RWV entry) replaced. -/
def Device.wr (d : Device) (a : Addr) (v : Nat) : Device := { d with bk := SMap.set d.bk (defaultOf a) a v }

/-- An RWV entry's value in the copy of a parity (R51). -/
def Device.rdp (d : Device) (parity : Nat) (a : Addr) : Nat :=
  SMap.get (if parity % 2 = 0 then d.p0 else d.p1) (defaultOf a) a

/-- The number of the current vintage. -/
def Device.vintage (d : Device) : Nat := d.rd E.VINTAGE_CURRENT

/-- The current parity: bit 0 of the current vintage's number (R45, R49). -/
def Device.parity (d : Device) : Nat := d.vintage % 2

/-- An RWV entry's value in the copy of the current parity (R257, R492). -/
def Device.cur (d : Device) (a : Addr) : Nat := d.rdp d.parity a

/-- The factory content of PARSE_STATES: state 0, one Ethernet header (R142). -/
def factoryStates : List Byte :=
  [0, 0, 0x03, 14, 0, 0, 0, 14] ++ List.replicate 8 0 ++ [0, 0, 14, 0x01, 0, 0] ++ List.replicate 7 0 ++ [1]
    ++ List.replicate 10 0

/-- The factory program PUNT_ALL (R203): one END word that traps with reason 16 and MISS. -/
def puntAll : Nat := 2 ^ 191 + 2 ^ 190 + 2 ^ 189 + (3 * 2 ^ 28 + 2 ^ 23 + 0x110) * 2 ^ 33

/-- A Cooper word of the factory region (R204). -/
def factoryCooperWord (a : Nat) : Nat := if a = 0 then puntAll else Config.factoryWord a % 2 ^ 192

/-- An entry of POLICERS (Table 10.3). -/
def policerEntry (n mode cir pir cbs excess count : Nat) : List Byte :=
  beBytes 4 n ++ [BitVec.ofNat 8 mode, 0, 0, 0] ++ beBytes 4 cir ++ beBytes 4 pir ++ beBytes 4 cbs ++ beBytes 4 excess
    ++ beBytes 4 count ++ [0, 0, 0, 0]

/-- What a DOMAIN object holds by default (R42): the factory content of R142, R203 and R277, an Open image without
words (Table 8.7), the image slots as delivered, and nothing elsewhere. -/
def defaultObject (a : Addr) : List Byte :=
  if a = E.PARSE_STATES then factoryStates
  else if a = E.INGRESS_PROGRAMS then [0, 0, 0, 1] ++ List.replicate 4092 0
  else if a = E.EGRESS_PROGRAMS then List.replicate 4096 0
  else if a = E.FACTORY_IMAGE then (List.range 12288).flatMap (fun i => beBytes 24 (factoryCooperWord i))
  else if E.OPEN_IMAGE 0 ≤ a ∧ a ≤ E.OPEN_IMAGE 31 ∧ subOf a = 0 then
    [0x55, 0x4F, 0x50, 0x4E] ++ List.replicate 98316 0
  else if a = E.POLICERS then (List.range 255).flatMap (fun i => policerEntry (261889 + i) 1 100 0 65536 0 0)
  else if a = E.IMAGE_SLOT_A then Config.deliveredSlot false
  else if a = E.IMAGE_SLOT_B then Config.deliveredSlot true
  else []

/-- The staging copy of a DOMAIN object, or the object where it is not RWV. -/
def Device.obj (d : Device) (a : Addr) : List Byte := BMap.get d.objs (defaultObject a) a

/-- The device with that object replaced. -/
def Device.setObj (d : Device) (a : Addr) (bs : List Byte) : Device :=
  { d with objs := BMap.set d.objs (defaultObject a) a bs }

/-- An RWV object in the copy of a parity. -/
def Device.objp (d : Device) (parity : Nat) (a : Addr) : List Byte :=
  BMap.get (if parity % 2 = 0 then d.objs0 else d.objs1) (defaultObject a) a

/-- An RWV object in the copy of the current parity. -/
def Device.curObj (d : Device) (a : Addr) : List Byte := d.objp d.parity a

/-- A counter entry with `n` added, modulo 2^`w`. -/
def Device.bump (d : Device) (a : Addr) (w n : Nat) : Device := d.wr a ((d.rd a + n) % 2 ^ w)

/-- A U64 counter entry with `n` added; U64 counters wrap. -/
def Device.bump64 (d : Device) (a : Addr) (n : Nat) : Device := d.bump a 64 n

/-- A U32 counter entry with `n` added, stopping at 0xFFFF_FFFF. -/
def Device.bumpSat (d : Device) (a : Addr) (n : Nat) : Device := d.wr a (min (d.rd a + n) 0xFFFFFFFF)

/-- A status entry with one field replaced. -/
def Device.wrBits (d : Device) (a : Addr) (lo w v : Nat) : Device := d.wr a (setBits (d.rd a) lo w v)

/-- A status entry with one bit replaced. -/
def Device.wrBit (d : Device) (a : Addr) (i : Nat) (b : Bool) : Device := d.wrBits a i 1 b.toNat

/-- A bit of an entry. -/
def Device.rdBit (d : Device) (a : Addr) (i : Nat) : Bool := bit (d.rd a) i

/-! ### BAR0 words -/

/-- What an unwritten BAR0 word reads as: HOST_ID, and the mask bit of every MSI-X vector (log entry 10). -/
def bar0Default (off : Nat) : Nat :=
  if off = 0 then 0x4B472048
  else if 0x110000 ≤ off ∧ off < 0x110800 ∧ off % 16 = 12 then 1
  else 0

def Device.bar (d : Device) (off : Nat) : Nat := SMap.get d.bar0 (bar0Default off) off

def Device.setBar (d : Device) (off v : Nat) : Device := { d with bar0 := SMap.set d.bar0 (bar0Default off) off v }

def Device.bumpBar (d : Device) (off n : Nat) : Device := d.setBar off (min (d.bar off + n) 0xFFFFFFFF)

/-- HOST_BAD_WRITES and MB_IGNORED of the control page (Table 3.3). -/
def HOST_BAD_WRITES : Nat := 0x00C
def MB_IGNORED : Nat := 0x010

/-! ### Modes, time, outputs -/

/-- The values of Table 1.7. -/
def Mode.code : Mode → Nat
  | .off => 0 | .reset => 1 | .boot => 2 | .configure => 3 | .check => 4 | .run => 5 | .joinedRun => 6
  | .drain => 7 | .rest => 8 | .recovery => 9 | .diagnostic => 10 | .safeHold => 11

/-- The mode of a value of Table 1.7. -/
def Mode.ofCode (v : Nat) : Option Mode :=
  [Mode.off, .reset, .boot, .configure, .check, .run, .joinedRun, .drain, .rest, .recovery, .diagnostic,
    .safeHold][v]?

/-- The modes in which front frames are forwarded (R302) and a commit may be requested (R53). -/
def Mode.forwards : Mode → Bool
  | .run | .joinedRun | .rest | .recovery => true
  | _ => false

/-- Slots are counted: from the moment the device leaves Reset (R32). -/
def Mode.counts : Mode → Bool
  | .off | .reset => false
  | _ => true

/-- The device with a mode, and MODE_STATE reading it. -/
def Device.setMode (d : Device) (m : Mode) : Device := { d with mode := m }.wr E.MODE_STATE m.code

/-- Nanoseconds in the 2^48 seconds that device time counts (R304). -/
def timeSpan : Nat := 2 ^ 48 * 1000000000

/-- A TIME80 value: 48-bit seconds over 32-bit nanoseconds (Table 2.2). -/
def time80 (ns : Nat) : Nat := ns / 1000000000 % 2 ^ 48 * 2 ^ 32 + ns % 1000000000

/-- The nanoseconds that a TIME80 value names. -/
def ofTime80 (t : Nat) : Nat := t / 2 ^ 32 * 1000000000 + t % 2 ^ 32

/-- Δ(a, b) of two TIME80 values in ns (R306). -/
def timeDelta (a b : Nat) : Int :=
  toInt 48 ((a / 2 ^ 32 + 2 ^ 48 - b / 2 ^ 32 % 2 ^ 48) % 2 ^ 48) * 1000000000 + ((a % 2 ^ 32 : Nat) : Int)
    - ((b % 2 ^ 32 : Nat) : Int)

def Device.now80 (d : Device) : Nat := time80 d.time.ns

/-- TIME_VALID (8000:01). -/
def Device.timeValid (d : Device) : Bool := d.rdBit E.TIME_STATUS 0

/-- An item scheduled at a TIME80 value is due at the round boundary whose time was sampled last (R325). -/
def Device.timeDue (d : Device) (t : Nat) : Bool := d.timeValid && decide (0 ≤ timeDelta (d.rd E.BOUNDARY_TIME) t)

/-- The strike clock in ms (R448): it runs from the board reference from Boot onwards. -/
def Device.strikeMs (d : Device) : Nat := d.clk.nowPs / 1000000000

/-- The device with one more output. -/
def Device.send (d : Device) (o : Sent) : Device := { d with sent := d.sent ++ [o] }

/-- The next free value, and the device with it drawn (log entry 2). -/
def Device.draw (d : Device) : Nat × Device := (Config.freeValue d.draws, { d with draws := d.draws + 1 })

/-! ### Event sources (Table 18.1) -/

namespace Src
def CHECK_DONE : Nat := 0
def MODE_CHANGED : Nat := 1
def SAFE_HOLD_ENTERED : Nat := 2
def DIGEST_MISMATCH : Nat := 3
def GRANT_CHANGED : Nat := 4
def ROUND_OVERRUN : Nat := 5
def TAP_OVERRUN : Nat := 6
def EPOCH_OVERRUN : Nat := 7
def STRIKE : Nat := 8
def RETIRED : Nat := 9
def SPARE_EXHAUSTED : Nat := 10
def RETIREMENT_MAP : Nat := 11
def SCRUB_UNCORRECTABLE : Nat := 12
def BOOK_REPAIRED : Nat := 13
/-- MAILBOX_DONE of mailbox m: 0 to 3 kernel, 4 to 19 user -/
def MAILBOX_DONE (m : Nat) : Nat := 16 + m
def TENDRIL_DROP : Nat := 36
def SEARCH_TIE : Nat := 48
def BANK_LOST : Nat := 49
def TABLE_ENTRY_LOST : Nat := 50
def CELLARHAND_ABORT : Nat := 64
def CELLARHAND_USER (u : Nat) : Nat := 80 + u
def CELL_FREE_REJECTED : Nat := 96
def TIME_STEPPED : Nat := 112
def TIME_HOLDOVER : Nat := 113
def PPS_IN_LOST : Nat := 114
def TX_STAMP_READY : Nat := 115
def COUNTER_CLEAR_DONE : Nat := 128
def HARVEST_DONE : Nat := 129
def HARVEST_SKIPPED : Nat := 130
def GAUGE_RECORD_READY : Nat := 144
def SIPHON_COMPLETION (g : Nat) : Nat := 160 + g
def SIPHON_HALTED : Nat := 176
def SIPHON_BAD : Nat := 177
def OP_CHANGED : Nat := 192
def CAP_UNATTAINABLE : Nat := 193
def DROOP_STORM : Nat := 194
def THERMAL_THROTTLE : Nat := 195
def JOIN_FORMED : Nat := 208
def JOIN_NARROWED : Nat := 209
def JOIN_SPLIT : Nat := 210
def PORT_UP (s : Nat) : Nat := 512 + 16 * s
def PORT_DOWN (s : Nat) : Nat := 513 + 16 * s
def LANE_LOCK_LOST (s : Nat) : Nat := 514 + 16 * s
def LANE_REVERT (s : Nat) : Nat := 515 + 16 * s
def STORE_ERROR (s : Nat) : Nat := 516 + 16 * s
def VINTAGE_EXPIRED (s : Nat) : Nat := 517 + 16 * s
def INTAKE_FULL (s : Nat) : Nat := 518 + 16 * s
def GATE_OVERRUN (s : Nat) : Nat := 519 + 16 * s
def TX_STOMPED (s : Nat) : Nat := 520 + 16 * s
def PASS_LIMIT (s : Nat) : Nat := 521 + 16 * s
end Src

/-! ### Delivery (R443 to R445) -/

/-- One MSI-X message of a vector, or its pending bit while the vector is masked (R444). -/
def Device.sendMsix (d : Device) (v : Nat) : Device :=
  let e := 0x110000 + 16 * v
  if bit (d.bar (e + 12)) 0 then
    let w := 0x110800 + 4 * (v / 32)
    d.setBar w (setBit (d.bar w) (v % 32) true)
  else d.send (.msix v (d.bar (e + 4) * 2 ^ 32 + d.bar e) (d.bar (e + 8)))

/-- The vector has its message of this cycle. -/
def Device.markVector (d : Device) (v : Nat) : Device :=
  { d with cycle := { d.cycle with vectors := d.cycle.vectors ++ [v] } }

/-- A delivery edge in a group: its MSI-X message, where GROUP_ROUTE has MSIX set. Edges to one vector in one cycle make one
message (R444). -/
def Device.deliver (d : Device) (g : Nat) : Device :=
  let r := d.rd (E.GROUP_ROUTE g)
  let v := bits r 0 7
  if bit r 8 && !d.cycle.vectors.contains v then
    (d.markVector v).sendMsix v
  else d

/-- The group is pending: a source of it has STATUS and ENABLE both 1 (R443). -/
def Device.groupPending (d : Device) (g : Nat) : Bool :=
  (d.rd (E.GROUP_STATUS g) &&& d.rd (E.GROUP_ENABLE g)) ≠ 0

/-- EVENT_N is asserted: a group with PIN set is pending (R444). -/
def Device.eventPin (d : Device) : Bool :=
  (List.range 64).any (fun g => bit (d.rd (E.GROUP_ROUTE g)) 9 && d.groupPending g)

/-- The device's serial number, 8 bytes. -/
def Device.serial (d : Device) : List Byte := beBytes 8 (d.rd E.SERIAL)

/-- The 16 bytes of HMAC that follow a Tendril payload (R83). -/
def Device.tendrilMac (d : Device) (ctrl : Nat) (slotB : Bool) (header payload : List Byte) : List Byte :=
  let key := beBytes 32 (d.rd (if slotB then E.KEY_B ctrl else E.KEY_A ctrl))
  (hmac256 key (d.serial ++ header ++ payload)).take 16

/-- The slot that authenticates beacons and events: A if enabled, else B (R88). -/
def Device.eventSlot (d : Device) (ctrl : Nat) : Bool := !bit (d.rd (E.KEY_SLOTS ctrl)) 0

/-- A 24-byte Tendril header (R82). -/
def tendrilHeader (opcode ctrl : Nat) (slotB : Bool) (flags seq rid result addr ty off len vlow : Nat) : List Byte :=
  [1, BitVec.ofNat 8 opcode, BitVec.ofNat 8 (ctrl % 16 + (if slotB then 16 else 0)), BitVec.ofNat 8 flags]
    ++ beBytes 4 seq ++ beBytes 2 rid ++ beBytes 2 result ++ beBytes 2 (addr / 256) ++ beBytes 1 (addr % 256)
    ++ beBytes 1 ty ++ beBytes 4 off ++ beBytes 2 len ++ beBytes 2 vlow

/-- Pads a frame without FCS to 60 bytes and adds its FCS. -/
def closeFrame (bs : List Byte) : List Byte :=
  let p := bs ++ List.replicate (60 - bs.length) 0
  p ++ leBytes 4 (crc32eth p)

/-- The port can send: a front port whose link is up, or 0x840 with its link up (R80). -/
def Device.canSend (d : Device) (port : Nat) : Bool :=
  if port = 0x840 then d.rdBit E.MGMT_STATUS 0
  else decide (port < 512) && d.rdBit (E.PORT_STATUS port) 0

/-- A tap adder of a front port (R133): 0 ingress accepted, 1 ingress discarded, 2 egress transmitted, 3 egress
discarded; one frame of `n` bytes. The accepted and transmitted bytes also count in the port's running window (R336).
Other ports have no adders. -/
def Device.tap (d : Device) (port adder n : Nat) : Device :=
  if port < 512 then
    let k := port * 8 + adder * 2
    let t := SMap.set d.ports.taps 0 k (SMap.get d.ports.taps 0 k + 1)
    let d := { d with ports := { d.ports with taps := SMap.set t 0 (k + 1) (SMap.get t 0 (k + 1) + n) } }
    let w := port * 2 + adder / 2
    if adder % 2 = 0 then { d with tel := { d.tel with window := SMap.set d.tel.window 0 w (SMap.get d.tel.window 0 w + n) } }
    else d
  else d

/-- Payload per lane in Gb/s by lane mode (Table 4.1). -/
def lanePayload (mode : Nat) : Nat := [0, 25, 50, 100, 200, 400, 401].getD mode 0

/-- A front port's payload rate in Gb/s (PORT_RATE_GBPS); 0 when it is absent. -/
def Device.portRate (d : Device) (p : Nat) : Nat :=
  d.cur (E.PORT_WIDTH p) * lanePayload (d.cur (E.LANE_MODE (d.cur (E.PORT_LANE_BASE p))))

/-- The wire's rate in Gb/s: the payload rate of a front port, or that of MGMT_MODE (Tables 5.1 and 5.4). -/
def Device.wireRate (d : Device) (p : Nat) : Nat :=
  if p = 0x840 then [0, 1, 10, 25, 25].getD (d.rd E.MGMT_MODE) 0 else d.portRate p

/-- Half picoseconds that a byte takes on a port's wire. -/
def Device.byteTime (d : Device) (p : Nat) : Nat := 16000 / d.wireRate p

/-- A front port's lanes (R115). -/
def Device.portLanes (d : Device) (p : Nat) : List Nat :=
  (List.range (d.cur (E.PORT_WIDTH p))).map (· + d.cur (E.PORT_LANE_BASE p))

/-- The transmit side of a front port is in low-power idle, or a lane of it sleeps (R132). -/
def Device.txSleeps (d : Device) (p : Nat) : Bool :=
  p < 512 && (d.rdBit (E.PORT_STATUS p) 6 || (d.portLanes p).any (fun l =>
    bits (d.rd (E.LANE_STATUS l)) 6 2 = 1 || bits (d.rd (E.LANE_STATUS l)) 6 2 = 2))

/-- A copy that the port has selected may start now. -/
def Device.copyDue (d : Device) (p : Nat) : Bool :=
  d.dec.tx.any (fun t => t.port = p && !t.started && t.start ≤ 2 * d.clk.nowPs)

/-- The wire of a port is free of copies, and of what was inserted between them. -/
def Device.wireIdle (d : Device) (p : Nat) : Bool :=
  !d.dec.tx.any (fun t => t.port = p && t.started) && !d.dec.ownWire.any (fun w => w.port = p && w.waits)
    && SMap.get d.dec.wireEnd 0 p ≤ 2 * d.clk.nowPs

/-- An inserted frame goes onto its port's wire from a time on, for its bytes and 20 of preamble and gap. -/
def Device.ownOnto (d : Device) (p : Nat) (bytes : List Byte) (pfc : Bool) (from' : Nat) : Device :=
  { d with dec := { d.dec with
      ownWire := d.dec.ownWire ++ [{ port := p, bytes := bytes, pfc := pfc, start := from' }]
      wireEnd := SMap.set d.dec.wireEnd 0 p (from' + (bytes.length + 20) * d.byteTime p) } }

/-- The oldest waiting Tendril frame of a port takes a place between frames (R263), behind a due PFC frame and behind a
selected copy that may start. A sleeping transmit side is first to be woken (R132). -/
def Device.insertOwn (d : Device) (p : Nat) : Device :=
  match d.dec.own.find? (fun x => x.1 = p) with
  | none => d
  | some x =>
    if !d.canSend p || d.txSleeps p || !d.wireIdle p || d.dec.pfcDue.any (fun y => y.1 = p) || d.copyDue p then d
    else
      ({ d with dec := { d.dec with own := d.dec.own.erase x } } : Device).ownOnto p x.2 false
        (max (2 * d.clk.nowPs) (SMap.get d.dec.wireEnd 0 p))

/-- A frame of the device is given to a port's transmit MAC, which inserts it between frames (R81, R263). -/
def Device.sendFrame (d : Device) (port : Nat) (bs : List Byte) : Device :=
  ({ d with dec := { d.dec with own := d.dec.own ++ [(port, bs)] } } : Device).insertOwn port

/-- A frame of the device's own is an EVENT frame to the controller. -/
def Device.isEventTo (d : Device) (ctrl : Nat) (bs : List Byte) : Bool :=
  slice bs 12 2 == beBytes 2 (d.rd E.TENDRIL_ETHERTYPE) && slice bs 14 1 == [1] && slice bs 15 1 == [0x20]
    && slice bs 0 6 == beBytes 6 (d.rd (E.CTRL_MAC ctrl))

/-- EVENT frames that wait for a controller: for its port to be able to send, or for a place on its wire (R445). -/
def Device.eventsWaiting (d : Device) (ctrl : Nat) : Nat :=
  (d.eventQueue.filter (fun e => e.1 = ctrl)).length + (d.dec.own.filter (fun x => d.isEventTo ctrl x.2)).length

/-- A device-originated Tendril frame to a controller (R81, R88, R89): it takes the controller's next sequence number.
It is given to its port where that can send, and an EVENT waits otherwise; one that finds 64 waiting is dropped (R445, log
entry 11). -/
def Device.originate (d : Device) (ctrl opcode : Nat) (payload : List Byte) : Device :=
  let slotB := d.eventSlot ctrl
  let cs := d.ctrlSeq.getD ctrl {}
  let hdr := tendrilHeader opcode ctrl slotB 0 cs.tx 0 0 0 0 0 payload.length 0
  let mac := d.tendrilMac ctrl slotB hdr payload
  let frame := closeFrame (beBytes 6 (d.rd (E.CTRL_MAC ctrl)) ++ beBytes 6 (d.rd E.TENDRIL_MAC)
    ++ beBytes 2 (d.rd E.TENDRIL_ETHERTYPE) ++ hdr ++ payload ++ mac)
  let port := d.rd (E.CTRL_PORT ctrl)
  if opcode = 0x20 ∧ 64 ≤ d.eventsWaiting ctrl then d
  else if d.canSend port then
    { d with ctrlSeq := modAt d.ctrlSeq ctrl (fun c => { c with tx := (c.tx + 1) % 2 ^ 32 }) }.sendFrame port frame
  else if opcode = 0x20 then
    { d with ctrlSeq := modAt d.ctrlSeq ctrl (fun c => { c with tx := (c.tx + 1) % 2 ^ 32 })
             eventQueue := d.eventQueue ++ [(ctrl, frame)] }
  else d

/-- EVENT frames that wait leave as soon as their controller's port can send and Tendril is enabled (R77, R445). -/
def Device.flushEvents (d : Device) : Device :=
  d.eventQueue.foldl (fun (d : Device) e =>
    let port := d.rd (E.CTRL_PORT e.1)
    if d.rd E.TENDRIL_ENABLE = 1 ∧ d.canSend port then { d with eventQueue := d.eventQueue.erase e }.sendFrame port e.2 else d) d

/-- The EVENT frame payload of Table 18.2. -/
def Device.eventPayload (d : Device) (n : Nat) (coalesced : Bool) : List Byte :=
  let g := n / 16
  let occ := d.rd (E.SOURCE_OCC g (n % 16))
  beBytes 2 n ++ beBytes 1 (occ % 256) ++ beBytes 1 (bits occ 8 1 + (if coalesced then 2 else 0))
    ++ beBytes 2 (d.rd (E.GROUP_STATUS g)) ++ [0, 0] ++ beBytes 4 (d.rd (E.SOURCE_DETAIL g (n % 16)))
    ++ beBytes 4 (d.rd (E.SOURCE_RAISES g (n % 16))) ++ beBytes 10 (SMap.get d.raiseTime 0 n)
    ++ beBytes 1 (SMap.get d.raiseValid 0 n) ++ [0] ++ beBytes 8 (SMap.get d.raiseRound 0 n)

/-- The controller takes events of the group (R89), and Tendril is on. -/
def Device.selects (d : Device) (ctrl g : Nat) : Bool :=
  d.rd E.TENDRIL_ENABLE = 1 && d.rd (E.CTRL_ENABLE ctrl) = 1 && bit (d.rd (E.EVENT_GROUPS ctrl (g / 32))) (g % 32)

/-- A raise of source `n` seen by one controller (R445): a frame at once, or the mark for the coalesced one. -/
def Device.eventTo (d : Device) (n ctrl : Nat) : Device :=
  if d.selects ctrl (n / 16) then
    match d.eventHolds.find? (fun h => h.ctrl = ctrl && h.source = n) with
    | some h =>
      if d.clk.nowPs < h.sentPs + 1000000000 then
        { d with eventHolds := modFirst d.eventHolds (fun h => h.ctrl = ctrl && h.source = n)
                   (fun h => { h with waiting := true }) }
      else
        { d with eventHolds := modFirst d.eventHolds (fun h => h.ctrl = ctrl && h.source = n)
                   (fun h => { h with sentPs := d.clk.nowPs, waiting := false }) }.originate ctrl 0x20
          (d.eventPayload n false)
    | none =>
      { d with eventHolds := d.eventHolds ++ [({ ctrl := ctrl, source := n, sentPs := d.clk.nowPs, waiting := false } : EventHold)] }.originate ctrl 0x20
        (d.eventPayload n false)
  else d

/-- OCC after one increment (R441): COUNT saturates at 255 with the sticky SATURATED bit. -/
def occNext (occ : Nat) : Nat := if occ % 256 = 255 then setBit occ 8 true else occ + 1

/-- A raise of source `n` makes a delivery edge (R443); `met` says that it meets a clear of the source (R442). -/
def Device.raiseEdge (d : Device) (n : Nat) (met : Bool) : Bool :=
  bit (d.rd (E.GROUP_ENABLE (n / 16))) (n % 16) && (met || !bit (d.rd (E.GROUP_STATUS (n / 16))) (n % 16))

/-- The lowest instance that this cycle's raises of the source have named (R441). -/
def Device.raisedLow (d : Device) (n : Nat) : Option Nat := (d.cycle.raised.find? (fun r => r.1 = n)).map (·.2)

/-- DETAIL takes a raise's value but where the cycle has one of a lower instance (R441). -/
def Device.takesDetail (d : Device) (n detail : Nat) : Bool :=
  match d.raisedLow n with
  | some low => detail % 2 ^ 24 < low
  | none => true

/-- A raise's DETAIL is written, where the source takes it. -/
def Device.writeDetail (d : Device) (n detail : Nat) : Device :=
  if d.takesDetail n detail then
    { d.wr (E.SOURCE_DETAIL (n / 16) (n % 16)) detail with
        cycle := { d.cycle with raised := d.cycle.raised.filter (fun r => r.1 ≠ n) ++ [(n, detail % 2 ^ 24)] } }
  else d

/-- What a raise of source `n` with its DETAIL changes in the source (R441): STATUS, OCC, RAISES and DETAIL. -/
def Device.raiseState (d : Device) (n detail : Nat) : Device :=
  let g := n / 16
  let i := n % 16
  let d := d.wr (E.GROUP_STATUS g) (setBit (d.rd (E.GROUP_STATUS g)) i true)
  let d := d.wr (E.SOURCE_OCC g i) (occNext (d.rd (E.SOURCE_OCC g i)))
  let d := d.bump (E.SOURCE_RAISES g i) 32 1
  let d := d.writeDetail n detail
  { d with raiseTime := SMap.set d.raiseTime 0 n d.now80
           raiseValid := SMap.set d.raiseValid 0 n d.timeValid.toNat
           raiseRound := SMap.set d.raiseRound 0 n (d.rd E.ROUND_COUNT) }

/-- The EVENT frames of a raise of source `n`, by controller. -/
def Device.eventFrames (d : Device) (n : Nat) : Device := (List.range 16).foldl (fun d c => d.eventTo n c) d

/-- A raise of source `n` with its DETAIL (R441): the source, the delivery edge, and the EVENT frames. Events are raised in
every mode in which READY is 1. -/
def Device.raise (d : Device) (n detail : Nat) : Device :=
  if d.ready && !d.board.tripped then
    let edge := d.raiseEdge n false
    let d := d.raiseState n detail
    let d := if edge then d.deliver (n / 16) else d
    d.eventFrames n
  else d

/-- The modes in which the Care array is powered (R31). -/
def Mode.powersCare : Mode → Bool
  | .boot | .configure | .check | .recovery | .diagnostic => true
  | _ => false

/-- The device enters a major mode, and MODE_CHANGED is raised (log entry 41). In a mode without the Care array its
contents remain in the shadow alone (R173). -/
def Device.enterMode (d : Device) (m : Mode) : Device :=
  ({ d with careLoaded := d.careLoaded && m.powersCare }.setMode m).raise Src.MODE_CHANGED 0

/-! ### Results (Table 3.8) -/

namespace Res
def OK : Nat := 0
def NO_ENTRY : Nat := 1
def ACCESS : Nat := 2
def PRINCIPAL : Nat := 3
def BUSY : Nat := 4
def TYPE_LENGTH : Nat := 5
def VALUE : Nat := 6
def BAD_OPCODE : Nat := 7
def DOMAIN_SEQUENCE : Nat := 8
def CRC_MISMATCH : Nat := 9
def SEALED : Nat := 10
def NOT_READY : Nat := 11
def NOT_GRANTED : Nat := 12
end Res

/-! ### Discards (Table 11.3) -/

namespace Reason
def PCS_ERROR : Nat := 1
def OVERSIZE : Nat := 2
def UNDERSIZE : Nat := 3
def FCS_ERROR : Nat := 4
def PREEMPT_ASSEMBLY : Nat := 5
def PORT_DISABLED : Nat := 6
def MAC_CONTROL : Nat := 7
def INTAKE_FULL : Nat := 8
def LEN_CONFLICT : Nat := 9
def PARSE_TRUNCATED : Nat := 10
def PARSE_FAIL : Nat := 11
def IPV4_CHECKSUM : Nat := 12
def SIEVE_OVERFLOW : Nat := 13
def EXTRACT_SKIPPED : Nat := 14
def VINTAGE_EXPIRED : Nat := 15
def STORE_ERROR : Nat := 16
def TRAP_POLICED : Nat := 17
def POLICED_RED : Nat := 18
def PROGRAM_DISCARD : Nat := 19
def BAD_PORT : Nat := 20
def NO_DISPOSITION : Nat := 21
def PASS_LIMIT : Nat := 22
def INGRESS_LIMIT : Nat := 23
def NO_CELL : Nat := 24
def NO_DESCRIPTOR : Nat := 25
def REPLICATION_FULL : Nat := 26
def MC_NO_MEMBER : Nat := 27
def MIRROR_POLICED : Nat := 28
def QUEUE_LIMIT : Nat := 29
def RACK_LIMIT : Nat := 30
def CELL_ERROR : Nat := 31
def CELLAR_ERROR : Nat := 32
def LINK_DOWN : Nat := 33
def GATE_OVERRUN : Nat := 34
def EGRESS_MTU : Nat := 35
def MGMT_FIFO_FULL : Nat := 36
end Reason

/-- One discard counted by its reason (R303). -/
def Device.discarded (d : Device) (code : Nat) : Device := d.bump64 (E.DISCARDS_BY_REASON (code - 1)) 1

/-! ### Ports -/

/-- The front port exists in a configuration whose PORT_WIDTH is read by `w` (R115). -/
def Device.portExists (d : Device) (p : Nat) : Bool := decide (p < 512) && d.cur (E.PORT_WIDTH p) ≠ 0

/-- The records `base + i` (i below `count`) whose subindex `sub` the copy of a parity lists, that is holds at another
value than its default: `i`, ascending. -/
def Device.listedIn (d : Device) (parity base count sub : Nat) : List Nat :=
  (if parity % 2 = 0 then d.p0 else d.p1).filterMap (fun e =>
    if base ≤ indexOf e.1 ∧ indexOf e.1 < base + count ∧ subOf e.1 = sub then some (indexOf e.1 - base) else none)

/-- The same of the copy of the current parity. -/
def Device.curListed (d : Device) (base count sub : Nat) : List Nat := d.listedIn d.parity base count sub

/-- The records `base + i` whose subindex `sub` the book lists at another value than its default. -/
def Device.bookListed (d : Device) (base count sub : Nat) : List Nat :=
  d.bk.filterMap (fun e =>
    if base ≤ indexOf e.1 ∧ indexOf e.1 < base + count ∧ subOf e.1 = sub then some (indexOf e.1 - base) else none)

/-- The front ports that exist, ascending: an absent port's PORT_WIDTH reads its default 0, which no map lists. -/
def Device.ports' (d : Device) : List Nat := d.curListed 0x2400 512 2

/-- The slice of a port (R14, R15); injected and management frames use slice 0 (R17). -/
def Device.sliceOf (d : Device) (p : Nat) : Nat :=
  if p < 512 then d.cur (E.PORT_LANE_BASE p) / 16
  else if 0x820 ≤ p ∧ p ≤ 0x83F then p - 0x820
  else 0

/-- The port is administratively up: it sleeps in Rest as with ADMIN_UP 0 (R119, R415). -/
def Device.adminUp (d : Device) (p : Nat) : Bool := bit (d.cur (E.PORT_CONTROL p)) 0 && !d.restPorts.contains p

/-- The slice is clock-gated in Rest (R415): no front port of it is awake. Slice 0 never is. -/
def Device.sliceGated (d : Device) (s : Nat) : Bool :=
  d.mode = .rest && s ≠ 0 && d.ports'.all (fun p => d.sliceOf p ≠ s || d.restPorts.contains p)

/-- The join is formed (JOIN_STATE reads Joined): the joint port space and the crossing are in force (log entry 18). -/
def Device.joined (d : Device) : Bool := d.rd E.JOIN_STATE = 4

/-- This member's number: 0 primary, 1 secondary (R417). -/
def Device.member (d : Device) : Nat := d.rd E.JOIN_ROLE

/-- The number by which a local front port is named outside records indexed by port (R427). -/
def Device.jointPort (d : Device) (p : Nat) : Nat := if d.joined ∧ p < 512 then 0x200 * d.member + p else p

/-- The local front port that a port number names (R427). -/
def Device.localPort (d : Device) (p : Nat) : Option Nat :=
  if d.joined then (if p < 1024 ∧ p / 512 = d.member then some (p % 512) else none)
  else if p < 512 then some p
  else none

/-- The front port that a lane belongs to in the current vintage. -/
def Device.portOfLane (d : Device) (l : Nat) : Option Nat :=
  d.ports'.find? (fun p => d.cur (E.PORT_LANE_BASE p) ≤ l && l < d.cur (E.PORT_LANE_BASE p) + d.cur (E.PORT_WIDTH p))

/-- The PCS code of Table 5.2 for a width and lane mode; 0 where the pair is no row of it. -/
def pcsCode (width mode : Nat) : Nat :=
  match width * lanePayload mode with
  | 200 => if mode ≤ 4 then 1 else 0
  | 400 => if mode ≤ 5 then 2 else 0
  | 800 => if mode ≤ 5 then 3 else 0
  | 1600 => if mode ≤ 5 then 4 else 0
  | 3200 => if mode ≤ 5 then 5 else 0
  | _ => 0

/-- The keys of a port's PCS instances: a 3.2T port has two (R118), instance A on its four lower lanes. -/
def Device.instances (d : Device) (p : Nat) : List Nat :=
  if pcsCode (d.cur (E.PORT_WIDTH p)) (d.cur (E.LANE_MODE (d.cur (E.PORT_LANE_BASE p)))) = 5 then [p, p + 512] else [p]

/-! ### Joint and member entries (R428) -/

/-- The entry is a member entry (R428). -/
def memberEntry (a : Addr) : Bool :=
  let i := indexOf a
  let within (lo hi : Nat) : Bool := lo ≤ i && i ≤ hi
  (match findRow a with
    | some r => r.acc = .ro
    | none => true)
  || within 0x1030 0x103F || within 0x1100 0x11FF || within 0x2000 0x2FFF || within 0x6100 0x64FF || within 0x7100 0x72FF
  || within 0x8000 0x8FFF || within 0x9000 0x90FF || within 0xA000 0xAFFF || within 0xB000 0xB1FF || within 0xC000 0xDFFF
  || within 0xEF00 0xEF01

/-- A write of the entry concerns both members of a pair: it is a joint entry, and the join is formed. -/
def Device.isJoint (d : Device) (a : Addr) : Bool := d.joined && !memberEntry a

/-- The entry has a copy in each parity: RWV entries, and RWC entries as the last installation or commit found them. -/
def copied (a : Addr) : Bool :=
  match findRow a with
  | some r => r.acc = .rwv || r.acc = .rwc
  | none => false

/-- The partner's value of a member entry in a parity, as this member holds it (R430). -/
def Device.peerRd (d : Device) (q : Nat) (a : Addr) : Nat :=
  SMap.get (if q % 2 = 0 then d.peer.copy0 else d.peer.copy1) (defaultOf a) a

/-- This member follows its partner's device time (R433). -/
def Device.followsTime (d : Device) : Bool := d.joined && d.member = 1

end Sys2Proof.Machine
end

