-- ==== Sys2Proof/Machine/Counters.lean ====
section
/-! DEFINITION. The hardware counters and their chains, samplers, export rings and telemetry records (chapter 13). -/

namespace Sys2Proof.Machine

open Sys2Proof

/-! ### Counters (R330 to R333) -/

/-- The counter lies in a chain range (R331). -/
def Device.chained (d : Device) (n : Nat) : Bool :=
  (List.range 64).any (fun c =>
    let k := d.rd (E.CHAIN_COUNT c)
    k ≠ 0 && d.rd (E.CHAIN_FIRST c) ≤ n && n < d.rd (E.CHAIN_FIRST c) + k)

def Device.counter (d : Device) (n : Nat) : Nat := SMap.get d.tel.counters 0 n

/-- Counter `n` holds the low 32 bits of `v`. -/
def Device.setCounter (d : Device) (n v : Nat) : Device :=
  { d with tel := { d.tel with counters := SMap.set d.tel.counters 0 n (v % 2 ^ 32) } }

/-- The chained pair `k`: counters 2k (low half) and 2k + 1 (R331, R74). -/
def Device.pair (d : Device) (k : Nat) : Nat := d.counter (2 * k + 1) * 2 ^ 32 + d.counter (2 * k)

/-- The first counter of the unit `off` units after `base` (R332). -/
def Device.unitAt (d : Device) (base off : Nat) : Nat :=
  if d.chained base then base - base % 2 + 2 * off else base + off

/-- `n` added to the unit that begins at counter `u`; a unit beyond counter 2,097,151 is not updated (R332). -/
def Device.addAt (d : Device) (u n : Nat) : Device :=
  if d.chained u then
    if u + 1 ≤ 2097151 then
      let v := (d.pair (u / 2) + n) % 2 ^ 64
      (d.setCounter u v).setCounter (u + 1) (v / 2 ^ 32)
    else d
  else if u ≤ 2097151 then d.setCounter u (d.counter u + n)
  else d

/-- `n` added to the unit `off` units after `base`. -/
def Device.addUnit (d : Device) (base off n : Nat) : Device := d.addAt (d.unitAt base off) n

/-! ### Export rings (R341) -/

/-- An item for ring `x` of `size` bytes per item: into its FIFO, or lost where the FIFO is full; none while the ring is
off. -/
def Device.pushRing (d : Device) (x : Nat) (item : List Byte) : Device :=
  if d.cur (E.RING_CHANNEL x) = 0xFFFF then d
  else if (d.tel.fifos.getD x []).length < 4096 then
    { d with tel := { d.tel with fifos := modAt d.tel.fifos x (· ++ [item]) } }
  else d.bump64 (E.RING_LOST x) 1

/-! ### Samplers (R339) -/

/-- One step of the Galois LFSR of polynomial x^32 + x^22 + x^2 + x + 1 (log entry 12). -/
def lfsrStep (s : Nat) : Nat := if s % 2 = 1 then (s / 2) ^^^ 0x80200003 else s / 2

/-- One event seen by sampler `k` while it is enabled: whether the sampler selects it. Its entries are read in the copy
of a parity: that of the frame's VTAG in its ingress pass (R49). -/
def Device.sampleEvent (d : Device) (parity k : Nat) : Device × Bool :=
  let ctl := d.rdp parity (E.SAMPLER_CONTROL k)
  if bit ctl 0 then
    let rate := d.rdp parity (E.SAMPLE_RATE k)
    let d := d.bump64 (E.SAMPLED k) 1
    let n := SMap.get d.tel.events 0 k + 1
    let s := lfsrStep (SMap.get d.tel.lfsr (k + 1) k)
    let d := { d with tel := { d.tel with events := SMap.set d.tel.events 0 k n } }
    if bit ctl 1 then
      ({ d with tel := { d.tel with lfsr := SMap.set d.tel.lfsr (k + 1) k s } },
        decide (s % 2 ^ 24 < 2 ^ 24 / rate))
    else (d, n % rate = 0)
  else (d, false)

/-- The samplers whose SOURCE is a discard code, offered the discard: the lowest that selects it joins `sel`. -/
def Device.sampleDiscard (d : Device) (parity code : Nat) (sel : List Nat) : Device × List Nat :=
  (d.listedIn parity 0x8700 256 1).foldl (fun (st : Device × List Nat) k =>
    if bits (st.1.rdp parity (E.SAMPLER_CONTROL k)) 8 8 = code && bit (st.1.rdp parity (E.SAMPLER_CONTROL k)) 0 then
      let r := st.1.sampleEvent parity k
      (r.1, if r.2 then st.2 ++ [k] else st.2)
    else st) (d, sel)

/-! ### Telemetry records (R328, R329, R340) -/

/-- What a record takes from the frame, from the copy, and from what became of them. -/
def recordBytes (seq inPort egPort queue len vtag kind reason detail flags parse rx tx depth cask sampler pass : Nat) :
    List Byte :=
  leBytes 8 seq ++ leBytes 2 inPort ++ leBytes 2 egPort ++ leBytes 2 queue ++ leBytes 2 len ++ leBytes 1 vtag
    ++ leBytes 1 kind ++ leBytes 1 reason ++ leBytes 1 detail ++ leBytes 2 flags ++ leBytes 2 parse
    ++ leBytes 4 (rx / 2 ^ 32) ++ leBytes 4 rx ++ leBytes 4 (tx / 2 ^ 32) ++ leBytes 4 tx ++ leBytes 4 depth
    ++ leBytes 4 cask ++ leBytes 1 sampler ++ leBytes 1 pass ++ leBytes 2 0 ++ List.replicate 12 0

/-- The record completed, and its postcard produced where a sampler selected it (R340): SKID 0, since the model samples
the shared fields in the slot of the event. -/
def Device.postcard (d : Device) (sel : List Nat) (mk : Nat → Nat → List Byte) : Device :=
  match sel with
  | [] => d
  | s :: rest =>
    let k := rest.foldl min s
    if d.cur (E.RING_CHANNEL 0) = 0xFFFF then d
    else
      let d := { d with tel := { d.tel with postcards := d.tel.postcards + 1 } }
      d.pushRing 0 (mk d.tel.postcards k)

end Sys2Proof.Machine
end

