-- ==== Sys2Proof/Machine/Cask.lean ====
section
/-! DEFINITION. Cask cells, their accounts and their ownership, and the Cellar's spill cells (chapter 09). -/

namespace Sys2Proof.Machine

open Sys2Proof

/-! ### Queues (R238, Table 9.3)

A queue is numbered as the telemetry record numbers it: front queues 0 to 8,191, CPU queue n as 0x2000 + n, the
recirculation queue of slice s as 0x2080 + s, the management port queue as 0x20A0, and the cross queue of class t as
0x20B0 + t. A queue's owner token is 0x1000 plus its number. -/

def cpuQueue (n : Nat) : Nat := 0x2000 + n
def recircQueue (s : Nat) : Nat := 0x2080 + s
def mgmtQueue : Nat := 0x20A0
def crossQueue (t : Nat) : Nat := 0x20B0 + t

/-- Front queue 16p + 8m + t. -/
def frontQueue (p m t : Nat) : Nat := 16 * p + 8 * m + t

def isFront (q : Nat) : Bool := q < 8192
def isCross (q : Nat) : Bool := decide (0x20B0 ≤ q) && decide (q < 0x20B8)

/-- The port of a front queue. -/
def portOf (q : Nat) : Nat := q / 16

/-- The traffic class of a front or cross queue. -/
def classOf (q : Nat) : Nat := q % 8

/-- The token under which a queue owns cells (Table 9.3). -/
def tokenOf (q : Nat) : Nat := 0x1000 + q

def replicatorToken : Nat := 0x0100
def rackerToken : Nat := 0x0200

/-! ### Banks and classes (R221 to R224) -/

/-- The physical instance that serves a logical bank or pseudo-channel before any substitution (Table 18.4; log entry
13 for kind 9). -/
def homeOf (kind logical : Nat) : Nat :=
  if kind = 3 then 66 * (logical / 64) + logical % 64
  else if kind = 8 then 25 * (logical / 24) + logical % 24
  else if kind = 9 then 32 * (logical / 31) + logical % 31
  else logical

/-- The logical bank or pseudo-channel that a physical instance serves before any substitution; none for a spare. -/
def homeLogical (kind inst : Nat) : Option Nat :=
  if kind = 3 then (if inst % 66 < 64 then some (64 * (inst / 66) + inst % 66) else none)
  else if kind = 4 then (if inst < 64 then some inst else none)
  else if kind = 5 then (if inst < 496 then some inst else none)
  else if kind = 8 then (if inst % 25 < 24 then some (24 * (inst / 25) + inst % 25) else none)
  else if kind = 9 then (if inst % 32 < 31 then some (31 * (inst / 32) + inst % 32) else none)
  else some inst

/-- The physical instance that serves a logical bank or pseudo-channel of a kind; 0xFFFF where it is out of service. -/
def Device.physical (d : Device) (kind logical : Nat) : Nat :=
  match d.bankMap.find? (fun m => m.1 = kind && m.2.1 = logical) with
  | some m => m.2.2
  | none => homeOf kind logical

/-- The logical bank or pseudo-channel is in service. -/
def Device.bankIn (d : Device) (kind logical : Nat) : Bool := d.physical kind logical ≠ 0xFFFF

/-- The logical bank that a physical instance serves now. -/
def Device.logicalOf (d : Device) (kind inst : Nat) : Option Nat :=
  match d.bankMap.find? (fun m => m.1 = kind && m.2.2 = inst) with
  | some m => some m.2.1
  | none =>
    match homeLogical kind inst with
    | some l => if d.bankMap.any (fun m => m.1 = kind && m.2.1 = l) then none else some l
    | none => none

/-- The logical Cask bank is in service. -/
def Device.caskBankIn (d : Device) (b : Nat) : Bool := d.bankIn 8 b

/-- The logical banks out of service of a kind. -/
def Device.banksOut (d : Device) (kind : Nat) : Nat :=
  (d.bankMap.filter (fun m => m.1 = kind && m.2.2 = 0xFFFF)).length

/-- The first bank of a class and its number of banks (R224). -/
def Device.classBanks (d : Device) (c : Nat) : Nat × Nat :=
  (sumOn (List.range c) (fun i => d.rd (E.BIN_BANKS i)), d.rd (E.BIN_BANKS c))

/-- The class has banks. -/
def Device.classExists (d : Device) (c : Nat) : Bool := d.rd (E.BIN_BANKS c) ≠ 0

/-- The lowest class that exists. -/
def Device.reserveClass (d : Device) : Nat := ((List.range 4).find? d.classExists).getD 0

/-- Units of a cell of class c. -/
def unitsOf (c : Nat) : Nat := 2 ^ c

/-- Bytes of a cell of class c. -/
def cellSize (c : Nat) : Nat := 256 * 2 ^ c

/-- The bank of a handle (R222). -/
def bankOf (h : Nat) : Nat := h / 16384

/-- The class of a bank; 4 where the split gives it none. -/
def Device.classOfBank (d : Device) (b : Nat) : Nat :=
  ((List.range 4).find? (fun c => (d.classBanks c).1 ≤ b && b < (d.classBanks c).1 + (d.classBanks c).2)).getD 4

/-- Units of a listed cell. -/
def Device.unitsOfCell (d : Device) (c : Cell) : Nat := unitsOf (d.classOfBank (bankOf c.handle))

/-- UNITS_IN_SERVICE (R223). -/
def Device.unitsInService (d : Device) : Nat := 1572864 - 16384 * d.banksOut 8

/-- Units of free cells of a class: those of its banks in service, less those of the cells that are not free. -/
def Device.classFree (d : Device) (c : Nat) : Nat :=
  let r := d.classBanks c
  16384 * ((List.range r.2).filter (fun i => d.caskBankIn (r.1 + i))).length
    - unitsOf c * (d.cells.filter (fun x => d.classOfBank (bankOf x.handle) = c && d.caskBankIn (bankOf x.handle))).length

/-- FREE_UNITS. -/
def Device.freeUnits (d : Device) : Nat := sumOn (List.range 4) d.classFree

/-- CASK_UNITS of a telemetry record. -/
def Device.caskUnits (d : Device) : Nat := d.unitsInService - d.freeUnits

/-- Units charged to a port, class and account: 0 reserve, 1 shared, 2 headroom (R236). -/
def Device.used (d : Device) (p t charge : Nat) : Nat :=
  sumOn (d.cells.filter (fun c => c.inPort = p && c.inClass = t && c.charge = charge)) d.unitsOfCell

/-- The port number that a crossing frame's cells are charged to (R425). -/
def joinPort : Nat := 0x3FE

/-- The ingress parameters of a charged port and class: a front port's, or the join's (R425). -/
def Device.inMin (d : Device) (p t : Nat) : Nat := d.cur (if p = joinPort then E.JOIN_IN_MIN t else E.IN_MIN p t)
def Device.inHeadroom (d : Device) (p t : Nat) : Nat := d.cur (if p = joinPort then E.JOIN_HEADROOM t else E.HEADROOM p t)
def Device.inAlpha (d : Device) (p t : Nat) : Nat :=
  bits (d.cur (if p = joinPort then E.JOIN_ALPHA else E.IN_ALPHA p)) (4 * t) 4

/-- The units that a request of this slot may be granted of a class: its free units, less those of the cells freed in the
slot, which can be granted from the next one onwards (R228, R229). -/
def Device.grantable (d : Device) (c : Nat) : Nat :=
  d.classFree c - unitsOf c * (d.freedNow.filter (fun h => d.classOfBank (bankOf h) = c && d.caskBankIn (bankOf h))).length

/-- GUARD_UNITS (R229): reserve and headroom not yet used, over every class of every port that exists, and the join's. -/
def Device.guardUnits (d : Device) : Nat :=
  sumOn d.ports' (fun p => sumOn (List.range 8) (fun t =>
    (d.cur (E.IN_MIN p t) - d.used p t 0) + (d.cur (E.HEADROOM p t) - d.used p t 2)))
  + (if d.joined then sumOn (List.range 8) (fun t =>
      (d.cur (E.JOIN_IN_MIN t) - d.used joinPort t 0) + (d.cur (E.JOIN_HEADROOM t) - d.used joinPort t 2)) else 0)

/-- The free shared units F (R235). -/
def Device.freeShared (d : Device) : Nat := d.freeUnits - d.guardUnits

/-- `u ≤ α × F` for an α code (R235): 2^(k - 4), no limit for code 9. -/
def alphaOk (code u f : Nat) : Bool := code = 9 || (decide (code ≤ 8) && decide (16 * u ≤ 2 ^ code * f))

/-- A class is narrowed by the power cap (R409). -/
def Device.narrowed (d : Device) (t : Nat) : Bool := bit (d.rd E.POWER_STATE) (16 + t)

/-- The charge of a cell of a front-port or crossing frame (R237, R425): 0 reserve, 1 shared, 2 headroom; none is
INGRESS_LIMIT. A reserve or headroom cell has `k` units, a shared one `ks` (R229). -/
def Device.chargeFor (d : Device) (p t k ks : Nat) : Option Nat :=
  if p < 512 ∧ d.narrowed t then none
  else if d.used p t 0 + k ≤ d.inMin p t then some 0
  else if alphaOk (d.inAlpha p t) (d.used p t 1 + ks) d.freeShared then some 1
  else if (p = joinPort || bit (d.cur (E.PORT_CONTROL p)) (16 + t)) && d.used p t 2 + k ≤ d.inHeadroom p t then some 2
  else none

/-- The body class of a frame whose length counts as `l` (R225). -/
def Device.bodyClass (d : Device) (l : Nat) : Nat :=
  let ex := (List.range 4).filter d.classExists
  (ex.find? (fun c => l ≤ d.cur (E.BIN_MAX_LENGTH c))).getD (ex.getLastD 0)

/-! ### Allocation (R228) -/

/-- The least number not in a list, counting from `i` up. -/
def leastFree (used : List Nat) : Nat → Nat → Nat
  | 0, i => i
  | fuel + 1, i => if used.contains i then leastFree used fuel (i + 1) else i

/-- The first cell that a bitmap word is about, and how many it is about, as numbers within the bank (R228). -/
def bitmapSpan (w : BitmapWord) : Nat × Nat := (w.word * 64 ^ (w.level + 1), 64 ^ (w.level + 1))

/-- The cells of a bank whose bitmap words are under rebuild (R252). -/
def withheld (skip : List BitmapWord) (b : Nat) : List Nat :=
  (skip.filter (fun w => w.bank = b)).flatMap (fun w => List.range' (bitmapSpan w).1 (min 16384 (bitmapSpan w).2))

/-- The lowest cell of a bank of class `c` that was free when the slot began and that no bitmap word of `skip` is about;
none where the bank has none or is out of service (R228, R252). -/
def Device.freeCellOf (d : Device) (b c : Nat) (skip : List BitmapWord) : Option Nat :=
  let used := ((d.cells.map (·.handle) ++ d.freedNow).filter (fun x => bankOf x = b)).map (· % 16384) ++ withheld skip b
  let i := leastFree used used.length 0
  if d.caskBankIn b && i < 16384 / 2 ^ c then some (b * 16384 + i) else none

/-- The next bank of the class, in rotation after the bank taken last, with a free cell; its lowest free cell. `skip` are
the bitmap words under rebuild. -/
def Device.pickCell (d : Device) (c : Nat) (skip : List BitmapWord) : Option Nat :=
  let r := d.classBanks c
  let last := d.lastBank.getD c 95
  let start := if r.1 ≤ last && last < r.1 + r.2 then last - r.1 + 1 else 0
  (List.range r.2).findSome? (fun i =>
    let b := r.1 + (start + i) % r.2
    d.freeCellOf b c skip)

/-- The list with a cell put in handle order. -/
def insCell (c : Cell) : List Cell → List Cell
  | [] => [c]
  | x :: t => if c.handle < x.handle then c :: x :: t else x :: insCell c t

/-- A cell allocated to a frame, chained after the frame's last cell of that chain. -/
def Device.takeCell (d : Device) (c : Nat) (cell : Cell) : Device :=
  { d with cells := insCell cell d.cells, lastBank := modAt d.lastBank c (fun _ => bankOf cell.handle) }

/-- A free of a cell by the holder of a token (R233): rejected unless the cell is allocated and was last handed to that
token. -/
def Device.freeCell (d : Device) (h token : Nat) : Device :=
  match d.cells.find? (fun c => c.handle = h) with
  | some c =>
    if c.state = 1 ∧ c.lastOwner = token then
      { d with cells := d.cells.filter (fun c => c.handle ≠ h), freedNow := d.freedNow ++ [h] }
    else
      let cause := if c.state = 1 then 2 else 1
      ((d.bumpSat E.FREE_REJECTS 1).wr E.FREE_REJECT_LAST (token * 2 ^ 48 + cause * 2 ^ 46 + h)).raise
        Src.CELL_FREE_REJECTED 0
  | none =>
    ((d.bumpSat E.FREE_REJECTS 1).wr E.FREE_REJECT_LAST (token * 2 ^ 48 + 2 ^ 46 + h)).raise Src.CELL_FREE_REJECTED 0

/-! ### Frames and queue use -/

def Device.frame? (d : Device) (id : Nat) : Option Frame := d.frames.find? (fun f => f.id = id)

def Device.modFrame (d : Device) (id : Nat) (f : Frame → Frame) : Device :=
  { d with frames := modFirst d.frames (fun x => x.id = id) f }

/-- The cells of a frame. -/
def Device.cellsOf (d : Device) (id : Nat) : List Cell := d.cells.filter (fun c => c.frame = id && c.state = 1)

/-- The units of a frame's Cask cells. -/
def Device.frameUnits (d : Device) (id : Nat) : Nat := sumOn (d.cellsOf id) d.unitsOfCell

/-- Every copy not yet done that belongs to a queue: those that wait in it and those being sent. -/
def Device.copiesOf (d : Device) (q : Nat) : List Copy :=
  d.queued.filter (fun c => c.queue = q) ++ (d.dec.tx.filter (fun t => t.copy.queue = q)).map (·.copy)

/-- Q(q): the units of the Cask cells of the frames that hold a copy in the queue (R236). -/
def Device.queueUse (d : Device) (q : Nat) : Nat :=
  sumOn (((d.copiesOf q).map (·.frame)).eraseDups) d.frameUnits

/-- C(q): the queue's Cellar units (R239). -/
def Device.cellarUse (d : Device) (q : Nat) : Nat :=
  8 * sumOn (d.queued.filter (fun c => c.queue = q)) (fun c => c.spill.length)

/-- The waiting copies of a queue in the order in which they entered it. -/
def Device.waitingIn (d : Device) (q : Nat) : List Copy := d.queued.filter (fun c => c.queue = q)

/-- Copies that have a descriptor: those that wait and those being sent (R227). -/
def Device.descriptors (d : Device) : Nat := d.queued.length + d.dec.tx.length

/-! ### In-flight counts (R52) -/

def inflightKey (s vtag : Nat) : Nat := s * 256 + vtag

def Device.inflightAdd (d : Device) (s vtag : Nat) : Device :=
  let k := inflightKey s vtag
  { d with inflight := SMap.set d.inflight 0 k (SMap.get d.inflight 0 k + 1) }

/-- Frames in flight with a VTAG, over all slices. -/
def Device.inflightOf (d : Device) (vtag : Nat) : Nat :=
  sumOn (List.range 32) (fun s => SMap.get d.inflight 0 (inflightKey s vtag))

/-- A frame's last ingress pass ends; the mark of an expired VTAG clears when the last slice's count reaches 0 (R59). -/
def Device.inflightSub (d : Device) (s vtag : Nat) : Device :=
  let k := inflightKey s vtag
  let d := { d with inflight := SMap.set d.inflight 0 k (SMap.get d.inflight 0 k - 1) }
  if d.inflightOf vtag = 0 then { d with expired := d.expired.filter (· ≠ vtag) } else d

/-- A frame's last ingress pass is over (R52): it counts in flight no more. -/
def Device.land (d : Device) (id : Nat) : Device :=
  match d.frame? id with
  | some f => if f.flying then (d.inflightSub f.slice f.vtag).modFrame id (fun f => { f with flying := false }) else d
  | none => d

/-! ### Holders -/

/-- Every cell of a frame freed with the token of its holder, and its record given back. -/
def Device.freeFrame (d : Device) (id : Nat) : Device :=
  match d.frame? id with
  | none => d
  | some f =>
    let d := (d.cellsOf id).foldl (fun d c => d.freeCell c.handle f.holder) (d.land id)
    { d with frames := d.frames.filter (fun x => x.id ≠ id) }

/-- One holder of the frame less (R243): when the count reaches 0 its cells are freed. -/
def Device.releaseFrame (d : Device) (id : Nat) : Device :=
  match d.frame? id with
  | none => d
  | some f => if f.count ≤ 1 then d.freeFrame id else d.modFrame id (fun f => { f with count := f.count - 1 })

/-- Every cell of a frame handed to a holder (R232). -/
def Device.handOver (d : Device) (id token : Nat) : Device :=
  let d := d.modFrame id (fun f => { f with holder := token })
  { d with cells := d.cells.map (fun c => if c.frame = id ∧ c.state = 1 then { c with lastOwner := token } else c) }

/-! ### The Cellar (R244) -/

/-- Spill cell k lies in logical pseudo-channel k mod 124. -/
def channelOf (k : Nat) : Nat := k % 124

def Device.pcIn (d : Device) (c : Nat) : Bool := d.bankIn 9 c

/-- CELLAR_CELLS_IN_SERVICE. -/
def Device.spillInService (d : Device) : Nat := 24125440 - 194560 * d.banksOut 9

/-- CELLAR_CELLS_FREE. -/
def Device.spillFree (d : Device) : Nat :=
  d.spillInService - (d.spillUsed.filter (fun k => d.pcIn (channelOf k))).length

/-- The `n` lowest free spill cells in service, counting up from `k`. -/
def Device.pickSpill (d : Device) : Nat → Nat → Nat → List Nat
  | 0, _, _ => []
  | fuel + 1, n, k =>
    if n = 0 ∨ 24125440 ≤ k then []
    else if d.spillUsed.contains k || !d.pcIn (channelOf k) then d.pickSpill fuel n (k + 1)
    else k :: d.pickSpill fuel (n - 1) (k + 1)

/-- `n` free spill cells, the lowest first (log entry 14): at most the used ones and those out of service are passed
over. -/
def Device.spillCells (d : Device) (n : Nat) : List Nat :=
  d.pickSpill (n + d.spillUsed.length + 124 * (1 + d.banksOut 9) * (n + d.spillUsed.length + 1)) n 0

/-- The bytes of a head block (R226): 72, and 64 for each 64-byte segment of the HV that holds a byte other than 0. -/
def headBlockBytes (hv : List Byte) : Nat :=
  72 + 64 * ((List.range 6).filter (fun i => (slice hv (64 * i) 64).any (· ≠ 0))).length

/-- The Cellar cells of a frame's rack record (R247). -/
def rackCells (f : Frame) : Nat := ceilDiv (64 + headBlockBytes f.hv + (f.len - 4)) 2040

end Sys2Proof.Machine
end

