-- ==== Sys2Proof/Machine/Frames.lean ====
section
/-! DEFINITION. What ends a frame or a copy: its counters, its telemetry record, its cells (R122, R125, R243, R300 to
R303, R328). -/

namespace Sys2Proof.Machine

open Sys2Proof

/-! ### A frame and its copies -/

/-- The frame came from a front port. -/
def Frame.front (f : Frame) : Bool := f.chargePort < 512

def CopyKind.isMirror : CopyKind → Bool
  | .mirror _ _ => true
  | _ => false

def CopyKind.isTrap : CopyKind → Bool
  | .trap _ _ => true
  | _ => false

/-- A multicast copy: of a member, or the crossing one (R329, R423). -/
def CopyKind.isMulticast : CopyKind → Bool
  | .member _ _ => true
  | .cross _ => true
  | _ => false

/-- The copy carries the frame as received (R153, R299). -/
def CopyKind.asReceived (k : CopyKind) : Bool := k.isMirror || k.isTrap

/-- A copy's length with FCS as the ingress pass left it (R201, R299); meaningful once the frame has ended. -/
def copyLength (f : Frame) (c : Copy) : Nat :=
  let l := f.len - 4
  if c.kind.asReceived then (if c.truncate = 0 then l else min c.truncate l) + 4
  else f.emitLength + (l - f.bodyOffset) + 4

/-- The bytes without FCS that a copy carries when no egress pass edits it. -/
def copyBytes (f : Frame) (c : Copy) : List Byte :=
  if c.kind.asReceived then (if c.truncate = 0 then f.bytes else f.bytes.take c.truncate)
  else slice f.hv 0 f.emitLength ++ f.bytes.drop f.bodyOffset

/-- EGRESS_PORT of a record: the joint number (R427); a copy in a cross queue already names one. -/
def Device.recordPort (d : Device) (c : Copy) : Nat := if isCross c.queue then c.port else d.jointPort c.port

/-- KIND of a record: class, multicast, mirror, injected. -/
def recordKind (f : Frame) (c : Copy) : Nat :=
  c.tc % 8 + (if c.kind.isMulticast then 8 else 0) + (if c.kind.isMirror then 16 else 0) + (if f.source = 2 then 32 else 0)

/-- DETAIL of a copy's record. -/
def recordDetail (c : Copy) (dropCode : Option Nat) : Nat :=
  match dropCode, c.kind with
  | some code, _ => code
  | none, .trap r _ => r
  | none, .mirror m _ => m
  | none, _ => 0

/-- FLAGS of a record that come from the frame. -/
def frameFlags (f : Frame) : Nat :=
  (if f.trapped then 8 else 0) + (if f.punt then 16 else 0) + (if f.late then 32 else 0) + (if f.tie then 64 else 0)
    + (if f.degraded then 128 else 0)

/-- A copy's record is complete (R328): its postcard where a sampler selected it. QUEUE_DEPTH and CASK_UNITS are those of
the slot in which the copy entered its queue (R340); of a copy that entered none, CASK_UNITS is that of now. -/
def Device.copyRecord (d : Device) (f : Frame) (c : Copy) (reason : Nat) (dropCode : Option Nat)
    (cut stomped : Bool) (tx : Nat) (sel : List Nat) : Device :=
  let flags := (if cut then 1 else 0) + (if stomped then 2 else 0) + (if c.racked then 4 else 0) + frameFlags f
  d.postcard sel (fun seq k =>
    recordBytes seq f.inPort (d.recordPort c) c.queue f.len f.vtag (recordKind f c) reason (recordDetail c dropCode) flags
      (beNat (slice f.md 4 2)) f.rxTime tx c.depth (c.cask.getD d.caskUnits) k f.pass)

/-- The record of a copy that has left by another way than a transmit MAC (R328): nothing was sent, so it has no stamp. -/
def Device.leftRecord (d : Device) (c : Copy) : Device :=
  match d.frame? c.frame with
  | some f => d.copyRecord f c 0 none false false 0 f.sampled
  | none => d

/-- The record of a frame that ends its ingress pass with no copy. -/
def Device.frameRecord (d : Device) (f : Frame) (reason code : Nat) (sel : List Nat) : Device :=
  d.postcard sel (fun seq k =>
    recordBytes seq f.inPort 0xFFFF 0xFFFF f.len f.vtag (if f.source = 2 then 32 else 0) reason code (frameFlags f)
      (beNat (slice f.md 4 2)) f.rxTime 0 0 d.caskUnits k f.pass)

/-! ### Counting a loss (Table 11.3) -/

/-- The counters of an INGRESS_LIMIT discard: of the ingress port, or of the join (R237, R409, R425). -/
def Device.limitLoss (d : Device) (f : Frame) : Device :=
  if f.front then
    let d := d.bump64 (E.INGRESS_LIMIT f.chargePort) 1
    if d.narrowed f.inClass then d.bump64 E.NARROW_DISCARDS 1 else d
  else if f.chargePort = joinPort then d.bump64 E.JOIN_INGRESS_LIMIT 1
  else d

/-- The counters that a frame's discard with a code increments besides 6A00. -/
def Device.frameLoss (d : Device) (f : Frame) (code : Nat) : Device :=
  let s := f.slice
  if code = Reason.VINTAGE_EXPIRED then
    ((d.bump64 (E.VINTAGE_EXPIRED s) 1).bumpSat E.EXPIRED_TOTAL 1).raise (Src.VINTAGE_EXPIRED s) f.inPort
  else if code = Reason.STORE_ERROR then d.raise (Src.STORE_ERROR s) f.inPort
  else if code = Reason.PROGRAM_DISCARD then d.bump64 (E.PROGRAM_DISCARDS s) 1
  else if code = Reason.BAD_PORT then d.bump64 (E.BAD_PORT s) 1
  else if code = Reason.NO_DISPOSITION then d.bump64 (E.NO_DISPOSITION s) 1
  else if code = Reason.PASS_LIMIT then (d.bump64 (E.PASS_LIMIT_DISCARDS s) 1).raise (Src.PASS_LIMIT s) f.inPort
  else if code = Reason.INGRESS_LIMIT then
    d.limitLoss f
  else if code = Reason.NO_CELL then
    if f.front then d.bump64 (E.NO_CELL f.chargePort f.inClass) 1 else d.bump64 E.NO_CELL_INTERNAL 1
  else if code = Reason.REPLICATION_FULL then d.bump64 E.REPLICATION_FULL 1
  else d

/-- The counters that a copy's discard with a code increments besides 6A00; `p` is the copy's port. INGRESS_LIMIT and
NO_CELL count their frame, once (R231, R237). -/
def Device.copyLoss (d : Device) (f : Frame) (c : Copy) (code : Nat) : Device :=
  let p := c.port
  let front := p < 512 && !isCross c.queue
  let d :=
    if code = Reason.QUEUE_LIMIT then
      (if front then d.bump64 (E.QUEUE_LIMIT p) 1 else d.bump64 E.QUEUE_LIMIT_INTERNAL 1)
    else if code = Reason.NO_DESCRIPTOR then d.bump64 E.NO_DESCRIPTOR 1
    else if code = Reason.MGMT_FIFO_FULL then d.bumpSat E.MGMT_FIFO_DROPS 1
    else if code = Reason.PROGRAM_DISCARD then
      d.bump64 (E.PROGRAM_DISCARDS (d.sliceOf p)) 1
    else if code = Reason.STORE_ERROR then d.raise (Src.STORE_ERROR (d.sliceOf p)) p
    else if code = Reason.VINTAGE_EXPIRED then
      ((d.bump64 (E.VINTAGE_EXPIRED f.slice) 1).bumpSat E.EXPIRED_TOTAL 1).raise (Src.VINTAGE_EXPIRED f.slice) f.inPort
    else if !front then d
    else if code = Reason.RACK_LIMIT then d.bump64 (E.RACK_LIMIT p) 1
    else if code = Reason.CELL_ERROR then d.bump64 (E.CELL_ERROR p) 1
    else if code = Reason.CELLAR_ERROR then d.bump64 (E.CELLAR_ERROR p) 1
    else if code = Reason.LINK_DOWN then d.bump64 (E.PORT_LINK_DOWN p) 1
    else if code = Reason.GATE_OVERRUN then
      (d.bump64 (E.GATE_OVERRUNS p) 1).raise (Src.GATE_OVERRUN (d.sliceOf p)) p
    else if code = Reason.EGRESS_MTU then d.bump64 (E.PORT_EGRESS_MTU p) 1
    else d
  let d := if c.multi ∧ front then d.bump64 (E.MC_COPY_DISCARDS p) 1 else d
  match c.kind with
  | .member _ (some n) => d.addAt n 1
  | _ => d

/-- The discard reason is one of R122's: of its classes, or of the destinations PORT_DISABLED and MAC_CONTROL (DEDUCED,
log entry 55). PREEMPT_ASSEMBLY is R128's. -/
def r122 (code : Nat) : Bool := (1 ≤ code && code ≤ 4) || code = Reason.PORT_DISABLED || code = Reason.MAC_CONTROL

/-! ### Heads of queues, and the rings' members -/

/-- The oldest waiting copy of a queue. -/
def Device.headOf (d : Device) (q : Nat) : Option Copy := d.queued.find? (fun c => c.queue = q)

/-- The group of queue `i` of a port. -/
def Device.groupOf (d : Device) (p i : Nat) : Nat := bits (d.cur (E.QUEUE_CTRL p i)) 0 2

/-- The queues of a group of a port. -/
def Device.groupQueues (d : Device) (p g : Nat) : List Nat :=
  (List.range 16).filter (fun i => i % 8 ≠ 7 && d.groupOf p i = g)

def Device.queueEmpty (d : Device) (p i : Nat) : Bool := (d.headOf (16 * p + i)).isNone

/-- The members of a port's rings that hold no queued copy have deficit 0, and a credit still owed to one lapses (R259,
R260). -/
def Device.clearDeficits (d : Device) (p : Nat) : Device :=
  let qs := (List.range 16).filter (d.queueEmpty p)
  let gs := (List.range 4).filter (fun g => (d.groupQueues p g).all (d.queueEmpty p))
  let keys := qs.map (fun i => p * 32 + i) ++ gs.map (fun g => p * 32 + 16 + g)
  let ds := keys.foldl (fun (ds : SMap) key => SMap.set ds 0 key 0) d.dec.deficits
  { d with dec := { d.dec with
      deficits := ds
      owing := d.dec.owing.map (fun o => { o with owed := o.owed.filter (fun k => !keys.contains k) }) } }

/-- A rack-out of a copy abandoned, its Cellar cells freed (R249). -/
def Device.abandonRack (d : Device) (c : Copy) : Device :=
  match d.racking.find? (fun r => r.1 = c.id) with
  | some r => { d with racking := d.racking.filter (fun x => x.1 ≠ c.id)
                       spillUsed := d.spillUsed.filter (fun k => !r.2.contains k) }
  | none => d

/-- A recirculation copy that is refused or discarded ends its frame's last ingress pass (R52). -/
def Device.landRecirc (d : Device) (c : Copy) : Device := if c.kind = .recirc then d.land c.frame else d

/-- A copy leaves the device's hands: it is in no queue any more, a rack-out of it is abandoned (R249), and its frame is
released. -/
def Device.doneCopy (d : Device) (c : Copy) : Device :=
  let d := d.abandonRack c
  let waits := isFront c.queue && d.queued.any (fun x => x.id = c.id)
  let d := { d with queued := d.queued.filter (fun x => x.id ≠ c.id)
                    spillUsed := if c.spill = [] then d.spillUsed else d.spillUsed.filter (fun k => !c.spill.contains k)
                    dec := { d.dec with tx := d.dec.tx.filter (fun t => t.copy.id ≠ c.id)
                                        gateStuck := d.dec.gateStuck.filter (fun g => g.2.1 ≠ c.id) } }
  let d := if waits then d.clearDeficits (portOf c.queue) else d
  let d := if isCross c.queue && !d.queued.any (fun x => x.frame = c.frame && isCross x.queue) then d.land c.frame else d
  d.releaseFrame c.frame

/-- A copy discarded after it was queued counts in its port's egress discarded adder (R133) with the bytes of the whole
copy: where its frame's length is not known yet, once the end arrives (DEDUCED, log entry 55). -/
def Device.tapDiscard (d : Device) (f : Frame) (c : Copy) : Device :=
  if f.ended then d.tap c.port 3 (copyLength f c)
  else
    let x := if c.kind.asReceived then (4, if c.truncate = 0 then 65536 else c.truncate, 4)
      else (4 + f.bodyOffset, 65536, f.emitLength + 4)
    { d with tel := { d.tel with tapsDue := d.tel.tapsDue ++ [(f.id, c.port, x)] } }

/-- The end of a frame of `n` bytes: the adders count the copies that waited for it. -/
def Device.tapsAtEnd (d : Device) (id n : Nat) : Device :=
  let due := d.tel.tapsDue.filter (fun t => t.1 = id)
  let d : Device := { d with tel := { d.tel with tapsDue := d.tel.tapsDue.filter (fun t => t.1 ≠ id) } }
  due.foldl (fun (d : Device) t => d.tap t.2.1 3 (min t.2.2.2.1 (n - t.2.2.1) + t.2.2.2.2)) d

/-- A copy discarded before its first byte left (R300). `queued`: it had been written to its queue, so that the egress
discarded adder counts it unless the reason is R122's (R133). -/
def Device.dropCopy (d : Device) (c : Copy) (code : Nat) (queued : Bool) (dropCode : Option Nat) : Device :=
  match d.frame? c.frame with
  | none => d.doneCopy c
  | some f =>
    let d := d.discarded code
    let d := d.copyLoss f c code
    let d := if queued && !r122 code && isFront c.queue then d.tapDiscard f c else d
    let r := d.sampleDiscard d.parity code f.sampled
    let d := r.1.copyRecord f c code dropCode false false 0 r.2
    (d.landRecirc c).doneCopy c

/-- A copy that no queue has admitted is discarded: counted with its record, without a release of its frame, which its job
still holds. -/
def Device.refuseCopy (d : Device) (c : Copy) (code : Nat) : Device :=
  match d.frame? c.frame with
  | none => d
  | some f =>
    let d := (d.discarded code).copyLoss f c code
    let r := d.sampleDiscard d.parity code f.sampled
    (r.1.copyRecord f c code none false false 0 r.2).landRecirc c

/-- A frame's discard counted, and its record completed (R300). -/
def Device.countFrame (d : Device) (id code detail : Nat) : Device :=
  match d.frame? id with
  | none => d
  | some f =>
    let d := (d.discarded code).frameLoss f code
    let r := d.sampleDiscard (f.vtag % 2) code f.sampled
    r.1.frameRecord f code detail r.2

/-- A frame's discard counted in its ingress pass, with whose end its record is complete (R328): the samplers that select
the discard wait for it. -/
def Device.countInPass (d : Device) (f : Frame) (code : Nat) : Device :=
  let d := (d.discarded code).frameLoss f code
  let r := d.sampleDiscard (f.vtag % 2) code f.sampled
  r.1.modFrame f.id (fun f => { f with sampled := r.2 })

/-- The frame's ingress pass runs. -/
def Device.inPass (d : Device) (id : Nat) : Bool := d.headers.any (fun h => h.frame = id && !h.egress)

/-- A frame discarded with no copy made of it (R300): counted once, and released. -/
def Device.dropFrame (d : Device) (id code detail : Nat) : Device := (d.countFrame id code detail).releaseFrame id

/-- A copy's transmission, changed. -/
def Device.modTx (d : Device) (copy : Nat) (f : Tx → Tx) : Device :=
  { d with dec := { d.dec with tx := modFirst d.dec.tx (fun t => t.copy.id = copy) f } }

/-! ### A port's entries, read in the current parity (R257) -/

def Device.sched (d : Device) (p : Nat) : Nat := d.cur (E.PORT_SCHED p)

/-- The class is in PREEMPT_CLASSES; class 7 never is (R127). -/
def Device.preemptClass (d : Device) (p t : Nat) : Bool := t < 7 && bit (d.sched p) (8 + t)

/-- Preemption is active on the port (R127). -/
def Device.preemptActive (d : Device) (p : Nat) : Bool := p < 512 && d.rdBit (E.PORT_STATUS p) 3

/-- A copy of class `t` uses the preemptable MAC now (R276). -/
def Device.preemptable (d : Device) (p t : Nat) : Bool := d.preemptActive p && d.preemptClass p t

/-- The transmission uses the preemptable MAC now. -/
def Device.txPreemptable (d : Device) (t : Tx) : Bool := d.preemptable t.port t.copy.tc

/-- An express copy is on a port's wire. -/
def Device.expressRuns (d : Device) (p : Nat) : Bool := d.dec.tx.any (fun x => x.port = p && x.started && !d.txPreemptable x)

/-- An express copy has cut the transmission short, or a gate holds it: nothing of it is on the wire. -/
def Device.offWire (d : Device) (t : Tx) : Bool := t.gateHeld || (d.txPreemptable t && d.expressRuns t.port)

/-- Bytes of a transmission sent by now: those of its earlier fragments, and what the wire has carried since at `bt` half
picoseconds a byte. -/
def Device.sentAt (d : Device) (t : Tx) (bt : Nat) : Nat :=
  if d.offWire t then t.sentBefore else t.sentBefore + (2 * d.clk.nowPs - t.fragStart) / bt

def Device.sentBytes (d : Device) (t : Tx) : Nat := d.sentAt t (d.byteTime t.port)

/-- `n` bytes that the block holds and the model does not: free values (log entry 21). -/
def Device.freeBytes (d : Device) (n : Nat) : Device × List Byte :=
  ({ d with draws := d.draws + n }, (List.range n).map (fun i => BitVec.ofNat 8 (Config.freeValue (d.draws + i))))

/-- A string with free bytes after it, up to `n`. -/
def Device.padFree (d : Device) (bs : List Byte) (n : Nat) : Device × List Byte :=
  let r := d.freeBytes (n - bs.length)
  (r.1, bs ++ r.2)

/-- The FCS of a string, or its bitwise inverse for a stomped frame (R125). -/
def fcsOf (bs : List Byte) (good : Bool) : List Byte :=
  leBytes 4 (if good then crc32eth bs else lnot 32 (crc32eth bs))

/-- The blocks of a 3.2T port's transmit MAC (R118): blocks 2i for instance A, and blocks 2i + 1 for instance B. -/
def splitBlocks {α : Type} : List α → List α × List α
  | a :: b :: t => (a :: (splitBlocks t).1, b :: (splitBlocks t).2)
  | [a] => ([a], [])
  | [] => ([], [])

/-- The receiver of a 3.2T port interleaves the blocks of its deskewed instances again (R118). -/
def mergeBlocks {α : Type} : List α → List α → List α
  | a :: as, b :: bs => a :: b :: mergeBlocks as bs
  | as, [] => as
  | [], bs => bs

/-- A 66-bit block of a sync header (1 data, 2 control) and 8 bytes, the first of them lowest. -/
def block66 (sync : Nat) (bs : List Byte) : Nat := sync * 2 ^ 64 + leNat (slice bs 0 8)

/-- The block types of 64B/66B that end a frame after 0 to 7 bytes more. -/
def endTypes : List Byte := [0x87, 0x99, 0xAA, 0xB4, 0xCC, 0xD2, 0xE1, 0xFF]

/-- A frame as 66-bit blocks of the 64B/66B code (PRESUMED: IEEE 802.3 Clause 82, log entry 209): its preamble's, its bytes',
and its end's; a frame that is cut off ends in a block of errors. -/
def frameBlocks (bs : List Byte) (whole : Bool) : List Nat :=
  let n := bs.length / 8
  [block66 2 (0x78 :: List.replicate 6 0x55 ++ [0xD5])] ++ (List.range n).map (fun i => block66 1 (slice bs (8 * i) 8))
    ++ [if whole then block66 2 (endTypes.getD (bs.length % 8) 0 :: bs.drop (8 * n))
        else block66 2 (leBytes 8 (0x1E + sumOn (List.range 8) (fun i => 0x1E * 2 ^ (8 + 7 * i))))]

/-- The frame bytes that 66-bit blocks carry. -/
def blockBytes (bs : List Nat) : List Byte :=
  bs.flatMap (fun b =>
    let x := leBytes 8 (b % 2 ^ 64)
    if b / 2 ^ 64 = 1 then x
    else match endTypes.findIdx? (fun t => t = x.headD 0) with
      | some k => slice x 1 k
      | none => [])

/-- A frame goes out at a port, whole or cut off; at a 3.2T port as the blocks of its two instances too. -/
def Device.putOnWire (d : Device) (p : Nat) (bs : List Byte) (good whole : Bool) : Device :=
  let d := d.send (.frame p bs good)
  if p < 512 ∧ (d.instances p).length = 2 then
    let x := splitBlocks (frameBlocks bs whole)
    d.send (if Config.blockPhase p d.sent.length then .blocks p x.2 x.1 else .blocks p x.1 x.2)
  else d

/-- A transmission that has begun ends badly: stomped with the inverted FCS (R125), or cut off (R120); it is a discard
with the reason, counted with the bytes sent. -/
def Device.endBadly (d : Device) (t : Tx) (code : Nat) (stomp : Bool) (bytes : List Byte) : Device :=
  match d.frame? t.copy.frame with
  | none => d.doneCopy t.copy
  | some f =>
    let p := t.port
    let out := if stomp then bytes ++ fcsOf bytes false else bytes
    let d := d.putOnWire p out false stomp
    let d := if p < 512 then
        let d := d.tap p 3 out.length
        d.bump64 (if stomp then E.TX_STOMPED p else E.TX_ABORTED p) 1
      else d
    let d := if stomp then d.raise (Src.TX_STOMPED (d.sliceOf p)) p else d
    let d := match d.localPort f.inPort with
      | some i => if stomp then d.bump64 (E.STOMPS_CAUSED i) 1 else d
      | none => d
    let d := (d.discarded code).copyLoss f t.copy code
    let r := d.sampleDiscard d.parity code (f.sampled ++ t.sampled)
    let d := r.1.copyRecord f t.copy code none t.cutThrough stomp t.txTime r.2
    d.doneCopy t.copy

/-- The bytes without FCS that a copy emits once its egress pass has ended (R201, R299). -/
def txBytes (f : Frame) (t : Tx) : List Byte :=
  if t.copy.kind.asReceived then copyBytes f t.copy else t.head ++ f.bytes.drop t.bodyOffset

/-- What a transmission has sent once it has sent `n` bytes: of a frame that is still arriving, those not yet given are
free values. -/
def Device.sentSoFar (d : Device) (t : Tx) (n : Nat) : Device × List Byte :=
  match d.frame? t.copy.frame with
  | some f =>
    let bs := txBytes f t
    if f.ended then (d, (bs ++ fcsOf bs true).take n) else (let r := d.padFree bs n; (r.1, r.2.take n))
  | none => (d, [])

/-- An inserted frame has left whole: it is counted by a front port's egress transmitted adder and MAC counters (R81, R130,
R133). -/
def Device.deliverOwn (d : Device) (w : OwnTx) : Device :=
  let n := w.bytes.length
  let d := d.putOnWire w.port w.bytes true true
  if w.port < 512 then
    let d := ((d.tap w.port 2 n).bump64 (E.TX_FRAMES_OK w.port) 1).bump64 (E.TX_BYTES_OK w.port) n
    if w.pfc then d.bump64 (E.TX_PFC_FRAMES w.port) 1 else d
  else d

/-- The last byte of an inserted frame has left, at `bt` half picoseconds a byte: 8 of preamble go before its first. -/
def Device.ownGone (d : Device) (bt : Nat) (w : OwnTx) : Bool :=
  !w.waits && decide (w.start + (w.bytes.length - w.sent + 8) * bt ≤ 2 * d.clk.nowPs)

/-- The inserted frames whose last byte has left. -/
def Device.settleOwns (d : Device) : Device :=
  let gone := d.dec.ownWire.filter (fun w => d.ownGone (d.byteTime w.port) w)
  if gone = [] then d
  else
    gone.foldl (fun (d : Device) w => d.deliverOwn w)
      { d with dec := { d.dec with ownWire := d.dec.ownWire.filter (fun w => !d.ownGone (d.byteTime w.port) w) } }

/-- The inserted frames on a port's wire when it falls: those that have left whole are counted, and the others are cut off
(R120), at `bt` half picoseconds a byte. -/
def Device.cutOwns (d : Device) (p bt : Nat) : Device :=
  let mine := d.dec.ownWire.filter (fun w => w.port = p)
  mine.foldl (fun (d : Device) w =>
    if d.ownGone bt w then d.deliverOwn w
    else
      let n := if w.waits then w.sent else w.sent + ((2 * d.clk.nowPs - w.start) / bt - 8)
      (d.putOnWire p (w.bytes.take n) false false).bump64 (E.TX_ABORTED p) 1)
    { d with dec := { d.dec with ownWire := d.dec.ownWire.filter (fun w => w.port ≠ p) } }

/-- Every transmission of a port cut off (R120), at `bt` half picoseconds a byte: counted in TX_ABORTED; a copy selected but
not begun is discarded at once. -/
def Device.cutOff (d : Device) (p bt : Nat) : Device :=
  let sent := (d.dec.tx.filter (fun t => t.port = p)).map (fun t => (t, d.sentAt t bt))
  sent.foldl (fun d x =>
    if x.1.started then
      let r := d.sentSoFar x.1 x.2
      r.1.endBadly x.1 Reason.LINK_DOWN false r.2
    else d.dropCopy x.1.copy Reason.LINK_DOWN true none) (d.cutOwns p bt)

/-- A frame discarded part-way (R231): its counter counts it once, its cells are freed by their holder, copies that wait
are discarded with the reason, and those being sent are stomped with it when they end. -/
def Device.dropPartWay (d : Device) (id code : Nat) : Device :=
  match d.frame? id with
  | none => d
  | some f =>
    if f.dropped.isSome then d
    else
      let waiting := d.queued.filter (fun c => c.frame = id)
      let unoffered := (d.jobs.filter (fun j => j.frame = id)).flatMap (·.copies)
      let d : Device := { d with jobs := d.jobs.map (fun j => if j.frame = id then { j with copies := [] } else j) }
      let sending := d.dec.tx.filter (fun t => t.copy.frame = id)
      let d := d.modFrame id (fun f => { f with dropped := some code })
      let d := (d.cellsOf id).foldl (fun d c => d.freeCell c.handle f.holder) d
      let d := if waiting ≠ [] ∨ unoffered ≠ [] ∨ sending ≠ [] then d.frameLoss f code
        else if d.inPass id then d.countInPass f code
        else d.countFrame id code 0
      let d := unoffered.foldl (fun d c => d.refuseCopy c code) d
      let d := waiting.foldl (fun d c => d.dropCopy c code true none) d
      sending.foldl (fun d t =>
        if t.started then d.modTx t.copy.id (fun x => { x with stomp := some code })
        else d.dropCopy t.copy code true none) d

end Sys2Proof.Machine
end

