-- ==== Sys2Proof/Machine/Links.lean ====
section
/-! DEFINITION. Lanes and links: lock, a port's fall, a lane's retirement, the narrowing and the split of a join
(R104, R107, R119, R120, R436, R437). -/

namespace Sys2Proof.Machine

open Sys2Proof

/-! ### Lanes -/

/-- The lane is assigned to the join (R418). -/
def Device.isJoinLane (d : Device) (l : Nat) : Bool := d.rd E.JOIN_ENABLE = 1 && 512 - d.rd E.JOIN_WIDTH ≤ l && l < 512

/-- The lane is retired (R107). -/
def Device.laneRetired (d : Device) (l : Nat) : Bool := d.rdBit (E.LANE_STATUS l) 4

/-- The lane is locked (R104). -/
def Device.laneLocked (d : Device) (l : Nat) : Bool := bits (d.rd (E.LANE_STATUS l)) 0 3 = 7

/-- The value of a lane setting that is in force: the staging value in Diagnostic, where no vintage is installed (R470),
else that of the current parity. -/
def Device.laneSetting (d : Device) (a : Addr) : Nat := if d.mode = .diagnostic then d.rd a else d.cur a

/-- The lane mode in force (R90, R107, R418). -/
def Device.laneMode (d : Device) (l : Nat) : Nat :=
  if d.laneRetired l then 0
  else if d.isJoinLane l then 6
  else d.laneSetting (E.LANE_MODE l)

def LaneState.forget (s : LaneState) (l : Nat) : LaneState :=
  { s with lockedAt := SMap.set s.lockedAt 0 l 0, failRun := SMap.set s.failRun 0 l 0
           passRun := SMap.set s.passRun 0 l 0, resumedAt := SMap.set s.resumedAt 0 l 0
           crossed := SMap.set s.crossed 0 l 0, relock := SMap.set s.relock 0 l 0
           txAsked := SMap.set s.txAsked 0 l 0, rxAsked := SMap.set s.rxAsked 0 l 0
           txWaking := SMap.set s.txWaking 0 l 0, revertedAt := SMap.set s.revertedAt 0 l 0
           pattern := SMap.set s.pattern 0 l 0, scrambler := SMap.set s.scrambler 0 l 0
           skew := SMap.set s.skew 0 l 0, checker := SMap.set s.checker 0 l 0
           txLast := SMap.set s.txLast 0 l 0, rxLast := SMap.set s.rxLast 0 l 0, laneId := SMap.set s.laneId 0 l 0 }

/-- The lane's LANE_STATUS with one bit replaced. -/
def Device.setLaneBit (d : Device) (l i : Nat) (b : Bool) : Device := d.wrBit (E.LANE_STATUS l) i b

/-- TX_STATE and RX_STATE (Table 4.2). -/
def Device.txState (d : Device) (l : Nat) : Nat := bits (d.rd (E.LANE_STATUS l)) 6 2
def Device.rxState (d : Device) (l : Nat) : Nat := bits (d.rd (E.LANE_STATUS l)) 8 2
def Device.setTxState (d : Device) (l v : Nat) : Device := d.wrBits (E.LANE_STATUS l) 6 2 v
def Device.setRxState (d : Device) (l v : Nat) : Device := d.wrBits (E.LANE_STATUS l) 8 2 v

/-- The slice of a lane. -/
def laneSlice (l : Nat) : Nat := l / 16

/-! ### Recovered clocks (R324) -/

def rclkLane (o : Nat) : Addr := if o = 0 then E.RCLK_LANE_0 else E.RCLK_LANE_1

/-- A cause squelches the output. -/
def Device.rclkSquelched (d : Device) (o : Nat) : Bool :=
  let l := d.cur (rclkLane o)
  l = 0xFFFF || !d.laneLocked l || d.laneRetired l || d.rxState l ≠ 0

/-- An output with a cause is squelched at once. -/
def Device.squelch (d : Device) : Device :=
  [0, 1].foldl (fun d o => if d.rclkSquelched o then d.wrBit E.RCLK_STATUS o true else d) d

/-! ### Ports -/

def Device.linkUp (d : Device) (p : Nat) : Bool := d.rdBit (E.PORT_STATUS p) 0

/-- A bit of PORT_CONTROL in the current parity. -/
def Device.portCtl (d : Device) (p i : Nat) : Bool := bit (d.cur (E.PORT_CONTROL p)) i

/-- A PCS instance of the port reports remote fault (R118, R119). -/
def Device.portRemoteFault (d : Device) (p : Nat) : Bool :=
  d.portExists p && (d.instances p).any (fun k => SMap.get d.ports.rsRemote 0 k = 1)

/-- The lanes of a port, those of both instances of a 3.2T port, lie within the 64 ns that the Stave deskews (R97, R118). -/
def Device.deskewed (d : Device) (p : Nat) : Bool :=
  let ks := (d.portLanes p).map (fun l => SMap.get d.lanes.skew 0 l)
  ks.all (fun a => ks.all (fun b => a ≤ b + 64000))

/-- The port has local fault: the Reconciliation Sublayer of an instance reports it, or its PCS is not aligned, a lane being
without lock or the lanes too far apart (R97, R118, R119). -/
def Device.portLocalFault (d : Device) (p : Nat) : Bool :=
  d.portExists p
    && ((d.instances p).any (fun k => SMap.get d.ports.rsLocal 0 k = 1) || !(d.portLanes p).all d.laneLocked || !d.deskewed p)

/-- What R119 asks of a port before it goes up and while it is up, the hold time apart. -/
def Device.linkOk (d : Device) (p : Nat) : Bool :=
  d.portExists p && d.adminUp p && !d.portLocalFault p && !d.portRemoteFault p

/-- A port that is up goes down (R119, R120): the frame in transmission is cut off. `bt` is the time of a byte on its wire
until now, in half picoseconds. -/
def Device.portDownAt (d : Device) (p bt : Nat) : Device :=
  if d.linkUp p then
    let d := d.wrBits (E.PORT_STATUS p) 0 1 0
    let d := (d.wrBits (E.PORT_STATUS p) 3 1 0).wrBits (E.PORT_STATUS p) 4 2 0
    let d := (d.bump64 (E.LINK_DOWNS p) 1).raise (Src.PORT_DOWN (d.sliceOf p)) p
    d.cutOff p bt
  else d

def Device.portDown (d : Device) (p : Nat) : Device := d.portDownAt p (d.byteTime p)

/-- A port goes down as soon as what it needs ceases (R119). -/
def Device.recheckPort (d : Device) (p : Nat) : Device := if d.linkOk p then d else d.portDown p

/-- The port of a lane looks again at what it needs. -/
def Device.recheckLane (d : Device) (l : Nat) : Device :=
  match d.portOfLane l with
  | some p => d.recheckPort p
  | none => d

/-! ### The join (chapter 17) -/

/-- Join index of a lane (R418). -/
def Device.joinIndex (d : Device) (l : Nat) : Nat := l - (512 - d.rd E.JOIN_WIDTH)

/-- The lane is active in a direction (0 transmit, 1 receive). -/
def Device.joinActive (d : Device) (dir l : Nat) : Bool :=
  let i := d.joinIndex l
  bit (d.rd (E.LANE_MAP dir (i / 32))) (i % 32)

/-- ACTIVE_LANES and CROSS_RATE_GBPS of a direction follow its map (Table 17.5). -/
def Device.countActive (d : Device) (dir : Nat) : Device :=
  let n := sumOn (List.range 256) (fun i => (bit (d.rd (E.LANE_MAP dir (i / 32))) (i % 32)).toNat)
  (d.wr (E.ACTIVE_LANES dir) n).wr (E.CROSS_RATE_GBPS dir) (n * 399706 / 1000)

/-- A lane's bit of a direction's map. -/
def Device.setJoinActive (d : Device) (dir l : Nat) (b : Bool) : Device :=
  let i := d.joinIndex l
  d.wrBit (E.LANE_MAP dir (i / 32)) (i % 32) b

/-- The 256 bits of a direction's map as 32 bytes, most significant byte first. -/
def Device.mapBytes (d : Device) (dir : Nat) : List Byte :=
  beBytes 32 ((List.range 8).foldl (fun a k => a + d.rd (E.LANE_MAP dir k) * 2 ^ (32 * k)) 0)

end Sys2Proof.Machine
end

