-- ==== Sys2Proof/Machine/Decanter.lean ====
section
/-! DEFINITION. The Decanter: readiness, gates, shapers, the weighted rings, selection, and the time of the wire
(R256 to R276, R288, R289, R300). -/

namespace Sys2Proof.Machine

open Sys2Proof

/-! ### A port's entries (R257, R276) -/

/-- F of R276. -/
def Device.leastFragment (d : Device) (p : Nat) : Nat := (bits (d.cur (E.PORT_CONTROL p)) 4 2 + 1) * 64

/-- The charge of `len` bytes at a port: with LENGTH_ADJUST (R259). -/
def Device.chargeOf (d : Device) (p len : Nat) : Nat := ((len : Int) + toInt 32 (d.cur (E.LENGTH_ADJUST p))).toNat

/-! ### Copies at the head of a queue (R288, R289, R300) -/

/-- The copy may be cut through (R124, R288). -/
def Device.cutEligible (d : Device) (c : Copy) : Bool :=
  match d.frame? c.frame with
  | none => false
  | some f =>
    f.front && f.source = 0 && isFront c.queue && !c.kind.asReceived
      && d.portCtl f.chargePort 1 && d.portCtl c.port 1
      && d.portExists c.port && d.portRate c.port ≤ d.portRate f.chargePort

/-- The frame has passed its verdict at least 32 slots before slot `n`. -/
def Frame.settled (f : Frame) (n : Nat) : Bool := f.verdict.isSome && f.verdictSlot + 32 ≤ n

/-- The copy is ready to start in slot `n` (R288). -/
def Device.copyReady (d : Device) (c : Copy) (n : Nat) : Bool :=
  match d.frame? c.frame with
  | none => false
  | some f => c.entered + 32 ≤ n && (d.cutEligible c || f.settled n) && c.place = .cask

/-- The length that selection takes for a copy: its own, or the egress PORT_MTU while it is not known (R260, R272). -/
def Device.planLength (d : Device) (c : Copy) : Nat :=
  match d.frame? c.frame with
  | some f => if f.ended then copyLength f c else d.cur (E.PORT_MTU c.port)
  | none => 64

/-- The frame's length is known. -/
def Device.lengthKnown (d : Device) (c : Copy) : Bool :=
  match d.frame? c.frame with
  | some f => f.ended
  | none => true

/-- The reason for which a copy at the head of its queue is discarded in slot `n`; none where there is none (R300). -/
def Device.headReason (d : Device) (c : Copy) (n : Nat) : Option Nat :=
  match d.frame? c.frame with
  | none => none
  | some f =>
    let entered : Bool := c.entered + 32 ≤ n
    let bad := f.verdict.getD 0
    if bad ≠ 0 ∧ entered ∧ (d.cutEligible c ∨ f.verdictSlot + 32 ≤ n) then some bad
    else if f.cellError then some Reason.CELL_ERROR
    else if isFront c.queue ∧ !d.linkUp c.port then some Reason.LINK_DOWN
    else if isFront c.queue ∧ d.copyReady c n ∧ f.ended ∧ d.cur (E.PORT_MTU c.port) < copyLength f c then
      some Reason.EGRESS_MTU
    else none

/-- The queues that hold a waiting copy. -/
def Device.busyQueues (d : Device) : List Nat := (d.queued.map (·.queue)).eraseDups

/-- The head of a queue, where it has a reason to be discarded, leaves in slot `n`, and so does the next, until a head has
none; `fuel` is the queue's length. A copy in the Cellar is no head (R246). -/
def Device.sweepQueue (d : Device) (q n : Nat) : Nat → Device
  | 0 => d
  | fuel + 1 =>
    match d.headOf q with
    | some c =>
      if c.place = .cask then
        (match d.headReason c n with
         | some r => (d.dropCopy c r true none).sweepQueue q n fuel
         | none => d)
      else d
    | none => d

/-- Every head that has a reason to be discarded leaves in slot `n`. -/
def Device.sweepHeads (d : Device) (n : Nat) : Device :=
  d.busyQueues.foldl (fun d q => d.sweepQueue q n (d.waitingIn q).length) d

/-! ### Gates (R269 to R275) -/

/-- The wire time of a frame in slots at OP0 (R271). -/
def Device.need (d : Device) (p len : Nat) : Nat := ceilDiv ((len + 20) * 64) (5 * d.portRate p)

/-- The entries of a gate list from the cycle slot `k` on. -/
def dropPhase : List (Nat × Nat) → Nat → List (Nat × Nat)
  | [], _ => []
  | (o, n) :: t, k => if k < n then (o, n - k) :: t else dropPhase t (k - n)

/-- The slots for which the gate of class `c` stays open from the front of the entries. -/
def countOpen (c : Nat) : List (Nat × Nat) → Nat
  | [] => 0
  | (o, n) :: t => if bit o c then n + countOpen c t else 0

def cycleOf (es : List (Nat × Nat)) : Nat := sumOn es (·.2)

/-- OPEN_RUN of class `c` at a cycle slot; none is unlimited (R271). -/
def openRun (es : List (Nat × Nat)) (c k : Nat) : Option Nat :=
  if es.all (fun e => bit e.1 c) then none else some (countOpen c (dropPhase (es ++ es) k))

/-- The longest open run of a class over a cycle, joined across the wrap; none is unlimited (R274, R282). -/
def longestRun (es : List (Nat × Nat)) (c : Nat) : Option Nat :=
  if es.all (fun e => bit e.1 c) then none
  else some ((List.range es.length).foldl (fun a i => max a (countOpen c (es.drop i ++ es))) 0)

/-- The shortest open run of a class; a class closed in every entry has one run of length 0 (R282). -/
def shortestRun (es : List (Nat × Nat)) (c : Nat) : Option Nat :=
  if es.all (fun e => bit e.1 c) then none
  else
    let starts := (List.range es.length).filter (fun i =>
      bit (es.getD i (0, 0)).1 c && !bit (es.getD ((i + es.length - 1) % es.length) (0, 0)).1 c)
    some ((starts.map (fun i => countOpen c (es.drop i ++ es))).min?.getD 0)

def Device.gate? (d : Device) (p : Nat) : Option Gate := d.dec.gates.find? (fun g => g.port = p)

/-- The run is at least `k` slots. -/
def runFits (r : Option Nat) (k : Nat) : Bool :=
  match r with
  | none => true
  | some n => k ≤ n

/-- OPEN_RUN of a class of a gated port in slot `m`. -/
def Gate.runAt (g : Gate) (c m : Nat) : Option Nat :=
  if g.entries = [] then none else openRun g.entries c ((m - g.startSlot) % cycleOf g.entries)

/-- The open run that a copy needs to be selected: its whole wire time, or that of F + 64 bytes for a preemptable class
while preemption is active (R272, R273). -/
def Device.runNeeded (d : Device) (c : Copy) : Nat :=
  d.need c.port (if d.preemptable c.port c.tc then d.leastFragment c.port + 64 else d.planLength c)

/-- The open run that a copy meets 272 slots after slot `n` is long enough for it (R272, R273). -/
def Device.runOk (d : Device) (c : Copy) (n : Nat) : Bool :=
  match d.gate? c.port with
  | none => true
  | some g => runFits (g.runAt c.tc (n + 272)) (d.runNeeded c)

/-- The gate test of R272, R273 and R275 for a copy that would leave 272 slots after slot `n`. -/
def Device.gateOk (d : Device) (c : Copy) (n : Nat) : Bool :=
  d.runOk c n && (match d.gate? c.port with
    | none => true
    | some g => !g.late || g.entries.all (fun e => bit e.1 c.tc))

/-- The copy fits no open run of the operating list (R274). -/
def Device.neverFits (d : Device) (c : Copy) : Bool :=
  match d.gate? c.port with
  | none => false
  | some g => g.entries ≠ [] && !runFits (longestRun g.entries c.tc) (d.runNeeded c)

/-- The heads of gated ports in slot `n`: which of them wait for a later open run, and which fit none (R272 to R274). -/
def Device.watchGates (d : Device) (n : Nat) : Device :=
  let heads := d.busyQueues.filterMap (fun q =>
    if isFront q ∧ (d.gate? (portOf q)).isSome then (d.headOf q).filter (fun c => c.place = .cask) else none)
  let stuck := heads.filterMap (fun (c : Copy) =>
    if d.neverFits c then
      some (match d.dec.gateStuck.find? (fun g => g.2.1 = c.id) with
        | some g => g
        | none => (c.queue, c.id, n))
    else none)
  let d : Device := { d with dec := { d.dec with gateStuck := stuck } }
  heads.foldl (fun d (c : Copy) =>
    if !c.gateWaited && d.copyReady c n && !d.runOk c n then
      ({ d with queued := modFirst d.queued (fun x => x.id = c.id) (fun x => { x with gateWaited := true }) } : Device).bump64
        (E.GATE_WAITS c.port) 1
    else d) d

/-- The entries in use of a gate list in the copy of the current parity. -/
def Device.gateEntries (d : Device) (g : Nat) : List (Nat × Nat) :=
  (List.range (d.cur (E.GATE_LENGTH g))).map (fun i =>
    (bits (d.cur (E.GATE_ENTRY g i)) 0 8, bits (d.cur (E.GATE_ENTRY g i)) 8 24))

def Device.setGate (d : Device) (g : Gate) : Device :=
  { d with dec := { d.dec with gates := d.dec.gates.filter (fun x => x.port ≠ g.port) ++ [g] } }

/-- The operating copy of a port's list changes: the counts of the copies that fit no open run start again (R274). -/
def Device.runGate (d : Device) (g : Gate) : Device :=
  let d := d.setGate g
  { d with dec := { d.dec with gateStuck := d.dec.gateStuck.filter (fun x => portOf x.1 ≠ g.port) } }

/-- Lists whose start has come begin at this boundary (R270). A late evaluation still holds the port back (R275). -/
def Device.startGates (d : Device) : Device :=
  d.dec.gates.foldl (fun d g =>
    match g.waiting with
    | some w =>
      if w.2 = 0 ∨ d.timeDue w.2 then
        d.runGate { port := g.port, entries := w.1, startSlot := d.clk.slots, waiting := none, late := g.late }
      else d
    | none => d) d

/-- The gate lists at a flip from the parity `old` (R270): a list given or changed waits for its start, and a port that
is ungated or gone drops its list. Where the round's work is late, so is a new gate's evaluation (R275). -/
def Device.flipGates (d : Device) (old : Nat) : Device :=
  let gone := d.dec.gates.filter (fun g => d.portExists g.port && d.cur (E.GATE_LIST g.port) < 64)
  let d : Device := { d with dec := { d.dec with gates := gone } }
  d.ports'.foldl (fun d p =>
    let g := d.cur (E.GATE_LIST p)
    if g < 64 then
      let was := d.rdp old (E.GATE_LIST p)
      let same := was = g && (List.range 66).all (fun s => d.rdp old (E.GATE_BASE_TIME g + s) = d.cur (E.GATE_BASE_TIME g + s))
      if same && d.rdp old (E.PORT_WIDTH p) ≠ 0 then d
      else
        let now : Gate := (d.gate? p).getD
          { port := p, entries := [], startSlot := d.clk.slots, waiting := none, late := d.dec.lateRefill.isSome }
        d.setGate { now with waiting := some (d.gateEntries g, d.cur (E.GATE_BASE_TIME g)) }
    else d) d

/-! ### Shapers (R264 to R268) -/

/-- The rate entry of a shaper: key = port * 32 + n, n below 16 a queue, 16 to 19 a group, 20 the port. -/
def rateEntry (key : Nat) : Addr :=
  let p := key / 32
  let n := key % 32
  if n < 16 then E.QUEUE_RATE_MBPS p n else if n < 20 then E.GROUP_RATE_MBPS p (n - 16) else E.PORT_RATE_MBPS p

def burstEntry (key : Nat) : Addr :=
  let p := key / 32
  let n := key % 32
  if n < 16 then E.QUEUE_BURST p n else if n < 20 then E.GROUP_BURST p (n - 16) else E.PORT_BURST p

def Device.shaperOn (d : Device) (key : Nat) : Bool := d.cur (rateEntry key) ≠ 0

/-- A shaper's record; one that has not been charged or refilled holds 0 tokens (R266). -/
def Device.shaper (d : Device) (key : Nat) : Shaper :=
  (d.dec.shapers.find? (fun s => s.key = key)).getD { key := key, tokens := 0 }

def setShaper (s : Shaper) : List Shaper → List Shaper
  | [] => [s]
  | x :: t => if s.key < x.key then s :: x :: t else if x.key = s.key then s :: t else x :: setShaper s t

def Device.withShaper (d : Device) (s : Shaper) : Device :=
  { d with dec := { d.dec with shapers := setShaper s d.dec.shapers } }

/-- The shapers on the path of queue `i` that are on (R264). -/
def Device.shaperPath (d : Device) (p i : Nat) : List Nat :=
  (if i % 8 = 7 then [p * 32 + i, p * 32 + 20] else [p * 32 + i, p * 32 + 16 + d.groupOf p i, p * 32 + 20]).filter
    d.shaperOn

/-- `n` bytes charged to every shaper of the path. -/
def Device.chargeShapers (d : Device) (p i n : Nat) : Device :=
  (d.shaperPath p i).foldl (fun d key =>
    let s := d.shaper key
    d.withShaper { s with tokens := s.tokens - 256 * (n : Int) }) d

/-- `n` bytes credited back to shapers, up to their bursts (R260). -/
def Device.creditShapers (d : Device) (keys : List Nat) (n : Int) : Device :=
  keys.foldl (fun d key =>
    let s := d.shaper key
    d.withShaper { s with tokens := min (s.tokens + 256 * n) (max s.tokens (256 * (d.cur (burstEntry key) : Int))) }) d

/-- The shaper, where it is on, holds tokens of 0 or more. -/
def Device.tokensOk (d : Device) (key : Nat) : Bool := !d.shaperOn key || decide (0 ≤ (d.shaper key).tokens)

/-- The keys of every shaper that is on. -/
def Device.shaperKeys (d : Device) : List Nat :=
  (d.ports'.flatMap (fun p => (List.range 21).map (fun n => p * 32 + n))).filter d.shaperOn

/-- The refill of one shaper for a round of `ps` at a rate (R265). -/
def Device.refillShaper (d : Device) (ps : Nat) (x : Nat × Nat) : Device :=
  let s := d.shaper x.1
  let g := (x.2 * ps + s.rest) / 31250
  let r := (x.2 * ps + s.rest) % 31250
  d.withShaper { key := x.1, tokens := min (s.tokens + (g : Int)) (256 * (d.cur (burstEntry x.1) : Int)), rest := r }

/-- Every shaper that is on, with its rate. -/
def Device.shaperRates (d : Device) : List (Nat × Nat) := d.shaperKeys.map (fun k => (k, d.cur (rateEntry k)))

/-- The refill of a round of `ps` (R265). -/
def Device.refillShapers (d : Device) (ps : Nat) : Device := d.shaperRates.foldl (fun d x => d.refillShaper ps x) d

/-- What a shaper holds after a flip that changes its rate or burst while it stays on (R267). -/
def Device.flipTokens (d : Device) (key : Nat) (tokens : Int) : Int :=
  let p := key / 32
  let n := key % 32
  let full := 256 * (d.cur (burstEntry key) : Int)
  if n = 7 ∨ n = 15 then (if bit (d.cur (E.QUEUE_CTRL p n)) 16 then full else 0)
  else if n = 20 ∧ bit (d.sched p) 0 then (if bit (d.sched p) 1 then full else 0)
  else min tokens full

/-- The shaper stays on at a flip from the parity `old`. -/
def Device.shaperStays (d : Device) (old key : Nat) : Bool :=
  d.portExists (key / 32) && d.cur (rateEntry key) ≠ 0 && d.rdp old (rateEntry key) ≠ 0
    && d.rdp old (E.PORT_WIDTH (key / 32)) ≠ 0

/-- The flip changes the shaper's rate or burst. -/
def Device.shaperChanges (d : Device) (old key : Nat) : Bool :=
  d.rdp old (rateEntry key) ≠ d.cur (rateEntry key) || d.rdp old (burstEntry key) ≠ d.cur (burstEntry key)

/-- A change of rate or burst resets the shaper (R267): those of TC7, and a privileged port's. -/
def Device.shaperResets (d : Device) (key : Nat) : Bool :=
  let n := key % 32
  n = 7 || n = 15 || (n = 20 && bit (d.sched (key / 32)) 0)

/-- The shapers at a flip from the parity `old` (R266, R267). A late refill still comes to those that stay on and are not
reset over it (R268), and a credit to those that stay on (R260). -/
def Device.flipShapers (d : Device) (old : Nat) : Device :=
  let ss := d.dec.shapers.filterMap (fun (s : Shaper) =>
    if !d.shaperStays old s.key then none
    else if d.shaperChanges old s.key then some { s with tokens := d.flipTokens s.key s.tokens }
    else some s)
  let late := d.dec.lateRefill.map (fun (l : LateRefill) =>
    { l with rates := l.rates.filter (fun x =>
        d.shaperStays old x.1 && !(d.shaperChanges old x.1 && d.shaperResets x.1)) })
  { d with dec := { d.dec with
      shapers := ss, lateRefill := late
      owing := d.dec.owing.map (fun o => { o with charged := o.charged.filter (d.shaperStays old) }) } }

/-! ### The weighted rings (R259) -/

/-- The member after `m` in a ring. -/
def nextMember (members : List Nat) (m : Nat) : Nat := (members.find? (fun x => m < x)).getD (members.headD 0)

def Decanter.setPointer (k : Decanter) (ring m : Nat) (visited : Nat) : Decanter :=
  { k with rings := SMap.set k.rings 0 ring m, visited := SMap.set k.visited 0 ring visited }

/-- The walk of a ring from member `m` on: `defKey m` is the key of its deficit, `empty` and `charge` its state (none: not
eligible), `weight` its weight. Each member is tried at most twice: `fuel` is twice their number. -/
def ringWalk (ring : Nat) (members : List Nat) (defKey : Nat → Nat) (empty : Nat → Bool) (charge : Nat → Option Nat)
    (weight : Nat → Nat) : Nat → Nat → Decanter → Decanter × Option Nat
  | 0, _, k => (k, none)
  | fuel + 1, m, k =>
    let next := nextMember members m
    if empty m then
      ringWalk ring members defKey empty charge weight fuel next
        ({ k with deficits := SMap.set k.deficits 0 (defKey m) 0 }.setPointer ring next 0)
    else
      match charge m with
      | none => ringWalk ring members defKey empty charge weight fuel next (k.setPointer ring next 0)
      | some n =>
        let had := SMap.get k.deficits 0 (defKey m)
        let has := if SMap.get k.visited 0 ring = 0 then had + 256 * weight m else had
        if n ≤ has then
          ({ k with deficits := SMap.set k.deficits 0 (defKey m) (has - n) }.setPointer ring m 1, some m)
        else
          ringWalk ring members defKey empty charge weight fuel next
            ({ k with deficits := SMap.set k.deficits 0 (defKey m) has }.setPointer ring next 0)

/-- One selection of a ring, starting at its pointer. -/
def ringSelect (ring : Nat) (members : List Nat) (defKey : Nat → Nat) (empty : Nat → Bool) (charge : Nat → Option Nat)
    (weight : Nat → Nat) (k : Decanter) : Decanter × Option Nat :=
  let at' := SMap.get k.rings 0 ring
  let m := (members.find? (fun x => at' ≤ x)).getD (members.headD 0)
  let k := if m = at' then k else k.setPointer ring m 0
  ringWalk ring members defKey empty charge weight (2 * members.length) m k

/-! ### The wire (R261, R263, R276) -/

/-- Time in half picoseconds `k` slots from now, at the slot period in force. -/
def Device.slotsAhead (d : Device) (k : Nat) : Nat := 2 * (d.clk.nowPs + k * d.rd E.SLOT_PERIOD_PS)

/-- The length with FCS that a transmission will have, as far as it is known. -/
def Device.txLength (d : Device) (t : Tx) : Nat :=
  match d.frame? t.copy.frame with
  | none => 64
  | some f =>
    if !f.ended then t.guess.getD (d.cur (E.PORT_MTU t.port))
    else if t.passed then (txBytes f t).length + 4
    else copyLength f t.copy

/-- When the fragment on the wire ends, with its 20 bytes of preamble and gap. -/
def Device.txEnd (d : Device) (t : Tx) : Nat :=
  t.fragStart + (d.txLength t - t.sentBefore + 20) * d.byteTime t.port

/-- Bytes of the running fragment at its first permitted point at or after a time; none where it has none (R276). -/
def Device.permittedPoint (d : Device) (t : Tx) (at' : Nat) : Option Nat :=
  let x := max (d.leastFragment t.port - 4) (ceilDiv (at' - t.fragStart) (d.byteTime t.port))
  if t.sentBefore + x + 64 ≤ d.txLength t then some x else none

/-- When an express copy that falls due at a time may begin behind a preemptable frame on the wire. -/
def Device.yieldTime (d : Device) (t : Tx) (at' : Nat) : Nat :=
  if t.gateHeld then at'
  else if at' ≤ t.fragStart then t.fragStart
  else match d.permittedPoint t at' with
    | some x => t.fragStart + (x + 24) * d.byteTime t.port
    | none => d.txEnd t

/-- Wire time of what is left of an inserted frame, with preamble and gap. -/
def Device.ownRest (d : Device) (w : OwnTx) : Nat := (w.bytes.length - w.sent + 20) * d.byteTime w.port

/-- The Tendril frame in progress on a port's wire, where it is preemptable (R276). -/
def Device.ownOn (d : Device) (p : Nat) : Option OwnTx :=
  d.dec.ownWire.find? (fun w => w.port = p && !w.pfc && d.preemptActive p && (w.waits || 2 * d.clk.nowPs < w.start + d.ownRest w))

/-- Bytes of a Tendril frame's running fragment at its first permitted point at or after a time; none where it has none. -/
def Device.ownPoint (d : Device) (w : OwnTx) (at' : Nat) : Option Nat :=
  let x := max (d.leastFragment w.port - 4) (ceilDiv (at' - w.start) (d.byteTime w.port))
  if at' ≤ w.start then some 0 else if w.sent + x + 64 ≤ w.bytes.length then some x else none

/-- The end of a port's wire as an express frame that falls due at a time sees it: a preemptable Tendril frame yields at
its first permitted point. -/
def Device.expressEnd (d : Device) (p at' : Nat) : Nat :=
  match d.ownOn p with
  | some w =>
    if w.waits then SMap.get d.dec.wireEnd 0 p
    else (match d.ownPoint w at' with
     | some x => if x = 0 then at' else w.start + (x + 24) * d.byteTime p
     | none => SMap.get d.dec.wireEnd 0 p)
  | none => SMap.get d.dec.wireEnd 0 p

def Device.modOwn (d : Device) (w : OwnTx) (f : OwnTx → OwnTx) : Device :=
  { d with dec := { d.dec with ownWire := modFirst d.dec.ownWire (fun y => y = w) f } }

/-- A Tendril frame in progress stops for an express frame that starts at a time; its rest waits. -/
def Device.yieldOwn (d : Device) (p at' : Nat) : Device :=
  match d.ownOn p with
  | some w =>
    if w.waits || SMap.get d.dec.wireEnd 0 p ≤ at' then d
    else
      let x := (at' - w.start) / d.byteTime p - 24
      let d := d.modOwn w (fun y => { y with sent := y.sent + x, waits := true })
      let d : Device := { d with dec := { d.dec with wireEnd := SMap.set d.dec.wireEnd 0 p at' } }
      if x = 0 then d else d.bump64 (E.PREEMPT_TX_FRAGMENTS p) 1
  | none => d

/-- The rest of a Tendril frame goes on once the wire is free, from a time on; the next express frame may cut it again. -/
def Device.resumeOwn (d : Device) (p fin : Nat) : Device :=
  match d.dec.ownWire.find? (fun w => w.port = p && w.waits) with
  | some w =>
    let d := d.modOwn w (fun y => { y with start := fin, waits := false })
    { d with dec := { d.dec with wireEnd := SMap.set d.dec.wireEnd 0 p (fin + d.ownRest w) } }
  | none => d

/-- W_p as an express copy sees it (R261, R276): behind the express ones, and behind the running fragment of a preemptable
frame. A copy not yet begun begins now at the earliest. -/
def Device.expressFree (d : Device) (p : Nat) : Nat :=
  let now := 2 * d.clk.nowPs
  let mine := d.dec.tx.filter (fun t => t.port = p)
  let runs := mine.filter (fun t => t.started && !d.txPreemptable t)
  let w := runs.foldl (fun w t => max w (d.txEnd t)) (d.expressEnd p now)
  let w := if runs = [] then
      (mine.filter (fun t => t.started && d.txPreemptable t)).foldl (fun w t => max w (d.yieldTime t now)) w
    else w
  (mine.filter (fun t => !t.started && !d.txPreemptable t)).foldl (fun w t =>
    max w (max t.start now) + (d.txLength t + 20) * d.byteTime p) w

/-- W_p as any other copy sees it (R261): behind everything selected or inserted before it. What an express copy or a gate
holds back follows, from now on at the earliest. -/
def Device.wholeFree (d : Device) (p : Nat) : Nat :=
  let now := 2 * d.clk.nowPs
  let mine := d.dec.tx.filter (fun t => t.port = p)
  let w := (mine.filter (fun t => t.started && !d.offWire t)).foldl (fun w t => max w (d.txEnd t)) (SMap.get d.dec.wireEnd 0 p)
  let w := (d.dec.ownWire.filter (fun x => x.port = p && x.waits)).foldl (fun w x => max w now + d.ownRest x) w
  let w := (mine.filter (fun t => t.started && d.offWire t)).foldl (fun w t =>
    max w now + (d.txLength t - t.sentBefore + 20) * d.byteTime p) w
  (mine.filter (fun t => !t.started)).foldl (fun w t => max w (max t.start now) + (d.txLength t + 20) * d.byteTime p) w

/-- W_p as a copy sees it. -/
def Device.wireFree (d : Device) (p : Nat) (express : Bool) : Nat := if express then d.expressFree p else d.wholeFree p

/-- W_p leaves room for a copy of class `t` selected now (R261, R276). -/
def Device.wireOpen (d : Device) (p t : Nat) : Bool := d.wireFree p (!d.preemptable p t) ≤ d.slotsAhead 273

/-! ### Eligibility (R258) -/

/-- The class is held by a received PFC frame (R129). -/
def Device.pfcHeld (d : Device) (p t : Nat) : Bool := d.rdBit (E.PORT_STATUS p) (8 + t)

/-- The head copy of queue `i` of a port, where the queue passes every test of R258 but those of the group's and the
port's shapers, and W_p leaves room for it (R261; DEDUCED: a queue for whose class the wire is not open is not eligible). -/
def Device.queueHead (d : Device) (p i n : Nat) : Option Copy :=
  match d.headOf (16 * p + i) with
  | some c =>
    if d.copyReady c n && !d.pfcHeld p (i % 8) && d.tokensOk (p * 32 + i) && d.gateOk c n && d.wireOpen p (i % 8) then
      some c
    else none
  | none => none

/-- The oldest copy of the two TC7 queues, unicast first within a slot (R259). -/
def Device.tc7Head (d : Device) (p : Nat) : Option Copy :=
  match d.headOf (16 * p + 7), d.headOf (16 * p + 15) with
  | some u, some m => if u.entered ≤ m.entered then some u else some m
  | some u, none => some u
  | none, m => m

/-- The TC7 copy that the port would select in slot `n`. -/
def Device.tc7Choice (d : Device) (p n : Nat) : Option Copy :=
  match d.tc7Head p with
  | some c => if (d.queueHead p (c.queue % 16) n).isSome then some c else none
  | none => none

/-- The charge of an eligible queue's head within its group. -/
def Device.queueCharge (d : Device) (p n i : Nat) : Option Nat :=
  if d.tokensOk (p * 32 + 16 + d.groupOf p i) && d.tokensOk (p * 32 + 20) then
    (d.queueHead p i n).map (fun c => d.chargeOf p (d.planLength c))
  else none

/-- The trial of a group's inner ring on the Decanter's state `k` (R259). -/
def Device.groupTrial (d : Device) (p n g : Nat) (k : Decanter) : Decanter × Option Nat :=
  ringSelect (p * 32 + g) (d.groupQueues p g) (fun i => p * 32 + i) (d.queueEmpty p) (d.queueCharge p n)
    (fun i => bits (d.cur (E.QUEUE_CTRL p i)) 4 12) k

def Device.groupEnabled (d : Device) (p g : Nat) : Bool := bit (d.cur (E.GROUP p g)) 0
def Device.groupPriority (d : Device) (p g : Nat) : Nat := bits (d.cur (E.GROUP p g)) 2 2

/-- A group with an eligible queue. -/
def Device.groupAsks (d : Device) (p n g : Nat) : Bool :=
  d.groupEnabled p g && (d.groupQueues p g).any (fun i => (d.queueCharge p n i).isSome)

/-- The groups' trials in ascending order: the Decanter's state with the changes of those that select nothing, and the
choices of the others. -/
def Device.trials (d : Device) (p n : Nat) : Decanter × List (Nat × Nat) :=
  (List.range 4).foldl (fun (st : Decanter × List (Nat × Nat)) g =>
    if d.groupAsks p n g then
      let r := d.groupTrial p n g st.1
      match r.2 with
      | some i => (st.1, st.2 ++ [(g, i)])
      | none => (r.1, st.2)
    else st) (d.dec, [])

/-- What the groups of a port would select in slot `n`: the Decanter's state after it, and the queue (R259). -/
def Device.groupChoice (d : Device) (p n : Nat) : Decanter × Option Nat :=
  let t := d.trials p n
  let top := (t.2.map (fun c => d.groupPriority p c.1)).foldl max 0
  let live := t.2.filter (fun c => d.groupPriority p c.1 = top)
  let members := (List.range 4).filter (fun g => d.groupEnabled p g && d.groupPriority p g = top)
  if live = [] then (t.1, none)
  else
    let headLen := fun i => (d.headOf (16 * p + i)).elim 0 (fun c => d.chargeOf p (d.planLength c))
    let r := ringSelect (p * 32 + 4) members (fun g => p * 32 + 16 + g)
      (fun g => (d.groupQueues p g).all (d.queueEmpty p))
      (fun g => (live.find? (fun c => c.1 = g)).map (fun c => headLen c.2))
      (fun g => bits (d.cur (E.GROUP p g)) 4 12) t.1
    match r.2 with
    | some g =>
      let inner := d.groupTrial p n g r.1
      (inner.1, inner.2)
    | none => (r.1, none)

/-! ### Selection (R259 to R262) -/

/-- The frame as a charge of unknown length finds it now. -/
def Device.owingFrame (d : Device) (o : Owing) : Frame := (d.frame? o.frame.id).getD o.frame

/-- The port may select: it is up, and the length of its last selected copy is known, whatever has become of that copy
(R260). -/
def Device.portOpen (d : Device) (p : Nat) : Bool :=
  d.linkUp p && (d.dec.owing.filter (fun o => o.port = p)).all (fun o => (d.owingFrame o).ended)

/-- A copy selected in slot `n` (R260, R261): charged, taken from its queue, and on its way to the wire. -/
def Device.take (d : Device) (p n : Nat) (c : Copy) : Device :=
  let i := c.queue % 16
  let len := d.planLength c
  let d := d.chargeShapers p i (d.chargeOf p len)
  let d := if c.tc = 7 then d.wr (E.TC7_WAIT_MAX p) (max (d.rd (E.TC7_WAIT_MAX p)) (n - c.entered)) else d
  let known := d.lengthKnown c
  let t : Tx := { port := p, copy := c, selected := n, start := d.slotsAhead 272,
                  guess := if known then none else some len
                  depthAt := d.queueUse c.queue, caskAt := d.caskUnits }
  let owe : List Owing := match d.frame? c.frame with
    | some f =>
      if known then []
      else [{ frame := f, copy := c, port := p, guess := len, charged := d.shaperPath p i
              owed := if i % 8 = 7 then [] else [p * 32 + i, p * 32 + 16 + d.groupOf p i] }]
    | none => []
  let d := d.abandonRack c
  let d : Device := { d with queued := d.queued.filter (fun x => x.id ≠ c.id)
                             dec := { d.dec with tx := d.dec.tx ++ [t], owing := d.dec.owing ++ owe
                                                 gateStuck := d.dec.gateStuck.filter (fun g => g.2.1 ≠ c.id) } }
  d.clearDeficits p

/-- The difference of a charge made with the PORT_MTU, credited to what it was taken from (R260). -/
def Device.creditOwing (d : Device) (o : Owing) : Device :=
  let back : Int := (d.chargeOf o.port o.guess : Int) - (d.chargeOf o.port (copyLength (d.owingFrame o) o.copy) : Int)
  let d := d.creditShapers o.charged back
  let ds := o.owed.foldl (fun (ds : SMap) key => SMap.set ds 0 key ((SMap.get ds 0 key : Int) + back).toNat) d.dec.deficits
  ({ d with dec := { d.dec with deficits := ds } } : Device).modTx o.copy.id (fun x => { x with guess := none })

/-- The verdict of a frame has come: its charges of unknown length are credited, its egress mirrors' among them. -/
def Device.creditFrame (d : Device) (id : Nat) : Device :=
  let due (o : Owing) : Bool :=
    let f := d.owingFrame o
    (f.id = id || f.follows = some (id, true)) && f.ended && f.verdict.isSome
  (d.dec.owing.filter due).foldl (fun (d : Device) o => d.creditOwing o)
    { d with dec := { d.dec with owing := d.dec.owing.filter (fun o => !due o) } }

/-- The ports in ascending order, from after the port `last - 1` on, with wrap. -/
def rotated (ports : List Nat) (last : Nat) : List Nat :=
  ports.filter (fun p => last ≤ p) ++ ports.filter (fun p => p < last)

/-- The first two selections of a slice go to ports with a TC7 copy to select (R262): how many were made. -/
def Device.selectTc7 (d : Device) (s n : Nat) (ports : List Nat) : Device × Nat :=
  (rotated ports (SMap.get d.dec.lastPort 0 (2 * s))).foldl (fun (st : Device × Nat) p =>
    if st.2 < 2 then
      match st.1.tc7Choice p n with
      | some c =>
        let d := st.1.take p n c
        ({ d with dec := { d.dec with lastPort := SMap.set d.dec.lastPort 0 (2 * s) (p + 1) } }, st.2 + 1)
      | none => st
    else st) (d, 0)

/-- The remaining selections of a slice go to the other ports: those without a TC7 copy to select. -/
def Device.selectOther (d : Device) (s n made : Nat) (ports : List Nat) : Device :=
  ((rotated ports (SMap.get d.dec.lastPort 0 (2 * s + 1))).foldl (fun (st : Device × Nat) p =>
    if st.2 < 2 then
      let r := st.1.groupChoice p n
      let d : Device := { st.1 with dec := r.1 }
      match r.2.bind (fun i => d.headOf (16 * p + i)) with
      | some c =>
        let d := d.take p n c
        ({ d with dec := { d.dec with lastPort := SMap.set d.dec.lastPort 0 (2 * s + 1) (p + 1) } }, st.2 + 1)
      | none => (d, st.2)
    else st) (d, made)).1

/-- The selections of a slice in slot `n` (R262). -/
def Device.selectSlice (d : Device) (s n : Nat) (ports : List Nat) : Device :=
  let ports := ports.filter d.portOpen
  let tc7 := ports.filter (fun p => (d.tc7Choice p n).isSome)
  let rest := ports.filter (fun p => !tc7.contains p)
  let r := d.selectTc7 s n tc7
  r.1.selectOther s n r.2 rest

/-- The selections of every slice in slot `n`. -/
def Device.selectAll (d : Device) (n : Nat) : Device :=
  let ports := d.ports'.filter (fun p => d.queued.any (fun c => isFront c.queue && portOf c.queue = p))
  (List.range 32).foldl (fun d s =>
    let mine := ports.filter (fun p => d.sliceOf p = s)
    if mine = [] then d else d.selectSlice s n mine) d

/-- The management port queue's head leaves for slice 0's egress when it is ready (R136). -/
def Device.selectMgmt (d : Device) (n : Nat) : Device :=
  match d.headOf mgmtQueue with
  | some c =>
    if d.copyReady c n then
      let t : Tx := { port := 0x840, copy := c, selected := n, start := d.slotsAhead 272,
                      depthAt := d.queueUse c.queue, caskAt := d.caskUnits }
      { d with queued := d.queued.filter (fun x => x.id ≠ c.id), dec := { d.dec with tx := d.dec.tx ++ [t] } }
    else d
  | none => d

/-! ### PFC transmission (R130, R263) -/

/-- The 64 bytes of a PFC frame with its FCS (R130, IEEE 802.1Qbb): the enabled classes and their quanta. -/
def pfcFrame (src : Nat) (due : List (Nat × Nat)) : List Byte :=
  let v := due.foldl (fun a c => setBit a c.1 true) 0
  closeFrame ([0x01, 0x80, 0xC2, 0, 0, 1] ++ beBytes 6 src ++ [0x88, 0x08, 0x01, 0x01] ++ beBytes 2 v
    ++ (List.range 8).flatMap (fun i => beBytes 2 ((due.find? (fun c => c.1 = i)).elim 0 (·.2))))

/-- A PFC frame of a class falls due. -/
def Device.pfcAsk (d : Device) (p cls quanta : Nat) : Device :=
  { d with dec := { d.dec with pfcDue := d.dec.pfcDue.filter (fun x => !(x.1 = p && x.2.1 = cls))
                                          ++ [(p, cls, quanta, d.clk.slots)] } }

/-- A TC7 copy selected before every class of the due PFC frame fell due goes before it (R263). -/
def Device.pfcBehind (d : Device) (p : Nat) : Bool :=
  d.dec.tx.any (fun t => t.port = p && !t.started && t.copy.tc = 7
    && (d.dec.pfcDue.filter (fun x => x.1 = p)).all (fun x => t.selected < x.2.2.2))

/-- The port's due PFC frame takes the wire from a time on. -/
def Device.sendPfc (d : Device) (p from' : Nat) : Device :=
  let due := d.dec.pfcDue.filter (fun x => x.1 = p)
  ({ d with dec := { d.dec with pfcDue := d.dec.pfcDue.filter (fun x => x.1 ≠ p) } } : Device).ownOnto p
    (pfcFrame (d.rd E.TENDRIL_MAC) (due.map (fun x => (x.2.1, x.2.2.1)))) true from'

/-- A fragment ends here: `x` bytes of it were sent. -/
def Device.endFragment (d : Device) (t : Tx) (x resume : Nat) (held : Bool) : Device :=
  (d.modTx t.copy.id (fun y => { y with sentBefore := y.sentBefore + x, fragStart := resume, gateHeld := held })).bump64
    (E.PREEMPT_TX_FRAGMENTS t.port) 1

/-- The port's due PFC frame leaves between two frames, or, being express, at the first permitted point of a preemptable
one (R263, R276). Behind an express copy on the wire it waits for that one's end. A sleeping transmit side is first to be
woken (R132). -/
def Device.insertPfc (d : Device) (p : Nat) : Device :=
  let now := 2 * d.clk.nowPs
  if !d.dec.pfcDue.any (fun x => x.1 = p) || !d.linkUp p || d.txSleeps p || d.pfcBehind p || d.expressRuns p then d
  else match d.dec.tx.find? (fun t => t.port = p && t.started && !t.gateHeld) with
    | some t =>
      match d.permittedPoint t now with
      | some x =>
        if t.fragStart + x * d.byteTime p ≤ now ∧ t.fragStart < now then
          (d.endFragment t x (now + 84 * d.byteTime p) false).sendPfc p now
        else d
      | none => d
    | none =>
      if d.expressEnd p now ≤ now then
        let from' := max now (SMap.get (d.yieldOwn p now).dec.wireEnd 0 p)
        ((d.yieldOwn p now).sendPfc p from').resumeOwn p (from' + 84 * d.byteTime p)
      else d

/-- Every port's due PFC frames. -/
def Device.insertPfcs (d : Device) : Device := (d.dec.pfcDue.map (·.1)).eraseDups.foldl (fun d p => d.insertPfc p) d

/-! ### Gates and the frame on the wire (R273) -/

/-- A preempted copy's fragment goes on. -/
def Device.resumeFragment (d : Device) (t : Tx) : Device :=
  d.modTx t.copy.id (fun y => { y with gateHeld := false, fragStart := max (2 * d.clk.nowPs) y.fragStart })

/-- What slot `n` does to a preemptable frame on the wire: a closing window ends its fragment at the first permitted point,
which may lie within the slot, and of one that an express copy has cut already it holds the rest; the class's next open run
resumes it, and so does a port that is no longer gated or whose preemption has ceased. -/
def Device.gateFragment (d : Device) (t : Tx) (n : Nat) : Device :=
  let now := 2 * d.clk.nowPs
  let least := d.need t.port (d.leastFragment t.port + 64)
  match d.gate? t.port with
  | none => if t.gateHeld then d.resumeFragment t else d
  | some g =>
    if t.gateHeld then
      (if !d.txPreemptable t ∨ runFits (g.runAt t.copy.tc n) least then d.resumeFragment t else d)
    else if runFits (g.runAt t.copy.tc n) (least + 1) then d
    else if d.offWire t then d.modTx t.copy.id (fun y => { y with gateHeld := true })
    else match d.permittedPoint t (max now t.fragStart) with
      | some x =>
        if t.fragStart + x * d.byteTime t.port < d.slotsAhead 1 then d.endFragment t x (t.fragStart + (x + 24) * d.byteTime t.port) true
        else d
      | none => d

def Device.gateFragments (d : Device) (n : Nat) : Device :=
  (d.dec.tx.filter (fun t => t.started && (t.gateHeld || (t.stomp.isNone && d.txPreemptable t)))).foldl
    (fun d t => d.gateFragment t n) d

/-- The Tendril frames that a place between frames is free for. -/
def Device.insertOwns (d : Device) : Device := (d.dec.own.map (·.1)).eraseDups.foldl (fun d p => d.insertOwn p) d

end Sys2Proof.Machine
end

