-- ==== Sys2Proof/Machine/Symbols.lean ====
section
/-! DEFINITION. What a lane puts on the wire: the Gray map, precoding, polarity, the comma word and the block of a joining
lane (R94 to R96, R98, R99). -/

namespace Sys2Proof.Machine

open Sys2Proof

/-! ### Symbols (R94) -/

/-- The symbol value of a pair of bits, the first of them the MSB (Table 4.3). -/
def gray : Bool → Bool → Nat
  | false, false => 0
  | false, true => 1
  | true, true => 2
  | true, false => 3

/-- The pair of bits of a symbol value. -/
def ungray (g : Nat) : Bool × Bool := (2 ≤ g % 4, g % 4 = 1 || g % 4 = 2)

/-- The nominal level of a symbol value. -/
def levelOf (v : Nat) : Int := 2 * (v % 4 : Nat) - 3

/-- The symbol value of a nominal level; none for a number that is no level. -/
def symbolOf (x : Int) : Option Nat := (List.range 4).find? (fun v => levelOf v = x)

/-- The symbol values of a string of bits, two a symbol; an odd last bit is no symbol yet. -/
def graySymbols : List Bool → List Nat
  | a :: b :: t => gray a b :: graySymbols t
  | _ => []

def grayBits (gs : List Nat) : List Bool := gs.flatMap (fun g => [(ungray g).1, (ungray g).2])

/-! ### Precoding (R95) -/

/-- The transmitter's precoder from the state p(j-1): the symbols to send. -/
def precode : Nat → List Nat → List Nat
  | _, [] => []
  | p, g :: t => let q := (g + 4 - p % 4) % 4; q :: precode q t

/-- The receiver's decoder from p(j-1), the last symbol value received. -/
def decodeSymbols : Nat → List Nat → List Nat
  | _, [] => []
  | p, q :: t => (q + p) % 4 :: decodeSymbols q t

/-! ### Polarity (R96) -/

/-- A symbol value under an inverted polarity. -/
def invertSymbol (inverted : Bool) (v : Nat) : Nat := if inverted then 3 - v % 4 else v

/-- A bit of NRZ under an inverted polarity. -/
def invertBit (inverted b : Bool) : Bool := inverted != b

/-- Word 0 of a lane's board table entry (Table 4.5). -/
def Device.boardWord (d : Device) (l : Nat) : Nat := d.rd (entry (0x2F00 + l / 2) (1 + 4 * (l % 2)))

/-- The board table inverts the lane's transmit, or receive, polarity. -/
def Device.inverts (d : Device) (l : Nat) (tx : Bool) : Bool := bit (d.boardWord l) (if tx then 1 else 2)

/-- Precoding is in force in a direction of a lane (Table 4.1): always in modes 5 and 6, by LANE_CONTROL in modes 2 to 4,
never in mode 1. -/
def Device.precodes (d : Device) (l : Nat) (tx : Bool) : Bool :=
  let m := d.laneMode l
  5 ≤ m || (2 ≤ m && bit (d.laneSetting (E.LANE_CONTROL l)) (if tx then 0 else 1))

/-- The symbol values that a PAM4 lane sends for its next data bits, from the precoder state `p`; precoding first, then
polarity. -/
def Device.sendSymbols (d : Device) (l p : Nat) (bs : List Bool) : List Nat :=
  let gs := graySymbols bs
  (if d.precodes l true then precode p gs else gs).map (invertSymbol (d.inverts l true))

/-- The data bits that a PAM4 lane reads from symbol values received, with p(j-1) = `p`; polarity first. -/
def Device.receiveSymbols (d : Device) (l p : Nat) (vs : List Nat) : List Bool :=
  let vs := vs.map (invertSymbol (d.inverts l false))
  grayBits (if d.precodes l false then decodeSymbols p vs else vs)

/-- The bits that a lane in NRZ sends and reads: mode 1 has no precoding. -/
def Device.nrzBits (d : Device) (l : Nat) (tx : Bool) (bs : List Bool) : List Bool := bs.map (invertBit (d.inverts l tx))

/-- A lane's transmitter sends its next data bits: the symbol values, in NRZ the bits, and the precoder state after them. -/
def Device.laneSend (d : Device) (l : Nat) (bs : List Bool) : Device × List Nat :=
  if d.laneMode l = 1 then (d, (d.nrzBits l true bs).map Bool.toNat)
  else
    let p := SMap.get d.lanes.txLast 0 l
    let q := (precode p (graySymbols bs)).getLastD p
    ({ d with lanes := { d.lanes with txLast := SMap.set d.lanes.txLast 0 l q } }, d.sendSymbols l p bs)

/-- A lane's receiver reads its next symbol values: the data bits, and the last symbol value as p(j-1). -/
def Device.laneReceive (d : Device) (l : Nat) (vs : List Nat) : Device × List Bool :=
  if d.laneMode l = 1 then (d, d.nrzBits l false (vs.map (· % 2 = 1)))
  else
    let p := SMap.get d.lanes.rxLast 0 l
    let q := (vs.map (invertSymbol (d.inverts l false))).getLastD p
    ({ d with lanes := { d.lanes with rxLast := SMap.set d.lanes.rxLast 0 l q } }, d.receiveSymbols l p vs)

/-! ### Test patterns and loopback (R470) -/

/-- The taps of PATTERN: PRBS13Q from x^13 + x^12 + x^2 + x + 1, PRBS31Q from x^31 + x^28 + 1 (IEEE 802.3; log entry 180). -/
def patternTaps (pattern : Nat) : List Nat := if pattern = 1 then [0, 1, 11, 12] else [27, 30]

/-- The bits of a pattern from its register, bit 0 the latest, and the register after them. -/
def patternBits (taps : List Nat) : Nat → Nat → List Bool × Nat
  | 0, s => ([], s)
  | n + 1, s =>
    let x := taps.foldl (fun (a : Bool) i => a != bit s i) false
    let r := patternBits taps n ((2 * s + x.toNat) % 2 ^ (taps.getLastD 0 + 1))
    (x :: r.1, r.2)

/-- LOOPBACK and PATTERN of a lane; they act in Diagnostic only (Table 19.4). -/
def Device.loopback (d : Device) (l : Nat) : Nat := if d.mode = .diagnostic then bits (d.rd (E.DIAG_LANE_CTRL l)) 0 2 else 0
def Device.pattern (d : Device) (l : Nat) : Nat := if d.mode = .diagnostic then bits (d.rd (E.DIAG_LANE_CTRL l)) 2 3 else 0

/-- What a lane's transmitter sends next: under far-end loopback the symbols received, under a test pattern as many
bits of it, and else its data bits. -/
def Device.laneOutput (d : Device) (l : Nat) (data : List Bool) (received : List Nat) : Device × List Nat :=
  let p := d.pattern l
  if d.loopback l = 2 then (d, received)
  else if p = 1 ∨ p = 2 then
    let taps := patternTaps p
    let s := SMap.get d.lanes.pattern 0 l
    let s := if s = 0 then 2 ^ (taps.getLastD 0 + 1) - 1 else s
    let r := patternBits taps data.length s
    ({ d with lanes := { d.lanes with pattern := SMap.set d.lanes.pattern 0 l r.2 } } : Device).laneSend l r.1
  else d.laneSend l data

/-- What the lane's receiver reads: under near-end loopback the lane's own symbols. -/
def Device.laneInput (d : Device) (l : Nat) (sent received : List Nat) : Device × List Bool :=
  d.laneReceive l (if d.loopback l = 1 then sent else received)

/-- One bit comes to a pattern check, with the errors and the bits checked so far. The register, under a marking 1, fills
with the first bits that come, and then runs on by itself as what is expected (log entry 210). -/
def checkBit (taps : List Nat) (r : Nat × Nat × Nat) (b : Bool) : Nat × Nat × Nat :=
  let n := taps.getLastD 0 + 1
  let s := max 1 r.1
  if s < 2 ^ n then (2 * s + b.toNat, r.2)
  else
    let x := taps.foldl (fun (a : Bool) i => a != bit s i) false
    (2 ^ n + (2 * s + x.toNat) % 2 ^ n, r.2.1 + (x != b).toNat, r.2.2 + 1)

/-- CHECK_ENABLE acts in Diagnostic, on a test pattern (Table 19.4): its errors and its bits are counted. -/
def Device.checkPattern (d : Device) (l : Nat) (bs : List Bool) : Device :=
  let p := d.pattern l
  if (p = 1 ∨ p = 2) ∧ bit (d.rd (E.DIAG_LANE_CTRL l)) 8 then
    let r := bs.foldl (checkBit (patternTaps p)) (SMap.get d.lanes.checker 0 l, 0, 0)
    let d : Device := { d with lanes := { d.lanes with checker := SMap.set d.lanes.checker 0 l r.1 } }
    (d.bump64 (E.DIAG_ERRORS l) r.2.1).bump64 (E.DIAG_BITS l) r.2.2
  else d

/-! ### The comma word (R98) -/

/-- The levels of symbols 0 to 23 of Table 4.4. -/
def commaHead : List Int :=
  (List.range 16).map (fun i => if i % 2 = 0 then (3 : Int) else -3) ++ [-1, 1, -1, 1, 3, 3, -3, -3]

/-- An 8-bit number as the levels of four symbols, MSB first. -/
def byteLevels (n : Nat) : List Int :=
  [3, 2, 1, 0].map (fun i => levelOf (gray (bit n (2 * i + 1)) (bit n (2 * i))))

/-- The comma word of a LANE_ID. -/
def commaWord (id : Nat) : List Int := commaHead ++ byteLevels id ++ byteLevels (255 - id % 256)

/-- The number that four levels carry; none where one is no level. -/
def byteOfLevels (xs : List Int) : Option Nat :=
  (xs.mapM symbolOf).map (fun vs => vs.foldl (fun a v => 4 * a + 2 * (ungray v).1.toNat + (ungray v).2.toNat) 0)

/-- The LANE_ID of a received comma word that passes the test of R99; none where it fails. -/
def commaId (w : List Int) : Option Nat :=
  match byteOfLevels (slice' w 24 4), byteOfLevels (slice' w 28 4) with
  | some a, some b => if w.length = 32 ∧ w.take 24 = commaHead ∧ a + b = 255 then some a else none
  | _, _ => none
where
  slice' (xs : List Int) (i n : Nat) : List Int := (xs.drop i).take n

/-- The comma word that a join lane sends: its LANE_ID is its join index (R418). -/
def Device.commaOf (d : Device) (l : Nat) : List Int := commaWord (d.joinIndex l)

/-- A received comma word's LANE_ID at a lane, whose polarity comes first (R96). -/
def Device.commaAt (d : Device) (l : Nat) (w : List Int) : Option Nat :=
  commaId (if d.inverts l false then w.map (fun x => -x) else w)

/-- The receiver of a mode-6 lane has found four successive comma words that pass the test (R99). In modes 1 to 5 the
alignment is that of the lane's PCS (R97). -/
def Device.aligns (d : Device) (l : Nat) (ws : List (List Int)) : Bool :=
  d.laneMode l ≠ 6 || (ws.length = 4 && ws.all (fun w => (d.commaAt l w).isSome))

/-- Four successive expected comma words of a mode-6 lane fail the test. -/
def Device.misaligns (d : Device) (l : Nat) (ws : List (List Int)) : Bool :=
  d.laneMode l ≠ 6 || (ws.length = 4 && ws.all (fun w => (d.commaAt l w).isNone))

/-- The LANE_ID of the last comma word is reported to the Assemblage logic (R99). -/
def Device.reportLane (d : Device) (l : Nat) (ws : List (List Int)) : Device :=
  if d.laneMode l = 6 then
    match ws.getLast?.bind (d.commaAt l) with
    | some id => { d with lanes := { d.lanes with laneId := SMap.set d.lanes.laneId 0 l (id + 1) } }
    | none => d
  else d

/-! ### The block (R99) -/

/-- The self-synchronising scrambler x^58 + x^39 + 1: `s` holds the 58 bits sent last, bit 0 the latest. -/
def scramble : Nat → List Bool → List Bool
  | _, [] => []
  | s, b :: t =>
    let x := b != (bit s 38 != bit s 57)
    x :: scramble ((2 * s + x.toNat) % 2 ^ 58) t

def descramble : Nat → List Bool → List Bool
  | _, [] => []
  | s, x :: t => (x != (bit s 38 != bit s 57)) :: descramble ((2 * s + x.toNat) % 2 ^ 58) t

/-! ### RS(544,514) (R99) -/

/-- Twice an element of GF(2^10), and the product of two: by x^10 + x^3 + 1 (PRESUMED: IEEE 802.3, log entry 211). -/
def gfDouble (a : Nat) : Nat := if 512 ≤ a % 1024 then (2 * (a % 1024)) ^^^ 0x409 else 2 * (a % 1024)
def gfMul (a b : Nat) : Nat :=
  (List.range 10).foldr (fun i acc => gfDouble acc ^^^ (if bit b i then a else 0)) 0

/-- Coefficient by coefficient, the sum of two polynomials. -/
def gfAdd (xs ys : List Nat) : List Nat := (xs.zip ys).map (fun p => p.1 ^^^ p.2)

/-- The coefficients after the leading 1 of the code's generator, whose roots are the powers 0 to 29 of x. -/
def rsGenerator : List Nat :=
  let roots := (List.range 30).map (fun n => (List.range n).foldl (fun a _ => gfDouble a) 1)
  (roots.foldl (fun g r => gfAdd (g ++ [0]) (0 :: g.map (gfMul r))) [1]).drop 1

/-- The 30 parity symbols of 514 symbols of 10 bits. -/
def rsParity (msg : List Nat) : List Nat :=
  msg.foldl (fun rem m => gfAdd (rem.drop 1 ++ [0]) (rsGenerator.map (gfMul (rem.headD 0 ^^^ m)))) (List.replicate 30 0)

/-- The bits of a codeword of 5,140 information bits, most significant first, with its parity. -/
def codewordBits (w : Nat) : List Bool :=
  let msg := (List.range 514).map (fun i => bits w (5130 - 10 * i) 10)
  (msg ++ rsParity msg).flatMap (fun x => (List.range 10).map (fun i => bit x (9 - i)))

/-- A join lane sends a block: the comma word, and its codewords with their parity, scrambled, mapped and precoded; the comma
word passes by scrambler and precoder. 16 codewords of 2,720 symbols make 43,552 with it. -/
def Device.sendBlock (d : Device) (l : Nat) (codewords : List Nat) : Device :=
  let bs := scramble (SMap.get d.lanes.scrambler 0 l) (codewords.flatMap codewordBits)
  let after := bs.foldl (fun s x => (2 * s + x.toNat) % 2 ^ 58) (SMap.get d.lanes.scrambler 0 l)
  let r := d.laneSend l bs
  let d : Device := { r.1 with lanes := { r.1.lanes with scrambler := SMap.set r.1.lanes.scrambler 0 l after } }
  d.send (.block l ((d.commaOf l).map (fun x => if d.inverts l true then -x else x) ++ r.2.map levelOf))

end Sys2Proof.Machine
end

