-- ==== Sys2Proof/Machine/Joins.lean ====
section
/-! DEFINITION. The join's lanes: management messages, the stripe on the lanes, the maps, narrowing and split, and a lane that
goes out of service (R107, R418 to R422, R430, R435 to R437). -/

namespace Sys2Proof.Machine

open Sys2Proof

/-! ### Management messages (R422) -/

/-- A management message is to be sent: OP, three bytes 0, and its content. -/
def Device.message (d : Device) (op : Nat) (content : List Byte) : Device :=
  { d with join := { d.join with outbox := d.join.outbox ++ [beBytes 1 op ++ [0, 0, 0] ++ content] } }

/-- A BOOK message (R429): its content in pieces of 600 bytes, a codeword each, led by the kind, the length of the whole and
the piece's offset (log entry 215). -/
def Device.bookMessage (d : Device) (kind : Nat) (content : List Byte) : Device :=
  let n := content.length
  (List.range (max 1 (ceilDiv n 600))).foldl (fun (d : Device) i =>
    d.message 4 (beBytes 1 kind ++ beBytes 4 n ++ beBytes 4 (600 * i) ++ (content.drop (600 * i)).take 600)) d

/-- An entry and its bytes, as a BOOK message names them. -/
def bookEntry (a : Addr) (bs : List Byte) : List Byte := beBytes 3 a ++ beBytes 4 bs.length ++ bs

/-- What a member tells its partner of its member entries: those that a check or a digest reads, and LANE_STATUS (R430,
R431). -/
def toldEntry (a : Addr) : Bool :=
  memberEntry a && (match findRow a with
    | some r => r.acc = .rwv || r.acc = .rwc || r.acc = .rw || (0x2000 ≤ indexOf a && indexOf a < 0x2200 && subOf a = 3)
    | none => false)

/-- A value of the entry as bytes. -/
def entryBytes (a : Addr) (v : Nat) : List Byte :=
  match findRow a with
  | some r => beBytes r.ty.size v
  | none => []

/-- A member tells its partner the value of one of its own entries (R430). -/
def Device.noticeEntry (d : Device) (a : Addr) : Device :=
  if d.joined && toldEntry a then d.bookMessage 3 (bookEntry a (entryBytes a (d.rd a))) else d

/-- On entry to Mirroring each member tells its own entries, and the primary the joint ones (R430, R435). -/
def Device.mirrorOut (d : Device) : Device :=
  let goes (a : Addr) : Bool := toldEntry a || (d.member = 0 && !memberEntry a)
  d.bookMessage 6 ((d.bk.filter (fun e => goes e.1)).flatMap (fun e => bookEntry e.1 (entryBytes e.1 e.2))
    ++ (d.objs.filter (fun e => goes e.1)).flatMap (fun e => bookEntry e.1 e.2))

/-! ### Codewords and stripes on the lanes (R419, R420, Table 17.2) -/

/-- STREAM of an idle codeword, and of a management message. -/
def idleStream : Nat := 8
def messageStream : Nat := 9

/-- The 5,140 information bits of a codeword: STREAM, SIDE, and 640 bytes of DATA, most significant bit first. -/
def joinWord (stream side : Nat) (data : List Byte) : Nat :=
  stream % 16 * 2 ^ 5136 + side % 65536 * 2 ^ 5120 + beNat (slice data 0 640)

/-- The SIDE value of a position of the block (Table 17.2). -/
def Join.side (j : Join) (hold n : Nat) : Nat :=
  match n with
  | 0 => j.txSeq
  | 1 => j.rxSeq
  | 2 => j.nak.toNat * 2 ^ 15
  | 3 => hold % 2 ^ 7
  | 4 => j.txEpoch % 2 ^ 8
  | _ => 0

/-- The lanes of the join, ascending. -/
def Device.joinLanes (d : Device) : List Nat := (List.range 512).filter (fun l => d.isJoinLane l)

/-- The lanes of a Stave. -/
def staveLanes (k : Nat) : List Nat := (List.range 64).map (· + 64 * k)

/-- The lanes that a receiver makes active: of each join Stave the 60 lowest that are locked and not retired (R419). -/
def Device.bestLanes (d : Device) : List Nat :=
  (List.range 8).flatMap (fun k =>
    ((staveLanes k).filter (fun l => d.isJoinLane l && d.laneLocked l && !d.laneRetired l)).take 60)

/-- The lanes that carry this member's stripes, ascending: those of the transmit map; before the partner's first MAP those
that it would make active itself (log entry 32). -/
def Device.txLanes (d : Device) : List Nat :=
  let ls := d.joinLanes.filter (fun l => d.joinActive 0 l)
  if ls = [] then d.bestLanes else ls

/-- A join lane whose transmitter runs sends a block. -/
def Device.laneBlock (d : Device) (l : Nat) (codewords : List Nat) : Device :=
  if d.txState l = 0 then d.sendBlock l codewords else d

/-- A stripe goes out: codewords (STREAM, DATA) by position and then lane, idle ones after them, the same SIDE values on every
active lane; the spares send idle codewords (R419, R420; with the same SIDE values, log entry 216). -/
def Device.putStripe (d : Device) (content : List (Nat × List Byte)) : Device :=
  let side (n : Nat) : Nat := d.join.side (d.rd (E.HOLD_ACTIVE 1)) n
  let ls := d.txLanes
  let k := ls.length
  let words := (content ++ List.replicate (16 * k - content.length) (idleStream, [])).zipIdx.map
    (fun (x : (Nat × List Byte) × Nat) => joinWord x.1.1 (side (x.2 / max 1 k)) x.1.2)
  let idle := (List.range 16).map (fun n => joinWord idleStream (side n) [])
  let spares := d.joinLanes.filter (fun l => !ls.contains l)
  let seq := d.join.txSeq
  let d := ls.zipIdx.foldl (fun (d : Device) x => d.laneBlock x.1 ((List.range 16).map (fun n => words.getD (n * k + x.2) 0)))
    (d.send (.stripe words))
  let d := spares.foldl (fun (d : Device) l => d.laneBlock l idle) d
  { d with join := { d.join with txSeq := (seq + 1) % 65536, stripePs := d.clk.nowPs } }

/-- LEAVE goes out at once, in a stripe of its own (R422, R437; log entry 216). -/
def Device.sendLeave (d : Device) (cause : Nat) : Device :=
  let d : Device := { d with join := { d.join with outbox := [] } }
  let d := d.message 6 (beBytes 1 cause)
  let ms := d.join.outbox.map (fun m => (messageStream, m))
  let d : Device := { d with join := { d.join with outbox := [] } }
  if d.txLanes = [] then d else d.putStripe ms

/-! ### Split (R437) -/

/-- The join splits (R437): the partner is told, where the split is not its own doing; the copies in the cross queues and the
units not yet acknowledged are discarded, pace stops, and the mode changes at the next round boundary. -/
def Device.split (d : Device) (cause : Nat) : Device :=
  if d.joined then
    let d := if cause = 4 then d else d.sendLeave cause
    let d := (((d.wr E.JOIN_STATE 5).bumpSat E.SPLITS 1).wr E.SPLIT_CAUSE cause).raise Src.JOIN_SPLIT 0
    let cs := d.queued.filter (fun c => isCross c.queue)
    let d := d.bump64 E.CROSS_LOST cs.length
    let d := cs.foldl (fun (d : Device) c => d.dropCopy c Reason.LINK_DOWN true none) d
    let j : Join := { d.join with sentStripes := [], progress := [], rxParts := [], rxNumbers := [], partnerPlan := none
                                  outbox := [], burstLeft := 0, paceSkips := 0, markSkips := 0, markNext := 0 }
    let d : Device := { d with join := { j with armFlip := none, go := false, acked := false } }
    if d.mode = .joinedRun then
      { d with armed := some (if d.cur E.SPLIT_ACTION = 1 then .drain else .run), armedPair := false }
    else d
  else d

/-! ### The maps (R419, R435, R436) -/

/-- A map of the receive direction is in use. -/
def Device.mapped (d : Device) : Bool := 1 ≤ d.rd E.JOIN_STATE && d.rd E.JOIN_STATE ≤ 4 && !d.join.rxMaps.isEmpty

/-- The receive direction's map is drawn up anew as one of an epoch, and MAP goes to the partner. -/
def Device.takeMap (d : Device) (epoch : Nat) : Device :=
  let ls := d.bestLanes.map d.joinIndex
  let d := (List.range 256).foldl (fun (d : Device) i => d.wrBit (E.LANE_MAP 1 (i / 32)) (i % 32) (ls.contains i)) d
  let d := d.countActive 1
  let d : Device := { d with join := { d.join with
    rxEpoch := epoch, rxMaps := d.join.rxMaps.filter (fun m => m.1 ≠ epoch) ++ [(epoch, ls)] } }
  d.message 2 (beBytes 1 epoch ++ d.mapBytes 1)

/-- A new map with the next MAP_EPOCH (R436). -/
def Device.remap (d : Device) : Device := d.takeMap ((d.join.rxEpoch + 1) % 256)

/-- A receiver of an active join lane has lost it (R436): the lowest usable spare of its Stave takes its place, MAP is
sent, and the join splits below MIN_ACTIVE_LANES. Where the lane's signal has gone, whether every lane's goes is seen in the
next slot (R437). -/
def Device.narrow (d : Device) (l : Nat) : Device :=
  if d.mapped && d.isJoinLane l && d.joinActive 1 l then
    let d := (d.remap.bumpSat (E.NARROWINGS 1) 1).raise Src.JOIN_NARROWED 0
    if d.rd E.MIN_ACTIVE_LANES ≤ d.rd (E.ACTIVE_LANES 1) then d
    else if d.rdBit (E.LANE_STATUS l) 0 then d.split 1
    else { d with join := { d.join with splitDue := true } }
  else d

/-- A direction has too few lanes since one lost its signal: the join splits with cause 4 where by now every join lane has
lost it, and else with cause 1 (R437). -/
def Device.settleSplit (d : Device) : Device :=
  if d.join.splitDue then
    let d : Device := { d with join := { d.join with splitDue := false } }
    if d.joinLanes.all (fun l => !d.rdBit (E.LANE_STATUS l) 0) then d.split 4
    else if d.rd (E.ACTIVE_LANES 1) < d.rd E.MIN_ACTIVE_LANES then d.split 1
    else d
  else d

/-- A join lane has locked while a map is in use: where it is one of its Stave's 60 lowest usable lanes, it becomes active
(R419; log entry 179). -/
def Device.widen (d : Device) (l : Nat) : Device :=
  if d.mapped && d.isJoinLane l && !d.joinActive 1 l && d.bestLanes.contains l then d.remap else d

/-! ### Training and identifying (R435) -/

/-- The partner of a HELLO fits: the same stepping and firmware, and the other role. -/
def Device.partnerFits (d : Device) (m : HelloMsg) : Bool :=
  m.stepping = d.rd E.STEPPING && m.firmware = beBytes 32 (d.rd E.FIRMWARE_DIGEST) && m.role ≠ d.rd E.JOIN_ROLE

/-- In Identifying, a partner that fits takes the join to Mirroring. -/
def Device.identify (d : Device) : Device :=
  match d.join.hello with
  | some m => if d.rd E.JOIN_STATE = 2 ∧ d.partnerFits m then (d.wr E.JOIN_STATE 3).mirrorOut else d
  | none => d

/-- The join trains: once MIN_ACTIVE_LANES of the receivers are locked they are a map, of epoch 0, and the partner has it;
once either direction's map has as many, HELLO goes to the partner (R435). -/
def Device.joinProgress (d : Device) : Device :=
  if d.rd E.JOIN_STATE ≠ 1 then d
  else
    let least := d.rd E.MIN_ACTIVE_LANES
    let d := if !d.mapped && least ≤ d.bestLanes.length then d.takeMap 0 else d
    if least ≤ d.rd (E.ACTIVE_LANES 0) ∧ least ≤ d.rd (E.ACTIVE_LANES 1) then
      let hello := beBytes 8 (d.rd E.SERIAL) ++ beBytes 2 (d.rd E.STEPPING) ++ beBytes 32 (d.rd E.FIRMWARE_DIGEST)
        ++ beBytes 1 (d.rd E.JOIN_ROLE) ++ beBytes 2 (d.rd E.JOIN_WIDTH)
      ((d.wr E.JOIN_STATE 2).message 1 hello).identify
    else d

/-! ### Retirement and bank loss -/

/-- The request for Recovery that a bank loss makes (Table 19.2, R187): armed in Run, Joined Run and Rest. -/
def Device.requestRecovery (d : Device) : Device :=
  if d.mode = .run ∨ d.mode = .joinedRun ∨ d.mode = .rest then { d with armed := some .recovery, armedPair := false } else d

/-- A lane goes out of service (R107): powered down, its port down, a join without it. -/
def Device.laneOut (d : Device) (l : Nat) : Device :=
  let d := d.wr (E.LANE_STATUS l) 0x3D0
  let d := { d with lanes := d.lanes.forget l }
  ((d.recheckLane l).narrow l).squelch

end Sys2Proof.Machine
end

