-- ==== Sys2Proof/Machine/Sorting.lean ====
section
/-! DEFINITION. The Sorting Table: keys, the four stores, their entries, placement and edits (chapter 07). -/

namespace Sys2Proof.Machine

open Sys2Proof

/-! ### Stores and their entries

The stores are numbered as in Table 7.7: 0 Exact, 1 LPM, 2 Mask, 3 Care; store s holds banks of resource kind 3 + s. A
location is, in the Exact table, the LOCATION of R175; in the LPM store, bank * 65,536 plus the row of the bank, IPv6
rows above 32,767 (log entry 16); in the Mask banks, bank * 1,024 plus the row; in the Care array, the index. -/

def Stores.get (s : Stores) (store : Nat) : List TableEntry :=
  match store with
  | 0 => s.exact
  | 1 => s.lpm
  | 2 => s.mask
  | _ => s.care

def Stores.set (s : Stores) (store : Nat) (es : List TableEntry) : Stores :=
  match store with
  | 0 => { s with exact := es }
  | 1 => { s with lpm := es }
  | 2 => { s with mask := es }
  | _ => { s with care := es }

/-- The logical bank of a location. -/
def storeBank (store loc : Nat) : Nat :=
  match store with
  | 0 => 64 * (loc / 2 ^ 22) + loc % 2 ^ 21 / 32768
  | 1 => loc / 65536
  | _ => loc / 1024

def Device.locIn (d : Device) (store loc : Nat) : Bool := d.bankIn (3 + store) (storeBank store loc)

/-- The valid bit of a parity. -/
def TableEntry.valid (e : TableEntry) (q : Nat) : Bool := if q % 2 = 0 then e.v0 else e.v1

def TableEntry.setValid (e : TableEntry) (q : Nat) (b : Bool) : TableEntry :=
  if q % 2 = 0 then { e with v0 := b } else { e with v1 := b }

/-- ENTRY_CHECK (R183). -/
def entryCheck (bytes : List Byte) : Nat := crc16 0x1021 0xFFFF bytes

/-- An entry as a write stores it (R180). -/
def storedEntry (loc : Nat) (bytes : List Byte) (v0 v1 : Bool) : TableEntry :=
  { loc := loc, bytes := bytes, v0 := v0, v1 := v1, hit := false, check := entryCheck bytes }

def insEntry (e : TableEntry) : List TableEntry → List TableEntry
  | [] => [e]
  | x :: t => if e.loc < x.loc then e :: x :: t else x :: insEntry e t

/-- Only the entries with a valid bit set stay listed. -/
def liveEntries (es : List TableEntry) : List TableEntry := es.filter (fun e => e.v0 || e.v1)

/-! ### The pre-filter of the Mask banks (R165, R180) -/

/-- The two filter bits of 20 masked key bytes, as a number. -/
def filterBits (key : Nat) : Nat :=
  let c := crc32c (beBytes 20 key)
  setBit (2 ^ bits c 0 14) (bits c 14 14) true

/-- The filter of a physical bank passes a masked key: both of its bits are 1. -/
def Device.filterPasses (d : Device) (phys key : Nat) : Bool :=
  SMap.get d.filters 0 phys &&& filterBits key = filterBits key

/-- The filters as they cover every row valid in either parity, row by row in the physical bank that serves it. A row's
masked key is its VALUE. -/
def Device.coverRows (d : Device) (rows : List TableEntry) : SMap :=
  rows.foldl (fun (m : SMap) e =>
    let p := d.physical 5 (storeBank 2 e.loc)
    if (e.v0 || e.v1) && p ≠ 0xFFFF then SMap.set m 0 p (SMap.get m 0 p ||| filterBits (beNat (slice e.bytes 8 20))) else m) []

/-- The entries of a store on die: of Mask rows, the filter bits are written first (R180). -/
def Device.setStore (d : Device) (store : Nat) (es : List TableEntry) : Device :=
  let d : Device := if store = 2 then { d with filters := d.coverRows es } else d
  { d with stores := d.stores.set store es }

/-- The die's and the shadow's entries of a store replaced together (R184). -/
def Device.setEntries (d : Device) (store : Nat) (es : List TableEntry) : Device :=
  { d.setStore store es with shadow := d.shadow.set store (es.map (fun e => { e with hit := false })) }

/-! ### Sizes and identities (Table 7.7) -/

def entrySize (store : Nat) : Nat := [32, 32, 48, 96].getD store 0
def identityBytes (store : Nat) : Nat := [24, 24, 4, 2].getD store 0
def identity (store : Nat) (bytes : List Byte) : List Byte := bytes.take (identityBytes store)

/-- The data of an entry. -/
def entryData (store : Nat) (bytes : List Byte) : Nat :=
  match store with
  | 0 => beNat (slice bytes 24 8)
  | 1 => beNat (slice bytes 24 8)
  | 2 => beNat (slice bytes 32 8)
  | _ => beNat (slice bytes 88 8)

def allZero (bs : List Byte) : Bool := bs.all (· = 0)

/-- What is wrong with an entry in its transfer format: 0 nothing, 1 a reserved byte is not 0, 3 a field is out of
range (R176 to R178), such as an address bit beyond LENGTH or the family (DESIGN CHOICE, log entry 224). -/
def entryFault (store : Nat) (b : List Byte) : Nat :=
  match store with
  | 0 => if allZero (slice b 1 7) then 0 else 1
  | 1 =>
    let w := if byteAt b 0 = 4 then 32 else 128
    if !allZero (slice b 4 4) then 1
    else if byteAt b 0 ≠ 4 ∧ byteAt b 0 ≠ 6 then 3
    else if byteAt b 1 > w then 3
    else if byteAt b 0 = 4 ∧ !allZero (slice b 12 12) then 3
    else if beNat (slice b 8 (w / 8)) % 2 ^ (w - byteAt b 1) ≠ 0 then 3
    else 0
  | 2 =>
    if !(allZero (slice b 6 2) && allZero (slice b 28 4) && allZero (slice b 40 8)) then 1
    else if beNat (slice b 0 2) > 495 ∨ beNat (slice b 2 2) > 1023 then 3
    else 0
  | _ =>
    if !allZero (slice b 2 6) then 1
    else if beNat (slice b 0 2) > 16383 then 3
    else 0

/-- Strictly rising, by the bytes of the order of R176. -/
def risingBy (n : Nat) : List (List Byte) → Bool
  | [] => true
  | [_] => true
  | a :: b :: t => decide (beNat (a.take n) < beNat (b.take n)) && risingBy n (b :: t)

/-- A DOMAIN object of E400 to E403 passes R176. -/
def objectOk (store : Nat) (bs : List Byte) : Bool :=
  let es := pieces (entrySize store) bs
  bs.length % entrySize store = 0 && es.all (fun e => entryFault store e = 0)
    && risingBy (if store = 0 then 32 else identityBytes store) es

/-! ### Edits (R178) -/

/-- Staging capacity of a store; of the family in LPM (Table 7.1). -/
def stagingCapacity (store family : Nat) : Nat :=
  match store with
  | 0 => 6291456
  | 1 => if family = 4 then 2097152 else 1048576
  | 2 => 507904
  | _ => 16384

/-- Inserts an entry in identity order, replacing the first of the same identity (DESIGN CHOICE where staging holds two, log
entry 225). -/
def putEntry (n : Nat) (e : List Byte) : List (List Byte) → List (List Byte)
  | [] => [e]
  | x :: t =>
    if beNat (e.take n) < beNat (x.take n) then e :: x :: t
    else if e.take n = x.take n then e :: t
    else x :: putEntry n e t

/-- The edit records of an object applied in order to the four staged entry lists: the lists, or the index of the first
refused record and its cause. -/
def applyEdits : Nat → Nat → List Byte → List (List (List Byte)) → Except (Nat × Nat) (List (List (List Byte)))
  | 0, _, _, tabs => .ok tabs
  | fuel + 1, i, bs, tabs =>
    if bs = [] then .ok tabs
    else if bs.length < 8 then .error (i, 1)
    else
      let op := byteAt bs 0
      let st := byteAt bs 1
      if (op ≠ 1 ∧ op ≠ 2) ∨ st > 3 ∨ !allZero (slice bs 2 6) then .error (i, 1)
      else if bs.length < 8 + entrySize st then .error (i, 1)
      else
        let e := slice bs 8 (entrySize st)
        let n := identityBytes st
        let tab := tabs.getD st []
        if op = 1 then
          let f := entryFault st e
          if f ≠ 0 then .error (i, f)
          else
            let tab := putEntry n e tab
            if (tab.filter (fun x => st ≠ 1 || byteAt x 0 = byteAt e 0)).length > stagingCapacity st (byteAt e 0) then
              .error (i, 4)
            else applyEdits fuel (i + 1) (bs.drop (8 + entrySize st)) (modAt tabs st (fun _ => tab))
        else if tab.any (fun x => x.take n = e.take n) then
          applyEdits fuel (i + 1) (bs.drop (8 + entrySize st))
            (modAt tabs st (fun t => t.filter (fun x => x.take n ≠ e.take n)))
        else .error (i, 2)

/-- The addresses of the staged objects of the stores. -/
def storeObject (store : Nat) : Addr := [E.EXACT_ENTRIES, E.LPM_ENTRIES, E.MASK_ROWS, E.CARE_ENTRIES].getD store 0

/-- The staged entries of a store. -/
def Device.stagedEntries (d : Device) (store : Nat) : List (List Byte) :=
  pieces (entrySize store) (d.obj (storeObject store))

/-! ### Where an entry lies -/

/-- The location of an Exact entry or key in way w (R167). -/
def Device.exactLoc (d : Device) (w tid : Nat) (key : List Byte) : Nat :=
  w * 2 ^ 22 + crc32cFrom (d.rd (E.HASH_SEED w)) (BitVec.ofNat 8 tid :: slice key 0 16) % 2 ^ 21

def Device.entryLoc (d : Device) (w : Nat) (bytes : List Byte) : Nat := d.exactLoc w (byteAt bytes 0) (slice bytes 8 16)

/-- The location is free: its bank is in service and it holds no entry (R167). -/
def Device.exactFree (d : Device) (es : List TableEntry) (loc : Nat) : Bool :=
  d.locIn 0 loc && !es.any (fun e => e.loc = loc)

/-- The ways other than the one of a location, ascending. -/
def otherWays (loc : Nat) : List Nat := [0, 1, 2].filter (· ≠ loc / 2 ^ 22)

/-- One level of the breadth-first search of R169. A chain lists the locations that are to be vacated, the first freed
last. The result is a chain together with the free location that its newest location's entry moves to. -/
def Device.chainEnd (d : Device) (es : List TableEntry) (chains : List (List Nat)) : Option (List Nat × Nat) :=
  chains.findSome? (fun c =>
    match c with
    | [] => none
    | l :: _ =>
      match es.find? (fun e => e.loc = l) with
      | none => none
      | some e =>
        ((otherWays l).find? (fun w => d.exactFree es (d.entryLoc w e.bytes))).map (fun w => (c, d.entryLoc w e.bytes)))

/-- The chains of the next level. -/
def Device.chainNext (d : Device) (es : List TableEntry) (chains : List (List Nat)) : List (List Nat) :=
  chains.flatMap (fun c =>
    match c with
    | [] => []
    | l :: _ =>
      match es.find? (fun e => e.loc = l) with
      | none => []
      | some e => ((otherWays l).map (fun w => d.entryLoc w e.bytes)).filterMap (fun m =>
          if d.locIn 0 m && !c.contains m then some (m :: c) else none))

/-- The shortest chain of at most `fuel` moves (R169). -/
def Device.chainSearch (d : Device) (es : List TableEntry) : Nat → List (List Nat) → Option (List Nat × Nat)
  | 0, _ => none
  | fuel + 1, chains =>
    match d.chainEnd es chains with
    | some r => some r
    | none => d.chainSearch es fuel (d.chainNext es chains)

/-- Moves the entry at one location to another (R182). -/
def moveEntry (es : List TableEntry) (src dst : Nat) : List TableEntry :=
  match es.find? (fun e => e.loc = src) with
  | none => es
  | some e => insEntry { e with loc := dst } (es.filter (fun x => x.loc ≠ src))

/-- The moves of a chain, the last first; the location that they free. -/
def runChain (es : List TableEntry) (dst : Nat) : List Nat → List TableEntry × Nat
  | [] => (es, dst)
  | l :: t => runChain (moveEntry es l dst) l t

/-- Places one Exact entry by the procedure of R169; none where it fails. -/
def Device.placeExact (d : Device) (es : List TableEntry) (bytes : List Byte) (v0 v1 : Bool) : Option (List TableEntry) :=
  let locs := [0, 1, 2].map (fun w => d.entryLoc w bytes)
  match locs.find? (fun l => d.exactFree es l) with
  | some l => some (insEntry (storedEntry l bytes v0 v1) es)
  | none =>
    match d.chainSearch es 4 ((locs.filter (fun l => d.locIn 0 l)).map (fun l => [l])) with
    | some (chain, dst) =>
      let r := runChain es dst chain
      some (insEntry (storedEntry r.2 bytes v0 v1) r.1)
    | none => none

/-- The lowest free row of a family in the LPM banks in service (log entry 16). -/
def Device.lpmFree (d : Device) (es : List TableEntry) (v6 : Bool) : Option Nat :=
  let base := if v6 then 32768 else 0
  let rows := if v6 then 16384 else 32768
  (List.range 64).findSome? (fun b =>
    if d.bankIn 4 b then
      let lo := b * 65536 + base
      let used := (es.filter (fun e => lo ≤ e.loc && e.loc < lo + rows)).map (fun e => e.loc - lo)
      let r := leastFree used used.length 0
      if r < rows then some (lo + r) else none
    else none)

def Device.placeLpm (d : Device) (es : List TableEntry) (bytes : List Byte) (v0 v1 : Bool) : Option (List TableEntry) :=
  (d.lpmFree es (byteAt bytes 0 = 6)).map (fun l => insEntry (storedEntry l bytes v0 v1) es)

/-- The location that a Mask row or a Care entry names itself. -/
def ownLoc (store : Nat) (bytes : List Byte) : Nat :=
  if store = 2 then beNat (slice bytes 0 2) * 1024 + beNat (slice bytes 2 2) else beNat (slice bytes 0 2)

/-- Places one entry of a store with its valid bits. A Mask row or Care entry lies where it names, where an older version
that the other parity still reads may lie too (log entry 17). -/
def Device.place (d : Device) (store : Nat) (es : List TableEntry) (bytes : List Byte) (v0 v1 : Bool) :
    Option (List TableEntry) :=
  match store with
  | 0 => d.placeExact es bytes v0 v1
  | 1 => d.placeLpm es bytes v0 v1
  | _ => some (insEntry (storedEntry (ownLoc store bytes) bytes v0 v1) es)

/-- The valid bits of a parity cleared on every entry that the new contents do not hold (R179). -/
def clearStale (es : List TableEntry) (q : Nat) (staged : List (List Byte)) : List TableEntry :=
  liveEntries (es.map (fun e => if e.valid q && !staged.contains e.bytes then e.setValid q false else e))

/-- The staged entries that no location valid in parity q holds. -/
def missingEntries (es : List TableEntry) (q : Nat) (staged : List (List Byte)) : List (List Byte) :=
  staged.filter (fun b => !es.any (fun e => e.valid q && e.bytes = b))

/-- Every missing entry placed in order, with Vq = 1 and, at an installation, both valid bits (R45); the index among
them of the first that fails. -/
def Device.placeAll (d : Device) (store q : Nat) (both : Bool) : List (List Byte) → List TableEntry →
    Except (List Byte) (List TableEntry)
  | [], es => .ok es
  | b :: t, es =>
    match d.place store es b (both || q % 2 = 0) (both || q % 2 = 1) with
    | some es => d.placeAll store q both t es
    | none => .error b

/-- A store's entries once the staged contents stand in parity q (R169, R179): the entries, or the bytes of the entry
that finds no place. -/
def Device.loadStore (d : Device) (store q : Nat) (both : Bool) (es : List TableEntry) (staged : List (List Byte)) :
    Except (List Byte) (List TableEntry) :=
  let es := clearStale es q staged
  let es := if both then clearStale es (q + 1) staged else es
  d.placeAll store q both (missingEntries es q staged) es

/-- The sweep of the tables (R57): the retired parity's valid bit copies that of the current parity p. -/
def sweepEntries (es : List TableEntry) (p : Nat) : List TableEntry :=
  liveEntries (es.map (fun e => e.setValid (p + 1) (e.valid p)))

/-! ### Searching -/

/-- The HV and MD of a pass as one 448-byte space (R162). -/
def Pass.space (p : Pass) : List Byte := slice p.hv 0 384 ++ slice p.md 0 64

/-- The key bytes of a profile in a parity (R162), without padding. -/
def Device.searchKey (d : Device) (parity n : Nat) (space : List Byte) : List Byte :=
  (List.range 8).flatMap (fun i =>
    let f := d.rdp parity (E.PROFILE_KEY_FIELD n i)
    slice space (bits f 0 9) (bits f 16 5))

/-- The latency in stages of a target, power mode and flags (R164). -/
def latencyOf (target powerMode flags : Nat) : Nat :=
  match target with
  | 2 => 3
  | 3 => 3
  | 4 => if bit flags 1 then 4 else if powerMode = 1 then 3 else 2
  | 5 => 4
  | _ => 2

/-- The latency of a profile in the copy of a parity. -/
def Device.latency (d : Device) (parity n : Nat) : Nat :=
  latencyOf (d.rdp parity (E.TARGET n)) (d.rdp parity (E.POWER_MODE n)) (d.rdp parity (E.PROFILE_FLAGS n))

/-- The Exact entry that matches, the lowest way first (R168). -/
def Device.findExact (d : Device) (parity tid : Nat) (key : List Byte) : Option TableEntry :=
  [0, 1, 2].findSome? (fun w =>
    let l := d.exactLoc w tid key
    if d.locIn 0 l then
      d.stores.exact.find? (fun e => e.loc = l && e.valid parity && byteAt e.bytes 0 = tid
        && slice e.bytes 8 16 = slice key 0 16)
    else none)

/-- A prefix covers a key of its family (R170): VRF, then address. -/
def prefixCovers (e : List Byte) (family : Nat) (key : List Byte) : Bool :=
  let w := if family = 4 then 32 else 128
  let n := if family = 4 then 4 else 16
  byteAt e 0 = family && slice e 2 2 = slice key 0 2
    && beNat (slice e 8 n) / 2 ^ (w - byteAt e 1) = beNat (slice key 2 n) / 2 ^ (w - byteAt e 1)

/-- The better of two: the first, unless the second is strictly better. -/
def best {α : Type} (better : α → α → Bool) : List α → Option α
  | [] => none
  | x :: t =>
    match best better t with
    | none => some x
    | some y => if better y x then some y else some x

/-- The longest prefix that covers the key (R170). -/
def Device.findLpm (d : Device) (parity family : Nat) (key : List Byte) : Option TableEntry :=
  best (fun a b => decide (byteAt a.bytes 1 > byteAt b.bytes 1))
    (d.stores.lpm.filter (fun e => e.valid parity && d.locIn 1 e.loc && prefixCovers e.bytes family key))

/-- The logical banks of a profile in a parity, in service or not. -/
def Device.profileBanks (d : Device) (parity n : Nat) : List Nat :=
  (List.range 496).filter (fun b => d.rdp parity (E.BANK_PROFILE b) = n)

/-- The number of a key of `n` bytes, padded on the right. -/
def keyNat (n : Nat) (key : List Byte) : Nat := beNat (slice key 0 n)

/-- The bank is compared in a search of the profile (R165): with pre-filter, only where its filter passes the masked key. -/
def Device.bankCompared (d : Device) (parity n b key : Nat) : Bool :=
  d.bankIn 5 b && d.rdp parity (E.BANK_PROFILE b) = n
    && (d.rdp parity (E.POWER_MODE n) ≠ 1 || d.filterPasses (d.physical 5 b) (key &&& d.rdp parity (E.BANK_MASK b)))

/-- The Mask rows that match (R165, R172): the key under the bank's mask equals the row's VALUE. -/
def Device.maskMatches (d : Device) (parity n : Nat) (key : List Byte) : List TableEntry :=
  d.stores.mask.filter (fun e =>
    let b := e.loc / 1024
    e.valid parity && d.bankCompared parity n b (keyNat 20 key)
      && (keyNat 20 key &&& d.rdp parity (E.BANK_MASK b)) = beNat (slice e.bytes 8 20))

def maskPriority (e : TableEntry) : Nat := beNat (slice e.bytes 4 2)

/-- The winning row: the highest PRIORITY, then the lower bank and row (R172). -/
def bestRow (es : List TableEntry) : Option TableEntry :=
  best (fun a b => maskPriority a > maskPriority b || (maskPriority a = maskPriority b && a.loc < b.loc)) es

/-- The Care key of a fallback search (Table 7.5). -/
def careKey (key : List Byte) (n : Nat) : List Byte := slice (slice key 0 20 ++ [BitVec.ofNat 8 n]) 0 40

/-- The lowest Care entry that matches (R173). A search launched in Recovery finds it although Recovery is left before its
result (R469). -/
def Device.findCare (d : Device) (parity : Nat) (key : List Byte) : Option TableEntry :=
  best (fun a b => a.loc < b.loc) (d.stores.care.filter (fun e =>
    e.valid parity && d.locIn 3 e.loc
      && (beNat key &&& beNat (slice e.bytes 48 40)) = (beNat (slice e.bytes 8 40) &&& beNat (slice e.bytes 48 40))))

/-- LOCATION of a result (R175). -/
def locationField (store : Nat) (e : TableEntry) : Nat := if store = 1 then byteAt e.bytes 1 else e.loc

/-- The 128-bit result of R175. -/
def resultWord (hit verifyFail tie degraded fallback : Bool) (loc prio data : Nat) : Nat :=
  hit.toNat * 2 ^ 127 + verifyFail.toNat * 2 ^ 126 + tie.toNat * 2 ^ 125 + degraded.toNat * 2 ^ 124
    + fallback.toNat * 2 ^ 123 + loc % 2 ^ 24 * 2 ^ 80 + prio % 2 ^ 16 * 2 ^ 64 + data % 2 ^ 64

/-- What a search finds before verification: its store, the entry, whether rows tie, whether a bank is missing. -/
def Device.find (d : Device) (s : Search) : Nat × Option TableEntry × Bool × Bool :=
  let n := s.profile
  if s.care then (3, d.findCare s.parity (careKey s.key n), false, decide (d.banksOut 6 ≠ 0))
  else
    match d.rdp s.parity (E.TARGET n) with
    | 1 => (0, d.findExact s.parity (d.rdp s.parity (E.EXACT_TID n)) (slice s.key 0 16), false, false)
    | 2 => (1, d.findLpm s.parity 4 s.key, false, false)
    | 3 => (1, d.findLpm s.parity 6 s.key, false, false)
    | 4 =>
      let ms := d.maskMatches s.parity n s.key
      let w := bestRow ms
      let tie := match w with
        | some e => decide ((ms.filter (fun x => maskPriority x = maskPriority e)).length ≥ 2)
        | none => false
      let degraded := (d.bankMap.filter (fun m => m.1 = 5 && m.2.2 = 0xFFFF)).any
        (fun m => d.rdp s.parity (E.BANK_PROFILE m.2.1) = n)
      (2, w, tie, degraded)
    | _ => (0, none, false, false)

/-! ### Integrity (R183, R185) -/

/-- Sets HIT of the entry at an Exact location (R168). -/
def Device.setHit (d : Device) (loc : Nat) (b : Bool) : Device :=
  { d with stores := { d.stores with exact := d.stores.exact.map (fun e => if e.loc = loc then { e with hit := b } else e) } }

/-- Recovery's verification starts over (R468). -/
def Device.restartRecovery (d : Device) : Device :=
  if d.mode = .recovery then ({ d with verify := {} } : Device).wr E.RECOVERY_STATE 1 else d

/-- An entry is lost: cleared in both parities on die and in the shadow (R185). In Recovery the verification starts over. -/
def Device.loseEntry (d : Device) (store loc : Nat) : Device :=
  let d := { d.setStore store ((d.stores.get store).filter (fun e => e.loc ≠ loc)) with
              shadow := d.shadow.set store ((d.shadow.get store).filter (fun e => e.loc ≠ loc)) }
  ((d.bumpSat E.ENTRIES_LOST 1).raise Src.TABLE_ENTRY_LOST (d.physical (3 + store) (storeBank store loc))).restartRecovery

/-- The on-die entry at a location restored from the shadow (R185). -/
def Device.restoreEntry (d : Device) (store loc : Nat) : Device :=
  let keep := (d.stores.get store).filter (fun e => e.loc ≠ loc)
  let back := (d.shadow.get store).filter (fun e => e.loc = loc)
  { d.setStore store (back.foldl (fun es e => insEntry e es) keep) with
      restores := d.restores.filter (fun r => r ≠ (store, loc)) }

/-- The Cellarhand is to restore an entry from the shadow (R183). -/
def Device.askRestore (d : Device) (store loc : Nat) : Device :=
  if d.restores.contains (store, loc) then d else { d with restores := d.restores ++ [(store, loc)] }

/-- A logical bank's entries on die as its shadow holds them (R186). -/
def Device.loadBank (d : Device) (store bank : Nat) : Device :=
  let keep := (d.stores.get store).filter (fun e => storeBank store e.loc ≠ bank)
  let back := (d.shadow.get store).filter (fun e => storeBank store e.loc = bank)
  d.setStore store (back.foldl (fun es e => insEntry e es) keep)

/-- The shadows that lay in a pseudo-channel rebuilt from the die (R254). -/
def Device.rebuildShadows (d : Device) (channel : Nat) : Device :=
  (List.range 4).foldl (fun (d : Device) store =>
    let mine (e : TableEntry) : Bool := Config.shadowChannel store e.loc % 124 = channel
    let keep := (d.shadow.get store).filter (fun e => !mine e)
    let back := ((d.stores.get store).filter mine).map (fun e => { e with hit := false })
    { d with shadow := d.shadow.set store (back.foldl (fun es e => insEntry e es) keep) }) d

/-- The shadow's entry at a location rewritten from the die (R185). -/
def Device.rewriteShadow (d : Device) (store loc : Nat) : Device :=
  let keep := (d.shadow.get store).filter (fun e => e.loc ≠ loc)
  let now := ((d.stores.get store).filter (fun e => e.loc = loc)).map (fun e => { e with hit := false })
  { d with shadow := d.shadow.set store (now.foldl (fun es e => insEntry e es) keep) }

/-! ### A bank without a spare (R187) -/

/-- The entries of a logical Exact or LPM bank placed elsewhere by R169 and R182, or lost, which in Recovery restarts the
verification (R185, R187, R468). -/
def Device.refitBank (d : Device) (store bank : Nat) : Device :=
  let es := d.stores.get store
  let inside := es.filter (fun e => storeBank store e.loc = bank)
  let outside := es.filter (fun e => storeBank store e.loc ≠ bank)
  let r := inside.foldl (fun (r : Device × List TableEntry) e =>
    match r.1.place store r.2 e.bytes e.v0 e.v1 with
    | some es => (r.1, if e.hit then es.map (fun x => if x.bytes = e.bytes then { x with hit := true } else x) else es)
    | none =>
      (((r.1.bumpSat E.ENTRIES_LOST 1).raise Src.TABLE_ENTRY_LOST (homeOf (3 + store) bank)).restartRecovery, r.2)) (d, outside)
  r.1.setEntries store r.2

end Sys2Proof.Machine
end

