-- ==== Sys2Proof/Machine/Repair.lean ====
section
/-! DEFINITION. Strikes, retirement, spares and substitution (R447 to R453, and the retirement rules of chapters 04, 07,
09 and 15). -/

namespace Sys2Proof.Machine

open Sys2Proof

/-- DETAIL of STRIKE, RETIRED and SPARE_EXHAUSTED (R441). -/
def resourceDetail (kind inst : Nat) : Nat := kind * 2 ^ 24 + inst

/-- The instance exists (Table 18.4). -/
def resourceExists (kind inst : Nat) : Bool :=
  match kind with
  | 1 => inst < 512
  | 2 => inst < 2 ^ 24 && bits inst 0 6 ≤ 32 && bits inst 11 9 = 0
  | 3 => inst < 198
  | 4 => inst < 68
  | 5 => inst < 512
  | 6 => inst < 16
  | 7 => inst < 640
  | 8 => inst < 100
  | 9 => inst < 128
  | 10 => inst < 1024
  | _ => false

/-- The instance is retired, or waits after its restoration for the next Reset (R450), or is a bridge wire whose
retirement waits for its group's next check word (R112). -/
def Device.isRetired (d : Device) (kind inst : Nat) : Bool :=
  d.retired.any (fun r => r.kind = kind && r.inst = inst) || d.unretiring.contains (resourceDetail kind inst)
    || (kind = 2 && d.lanes.wiresDue.any (fun w => w.1 = inst))

/-- The spares of the instance's group, way, stack or store (R449). -/
def poolSpares (kind inst : Nat) : List Nat :=
  match kind with
  | 3 => [66 * (inst / 66) + 64, 66 * (inst / 66) + 65]
  | 4 => [64, 65, 66, 67]
  | 5 => (List.range 16).map (· + 496)
  | 8 => [25 * (inst / 25) + 24]
  | 9 => [32 * (inst / 32) + 31]
  | _ => []

/-- The spare is not retired, not in service and not chosen for a substitution. -/
def Device.spareFree (d : Device) (kind s : Nat) : Bool :=
  !d.isRetired kind s && !d.bankMap.any (fun m => m.1 = kind && m.2.2 = s)
    && !d.subst.any (fun x => x.kind = kind && x.spare = s)

def Device.freeSpares (d : Device) (kind inst : Nat) : List Nat :=
  (poolSpares kind inst).filter (fun s => d.spareFree kind s)

/-- Free spares of a kind over the whole device (R188, Tables 9.7): one instance of each pool is given. -/
def Device.sparesFree (d : Device) (kind : Nat) (pools : List Nat) : Nat :=
  sumOn pools (fun i => (d.freeSpares kind i).length)

/-- A record in the retirement map, the RETIRED event and the count (R449, R451). -/
def Device.noteRetired (d : Device) (kind inst spare : Nat) (used manual : Bool) : Device :=
  let r : Retired := { kind := kind, flags := used.toNat + 2 * manual.toNat, spare := spare, inst := inst,
                       seconds := if d.timeValid then d.time.ns / 1000000000 else 0 }
  let d := { d with retired := d.retired ++ [r] }
  (d.raise Src.RETIRED (resourceDetail kind inst)).bumpSat (E.RETIREMENTS kind) 1

def Device.spareExhausted (d : Device) (kind inst : Nat) : Device :=
  d.raise Src.SPARE_EXHAUSTED (resourceDetail kind inst)

/-- A lane is retired (R107). A join lane that a spare of the join replaces has exhausted no spare (log entry 19). -/
def Device.retireLane (d : Device) (l : Nat) (manual : Bool) : Device :=
  if d.isRetired 1 l then d
  else
    let active := d.rd (E.ACTIVE_LANES 1)
    let inJoin := d.joined && d.isJoinLane l
    let d := ((d.laneOut l).noteRetired 1 l 0xFFFF false manual).noticeEntry (E.LANE_STATUS l)
    if inJoin && d.rd (E.ACTIVE_LANES 1) = active then d else d.spareExhausted 1 l

/-- The place of a logical bank or pseudo-channel in the logical-to-physical map. -/
def Device.setMap (d : Device) (kind logical phys : Nat) : Device :=
  { d with bankMap := d.bankMap.filter (fun m => !(m.1 = kind && m.2.1 = logical)) ++ [(kind, logical, phys)] }

/-- A pseudo-channel's 4 MiB of the system region re-placed into 2,048 spill cells (R244, R254); the shadows in it are to be
rebuilt by the next shadow pass. -/
def Device.moveSystem (d : Device) (channel : Nat) : Device :=
  { d with spillUsed := d.spillUsed ++ d.spillCells 2048, shadowLost := d.shadowLost ++ [channel] }

/-- A bank or pseudo-channel without a spare goes out of service with its kind's effects (R187, R253, R254): the entries of
an Exact or LPM bank wait for the Cellarhand's refit. -/
def Device.bankOut (d : Device) (kind inst : Nat) : Device :=
  match d.logicalOf kind inst with
  | none => d
  | some l =>
    let d := d.setMap kind l 0xFFFF
    match kind with
    | 3 => { d with refits := d.refits ++ [(0, l)] }
    | 4 => { d with refits := d.refits ++ [(1, l)] }
    | 5 => if d.rd E.BANK_LOSS_ACTION = 1 then d.requestRecovery else d
    | 9 => d.moveSystem l
    | _ => d

/-- The spare named in an instance's record. -/
def Device.setRecordSpare (d : Device) (kind inst spare : Nat) (used : Bool) : Device :=
  { d with retired := d.retired.map (fun r =>
      if r.kind = kind ∧ r.inst = inst then { r with spare := spare, flags := r.flags / 2 * 2 + used.toNat } else r) }

/-- The substitution of a retired instance begins with the lowest free spare of its pool, or the instance goes out of
service (R449). -/
def Device.substitute (d : Device) (kind inst : Nat) : Device :=
  match d.freeSpares kind inst with
  | s :: _ =>
    { (d.setRecordSpare kind inst s true) with
        subst := d.subst ++ [{ kind := kind, inst := inst, spare := s, copied := false }] }
  | [] => ((d.setRecordSpare kind inst 0xFFFF false).spareExhausted kind inst).bankOut kind inst

/-- A bank or pseudo-channel is retired (R449): one in service is replaced; a spare leaves its pool, and a substitution
that had chosen it starts again. -/
def Device.retireBank (d : Device) (kind inst : Nat) (manual : Bool) : Device :=
  let d := d.noteRetired kind inst 0xFFFF false manual
  match d.logicalOf kind inst with
  | some _ => d.substitute kind inst
  | none =>
    match d.subst.find? (fun x => x.kind = kind && x.spare = inst) with
    | some x =>
      let d := { d with subst := d.subst.filter (fun y => !(y.kind = kind && y.spare = inst)) }
      d.substitute kind x.inst
    | none => if d.freeSpares kind inst = [] then d.spareExhausted kind inst else d

/-- The key of a wire group (R111). -/
def wireGroup (inst : Nat) : Nat := bits inst 21 3 * 64 + bits inst 20 1 * 32 + bits inst 6 5

/-- A bridge wire leaves service (R112): the wires from it up shift onto the spare; with the spare in use the group is
exhausted and both of its lanes are retired (R113). The position kept is the wire's plus 1; 33 stands for a spare that
was itself retired. -/
def Device.shiftWire (d : Device) (inst : Nat) (manual : Bool) : Device :=
  let stave := bits inst 21 3
  let g := bits inst 6 5
  let k := wireGroup inst
  let map := if bits inst 20 1 = 0 then E.RX_SPARE_MAP stave else E.TX_SPARE_MAP stave
  if SMap.get d.lanes.shifted 0 k = 0 then
    let d := { d with lanes := { d.lanes with shifted := SMap.set d.lanes.shifted 0 k (bits inst 0 6 + 1) } }
    if bits inst 0 6 = 32 then (d.noteRetired 2 inst 0xFFFF false manual).spareExhausted 2 inst
    else (d.wrBit map g true).noteRetired 2 inst 0xFFFF true manual
  else
    let d := (d.noteRetired 2 inst 0xFFFF false manual).spareExhausted 2 inst
    let d := d.wrBit (E.EXHAUSTED_MAP stave) g true
    (d.retireLane (64 * stave + 2 * g) manual).retireLane (64 * stave + 2 * g + 1) manual

/-- A bridge wire is retired (R112): its shift waits for its group's next check word. -/
def Device.retireWire (d : Device) (inst : Nat) (manual : Bool) : Device :=
  { d with lanes := { d.lanes with wiresDue := d.lanes.wiresDue ++ [(inst, manual)] } }

/-- The check word of a group: the retirements that wait for it are made, oldest first. -/
def Device.shiftGroup (d : Device) (group : Nat) : Device :=
  let due := d.lanes.wiresDue.filter (fun w => wireGroup w.1 = group)
  due.foldl (fun (d : Device) w => d.shiftWire w.1 w.2)
    { d with lanes := { d.lanes with wiresDue := d.lanes.wiresDue.filter (fun w => wireGroup w.1 ≠ group) } }

/-- A Cooper store bank is retired (R453): every lane of its slice with it. -/
def Device.retireStore (d : Device) (inst : Nat) (manual : Bool) : Device :=
  let d := (d.noteRetired 7 inst 0xFFFF false manual).spareExhausted 7 inst
  (List.range 16).foldl (fun d i => d.retireLane (16 * (inst / 20) + i) manual) d

/-- The slice is out of service: its recirculation port has ceased to exist (R453). -/
def Device.sliceOut (d : Device) (s : Nat) : Bool := d.retired.any (fun r => r.kind = 7 && r.inst / 20 = s)

/-- A channel of the list, or an idle one. -/
def Device.channel (d : Device) (c : Nat) : Channel := (d.channels.find? (fun x => x.c = c)).getD { c := c }

/-- The channels with one replaced. -/
def setChannel (ch : Channel) : List Channel → List Channel
  | [] => [ch]
  | x :: t => if ch.c < x.c then ch :: x :: t else if x.c = ch.c then ch :: t else x :: setChannel ch t

def Device.withChannel (d : Device) (ch : Channel) : Device := { d with channels := setChannel ch d.channels }

/-- A Siphon channel is retired (R398). -/
def Device.retireChannel (d : Device) (c : Nat) (manual : Bool) : Device :=
  let d := d.withChannel { d.channel c with state := 5, phase := 0, inRun := false, badRun := false, run := [], rxCopy := none,
                                             rxBytes := [], rxSent := 0, dom := none, stopping := false, changing := false }
  let d : Device := { d with writes := d.writes.filter (fun w => w.channel ≠ some c) }
  (d.noteRetired 10 c 0xFFFF false manual).spareExhausted 10 c

/-- An instance is retired (R449). -/
def Device.retire (d : Device) (kind inst : Nat) (manual : Bool) : Device :=
  if d.isRetired kind inst then d
  else
    match kind with
    | 1 => d.retireLane inst manual
    | 2 => d.retireWire inst manual
    | 7 => d.retireStore inst manual
    | 6 =>
      let d := (d.noteRetired 6 inst 0xFFFF false manual).spareExhausted 6 inst
      d.bankOut 6 inst
    | 10 => d.retireChannel inst manual
    | _ => d.retireBank kind inst manual

/-- The strike times held of an instance, newest first. -/
def Device.strikeTimes (d : Device) (kind inst : Nat) : List Nat :=
  match d.strikes.find? (fun s => s.kind = kind && s.inst = inst) with
  | some s => s.times
  | none => []

/-- A strike against an instance (R448). One that is retired or being replaced takes none. -/
def Device.strike (d : Device) (kind inst : Nat) : Device :=
  if d.isRetired kind inst ∨ d.subst.any (fun x => x.kind = kind && x.inst = inst) then d
  else
    let now := d.strikeMs
    let times := now :: d.strikeTimes kind inst
    let count := (times.filter (fun t => now < t + d.rd (E.STRIKE_WINDOW_MS kind))).length
    let mine : Strikes := { kind := kind, inst := inst, times := times.take 15 }
    let others := d.strikes.filter (fun s => !(s.kind = kind && s.inst = inst))
    let d : Device := { d with strikes := others ++ [mine] }
    let d := (d.raise Src.STRIKE (resourceDetail kind inst)).bump64 (E.STRIKES_TOTAL kind) 1
    if d.rd (E.STRIKE_THRESHOLD kind) ≤ count then d.retire kind inst false else d

/-- A strike against the physical bank that serves a location of a table store (R183, R185). -/
def Device.strikeStore (d : Device) (store loc : Nat) : Device :=
  let b := storeBank store loc
  if d.bankIn (3 + store) b then d.strike (3 + store) (d.physical (3 + store) b) else d

/-- The maps switch to the spares whose copy has ended, at a round boundary (R186, R253, R254): a table bank's spare holds
what the shadow holds by then, its filter with it; a Cask bank's lost cells become free. -/
def Device.switchMaps (d : Device) : Device :=
  let done := d.subst.filter (·.copied)
  let d := { d with subst := d.subst.filter (fun x => !x.copied) }
  done.foldl (fun d x =>
    match d.logicalOf x.kind x.inst with
    | none => d
    | some l =>
      let d := d.setMap x.kind l x.spare
      if x.kind = 8 then { d with cells := d.cells.filter (fun c => !(c.state = 2 && bankOf c.handle = l)) }
      else if 3 ≤ x.kind ∧ x.kind ≤ 6 then d.loadBank (x.kind - 3) l
      else d) d

end Sys2Proof.Machine
end

