-- ==== Sys2Proof/Machine/Time.lean ====
section
/-! DEFINITION. Device time: its clock, steps, PPS discipline, stamps and pulses (chapter 12). -/

namespace Sys2Proof.Machine

open Sys2Proof

/-! ### The clock (R307, R309, R313) -/

/-- What a tick of 1.25 ns adds to device time, in units of 2^-42 ns (R307). -/
def Device.tickGain (d : Device) : Nat := ((5 * 2 ^ 40 : Int) + 5 * toInt 32 (d.rd E.TIME_RATE)).toNat

/-- Device time with a number of ns added, modulo 2^48 seconds. -/
def addNs (ns : Nat) (x : Int) : Nat := (((ns : Int) + x) % (timeSpan : Int)).toNat

/-- TIME_VALID set by a step or a PPS setting (R309, R310). -/
def Device.timeSet (d : Device) : Device :=
  let d : Device := { d with tapLink := { d.tapLink with named := none } }
  ((d.wrBit E.TIME_STATUS 0 true).bumpSat E.STEP_COUNT 1).raise Src.TIME_STEPPED 0

/-- The step that waits for a tick takes effect (R309). -/
def Device.applyStep (d : Device) : Device :=
  match d.time.stepPending with
  | some v =>
    let d : Device := { d with time := { d.time with ns := addNs d.time.ns (toInt 64 v), stepPending := none } }
    d.timeSet
  | none => d

/-- `ps` picoseconds pass: whole ticks of 1,250 ps advance device time, and a whole second reached while time is valid is
due on PPS_OUT (R322). -/
def Device.passTime (d : Device) (ps : Nat) : Device :=
  let total := d.time.restPs + ps
  let ticks := total / 1250
  if ticks = 0 then { d with time := { d.time with restPs := total } }
  else
    let d := d.applyStep
    let f := d.time.frac + ticks * d.tickGain
    let ns := d.time.ns + f / 2 ^ 42
    let due := if d.timeValid ∧ ns / 1000000000 ≠ d.time.ns / 1000000000 then some (ns / 1000000000 % 2 ^ 48)
      else d.time.pulseDue
    { d with time := { d.time with ns := ns % timeSpan, frac := f % 2 ^ 42, restPs := total % 1250, pulseDue := due } }

/-- FRAC of device time, in units of 2^-16 ns. -/
def Device.frac16 (d : Device) : Nat := d.time.frac / 2 ^ 26

/-- HOLDOVER follows its causes (R312); entering it raises TIME_HOLDOVER. -/
def Device.setHoldover (d : Device) : Device := d.wrBit E.TIME_STATUS 1 (d.time.refLost || d.time.ppsLost)

/-! ### Writes of record 8000 (R309 to R311) -/

/-- An accepted write of TIME_STEP_NS. -/
def Device.askStep (d : Device) (v : Nat) : Device := { d with time := { d.time with stepPending := some v } }

/-- An accepted write of PPS_SECONDS. -/
def Device.armPps (d : Device) (v : Nat) : Device := { d with time := { d.time with ppsArmed := some v } }

/-- Time is released (R311): by TIME_RELEASE, or by a flip that changes TIME_SOURCE. -/
def Device.releaseTime (d : Device) : Device :=
  ({ d with tapLink := { d.tapLink with named := none } } : Device).wrBit E.TIME_STATUS 0 false

/-- A write of TIME_CLOCK: the loss of REF10M_IN is a cause of holdover with TIME_CLOCK 1 alone (R312). -/
def Device.writeTimeClock (d : Device) (v : Nat) : Device :=
  let d := d.wr E.TIME_CLOCK v
  if v = 1 then d else ({ d with time := { d.time with refLost := false } } : Device).setHoldover

/-- A write of 1 to TIME_CAPTURE. -/
def Device.captureTime (d : Device) : Device :=
  ((d.wr E.CAPTURED_TIME d.now80).wr E.CAPTURED_FRAC d.frac16).wr E.CAPTURED_ROUND (d.rd E.ROUND_COUNT)

/-- The partner's device time as of a mark that has come (R433): a secondary's own follows it to within 2 ns, with its rate and
validity (log entry 217). A whole second that it passes so is due on PPS_OUT. -/
def Device.followTime (d : Device) (t : MarkTime) : Device :=
  let x := d.draw
  let ns := addNs t.ns ((d.join.pinDelayPs / 1000 : Nat) + ((x.1 % 5 : Nat) : Int) - 2)
  let due := if t.valid ∧ ns / 1000000000 = d.time.ns / 1000000000 + 1 then some (ns / 1000000000) else d.time.pulseDue
  let d : Device := { x.2 with time := { x.2.time with ns := ns, pulseDue := due } }
  (d.wr E.TIME_RATE t.rate).wrBit E.TIME_STATUS 0 t.valid

/-- A flip that changes TIME_SOURCE releases time, and a setting not yet applied lapses with its source (R311); a secondary
ignores its TIME_SOURCE (R433). -/
def Device.flipTime (d : Device) (old : Nat) : Device :=
  if d.followsTime ∨ d.rdp old E.TIME_SOURCE = d.cur E.TIME_SOURCE then d
  else
    let t : DevTime := { d.time with ppsArmed := none, goodPps := 0, ppsLost := false }
    let d : Device := { d with time := t }
    ((d.releaseTime.wrBit E.TIME_STATUS 4 false)).setHoldover

/-! ### Stamps (R314, R317) -/

/-- A flip from the parity `old`: the receive constants that it changes stay known for the frames that have begun to arrive,
of which none takes a millisecond. -/
def Device.flipStamps (d : Device) (old : Nat) : Device :=
  let now := d.clk.nowPs
  let past (p : Nat) : Option StampPast :=
    if d.rdp old (E.RX_LATENCY_PS p) = d.cur (E.RX_LATENCY_PS p) ∧ d.rdp old (E.ASYMMETRY_PS p) = d.cur (E.ASYMMETRY_PS p) then none
    else some { before := now, port := p, rx := d.rdp old (E.RX_LATENCY_PS p), asymmetry := d.rdp old (E.ASYMMETRY_PS p) }
  let kept := d.ports.stampPast.filter (fun x => now < x.before + 1000000000)
  { d with ports := { d.ports with stampPast := kept ++ d.ports'.filterMap past } }

/-- RX_LATENCY_PS and ASYMMETRY_PS of a port as they were in force `age` ps ago (R314). -/
def Device.rxConstants (d : Device) (p age : Nat) : Nat × Nat :=
  match d.ports.stampPast.find? (fun x => x.port = p && d.clk.nowPs < x.before + age) with
  | some x => (x.rx, x.asymmetry)
  | none => (d.cur (E.RX_LATENCY_PS p), d.cur (E.ASYMMETRY_PS p))

/-- The receive stamp with FRAC dropped, of a frame whose first bit crossed the balls `age` ps ago (R314). -/
def Device.rxStamp (d : Device) (p age : Nat) : Nat :=
  let c := d.rxConstants p age
  let ps : Int := (d.time.ns : Int) * 1000 + ((d.time.frac * 1000 / 2 ^ 42 : Nat) : Int) - age - c.1 - toInt 32 c.2
  time80 ((ps % ((timeSpan * 1000 : Nat) : Int)).toNat / 1000)

/-- The transmit stamp of a copy that departs now: (ns, FRAC) (R314). -/
def Device.txStamp (d : Device) (p : Nat) : Nat × Nat :=
  let t := d.time.ns * 2 ^ 42 + d.time.frac + d.cur (E.TX_LATENCY_PS p) * 2 ^ 42 / 1000
  (t / 2 ^ 42 % timeSpan, t % 2 ^ 42 / 2 ^ 26)

/-- The port runs one-step (8020). -/
def Device.oneStep (d : Device) (p : Nat) : Bool := bit (d.cur (E.ONE_STEP_PORTS (p / 32))) (p % 32)

/-- Ones'-complement sum in 16 bits. -/
def ones16 (a b : Nat) : Nat := let s := a + b; if s ≥ 65536 then s - 65535 else s

/-- The UDP checksum after an edit of the bytes from `before` to `after` (R318, RFC 1624): over the words, at offsets of
the field's parity, that hold a changed byte. -/
def fixUdp (at' : Nat) (ipv6 : Bool) (before after : List Byte) : List Byte :=
  let word (bs : List Byte) (i : Nat) : Nat := byteAt bs i * 256 + byteAt bs (i + 1)
  let hc := word before at'
  if !ipv6 && hc = 0 then after
  else
    let starts := (List.range (before.length / 2 + 1)).map (fun i => 2 * i + at' % 2)
    let sum := starts.foldl (fun a i =>
      if word before i = word after i ∨ i = at' then a else ones16 (ones16 a (lnot 16 (word before i))) (word after i)) (lnot 16 hc)
    let new := lnot 16 sum
    overlay after at' (beBytes 2 (if new = 0 then 0xFFFF else new))

/-- A one-step edit of the emitted HV bytes with the transmit stamp (ns, FRAC) (R317): TIME80 write, residence add, or
TIME80 write with fraction; then the UDP checksum. -/
def oneStepEdit (v : Nat) (head : List Byte) (rx : Nat) (ns frac : Nat) : List Byte :=
  let off := bits v 0 9
  let gain (at' x : Nat) (bs : List Byte) : List Byte :=
    overlay bs at' (beBytes 8 ((beNat (slice bs at' 8) + x) % 2 ^ 64))
  let edited := match bits v 9 2 with
    | 0 => overlay head off (beBytes 10 (time80 ns))
    | 1 =>
      let delta : Int := timeDelta (time80 ns) rx * 65536 + frac
      gain off (ofSigned 64 delta) head
    | 2 => gain (off - 26) frac (overlay head off (beBytes 10 (time80 ns)))
    | _ => head
  if bit v 11 then fixUdp (bits v 12 9) (bit v 21) head edited else edited

/-- The bytes that a TIMESTAMP action reads or writes lie below `n` (R320): one-step the field, the fraction's field and
the checksum; two-step the TAG. -/
def stampFits (v : Nat) (oneStep : Bool) (n : Nat) : Bool :=
  let off := bits v 0 9
  let format := bits v 9 2
  if oneStep then
    (if format = 1 then off + 8 ≤ n else off + 10 ≤ n) && (format ≠ 2 || 26 ≤ off)
      && (!bit v 11 || bits v 12 9 + 2 ≤ n)
  else if format = 1 then off + 24 ≤ n else 4 ≤ off && off ≤ n + 2

/-- A record of the TX_STAMPS ring (R319, R321). -/
def Device.pushStamp (d : Device) (p tag ns frac : Nat) : Device :=
  let rec' := beBytes 2 (p % 1024) ++ beBytes 2 tag ++ beBytes 10 (time80 ns) ++ beBytes 2 frac
  let n := d.rd E.TX_STAMPS_WRITTEN
  let ring := if d.tel.txStamps = [] then List.replicate 4096 (List.replicate 16 (0 : Byte)) else d.tel.txStamps
  let d := if 4096 ≤ (n + 2 ^ 32 - d.rd E.TX_STAMP_READ) % 2 ^ 32 then d.bumpSat E.TX_STAMPS_LOST 1 else d
  let d := ({ d with tel := { d.tel with txStamps := modAt ring (n % 4096) (fun _ => rec') } } : Device).bump
    E.TX_STAMPS_WRITTEN 32 1
  d.raise Src.TX_STAMP_READY p

/-- What the transmit MAC does with a copy's TIMESTAMP action as its first byte leaves: the bytes to emit (R317 to
R320). -/
def Device.carryStamp (d : Device) (p v rx : Nat) (head : List Byte) (ns frac : Nat) : Device × List Byte :=
  let one := p < 512 && d.oneStep p
  if 512 ≤ p || !d.timeValid || bits v 9 2 = 3 || !stampFits v one head.length then (d.bump64 E.TS_SKIPPED 1, head)
  else if one then (d, oneStepEdit v head rx ns frac)
  else
    let off := bits v 0 9
    let tag := beNat (slice head (if bits v 9 2 = 1 then off + 22 else off - 4) 2)
    (d.pushStamp (d.jointPort p) tag ns frac, head)

/-! ### PPS_IN, REF10M_IN and the pulses (R310, R312, R322 to R324) -/

/-- The phase error of an edge, in ps: device time less the delay, from its nearest whole second (R323). -/
def Device.ppsPhase (d : Device) : Int :=
  let s : Int := 1000000000000
  let t : Int := ((d.time.ns * 1000 + d.time.frac * 1000 / 2 ^ 42 : Nat) : Int) - toInt 32 (d.cur E.PPS_IN_DELAY_PS)
  let m := t % s
  if 2 * m < s then m else m - s

/-- TIME_RATE after one step of the loop: it changes by at most 10 ppm, within ±500 ppm; the loop's own law is left open
(R323, log entry 2). -/
def Device.steerRate (d : Device) : Device :=
  let r := d.draw
  let change : Int := ((r.1 % 21990233 : Nat) : Int) - 10995116
  let rate := max (-549755813) (min 549755813 (toInt 32 (d.rd E.TIME_RATE) + change))
  r.2.wr E.TIME_RATE (ofSigned 32 rate)

/-- A measured edge (R323). -/
def Device.ppsMeasure (d : Device) : Device :=
  let e := d.ppsPhase
  let d := (d.wr E.PPS_PHASE_NS (ofSigned 32 (e / 1000))).steerRate
  let good := if -50000 < e ∧ e < 50000 then d.time.goodPps + 1 else 0
  ({ d with time := { d.time with goodPps := min good 8 } } : Device).wrBit E.TIME_STATUS 4 (decide (8 ≤ good))

/-- A PPS_IN edge (R310, R312, R323). -/
def Device.ppsEdge (d : Device) : Device :=
  if d.cur E.PPS_IN_PIN = 0xFF then d
  else
    let d := d.wrBit E.TIME_STATUS 2 true
    let d : Device := { d with time := { d.time with lastPps := some d.clk.nowPs } }
    if d.followsTime ∨ d.cur E.TIME_SOURCE ≠ 2 then d
    else
      let d : Device := { d with time := { d.time with ppsLost := false } }
      let d := d.setHoldover
      if d.timeValid then d.ppsMeasure
      else match d.time.ppsArmed with
        | some s =>
          let ps : Int := (s : Int) * 1000000000000 + toInt 32 (d.cur E.PPS_IN_DELAY_PS)
          let t := (ps % ((timeSpan * 1000 : Nat) : Int)).toNat
          let time : DevTime := { d.time with ns := t / 1000, frac := t % 1000 * 2 ^ 42 / 1000, ppsArmed := none, goodPps := 0 }
          ({ d with time := time } : Device).timeSet
        | none => d

/-- The device runs: it has left Reset and is not off. -/
def Device.alive (d : Device) : Bool := d.mode.counts

def execPpsInEdge (s : State) : Host.Outcome State Fault Refusal := s.on (fun d => if d.alive then d.ppsEdge else d)

/-- REF10M_LOSS (R312): with TIME_CLOCK 1 the clock goes over to the board reference, in holdover. -/
def execRef10mLoss (s : State) : Host.Outcome State Fault Refusal :=
  s.on (fun d =>
    if !d.alive then d
    else
      let d := d.wrBit E.TIME_STATUS 3 false
      if d.rd E.TIME_CLOCK = 1 ∧ !d.time.refLost then
        ({ d with time := { d.time with refLost := true } } : Device).setHoldover.raise Src.TIME_HOLDOVER 0
      else d)

/-- REF10M_RESTORE (R312): present for 1 s. -/
def execRef10mRestore (s : State) : Host.Outcome State Fault Refusal :=
  s.on (fun d =>
    if !d.alive then d
    else
      let d := d.wrBit E.TIME_STATUS 3 true
      ({ d with time := { d.time with refLost := false } } : Device).setHoldover)

/-- PPS_IN_LOST (R312): with TIME_SOURCE 2, no edge within 1.5 s of the last one, which may have come under another source;
TIME_RATE stays as it is. -/
def execPpsInLost (s : State) : Host.Outcome State Fault Refusal :=
  s.on (fun d =>
    if d.alive ∧ !d.followsTime ∧ d.cur E.TIME_SOURCE = 2 ∧ d.time.lastPps.isSome ∧ !d.time.ppsLost then
      let d := d.wrBit E.TIME_STATUS 2 false
      let d : Device := { d with time := { d.time with ppsLost := true } }
      (d.setHoldover.raise Src.TIME_HOLDOVER 0).raise Src.PPS_IN_LOST 0
    else if d.alive ∧ (d.followsTime ∨ d.cur E.TIME_SOURCE ≠ 2) then d.wrBit E.TIME_STATUS 2 false
    else d)

/-- The pulse on the pin that PPS_OUT_PIN names, of PPS_OUT_WIDTH_US; 0xFF names none. -/
def Device.pulsePin (d : Device) : Device :=
  if d.cur E.PPS_OUT_PIN = 0xFF then d else d.send (.ppsPin (d.cur E.PPS_OUT_PIN) (d.cur E.PPS_OUT_WIDTH_US))

/-- PPS_OUT_PULSE (R322): both pulses of a whole second that device time has reached. -/
def execPpsOutPulse (s : State) : Host.Outcome State Fault Refusal :=
  s.on (fun d =>
    match d.time.pulseDue with
    | some sec =>
      let d : Device := { d with time := { d.time with pulseDue := none } }
      if d.timeValid then d.pulsePin.send (.pulse sec) else d
    | none => d)

/-! ### Recovered clocks (R324) -/

/-- RCLK_RESUME (R324): 1 ms after its last cause ended. -/
def execRclkResume (output : Nat) (s : State) : Host.Outcome State Fault Refusal :=
  s.on (fun d => if output < 2 ∧ !d.rclkSquelched output then d.wrBit E.RCLK_STATUS output false else d)

end Sys2Proof.Machine
end

