-- ==== Sys2Proof/Machine/Lanes.lean ====
section
/-! DEFINITION. The lanes' commands: signal, lock, adaptation, sleep, and the Stave bridge (chapter 04). -/

namespace Sys2Proof.Machine

open Sys2Proof

/-- LANE_CONTROL in force. -/
def Device.laneCtl (d : Device) (l : Nat) : Nat := d.laneSetting (E.LANE_CONTROL l)

/-- The lane runs: it exists, is not retired, and has a mode; the device has left Reset. -/
def Device.laneRuns (d : Device) (l : Nat) : Bool := d.mode.counts && l < 512 && !d.laneRetired l && d.laneMode l ≠ 0

def Device.frozen (d : Device) (l : Nat) : Bool := d.rdBit (E.LANE_STATUS l) 3
def Device.snapshotValid (d : Device) (l : Nat) : Bool := d.rdBit (E.LANE_STATUS l) 5
def Device.signal (d : Device) (l : Nat) : Bool := d.rdBit (E.LANE_STATUS l) 0
def Device.rxAsleep (d : Device) (l : Nat) : Bool := d.rxState l = 1 || d.rxState l = 2

/-- The receiver's records of a lane, changed. -/
def Device.modLanes (d : Device) (f : LaneState → LaneState) : Device := { d with lanes := f d.lanes }

/-- Adaptation enters the frozen state (R102, R105, R108). -/
def Device.freeze (d : Device) (l : Nat) : Device :=
  if d.frozen l then d else (d.setLaneBit l 3 true).bumpSat (E.FREEZES l) 1

/-- Adaptation runs on from a freeze or a wake (R102, R103). -/
def Device.resumeAdapt (d : Device) (l : Nat) : Device :=
  (d.setLaneBit l 3 false).modLanes (fun s =>
    { s with failRun := SMap.set s.failRun 0 l 0, passRun := SMap.set s.passRun 0 l 0,
             resumedAt := SMap.set s.resumedAt 0 l (d.clk.nowPs + 1) })

/-- A lane restarts in new settings (R92), or stops where its mode is 0: its snapshot is discarded, and its port loses
the lane (R119). The fall of CDR_LOCK and ALIGN_LOCK with it counts as no loss of lock (DESIGN CHOICE, log entry 212). -/
def Device.laneRestart (d : Device) (l : Nat) : Device :=
  if d.laneRetired l then d
  else
    let on := d.laneMode l ≠ 0
    let d := d.wr (E.LANE_STATUS l) (if on then (d.rd (E.LANE_STATUS l)) % 2 else 0x3C0)
    ((d.modLanes (fun s => s.forget l)).recheckLane l).squelch

/-- The lanes whose LANE_MODE or LANE_CONTROL a flip from the parity `old` changes (R92). A join lane runs mode 6 and
ignores its LANE_MODE (R418): it restarts where its LANE_CONTROL changes, and the join loses it (R436). -/
def Device.flipLanes (d : Device) (old : Nat) : Device :=
  (List.range 512).foldl (fun (d : Device) l =>
    if (d.isJoinLane l ∨ d.rdp old (E.LANE_MODE l) = d.cur (E.LANE_MODE l))
        ∧ d.rdp old (E.LANE_CONTROL l) = d.cur (E.LANE_CONTROL l) then d
    else (d.laneRestart l).narrow l) d

/-- LANE_SIGNAL_DETECT (R93, R104). A lane whose signal falls holds neither clock nor alignment, which is no loss of lock
(DEDUCED, log entry 54). -/
def execLaneSignalDetect (lane : Nat) (present : Bool) (s : State) : Host.Outcome State Fault Refusal :=
  s.on (fun d =>
    if !d.laneRuns lane then d
    else if present then d.setLaneBit lane 0 true
    else
      let d := d.wrBits (E.LANE_STATUS lane) 0 3 0
      let d := d.modLanes (fun s => { s with lockedAt := SMap.set s.lockedAt 0 lane 0 })
      let d := if d.isJoinLane lane && (List.range 512).all (fun l => !d.isJoinLane l || !d.signal l) then d.split 4 else d
      ((d.recheckLane lane).narrow lane).squelch)

/-- A sleep request honoured at lock (R110). -/
def Device.honourSleep (d : Device) (l : Nat) : Device :=
  let tx := SMap.get d.lanes.txAsked 0 l
  let rx := SMap.get d.lanes.rxAsked 0 l
  let d := d.modLanes (fun s => { s with txAsked := SMap.set s.txAsked 0 l 0, rxAsked := SMap.set s.rxAsked 0 l 0 })
  let d := if tx = 0 then d else d.setTxState l (tx - 1)
  if rx = 0 then d else (d.setRxState l (rx - 1)).freeze l

/-- LANE_LOCK (R104): in mode 6 on four comma words that pass (R99). Adaptation that a freeze holds runs on from here, and the
1 ms of R103 begins (DESIGN CHOICE, log entry 213). -/
def execLaneLock (r : LaneReport) (s : State) : Host.Outcome State Fault Refusal :=
  s.on (fun d =>
    let d := if d.laneRuns r.lane then d.reportLane r.lane r.commas else d
    if d.laneRuns r.lane ∧ d.signal r.lane ∧ !d.laneLocked r.lane ∧ !d.rxAsleep r.lane ∧ d.aligns r.lane r.commas then
      let d := (d.setLaneBit r.lane 1 true).setLaneBit r.lane 2 true
      let d := d.resumeAdapt r.lane
      let d := d.modLanes (fun s => { s with lockedAt := SMap.set s.lockedAt 0 r.lane (d.clk.nowPs + 1),
                                             skew := SMap.set s.skew 0 r.lane r.skewPs, relock := SMap.set s.relock 0 r.lane 0, crossed := SMap.set s.crossed 0 r.lane 0 })
      ((d.honourSleep r.lane).joinProgress).widen r.lane
    else d)

/-- A loss of lock of a lane (R104 to R106): counted, a strike where the test of R106 holds, and its port or join
reacts. -/
def Device.loseLock (d : Device) (l : Nat) (cdr align : Bool) : Device :=
  let since := SMap.get d.lanes.lockedAt 0 l
  let settled := since ≠ 0 && d.rd E.STRIKE_SETTLE_MS * 1000000000 ≤ d.clk.nowPs + 1 - since
  let d := if cdr then d.setLaneBit l 1 false else d
  let d := if align then d.setLaneBit l 2 false else d
  let d := (d.bumpSat (E.LOCK_LOSSES l) 1).raise (Src.LANE_LOCK_LOST (laneSlice l)) l
  let d := d.modLanes (fun s => { s with lockedAt := SMap.set s.lockedAt 0 l 0, relock := SMap.set s.relock 0 l 1,
                                         failRun := SMap.set s.failRun 0 l 0, passRun := SMap.set s.passRun 0 l 0 })
  let d := ((d.freeze l).recheckLane l).narrow l
  let d := if d.signal l ∧ settled then (d.bumpSat (E.LOCK_STRIKES l) 1).strike 1 l else d
  d.squelch

/-- LANE_LOCK_LOST (R104, R105): alignment of mode 6 is lost on four comma words that fail (R99). -/
def execLaneLockLost (r : LaneReport) (cdrFell alignFell : Bool) (s : State) :
    Host.Outcome State Fault Refusal :=
  s.on (fun d =>
    let align := alignFell && d.misaligns r.lane r.commas
    if d.laneRuns r.lane ∧ d.laneLocked r.lane ∧ !d.rxAsleep r.lane ∧ (cdrFell ∨ align) then d.loseLock r.lane cdrFell align
    else d)

/-- RELOCK_TIMEOUT (R105, R106): a receiver that failed to relock from its snapshot retrains in full, without it; one that
failed to lock after leaving sleep has lost lock. -/
def execRelockTimeout (lane : Nat) (s : State) : Host.Outcome State Fault Refusal :=
  s.on (fun d =>
    if !d.laneRuns lane then d
    else if d.rxAsleep lane then (d.setRxState lane 0).loseLock lane true true
    else if SMap.get d.lanes.relock 0 lane = 1 ∧ !d.laneLocked lane then
      ((d.setLaneBit lane 5 false).setLaneBit lane 3 false).modLanes (fun s =>
        { s with relock := SMap.set s.relock 0 lane 2 })
    else d)

/-- How many successive pairs of symbol values differ. -/
def transitions : List Nat → Nat
  | a :: b :: t => (a ≠ b : Bool).toNat + transitions (b :: t)
  | _ => 0

/-- A window of symbol values passes (R102), by its shares of pairs that differ and of each level, four or in NRZ two. -/
def Device.windowPasses (d : Device) (l : Nat) (vs : List Nat) : Bool :=
  d.rd E.FREEZE_TRANSITION_MIN * (vs.length - 1) ≤ 256 * transitions vs
    && (List.range (if d.laneMode l = 1 then 2 else 4)).all (fun i => d.rd E.FREEZE_LEVEL_MIN * vs.length ≤ 256 * vs.count i)

/-- The lane's transmitter in a window (R94 to R96, R470): it sends what it is given, a pattern, or what came to the
receiver. A lane of mode 6 sends blocks, but for a loopback or pattern of Diagnostic. -/
def Device.sendWindow (d : Device) (l : Nat) (w : AdaptWindow) : Device × List Nat :=
  if d.txState l ≠ 0 ∨ (d.laneMode l = 6 ∧ d.pattern l = 0 ∧ d.loopback l ≠ 2) then (d, [])
  else
    let r := d.laneOutput l w.data w.received
    (r.1.send (.symbols l r.2), r.2)

/-- ADAPT_WINDOW (R102): 4,096 symbols of a lane pass, sent and received; adaptation freezes or runs on by the window test. -/
def execAdaptWindow (lane : Nat) (w : AdaptWindow) (s : State) : Host.Outcome State Fault Refusal :=
  s.on (fun d =>
    let ctl := d.laneCtl lane
    let x := if d.laneRuns lane then d.sendWindow lane w else (d, [])
    let d := x.1
    let seen := if d.loopback lane = 1 then x.2 else w.received
    let d := if d.laneRuns lane ∧ !d.rxAsleep lane then
        (let r := d.laneInput lane x.2 w.received; r.1.checkPattern lane r.2) else d
    if d.laneRuns lane ∧ !d.rxAsleep lane ∧ bit ctl 3 ∧ bit ctl 4 ∧ SMap.get d.lanes.relock 0 lane ≠ 1 then
      let pass := d.windowPasses lane seen
      let fails := if pass then 0 else SMap.get d.lanes.failRun 0 lane + 1
      let passes := if pass then SMap.get d.lanes.passRun 0 lane + 1 else 0
      let d := d.modLanes (fun s => { s with failRun := SMap.set s.failRun 0 lane (min fails 4),
                                             passRun := SMap.set s.passRun 0 lane (min passes 4) })
      if d.frozen lane then (if 4 ≤ passes then d.resumeAdapt lane else d)
      else if 4 ≤ fails then d.freeze lane
      else d
    else d)

/-- A time in ps lies within 1 ms after a moment kept as nowPs + 1, 0 standing for never. -/
def within1ms (now at' : Nat) : Bool := at' ≠ 0 && now + 1 ≤ at' + 1000000000

/-- ERROR_MONITOR_WINDOW (R102, R103). -/
def execErrorMonitorWindow (lane corrected : Nat) (uncorrectable : Bool) (s : State) : Host.Outcome State Fault Refusal :=
  s.on (fun d =>
    if !d.laneRuns lane ∨ d.rxAsleep lane then d
    else
      let d := d.bump64 (E.SYMBOL_ERRORS lane) corrected
      if corrected > d.rd (E.ADAPT_ERR_LIMIT lane) ∨ uncorrectable then
        let d := d.modLanes (fun s => { s with crossed := SMap.set s.crossed 0 lane 1 })
        if within1ms d.clk.nowPs (SMap.get d.lanes.resumedAt 0 lane) ∧ bit (d.laneCtl lane) 5 ∧ d.snapshotValid lane
            ∧ !within1ms d.clk.nowPs (SMap.get d.lanes.revertedAt 0 lane) then
          let d := (d.bumpSat (E.REVERTS lane) 1).raise (Src.LANE_REVERT (laneSlice lane)) lane
          d.modLanes (fun s => { s with revertedAt := SMap.set s.revertedAt 0 lane (d.clk.nowPs + 1) })
        else d
      else d)

/-- ADAPT_SNAPSHOT (R103): SNAPSHOT_PERIOD_US of unfrozen adaptation of a locked lane have passed. -/
def execAdaptSnapshot (lane : Nat) (s : State) : Host.Outcome State Fault Refusal :=
  s.on (fun d =>
    if d.laneRuns lane ∧ d.laneLocked lane ∧ !d.rxAsleep lane ∧ !d.frozen lane ∧ bit (d.laneCtl lane) 3 then
      let clean := SMap.get d.lanes.crossed 0 lane = 0
      let d := d.modLanes (fun s => { s with crossed := SMap.set s.crossed 0 lane 0 })
      if clean then d.setLaneBit lane 5 true else d
    else d)

/-- A sleep request of a direction for a depth (R108, R110): cut to the allowed depth; light in mode 6; kept until lock. The
lock bits of a receiver stay as they are while it sleeps and as it wakes (DESIGN CHOICE, log entry 214). -/
def Device.sleepLane (d : Device) (l : Nat) (tx : Bool) (depth : Nat) : Device :=
  let ctl := d.laneCtl l
  let most := min 2 (bits ctl (if tx then 8 else 10) 2)
  let k := min (min depth most) (if d.laneMode l = 6 then 1 else 2)
  if !d.laneRuns l ∨ k = 0 then d
  else if !d.laneLocked l then
    d.modLanes (fun s => if tx then { s with txAsked := SMap.set s.txAsked 0 l (k + 1) }
      else { s with rxAsked := SMap.set s.rxAsked 0 l (k + 1) })
  else if tx then d.setTxState l k
  else ((d.setRxState l k).freeze l).squelch

/-- A transmitter is asked to wake. -/
def Device.askWake (d : Device) (l : Nat) : Device :=
  if d.txState l = 1 ∨ d.txState l = 2 then d.modLanes (fun s => { s with txWaking := SMap.set s.txWaking 0 l 1 })
  else d.modLanes (fun s => { s with txAsked := SMap.set s.txAsked 0 l 0 })

/-- Light sleep of a front port's receiver is low-power idle, which LPI_RX_ENABLE allows (R132); deep sleep is asked for by
power and Rest, and the join logic asks for its own lanes (R108, R109). -/
def Device.maySleep (d : Device) (l : Nat) (tx : Bool) (depth : Nat) : Bool :=
  match d.portOfLane l with
  | some p => tx || depth ≠ 1 || d.portCtl p 7
  | none => true

/-- LANE_SLEEP (R108, R110, R132). -/
def execLaneSleep (lane : Nat) (tx : Bool) (depth : Nat) (s : State) : Host.Outcome State Fault Refusal :=
  s.on (fun d => if d.maySleep lane tx depth then d.sleepLane lane tx depth else d)

/-- The port of a lane keeps its transmitter asleep: it is in low-power idle, or sleeps in Rest. -/
def Device.keptAsleep (d : Device) (l : Nat) : Bool :=
  match d.portOfLane l with
  | some p => d.rdBit (E.PORT_STATUS p) 6 || d.restPorts.contains p
  | none => false

/-- LANE_WAKE (R109): a transmitter wakes where it was asked to, or where nothing keeps it asleep (a join's, R109); a
receiver, when its partner's symbols come. -/
def execLaneWake (lane : Nat) (tx : Bool) (s : State) : Host.Outcome State Fault Refusal :=
  s.on (fun d =>
    if !d.laneRuns lane then d
    else if tx then
      (if SMap.get d.lanes.txWaking 0 lane = 1 ∨ ((d.txState lane = 1 ∨ d.txState lane = 2) ∧ !d.keptAsleep lane) then
        (d.setTxState lane 0).modLanes (fun s => { s with txWaking := SMap.set s.txWaking 0 lane 0 })
      else d)
    else if d.rxAsleep lane then (d.setRxState lane 0).resumeAdapt lane
    else d)

/-- A wire of a group carries the check word's pattern: every one of the 33, the idle spare too, but the retired one
(R112). -/
def Device.wireChecked (d : Device) (stave dir group w : Nat) : Bool :=
  w < 33 && w + 1 ≠ SMap.get d.lanes.shifted 0 (stave * 64 + dir * 32 + group)

/-- The instance number of a bridge wire (Table 18.4). -/
def wireInstance (stave dir group w : Nat) : Nat := stave * 2 ^ 21 + dir * 2 ^ 20 + group * 2 ^ 6 + w

/-- BRIDGE_CHECK_WORD (R112): the retirements that wait for this group's check word are made, and each wire whose pattern
came wrong is counted and struck. -/
def execBridgeCheckWord (stave dir group : Nat) (failing : List Nat) (s : State) : Host.Outcome State Fault Refusal :=
  s.on (fun d =>
    if d.alive ∧ stave < 8 ∧ dir < 2 ∧ group < 32 then
      failing.foldl (fun (d : Device) w =>
        if d.wireChecked stave dir group w then
          (d.bumpSat (E.CHECK_FAILS stave) 1).strike 2 (wireInstance stave dir group w)
        else d) (d.shiftGroup (stave * 64 + dir * 32 + group))
    else d)

end Sys2Proof.Machine
end

