-- ==== Sys2Proof/Machine/Ports.lean ====
section
/-! DEFINITION. The ports' link state, flow control, preemption verify and low-power idle, and their commands
(chapter 05). -/

namespace Sys2Proof.Machine

open Sys2Proof

/-! ### Preemption (R127) -/

/-- PREEMPT_ACTIVE and VERIFY_STATE of a port. -/
def Device.setPreempt (d : Device) (p : Nat) (active : Bool) (state : Nat) : Device :=
  (d.wrBit (E.PORT_STATUS p) 3 active).wrBits (E.PORT_STATUS p) 4 2 state

/-- Preemption of a port whose link is up, as its PORT_CONTROL asks: at the link's rise, or at a flip. -/
def Device.startPreempt (d : Device) (p : Nat) : Device :=
  let d : Device := { d with ports := { d.ports with verifySends := SMap.set d.ports.verifySends 0 p 0 } }
  if !d.portCtl p 2 then d.setPreempt p false 0
  else if d.portCtl p 3 then d.setPreempt p false 1
  else d.setPreempt p true 0

def Device.verifyState (d : Device) (p : Nat) : Nat := bits (d.rd (E.PORT_STATUS p)) 4 2

/-- PREEMPT_VERIFY_SEND (R127): the interval ends; after three sends without a response verify has failed. -/
def execPreemptVerifySend (port : Nat) (s : State) : Host.Outcome State Fault Refusal :=
  s.on (fun d =>
    if d.portExists port ∧ d.linkUp port ∧ d.verifyState port = 1 then
      let n := SMap.get d.ports.verifySends 0 port
      if n < 3 then
        ({ d with ports := { d.ports with verifySends := SMap.set d.ports.verifySends 0 port (n + 1) } } : Device).send
          (.verify port)
      else d.setPreempt port false 3
    else d)

/-- PREEMPT_VERIFY_RESPONSE (R127): preemption becomes active on the first response to a send. -/
def execPreemptVerifyResponse (port : Nat) (s : State) : Host.Outcome State Fault Refusal :=
  s.on (fun d =>
    if d.portExists port ∧ d.linkUp port ∧ (d.verifyState port = 1 ∨ d.verifyState port = 3)
        ∧ SMap.get d.ports.verifySends 0 port ≠ 0 then d.setPreempt port true 2
    else d)

/-! ### Link state (R119 to R121) -/

/-- LINK_UP (R119): what it needs has held for LINK_UP_HOLD_MS. -/
def execLinkUp (port : Nat) (s : State) : Host.Outcome State Fault Refusal :=
  s.on (fun d =>
    if d.alive ∧ d.linkOk port ∧ !d.linkUp port then
      ((d.wrBit (E.PORT_STATUS port) 0 true).raise (Src.PORT_UP (d.sliceOf port)) port).startPreempt port
    else d)

/-- The key of a port's PCS instance, where it has it: instance A, or the `second` one of a 3.2T port (R118). -/
def Device.instanceKey (d : Device) (p : Nat) (second : Bool) : Option Nat :=
  (d.instances p).find? (fun k => k = (if second then p + 512 else p))

/-- LOCAL_FAULT (R118, R119): an instance of the port starts or stops detecting local fault. -/
def execLocalFault (side : PcsSide) (present : Bool) (s : State) : Host.Outcome State Fault Refusal :=
  s.on (fun d =>
    match d.instanceKey side.port side.second with
    | some k =>
      if d.portExists side.port then
        ({ d with ports := { d.ports with rsLocal := SMap.set d.ports.rsLocal 0 k present.toNat } } : Device).recheckPort side.port
      else d
    | none => d)

/-- REMOTE_FAULT (R118, R119): remote fault sequences begin or end at an instance of the port. -/
def execRemoteFault (side : PcsSide) (present : Bool) (s : State) : Host.Outcome State Fault Refusal :=
  s.on (fun d =>
    match d.instanceKey side.port side.second with
    | some k =>
      if d.portExists side.port then
        ({ d with ports := { d.ports with rsRemote := SMap.set d.ports.rsRemote 0 k present.toNat } } : Device).recheckPort side.port
      else d
    | none => d)

/-- What a port's transmit side sends between frames. -/
inductive LineSignal where
  | none | idle | remoteFault | lowPower
deriving DecidableEq, Repr

/-- The transmit side of a port (R119, R132): remote fault while local fault is present; idle while ADMIN_UP is 0, whatever
the faults (DESIGN CHOICE, log entry 170); the low-power signal in low-power idle; idle else. -/
def Device.lineSignal (d : Device) (p : Nat) : LineSignal :=
  if !d.portExists p then .none
  else if !d.adminUp p then .idle
  else if d.portLocalFault p then .remoteFault
  else if d.rdBit (E.PORT_STATUS p) 6 then .lowPower
  else .idle

/-- MGMT_STATUS as MGMT_MODE and the port's PCS make it (R136). -/
def Device.refreshMgmt (d : Device) : Device :=
  let m := d.rd E.MGMT_MODE
  let lf := m ≠ 0 && (!d.ports.mgmtLink || (2 ≤ m && d.ports.mgmtLocal))
  let rf := 2 ≤ m && d.ports.mgmtRemote
  d.wr E.MGMT_STATUS ((m ≠ 0 && d.ports.mgmtLink && !lf && !rf).toNat + 2 * lf.toNat + 4 * rf.toNat)

/-- MGMT_STATUS (R136). -/
def execMgmtStatus (link localFault remoteFault : Bool) (s : State) : Host.Outcome State Fault Refusal :=
  s.on (fun d =>
    if d.alive then
      ({ d with ports := { d.ports with mgmtLink := link, mgmtLocal := localFault, mgmtRemote := remoteFault } } : Device).refreshMgmt
    else d)

/-! ### Priority-based flow control (R129, R130) -/

/-- A received PFC frame acts on each class it enables (R129). A request for class 7 while PFC_RX_CLASSES bit 7 is 0 is ignored
as any class's, and not counted (DEDUCED, log entry 220). -/
def Device.receivePfc (d : Device) (p : Nat) (bytes : List Byte) : Device :=
  (List.range 8).foldl (fun (d : Device) i =>
    if !bit (byteAt bytes 17) i || !d.portCtl p (8 + i) then d
    else if i = 7 then d.bump64 (E.RX_PFC_TC7_IGNORED p) 1
    else d.wrBit (E.PORT_STATUS p) (8 + i) (beNat (slice bytes (18 + 2 * i) 2) ≠ 0)) d

/-- PFC_HOLD_EXPIRY (R129). -/
def execPfcHoldExpiry (port cls : Nat) (s : State) : Host.Outcome State Fault Refusal :=
  s.on (fun d => if port < 512 ∧ cls < 7 ∧ d.pfcHeld port cls then d.wrBit (E.PORT_STATUS port) (8 + cls) false else d)

def pfcKey (p t : Nat) : Nat := p * 8 + t

/-- The device may send PFC of a class (R130). -/
def Device.sendsPfc (d : Device) (p t : Nat) : Bool := t < 7 && d.portExists p && d.portCtl p (16 + t)

/-- A class reaches XOFF (R130, R237). -/
def Device.xoff (d : Device) (p t : Nat) : Device :=
  if d.rdBit (E.XOFF_CLASSES p) t then d
  else
    let d := d.wrBit (E.XOFF_CLASSES p) t true
    if d.sendsPfc p t then
      let q := d.cur (E.PFC_TX_QUANTA p)
      { d.pfcAsk p t q with pfcSent := SMap.set d.pfcSent 0 (pfcKey p t) q }
    else d

/-- The classes between the thresholds that reach XON in this slot (R237), those of a port that a flip took away included. -/
def Device.testXon (d : Device) : Device :=
  (d.bookListed 0x6500 512 0x12).foldl (fun (d : Device) p =>
    (List.range 8).foldl (fun (d : Device) t =>
      if d.rdBit (E.XOFF_CLASSES p) t && d.used p t 2 = 0
          && alphaOk (bits (d.cur (E.IN_ALPHA p)) (4 * t) 4) (d.used p t 1 + d.cur E.XON_DELTA) d.freeShared then
        let d := d.wrBit (E.XOFF_CLASSES p) t false
        if d.sendsPfc p t then { d.pfcAsk p t 0 with pfcSent := SMap.set d.pfcSent 0 (pfcKey p t) 0 } else d
      else d) d) d

/-- PFC_REFRESH (R130): half of the last pause time has elapsed while the class stays above XON. -/
def execPfcRefresh (port cls : Nat) (s : State) : Host.Outcome State Fault Refusal :=
  s.on (fun d =>
    let q := SMap.get d.pfcSent 0 (pfcKey port cls)
    if d.sendsPfc port cls ∧ d.rdBit (E.XOFF_CLASSES port) cls ∧ q ≠ 0 then d.pfcAsk port cls q else d)

/-! ### Low-power idle (R132) -/

def Device.txLpi (d : Device) (p : Nat) : Bool := d.rdBit (E.PORT_STATUS p) 6

/-- Nothing waits to be sent by a port, and nothing is on its wire. -/
def Device.portIdle (d : Device) (p : Nat) : Bool :=
  (List.range 16).all (d.queueEmpty p) && !d.dec.tx.any (fun t => t.port = p) && !d.dec.pfcDue.any (fun x => x.1 = p)
    && !d.dec.own.any (fun x => x.1 = p) && !d.dec.ownWire.any (fun w => w.port = p) && SMap.get d.dec.wireEnd 0 p ≤ 2 * d.clk.nowPs

/-- LPI_TX_ENTRY (R132): the port has been idle for LPI_TX_IDLE_US. -/
def execLpiTxEntry (port : Nat) (s : State) : Host.Outcome State Fault Refusal :=
  s.on (fun d =>
    if d.portExists port ∧ d.linkUp port ∧ d.portCtl port 6 ∧ !d.txLpi port ∧ d.portIdle port then
      let d := (d.wrBit (E.PORT_STATUS port) 6 true).bump64 (E.LPI_TX_ENTRIES port) 1
      (d.portLanes port).foldl (fun d l => d.sleepLane l true 1) d
    else d)

/-- The transmit side leaves low-power idle, its lanes asked to wake. -/
def Device.leaveLpi (d : Device) (p : Nat) : Device :=
  if d.txLpi p then (d.portLanes p).foldl (fun d l => d.askWake l) (d.wrBit (E.PORT_STATUS p) 6 false) else d

/-- LPI_TX_EXIT (R132): a frame is ready. -/
def execLpiTxExit (port : Nat) (s : State) : Host.Outcome State Fault Refusal :=
  s.on (fun d => if d.portExists port ∧ !d.portIdle port then d.leaveLpi port else d)

/-- The port's transmit lanes are awake. -/
def Device.txAwake (d : Device) (p : Nat) : Bool := !d.txLpi p && (d.portLanes p).all (fun l => d.txState l = 0)

/-! ### A flip (R121) -/

/-- The front ports that exist in a parity's copy. -/
def Device.portsOf (d : Device) (parity : Nat) : List Nat :=
  (List.range 512).filter (fun p => d.rdp parity (E.PORT_WIDTH p) ≠ 0)

/-- A port at a flip from the parity `old`: down where its lanes, their mode, its width or its MTU change, what is on its wire
cut off at the rate that it had; with its new PORT_CONTROL else. -/
def Device.flipPort (d : Device) (old p : Nat) : Device :=
  let moved := [E.PORT_LANE_BASE p, E.PORT_WIDTH p, E.PORT_MTU p].any (fun a => d.rdp old a ≠ d.cur a)
  let lane := d.rdp old (E.PORT_LANE_BASE p)
  let remodes := d.rdp old (E.LANE_MODE lane) ≠ d.cur (E.LANE_MODE lane)
  let rate := d.rdp old (E.PORT_WIDTH p) * lanePayload (d.rdp old (E.LANE_MODE lane))
  let d := d.wr (E.PORT_RATE_GBPS p) (d.portRate p)
  let d := if moved ∨ remodes then d.portDownAt p (16000 / rate) else d
  if moved then
    let d := d.wr (E.PORT_STATUS p) 0
    (if d.portExists p then (if (d.instances p).contains (p + 512) then [] else [p + 512]) else [p, p + 512]).foldl
      (fun (d : Device) k => { d with ports := { d.ports with rsLocal := SMap.set d.ports.rsLocal 0 k 0
                                                              rsRemote := SMap.set d.ports.rsRemote 0 k 0 } }) d
  else
    let d := d.recheckPort p
    let was := bits (d.rdp old (E.PORT_CONTROL p)) 2 2
    let d := if d.linkUp p ∧ was ≠ bits (d.cur (E.PORT_CONTROL p)) 2 2 then d.startPreempt p else d
    if d.portCtl p 6 then d else d.leaveLpi p

/-- Every port at a flip from the parity `old`. -/
def Device.flipPorts (d : Device) (old : Nat) : Device :=
  ((List.range 512).filter (fun p => d.rdp old (E.PORT_WIDTH p) ≠ 0 || d.cur (E.PORT_WIDTH p) ≠ 0)).foldl
    (fun d p => d.flipPort old p) d

end Sys2Proof.Machine
end

