-- ==== Sys2Proof/Machine/Cells.lean ====
section
/-! DEFINITION. The slot's cell requests: who asks for a cell, how it is charged, who is granted one (R225 to R232,
R237). -/

namespace Sys2Proof.Machine

open Sys2Proof

/-- Bytes of a frame, without FCS, that its body chain takes by now (R226): all of them once its end has arrived; else what
its port's rate has brought since its first 64, less the last 4, which may be its FCS. -/
def Device.arrived (d : Device) (f : Frame) : Nat :=
  if f.ended then f.bytes.length
  else min (d.cur (E.PORT_MTU f.chargePort)) (64 + (d.clk.nowPs - f.sincePs) * d.portRate f.chargePort / 8000) - 4

/-- What a frame asks a cell for in this slot: false for its body chain, true for its head chain. -/
def Device.wants (d : Device) (f : Frame) : Option Bool :=
  if f.dropped.isSome then none
  else if f.stored < d.arrived f then some false
  else if f.headStored < f.headBytes then some true
  else none

/-- The next larger existing class. -/
def Device.largerClass (d : Device) (c : Nat) : Option Nat := (List.range 4).find? (fun x => c < x && d.classExists x)

/-- The request of a frame (R229, R231, R237): its charge and the class it is made to; none is INGRESS_LIMIT. -/
def Device.cellRequest (d : Device) (f : Frame) (head : Bool) : Option (Nat × Nat) :=
  let rc := d.reserveClass
  let bc := if head then rc else f.bodyClass
  let charged := f.chargePort < 512 || f.chargePort = joinPort
  match f.retry with
  | some (c, some charge) => some (charge, c)
  | some (c, none) =>
    if charged then (d.chargeFor f.chargePort f.inClass (unitsOf c) (unitsOf c)).map (fun x => (x, c)) else some (1, c)
  | none =>
    if charged then
      (d.chargeFor f.chargePort f.inClass (unitsOf rc) (unitsOf bc)).map (fun x => (x, if x = 1 then bc else rc))
    else some (1, bc)

/-- A cell joins a frame's body or head chain: `h` of class `c` with its charge; the chain's last cell points to it. -/
def Device.grantCell (d : Device) (f : Frame) (head : Bool) (charge c h : Nat) : Device :=
  let before := if head then f.headStored else f.stored
  let whole := if head then f.headBytes else d.arrived f
  let cell : Cell := { handle := h, state := 1, owner := f.slice, lastOwner := f.holder,
                       fill := max 1 (min (cellSize c) (whole - before)), last := true, charge := charge,
                       inPort := f.chargePort, inClass := f.inClass, next := 0, frame := f.id }
  let prev := if head then f.headLast else f.bodyLast
  let cells := d.cells.map (fun x =>
    if prev = some x.handle then { x with next := h, last := false, fill := d.unitsOfCell x * 256 } else x)
  let d := ({ d with cells := cells } : Device).takeCell c cell
  d.modFrame f.id (fun f =>
    if head then { f with headStored := f.headStored + cellSize c, headLast := some h, retry := none }
    else { f with stored := f.stored + cellSize c, bodyLast := some h, retry := none })

/-- A request that loses (R229, R231): it goes to the next larger class in the next slot, or the frame is discarded. -/
def Device.loseCell (d : Device) (f : Frame) (charge c : Nat) : Device :=
  match d.largerClass c with
  | some c' => d.modFrame f.id (fun f => { f with retry := some (c', if charge = 1 then none else some charge) })
  | none => d.dropPartWay f.id Reason.NO_CELL

/-- A reserve or headroom request, or a shared one that may be granted: granted while its class has a free cell. -/
def Device.tryCell (d : Device) (f : Frame) (head : Bool) (charge c : Nat) (skip : List BitmapWord) : Device :=
  match d.pickCell c skip with
  | some h => d.grantCell f head charge c h
  | none => d.loseCell f charge c

/-- A class is charged to headroom: XOFF (R130, R237); the join's classes are held (R425). -/
def Device.noteXoff (d : Device) (f : Frame) : Device :=
  if f.chargePort < 512 then d.xoff f.chargePort f.inClass
  else if f.chargePort = joinPort ∧ f.inClass < 7 then d.wrBit (E.HOLD_ACTIVE 1) f.inClass true
  else d

/-- The first pass over a slot's requests: charges are decided, reserve and headroom requests are granted, and the shared
ones are left: (frame, head, class). -/
def Device.chargePass (d : Device) (skip : List BitmapWord) (ids : List Nat) : Device × List (Nat × Bool × Nat) :=
  ids.foldl (fun (st : Device × List (Nat × Bool × Nat)) id =>
    let d := st.1
    match d.frame? id with
    | none => st
    | some f =>
      match d.wants f with
      | none => st
      | some head =>
        match d.cellRequest f head with
        | none => (d.dropPartWay id Reason.INGRESS_LIMIT, st.2)
        | some (charge, c) =>
          let d := if charge = 2 then d.noteXoff f else d
          if charge = 1 then (d, st.2 ++ [(id, head, c)]) else (d.tryCell f head charge c skip, st.2)) (d, [])

/-- A shared request: to the reserve class it leaves the GUARD_UNITS of the slot's start free (R229). -/
def Device.sharedCell (d : Device) (guard : Nat) (skip : List BitmapWord) (w : Nat × Bool × Nat) : Device :=
  match d.frame? w.1 with
  | none => d
  | some f =>
    if f.dropped.isSome then d
    else if w.2.2 = d.reserveClass ∧ d.grantable w.2.2 < guard + unitsOf w.2.2 then d.loseCell f 1 w.2.2
    else d.tryCell f w.2.1 1 w.2.2 skip

/-- FILL of the last body cell of a frame that is still arriving. -/
def Device.fillCells (d : Device) : Device :=
  d.frames.foldl (fun (d : Device) f =>
    match f.bodyLast with
    | some h =>
      { d with cells := d.cells.map (fun x =>
          if x.handle = h && x.frame = f.id && x.state = 1 then
            let size := d.unitsOfCell x * 256
            { x with fill := max 1 (min size (d.arrived f - (f.stored - size))) }
          else x) }
    | none => d) d

/-- The cells of a frame that the racker returns, asked for in one slot (R230, R247): shared, with IN_PORT 0x3FF; none where
one of them is lost. -/
def Device.storeWhole (d : Device) (guard : Nat) (skip : List BitmapWord) (id : Nat) : Nat → Option Device
  | 0 => none
  | fuel + 1 =>
    match d.frame? id with
    | none => none
    | some g =>
      match d.wants g with
      | none => some d
      | some head =>
        let c := if head then d.reserveClass else g.bodyClass
        if c = d.reserveClass ∧ d.grantable c < guard + unitsOf c then none
        else match d.pickCell c skip with
          | some h => (d.grantCell g head 1 c h).storeWhole guard skip id fuel
          | none => none

/-- The record's cells in the Cask again: the racker's, handed to the queue. -/
def Device.restoreCells (d : Device) (guard : Nat) (skip : List BitmapWord) (f : Frame) (q : Nat) : Option Device :=
  let g : Frame := { f with slice := rackerToken, chargePort := 0x3FF, inClass := 0, holder := rackerToken, stored := 0,
                            headStored := 0, bodyLast := none, headLast := none, retry := none }
  ((d.modFrame f.id (fun _ => g)).storeWhole guard skip f.id 80).map (fun e =>
    (e.modFrame f.id (fun x => { x with slice := f.slice, chargePort := f.chargePort, inClass := f.inClass })).handOver
      f.id (tokenOf q))

/-- A return that the racker has begun: the copy stands at the end of its queue's Head, or waits for the next round where
its request lost (R248). -/
def Device.serveReturn (d : Device) (guard : Nat) (skip : List BitmapWord) (id : Nat) : Device :=
  match d.queued.find? (fun c => c.id = id) with
  | none => d
  | some c =>
    match d.frame? c.frame with
    | none => d
    | some f =>
      match d.restoreCells guard skip f c.queue with
      | none => { d with returnLost := d.returnLost ++ [c.queue] }
      | some e =>
        let e : Device := { e with spillUsed := e.spillUsed.filter (fun k => !c.spill.contains k),
                                   queued := modFirst e.queued (fun x => x.id = c.id)
                                     (fun x => { x with place := .cask, spill := [] }) }
        e.bump64 (E.RETURNED (portOf c.queue)) 1

/-- The cell requests of a slot (R230): reserve and headroom before shared, the slices from slice ROUND_COUNT mod 32 on,
then the join's (slice 32), and then the racker's. `guard` is the slot's GUARD_UNITS; the cells of a bitmap word under rebuild are given to none. -/
def Device.allocateCells (d : Device) (guard : Nat) : Device :=
  let skip := d.rebuilding
  let wanting := d.frames.filter (fun f => (d.wants f).isSome)
  let d := if wanting = [] then d
    else
      let first := d.rd E.ROUND_COUNT % 32
      let slices := (List.range 32).map (fun i => (first + i) % 32) ++ [32]
      let ids := slices.flatMap (fun s => (wanting.filter (fun f => f.slice = s)).map (·.id))
      let r := d.chargePass skip ids
      (r.2.foldl (fun (d : Device) w => d.sharedCell guard skip w) r.1).fillCells
  if d.returning = [] then d
  else d.returning.foldl (fun (d : Device) id => d.serveReturn guard skip id) { d with returning := [] }

/-! ### The queue test (R239) -/

/-- Q_MIN and the α code of a queue. -/
def Device.queueLimits (d : Device) (q : Nat) : Nat × Nat :=
  if isFront q then
    let p := portOf q
    let m := q % 16
    (if m < 8 then d.cur (E.Q_MIN_UC p m) else d.cur (E.Q_MIN_MC p (m - 8)),
      bits (d.cur (if m < 8 then E.Q_ALPHA_UC p else E.Q_ALPHA_MC p)) (4 * (m % 8)) 4)
  else if isCross q then (d.cur (E.CROSS_Q_MIN (classOf q)), bits (d.cur E.CROSS_ALPHA) (4 * classOf q) 4)
  else if 0x2080 ≤ q ∧ q < 0x20A0 then (d.cur E.RECIRC_Q_MIN, d.cur E.RECIRC_ALPHA)
  else (d.cur E.CPU_Q_MIN, d.cur E.CPU_ALPHA)

/-- The queue is rackable (R245). -/
def Device.rackable (d : Device) (q : Nat) : Bool :=
  isFront q && q % 16 < 7 && bit (d.cur (E.RACK_CLASSES (portOf q))) (q % 16)

/-- The copy's test against its queue: none is admission, else the discard reason. -/
def Device.queueTest (d : Device) (f : Frame) (q : Nat) : Option Nat :=
  let u := d.frameUnits f.id
  let use := d.queueUse q + u
  let lim := d.queueLimits q
  let above := use - lim.1
  if above = 0 ∨ alphaOk lim.2 above d.freeShared then none
  else if d.rackable q then
    let p := portOf q
    let n := rackCells { f with len := f.admitLength }
    if use ≤ d.cur (E.RACK_START p) + d.cur (E.RACK_BACKLOG_MAX p)
        ∧ d.cellarUse q + 8 * n ≤ d.cur (E.CELLAR_MAX p) ∧ n ≤ d.spillFree then none
    else some Reason.RACK_LIMIT
  else some Reason.QUEUE_LIMIT

/-- A copy offered to its queue in slot `n` (R227, R239): why it is refused, or the device with it at the queue's end. -/
def Device.offer (d : Device) (c : Copy) (n : Nat) : Except Nat Device :=
  match d.frame? c.frame with
  | none => .error Reason.NO_CELL
  | some f =>
    if 4194304 ≤ d.descriptors then .error Reason.NO_DESCRIPTOR
    else match d.queueTest f c.queue with
      | some code => .error code
      | none =>
        let d : Device := { d with queued := d.queued ++ [{ c with entered := n }] }
        .ok { d with queued := modFirst d.queued (fun x => x.id = c.id) (fun x => { x with depth := d.queueUse c.queue, cask := some d.caskUnits }) }

end Sys2Proof.Machine
end

