-- ==== Sys2Proof/Machine/Police.lean ====
section
/-! DEFINITION. The ingress policers: charge, colour, credit and refill (R277 to R281). -/

namespace Sys2Proof.Machine

open Sys2Proof

/-! Tokens are kept in 1/256 byte; a refill of a rate of r Mb/s over D ps gains r * D / 31,250 of them, and the remainder
is carried to the next refill (R265, R279). -/

/-- The entry of a policer in the copy of a parity; none is an off policer (R277). -/
def Device.policer? (d : Device) (parity n : Nat) : Option (List Byte) :=
  (pieces 32 (d.objp parity E.POLICERS)).find? (fun e => beNat (e.take 4) = n)

namespace Policer
def mode (e : List Byte) : Nat := byteAt e 4
def cir (e : List Byte) : Nat := beNat (slice e 8 4)
def pir (e : List Byte) : Nat := beNat (slice e 12 4)
def cbs (e : List Byte) : Nat := beNat (slice e 16 4)
def excess (e : List Byte) : Nat := beNat (slice e 20 4)
def count (e : List Byte) : Nat := beNat (slice e 24 4)
end Policer

/-- The buckets of a policer: full where it has not been charged yet (R281). -/
def Device.bucket (d : Device) (n : Nat) (e : List Byte) : Bucket :=
  match d.dec.buckets.find? (fun b => b.policer = n) with
  | some b => b
  | none => { policer := n, c := Policer.cbs e * 256, e := Policer.excess e * 256 }

def setBucket (b : Bucket) : List Bucket → List Bucket
  | [] => [b]
  | x :: t => if b.policer < x.policer then b :: x :: t else if x.policer = b.policer then b :: t else x :: setBucket b t

def Device.withBucket (d : Device) (b : Bucket) : Device :=
  { d with dec := { d.dec with buckets := setBucket b d.dec.buckets } }

/-- The colour of a charge of `n` bytes (0 green, 1 yellow, 2 red) and the buckets after it (R278). -/
def charge (mode n : Nat) (b : Bucket) : Nat × Bucket :=
  let k := n * 256
  if mode = 1 then
    if k ≤ b.c then (0, { b with c := b.c - k })
    else if k ≤ b.e then (1, { b with e := b.e - k })
    else (2, b)
  else
    if b.e < k then (2, b)
    else if b.c < k then (1, { b with e := b.e - k })
    else (0, { b with e := b.e - k, c := b.c - k })

/-- A frame's bytes charged to a policer in its parity: the colour, counted where the entry says so (R281). With the
frame's length not yet known, the charge is kept for its credit (R280). -/
def Device.police (d : Device) (parity n frame bytes : Nat) (known : Bool) : Device × Nat :=
  match d.policer? parity n with
  | none => (d, 0)
  | some e =>
    if Policer.mode e = 0 then (d, 0)
    else
      let r := charge (Policer.mode e) bytes (d.bucket n e)
      let d := d.withBucket r.2
      let d := if bit (Policer.count e) 31 then d.addUnit (bits (Policer.count e) 0 21) r.1 1 else d
      let g : PoliceGuess := { frame := frame, policer := n, charged := bytes, colour := r.1, parity := parity }
      let d := if known || r.1 = 2 then d
        else { d with dec := { d.dec with guesses := d.dec.guesses ++ [g] } }
      (d, r.1)

/-- The bytes that a charge takes for a frame: its length, or the PORT_MTU of its ingress port (R280). -/
def Device.chargeBytes (d : Device) (f : Frame) (parity : Nat) : Nat :=
  if f.ended then f.len else if f.chargePort < 512 then d.rdp parity (E.PORT_MTU f.chargePort) else f.len

/-- The difference credited back once the frame's length is known (R280), up to the buckets' caps. -/
def Device.creditPolicers (d : Device) (frame len : Nat) : Device :=
  let gs := d.dec.guesses.filter (fun g => g.frame = frame)
  let d := { d with dec := { d.dec with guesses := d.dec.guesses.filter (fun g => g.frame ≠ frame) } }
  gs.foldl (fun d g =>
    match d.policer? g.parity g.policer with
    | none => d
    | some e =>
      let b := d.bucket g.policer e
      let k := (g.charged - len) * 256
      let c := min (b.c + k) (max b.c (Policer.cbs e * 256))
      let x := min (b.e + k) (max b.e (Policer.excess e * 256))
      let srtcm := Policer.mode e = 1
      d.withBucket { b with c := if g.colour = 0 then c else b.c
                            e := if (srtcm ∧ g.colour = 1) ∨ ¬srtcm then x else b.e }) d

/-- Tokens gained at a rate over a time, and the part carried (R265). -/
def gain (mbps ps rest : Nat) : Nat × Nat := ((mbps * ps + rest) / 31250, (mbps * ps + rest) % 31250)

/-- The refill of one policer's buckets after a round of `ps` (R279). -/
def refillBucket (e : List Byte) (ps : Nat) (b : Bucket) : Bucket :=
  let capC := Policer.cbs e * 256
  let capE := Policer.excess e * 256
  let g := gain (Policer.cir e) ps b.restC
  let c := min capC (b.c + g.1)
  if Policer.mode e = 1 then { b with c := c, e := min capE (b.e + (b.c + g.1 - c)), restC := g.2 }
  else
    let p := gain (Policer.pir e) ps b.restE
    { b with c := c, e := min capE (b.e + p.1), restC := g.2, restE := p.2 }

/-- The entries of the current parity of the policers that hold a record of their buckets; full buckets need none. -/
def Device.policerEntries (d : Device) : List (Nat × List Byte) :=
  d.dec.buckets.filterMap (fun b => (d.policer? d.parity b.policer).map (fun e => (b.policer, e)))

/-- The refill of policers after a round of `ps`, each with the entry that it had in that round. -/
def Device.refillPolicers (d : Device) (ps : Nat) (entries : List (Nat × List Byte)) : Device :=
  let bs := d.dec.buckets.map (fun b =>
    match entries.find? (fun x => x.1 = b.policer) with
    | some x => refillBucket x.2 ps b
    | none => b)
  { d with dec := { d.dec with buckets := bs } }

/-- A bucket record under an entry's sizes. -/
def capBucket (e : List Byte) (b : Bucket) : Bucket :=
  { b with c := min b.c (Policer.cbs e * 256), e := min b.e (Policer.excess e * 256) }

/-- The policer is on in an entry. -/
def policerOn (e : Option (List Byte)) : Bool :=
  match e with
  | some e => Policer.mode e ≠ 0
  | none => false

/-- The buckets after a flip to the parameters of the new current parity (R281): capped at their new sizes. A policer with no
record was full at its old sizes, and keeps that; one that went off, or comes into use, has no record, and so starts
full. A late refill is capped at the new sizes where it comes. -/
def Device.flipPolicers (d : Device) (old : Nat) : Device :=
  let kept := d.dec.buckets.filterMap (fun b =>
    match d.policer? d.parity b.policer with
    | some e =>
      if policerOn (some e) && policerOn (d.policer? old b.policer) then some (capBucket e b) else none
    | none => none)
  let ns := (pieces 32 (d.objp d.parity E.POLICERS)).filter (fun e =>
    let n := beNat (e.take 4)
    policerOn (some e) && policerOn (d.policer? old n) && d.policer? old n ≠ some e
      && !d.dec.buckets.any (fun b => b.policer = n))
  let full := ns.map (fun e =>
    let n := beNat (e.take 4)
    capBucket e (d.bucket n ((d.policer? old n).getD [])))
  let late := d.dec.lateRefill.map (fun l =>
    { l with policers := l.policers.filterMap (fun x =>
        (d.policer? d.parity x.1).map (fun e => (x.1, overlay x.2 16 (slice e 16 8)))) })
  { d with dec := { d.dec with buckets := full.foldl (fun bs b => setBucket b bs) kept, lateRefill := late } }

end Sys2Proof.Machine
end

