-- ==== Sys2Proof/Machine/Operands.lean ====
section
/-! DEFINITION. The operands of Cooper words: the byte space of R195, microword fields (R194), and the operands of
Cellarhand words (R212). -/

namespace Sys2Proof.Machine

open Sys2Proof

/-! ### The byte space of a Cooper word (R195) -/

/-- HV, MD and result registers as one space of 512 bytes. -/
def Pass.bytes (p : Pass) : List Byte := p.space ++ p.res.flatMap (beBytes 16)

/-- A word may write the byte: HV bytes, and MD bytes 4, 6 to 19 and 42 to 63. -/
def writable (a : Nat) : Bool :=
  let m := a - 384
  a < 384 || (384 ≤ a && a < 448 && (m = 4 || (6 ≤ m && m ≤ 19) || (42 ≤ m && m ≤ 63)))

/-- An operand of `w` bytes at an address crosses none of 384, 448 and 512 (R195). -/
def operandOk (a w : Nat) : Bool := a + w ≤ 384 || (384 ≤ a && a + w ≤ 448) || (448 ≤ a && a + w ≤ 512)

/-- The operand of `w` bytes at an address, its most significant byte first. -/
def Pass.operand (p : Pass) (w a : Nat) : Nat := beNat (slice p.bytes a w)

/-- One byte written, where words may write it. -/
def Pass.setByte (p : Pass) (a : Nat) (b : Byte) : Pass :=
  if !writable a then p
  else if a < 384 then { p with hv := overlay (slice p.hv 0 384) a [b] }
  else { p with md := overlay (slice p.md 0 64) (a - 384) [b] }

/-- Bytes written from an address up. -/
def Pass.setBytes (p : Pass) (a : Nat) : List Byte → Pass
  | [] => p
  | b :: t => (p.setByte a b).setBytes (a + 1) t

/-- Operand width in bytes of a WIDTH code (R197). -/
def widthOf (code : Nat) : Nat := [1, 2, 4, 8].getD code 1

/-- Operand A of an ALU slot. -/
def aluA (p : Pass) (a : AluArgs) : Nat := p.operand (widthOf a.width) a.srcA

/-- Operand B of an ALU slot: a 16-bit immediate, or the operand at its address (R197). -/
def aluB (p : Pass) (a : AluArgs) : Nat :=
  let w := widthOf a.width
  if a.bImm then a.b % 2 ^ 16 % 2 ^ (8 * w) else p.operand w (a.b % 512)

/-- The value of an action slot (R198): ARG, or the 4-byte operand at its address. -/
def actValue (p : Pass) (a : ActArgs) : Nat := if a.aAddr then p.operand 4 (a.arg % 512) else a.arg % 2 ^ 22

/-! ### Microwords (Table 8.1) -/

namespace Word192
def valid (w : Nat) : Bool := bit w 191
def start (w : Nat) : Bool := bit w 190
def ends (w : Nat) : Bool := bit w 189
def cond (w : Nat) : Nat := bits w 184 5
def jump (w : Nat) : Nat := bits w 170 14
/-- The launches of a word, search A before search B: (profile, register). -/
def launches (w : Nat) : List (Nat × Nat) :=
  (if bit w 169 then [(bits w 161 8, bits w 159 2)] else []) ++ (if bit w 158 then [(bits w 150 8, bits w 148 2)] else [])
/-- ALU slots 0 and 1. -/
def alu (w i : Nat) : Nat := bits w (if i = 0 then 107 else 66) 41
/-- Action slots 0 and 1. -/
def act (w i : Nat) : Nat := bits w (if i = 0 then 33 else 0) 33
end Word192

/-- OP of an ALU slot. -/
def aluOp (slot : Nat) : Nat := bits slot 37 4

/-- The fields of an ALU slot after OP (R197). -/
def aluArgs (slot : Nat) : AluArgs :=
  { width := bits slot 35 2, dst := bits slot 26 9, srcA := bits slot 17 9, bImm := bit slot 16, b := bits slot 0 16 }

/-- ACT of an action slot. -/
def actCode (slot : Nat) : Nat := bits slot 28 5

/-- The fields of an action slot after ACT (R198). -/
def actArgs (slot : Nat) : ActArgs := { pred := bits slot 23 5, aAddr := bit slot 22, arg := bits slot 0 22 }

/-! ### Cellarhand words (Table 8.5) -/

/-- The fields of a Cellarhand word after OP. -/
def handArgs (w : Nat) : HandArgs :=
  { commit := bit w 121, dst := bits w 117 4, sa := bits w 113 4, sb := bits w 109 4, useImm := bit w 108,
    cond := bits w 104 4, target := bits w 91 13, imm := bits w 0 64 }

/-- A register of a context. -/
def Context.reg (c : Context) (i : Nat) : Nat := c.regs.getD i 0

/-- Operand A. -/
def handA (c : Context) (w : HandArgs) : Nat := c.reg w.sa

/-- Operand B: the immediate, or register SB. -/
def handB (c : Context) (w : HandArgs) : Nat := if w.useImm then w.imm % 2 ^ 64 else c.reg w.sb

/-- A register written with 64 bits. -/
def Context.setReg (c : Context) (i v : Nat) : Context := { c with regs := modAt c.regs i (fun _ => v % 2 ^ 64) }

end Sys2Proof.Machine
end

