-- ==== Sys2Proof/Machine/Flags.lean ====
section
/-! DEFINITION. What is computed from operands: ALU results, predicates and conditions of the Coopers (Tables 8.2 and
8.3), and the results and flags of Cellarhand words (Table 8.6). -/

namespace Sys2Proof.Machine

open Sys2Proof

/-! ### Conditions (Table 8.2) -/

/-- The condition of a code holds for a pass; `passNo` is its PASS. -/
def condHolds (p : Pass) (passNo code : Nat) : Bool :=
  if code = 0 then false
  else if code = 1 then true
  else if code ≤ 5 then bit (p.res.getD (code - 2) 0) 127
  else if code ≤ 9 then !bit (p.res.getD (code - 6) 0) 127
  else if code ≤ 17 then bit p.preds (code - 10)
  else if code ≤ 25 then !bit p.preds (code - 18)
  else if code = 26 then bit (byteAt p.md 5) 0
  else if code = 27 then !bit (byteAt p.md 5) 0
  else if code = 28 then decide (p.disp ≠ Disp.none)
  else if code = 29 then decide (passNo = 0)
  else if code = 30 then bit (p.res.getD 0 0) 125
  else if code = 31 then bit (p.res.getD 0 0) 124
  else false

/-! ### ALU results (Table 8.3) -/

/-- The 16-bit ones' complement sum of two numbers with end-around carry. -/
def onesAdd (a b : Nat) : Nat :=
  let s := a + b
  if s ≥ 65536 then s - 65535 else s

/-- The result of an ALU operation that writes bytes, in `w` bytes. -/
def aluResult (op w a b : Nat) : Nat :=
  let m := 2 ^ (8 * w)
  match op with
  | 0x1 => b % m
  | 0x2 => (a + b) % m
  | 0x3 => (a + m - b % m) % m
  | 0x4 => a &&& b
  | 0x5 => a ||| b
  | 0x6 => a ^^^ b
  | 0x7 => a * 2 ^ (b % (8 * w)) % m
  | 0x8 => a / 2 ^ (b % (8 * w))
  | _ => onesAdd a b

/-- The predicate value of a compare operation. -/
def aluCompare (op w a b : Nat) : Bool :=
  match op with
  | 0xA => a = b
  | 0xB => a ≠ b
  | 0xC => a < b
  | 0xD => b ≤ a
  | _ => bit a (b % (8 * w))

/-- The operation reads operand A. -/
def aluReadsA (op : Nat) : Bool := op ≠ 0 && op ≠ 1

/-- The slot is one that a word may hold (R195, R197): its operands cross no boundary, OSUM is 2 bytes wide, a compare's
DST is a predicate number. -/
def aluOk (op : Nat) (a : AluArgs) : Bool :=
  let w := widthOf a.width
  op < 0xF && a.width < 4
    && (op = 0 || ((a.bImm && a.b < 65536) || (!a.bImm && a.b < 512 && operandOk a.b w)))
    && (!aluReadsA op || (a.srcA < 512 && operandOk a.srcA w))
    && (op = 0 || (if op < 0xA then a.dst < 512 && operandOk a.dst w else a.dst < 8))
    && (op ≠ 9 || w = 2)

/-- What an ALU slot does: bytes written from an address up, or a predicate's new value; `p` is the state at the start of
the stage. A slot that no word may hold does nothing (log entry 22). -/
def aluEffect (op : Nat) (a : AluArgs) (p : Pass) : (Nat × List Byte) ⊕ (Nat × Bool) :=
  let w := widthOf a.width
  if !aluOk op a ∨ op = 0 then .inl (0, [])
  else if op < 0xA then .inl (a.dst, beBytes w (aluResult op w (aluA p a) (aluB p a)))
  else .inr (a.dst, aluCompare op w (aluA p a) (aluB p a))

/-- The effect of an ALU slot written into a pass. -/
def Pass.applyAlu (p : Pass) (e : (Nat × List Byte) ⊕ (Nat × Bool)) : Pass :=
  match e with
  | .inl (a, bs) => p.setBytes a bs
  | .inr (i, b) => { p with preds := setBit p.preds i b }

/-- The colour of a POLICE action written into P6 and P7 (R199): 0 green, 1 yellow, 2 red. -/
def Pass.applyColour (p : Pass) : Pass :=
  match p.colour with
  | some c => { p with preds := setBit (setBit p.preds 6 (c ≠ 0)) 7 (c = 2), colour := none }
  | none => p

/-! ### Cellarhand results (Table 8.6) -/

/-- The result of operations 0x02 to 0x08, in 64 bits. -/
def handResult (op a b : Nat) : Nat :=
  if op = 0x02 then (a + b) % 2 ^ 64
  else if op = 0x03 then (a + 2 ^ 64 - b % 2 ^ 64) % 2 ^ 64
  else if op = 0x04 then a &&& b
  else if op = 0x05 then a ||| b
  else if op = 0x06 then a ^^^ b
  else if op = 0x07 then a * 2 ^ (b % 64) % 2 ^ 64
  else a / 2 ^ (b % 64)

/-- Z and C after CMP. -/
def Context.compare (c : Context) (a b : Nat) : Context := { c with z := a = b, c := a < b }

/-- The condition of BR; none for a reserved code. -/
def branchTaken (c : Context) (code : Nat) : Option Bool :=
  match code with
  | 0 => some true
  | 1 => some c.z
  | 2 => some (!c.z)
  | 3 => some c.c
  | 4 => some (!c.c)
  | _ => none

end Sys2Proof.Machine
end

