-- ==== Sys2Proof/Machine/Searches.lean ====
section
/-! DEFINITION. Launching a search and its result (R163, R164, R174, R175, R183), and the commands that do so. -/

namespace Sys2Proof.Machine

open Sys2Proof

def Device.header? (d : Device) (h : Nat) : Option Header := d.headers.find? (fun x => x.id = h)

def Device.modHeader (d : Device) (h : Nat) (f : Header → Header) : Device :=
  { d with headers := modFirst d.headers (fun x => x.id = h) f }

def Device.modPass (d : Device) (h : Nat) (f : Pass → Pass) : Device := d.modHeader h (fun x => { x with p := f x.p })

/-- The header's frame as its pass has it now: an ingress pass gives it its MD, and every pass the samplers that selected it
(R329, R339). -/
def Header.frameNow (h : Header) (f : Frame) : Frame :=
  { f with md := if h.egress then f.md else h.p.md, sampled := (f.sampled ++ h.p.sampled).eraseDups }

/-- The frame of a header, or what its egress pass keeps of it (R298). -/
def Device.frameOf (d : Device) (h : Header) : Option Frame :=
  match d.frame? h.frame with
  | some f => some f
  | none => h.held

/-- A frame whose VTAG has expired is discarded at the check point that its header has reached (R58): its flight is over,
and no word of its pass takes effect any more. -/
def Device.expire (d : Device) (h : Header) : Device :=
  let d := d.modPass h.id (fun p => { p with vintageExpired := true, next := none, searches := [] })
  ((d.modFrame h.frame h.frameNow).countFrame h.frame Reason.VINTAGE_EXPIRED 0).land h.frame

/-- A launch by a header in its present stage, with the key as it stands in `start` (R162, R163). A frame whose VTAG has
expired is discarded and its search is not performed; a launch outside the budget of R164 has no
effect (log entry 22). -/
def Device.launch (d : Device) (h : Header) (start : Pass) (profile dest : Nat) : Device :=
  if h.p.vintageExpired then d
  else if !h.egress ∧ d.expired.contains h.vtag then d.expire h
  else
    let q := h.parity
    let tgt := d.rdp q (E.TARGET profile)
    let due := h.p.stage + d.latency q profile
    let now := h.p.searches.filter (fun s => s.due = h.p.stage + d.latency q s.profile)
    let store (n : Nat) : Bool := decide (d.rdp q (E.TARGET n) ≥ 2)
    if now.length ≥ 2 ∨ (store profile ∧ now.any (fun s => store s.profile)) ∨ due > (if h.egress then 11 else 23) then d
    else
      let care := d.mode = .recovery && tgt = 4 && bit (d.rdp q (E.PROFILE_FLAGS profile)) 1
      let s : Search := { profile := profile, key := d.searchKey q profile start.space, parity := q, care := care,
                          reg := dest, due := due }
      d.modPass h.id (fun p => { p with searches := p.searches ++ [s] })

/-- The counters and events of a result's TIE and DEGRADED bits (R172, R175), and the marks of its frame's record. -/
def Device.noteResult (d : Device) (frame : Nat) (s : Search) (tie degraded : Bool) : Device :=
  let fl := d.rdp s.parity (E.PROFILE_FLAGS s.profile)
  let d := if tie then
      let d := (d.bump64 (E.TIES s.profile) 1).modFrame frame (fun f => { f with tie := true })
      if bit fl 0 then d.raise Src.SEARCH_TIE s.profile else d
    else d
  if degraded then
    let d := (d.bump64 (E.DEGRADED_RESULTS s.profile) 1).modFrame frame (fun f => { f with degraded := true })
    if bit fl 2 then d.raise Src.BANK_LOST s.profile else d
  else d

/-- The search uses the words of a location (R168, R170, R165, R173): of an Exact search, its location in each way; of the
others, every one of a bank that it searches. -/
def Device.searchUses (d : Device) (s : Search) (store loc : Nat) : Bool :=
  match store with
  | 0 =>
    (List.range 3).any (fun w => loc = d.exactLoc w (d.rdp s.parity (E.EXACT_TID s.profile)) (slice s.key 0 16)) && d.locIn 0 loc
  | 2 => d.locIn 2 loc && d.bankCompared s.parity s.profile (loc / 1024) (keyNat 20 s.key)
  | _ => d.locIn store loc

/-- A search that meets a word it cannot trust, or whose comparison fails (R183): a strike against the bank, a restore, and
the miss that it returns. -/
def Device.verifyFails (d : Device) (s : Search) (store loc : Nat) : Device :=
  ((d.bump64 (E.VERIFY_FAILS s.profile) 1).askRestore store loc).strikeStore store loc

/-- The location of the words that failed a search: the one that an uncorrectable error names, where the search uses it; the
matching entry's where its own words or its comparison fail. -/
def Device.failedAt (d : Device) (s : Search) (store : Nat) (found : Option TableEntry) (fault : MemFault) (loc : Nat) :
    Option Nat :=
  if fault = .uncorrectable ∧ d.searchUses s store loc then some loc
  else match found with
    | some e => if fault = .mismatch ∨ e.check ≠ entryCheck e.bytes then some e.loc else none
    | none => none

/-- The result of a search (R175, R183): the device with its counters, strikes and restores, and the 128-bit word.
`fault` is the state of the words that the search uses, those at `loc` where it is uncorrectable (log entry 23). -/
def Device.searchResult (d : Device) (frame : Nat) (s : Search) (fault : MemFault) (loc : Nat) : Device × Nat :=
  let r := d.find s
  let store := r.1
  let tie := r.2.2.1
  let degraded := r.2.2.2
  let miss := d.rdp s.parity (E.MISS_DATA s.profile)
  let d := d.bump64 (E.SEARCHES s.profile) 1
  let d := if fault = .correctable then d.bump64 E.CORRECTED 1 else d
  let d := if fault = .uncorrectable then d.bump64 E.UNCORRECTABLE 1 else d
  let d := d.noteResult frame s tie degraded
  match d.failedAt s store r.2.1 fault loc with
  | some l => (d.verifyFails s store l, resultWord false true tie degraded s.care 0 0 miss)
  | none =>
    match r.2.1 with
    | none => (d, resultWord false false tie degraded s.care 0 0 miss)
    | some e =>
      let d := d.bump64 (E.HITS s.profile) 1
      let d := if store = 0 then d.setHit e.loc true else d
      (d, resultWord true false tie degraded s.care (locationField store e) (if store = 2 then maskPriority e else 0)
        (entryData store e.bytes))

/-- A search of a header ends: its result is written into its register (R196). -/
def Device.finishSearch (d : Device) (h frame : Nat) (s : Search) (fault : MemFault) (loc : Nat) : Device :=
  let r := d.searchResult frame s fault loc
  r.1.modPass h (fun p => { p with res := modAt p.res s.reg (fun _ => r.2),
                                   searches := p.searches.erase s })

/-- Every result due at the header's present stage, in launch order (R196). -/
def Device.finishDue (d : Device) (h : Header) : Device :=
  (h.p.searches.filter (fun s => s.due ≤ h.p.stage)).foldl (fun d s => d.finishSearch h.id h.frame s .none 0) d

/-- SEARCH_LAUNCH (R163): the header launches a search in its present stage. -/
def execSearchLaunch (h profile dest : Nat) (s : State) : Host.Outcome State Fault Refusal :=
  s.on (fun d =>
    match d.header? h with
    | some x => if profile < 256 ∧ dest < 4 then d.launch x x.p profile dest else d
    | none => d)

/-- SEARCH_RESULT (R175): the oldest search of the header for a register ends. -/
def execSearchResult (h reg : Nat) (fault : WordFault) (s : State) : Host.Outcome State Fault Refusal :=
  s.on (fun d =>
    match d.header? h with
    | some x =>
      match x.p.searches.find? (fun y => y.reg = reg) with
      | some y => d.finishSearch h x.frame y fault.state fault.loc
      | none => d
    | none => d)

end Sys2Proof.Machine
end

