-- ==== Sys2Proof/Machine/Telemetry.lean ====
section
/-! DEFINITION. Counting bytes that come late, flow records and IPFIX, the Tasting ring, windows, histograms, clears and
Harvest (chapter 13). -/

namespace Sys2Proof.Machine

open Sys2Proof

/-! ### Bytes of a frame whose end has not arrived (R333) -/

/-- A frame's bytes added to the unit that begins at counter `u`, at once or when its end arrives. -/
def Device.addBytes (d : Device) (f : Frame) (u : Nat) : Device :=
  if f.ended then d.addAt u f.len
  else { d with tel := { d.tel with bytesDue := d.tel.bytesDue ++ [(f.id, u)] } }

def addOctets (r n : Nat) (fs : List Flow) : List Flow :=
  fs.map (fun f => if f.record = r then { f with octets := (f.octets + n) % 2 ^ 64 } else f)

/-- What waited for a frame's length is added (R333, R346). -/
def Device.addDue (d : Device) (id len : Nat) : Device :=
  let due := d.tel.bytesDue.filter (fun b => b.1 = id)
  let oct := d.tel.octetsDue.filter (fun b => b.1 = id)
  let t := { d.tel with bytesDue := d.tel.bytesDue.filter (fun b => b.1 ≠ id)
                        octetsDue := d.tel.octetsDue.filter (fun b => b.1 ≠ id)
                        flows := oct.foldl (fun fs o => addOctets o.2 len fs) d.tel.flows }
  due.foldl (fun d b => d.addAt b.2 len) { d with tel := t }

/-! ### Flow records and IPFIX (R346 to R348) -/

/-- The enabled flow profile of a parity whose range holds the record. -/
def Device.flowProfile (d : Device) (q r : Nat) : Option Nat :=
  (List.range 16).find? (fun t =>
    d.rdp q (E.FLOW_COUNT t) ≠ 0 && d.rdp q (E.FLOW_FIRST t) ≤ r
      && r < d.rdp q (E.FLOW_FIRST t) + d.rdp q (E.FLOW_COUNT t))

/-- The key of a flow profile, built as a search key is. -/
def Device.flowKey (d : Device) (q t : Nat) (space : List Byte) : List Byte :=
  ((List.range 8).flatMap (fun i =>
    let f := d.rdp q (E.FLOW_KEY_FIELD t i)
    slice space (bits f 0 9) (bits f 16 5))).take 40

/-- Device seconds with IPFIX_EPOCH_OFFSET added, and a further offset, modulo 2^32. -/
def Device.epochSeconds (d : Device) (seconds more : Nat) : Nat :=
  ofSigned 32 ((seconds : Int) + toInt 64 (d.cur E.IPFIX_EPOCH_OFFSET) + (more : Int))

/-- An NTP time stamp of a TIME80 value (Table 13.8). -/
def Device.ntp (d : Device) (t : Nat) : List Byte :=
  beBytes 4 (d.epochSeconds (t / 2 ^ 32) 2208988800) ++ beBytes 4 (t % 2 ^ 32 * 2 ^ 32 / 1000000000)

/-- The Data Record of a flow (Table 13.8). -/
def Device.flowRecord (d : Device) (f : Flow) (reason : Nat) : List Byte :=
  f.key ++ beBytes 4 f.port ++ d.ntp f.start ++ d.ntp f.stop ++ beBytes 8 f.packets ++ beBytes 8 f.octets
    ++ beBytes 1 reason

/-- The (Information Element, length) pairs of a profile's records. -/
def Device.templateFields (d : Device) (t : Nat) : List (Nat × Nat) :=
  (List.range 8).filterMap (fun i =>
    let l := bits (d.cur (E.FLOW_KEY_FIELD t i)) 16 5
    if l = 0 then none else some (d.cur (E.FLOW_KEY_IE t i), l))
  ++ [(10, 4), (156, 8), (157, 8), (2, 8), (1, 8), (136, 1)]

/-- The Template Set of the enabled profiles (Set ID 2). -/
def Device.templateSet (d : Device) : List Byte :=
  let recs := (List.range 16).flatMap (fun t =>
    if d.cur (E.FLOW_COUNT t) = 0 then []
    else
      let fs := d.templateFields t
      beBytes 2 (d.cur (E.TEMPLATE_ID t)) ++ beBytes 2 fs.length
        ++ fs.flatMap (fun f => beBytes 2 f.1 ++ beBytes 2 f.2))
  if recs = [] then [] else beBytes 2 2 ++ beBytes 2 (recs.length + 4) ++ recs

/-- Runs of records of one profile, in order. -/
def groupRecords : List (Nat × List Byte) → List (Nat × List Byte)
  | [] => []
  | (t, b) :: rest =>
    match groupRecords rest with
    | (t', b') :: more => if t = t' then (t, b ++ b') :: more else (t, b) :: (t', b') :: more
    | [] => [(t, b)]

/-- The Data Sets of records. -/
def Device.dataSets (d : Device) (recs : List (Nat × List Byte)) : List Byte :=
  (groupRecords recs).flatMap (fun g => beBytes 2 (d.cur (E.TEMPLATE_ID g.1)) ++ beBytes 2 (g.2.length + 4) ++ g.2)

/-- The next message opens with a Template Set. -/
def Device.templateDue (d : Device) : Bool :=
  d.tel.ipfixTemplate || (d.tel.ipfixMessages + 1) % d.cur E.TEMPLATE_REFRESH = 0

/-- An IPFIX Message of records (RFC 7011). -/
def Device.ipfixMessage (d : Device) (recs : List (Nat × List Byte)) : List Byte :=
  let body := (if d.templateDue then d.templateSet else []) ++ d.dataSets recs
  beBytes 2 10 ++ beBytes 2 (body.length + 16) ++ beBytes 4 (d.epochSeconds (d.time.ns / 1000000000) 0)
    ++ beBytes 4 d.tel.ipfixSequence ++ beBytes 4 (d.cur E.OBS_DOMAIN_ID) ++ body

/-- The waiting records leave as one message into ring 2 (R348). -/
def Device.sendIpfix (d : Device) : Device :=
  if d.tel.ipfixRecords = [] then d
  else
    let m := d.ipfixMessage d.tel.ipfixRecords
    let item := slice (leBytes 2 m.length ++ List.replicate 14 0 ++ m) 0 2048
    let t := { d.tel with ipfixSequence := (d.tel.ipfixSequence + d.tel.ipfixRecords.length) % 2 ^ 32
                          ipfixMessages := d.tel.ipfixMessages + 1, ipfixTemplate := false, ipfixRecords := [] }
    { d with tel := t }.pushRing 2 item

/-- A flow is exported with a reason (R347, R348): its record joins the waiting message, which leaves first where the
record does not fit. -/
def Device.exportFlow (d : Device) (t : Nat) (f : Flow) (reason : Nat) : Device :=
  let r := (t, d.flowRecord f reason)
  let d := d.bump64 E.FLOW_EXPORTED 1
  let d := if (d.ipfixMessage (d.tel.ipfixRecords ++ [r])).length > d.cur E.IPFIX_MESSAGE_MAX then d.sendIpfix else d
  { d with tel := { d.tel with ipfixRecords := d.tel.ipfixRecords ++ [r] } }

def setFlow (f : Flow) : List Flow → List Flow
  | [] => [f]
  | x :: t => if f.record < x.record then f :: x :: t else if x.record = f.record then f :: t else x :: setFlow f t

/-- A FLOW action naming record `r` (R346). -/
def Device.flow (d : Device) (r : Nat) (space : List Byte) (frame : Frame) : Device :=
  match d.flowProfile d.parity r with
  | none => d.bump64 E.FLOW_IGNORED 1
  | some t =>
    let key := d.flowKey d.parity t space
    let fresh : Flow := { record := r, key := key, start := frame.rxTime, stop := 0, packets := 0, octets := 0, port := 0 }
    let old := d.tel.flows.find? (fun f => f.record = r)
    let d := match old with
      | some f => if f.key ≠ key then (d.exportFlow t f 5).bump64 E.FLOW_COLLISIONS 1 else d
      | none => d
    let f := match old with
      | some f => if f.key ≠ key then fresh else if f.packets = 0 then { f with start := frame.rxTime } else f
      | none => fresh
    let f := { f with packets := (f.packets + 1) % 2 ^ 64, stop := frame.rxTime, port := frame.inPort }
    let f := if frame.ended then { f with octets := (f.octets + frame.len) % 2 ^ 64 } else f
    let due := if frame.ended then d.tel.octetsDue else d.tel.octetsDue ++ [(frame.id, r)]
    { d with tel := { d.tel with flows := setFlow f d.tel.flows, octetsDue := due } }

/-- A visit of one record in use by the Cellarhand (R347). -/
def Device.visitFlow (d : Device) (f : Flow) : Device :=
  match d.flowProfile d.parity f.record with
  | none => d
  | some t =>
    let s := 1000000000
    if ((d.cur (E.IDLE_TIMEOUT_S t) * s : Nat) : Int) ≤ timeDelta d.now80 f.stop then
      let d := d.exportFlow t f 1
      { d with tel := { d.tel with flows := d.tel.flows.filter (fun x => x.record ≠ f.record) } }
    else if ((d.cur (E.ACTIVE_TIMEOUT_S t) * s : Nat) : Int) ≤ timeDelta d.now80 f.start then
      let d := d.exportFlow t f 2
      { d with tel := { d.tel with flows := setFlow { f with packets := 0, octets := 0 } d.tel.flows } }
    else d

/-- The entries of a flow profile differ between the two parities. -/
def Device.flowChanged (d : Device) (t : Nat) : Bool :=
  (List.range 21).any (fun i => d.rdp 0 (E.FLOW_FIRST t + i) ≠ d.rdp 1 (E.FLOW_FIRST t + i))

/-- A flip is about to change profiles: their records are exported with reason 4 and emptied (R346). The waiting records
leave before it, and before a new IPFIX_MESSAGE_MAX, under the templates and the limit that they were exported under: the
device still reads that vintage (R348; log entry 202). -/
def Device.closeIpfix (d : Device) : Device :=
  let changed := (List.range 16).filter (fun t => d.flowChanged t)
  let d := d.tel.flows.foldl (fun d f =>
    match d.flowProfile d.parity f.record with
    | some t =>
      if changed.contains t then
        let d := d.exportFlow t f 4
        { d with tel := { d.tel with flows := d.tel.flows.filter (fun x => x.record ≠ f.record) } }
      else d
    | none => d) d
  if changed ≠ [] ∨ d.rdp 0 E.IPFIX_MESSAGE_MAX ≠ d.rdp 1 E.IPFIX_MESSAGE_MAX then d.sendIpfix else d

/-- A flip that changed a profile: the next message opens with the templates (R348). -/
def Device.flipFlows (d : Device) : Device :=
  if (List.range 16).any (fun t => d.flowChanged t) then { d with tel := { d.tel with ipfixTemplate := true } } else d

/-- FLOW_SCAN (R347): the Cellarhand visits every record in use. -/
def execFlowScan (s : State) : Host.Outcome State Fault Refusal :=
  s.on (fun d => d.tel.flows.foldl (fun d f => d.visitFlow f) d)

/-- IPFIX_MESSAGE_SEND (R348): the oldest waiting record is 10 ms old. -/
def execIpfixMessageSend (s : State) : Host.Outcome State Fault Refusal :=
  s.on (fun d => d.sendIpfix)

/-! ### The Tasting ring (R351) -/

/-- One Tasting record of a MIRROR action, into ring 1. Of a frame that has not ended, the bytes that no command has given
are free values (log entry 21). -/
def Device.taste (d : Device) (f : Frame) (session dest outcome : Nat) (egress : Bool) (bytes : List Byte)
    (whole : Bool) : Device :=
  if d.cur (E.RING_CHANNEL 1) = 0xFFFF then d
  else
    let n := d.tel.tastings + 1
    let r := if whole then (d, bytes) else d.padFree bytes 220
    let d := r.1
    let cap := r.2.take 220
    let cut := decide (bytes.length > 220) || !whole
    let item := leBytes 8 n ++ leBytes 2 f.inPort ++ leBytes 2 dest ++ leBytes 1 session ++ leBytes 1 outcome
      ++ leBytes 1 f.vtag ++ leBytes 1 (egress.toNat + 2 * cut.toNat) ++ leBytes 4 (f.rxTime / 2 ^ 32) ++ leBytes 4 f.rxTime
      ++ leBytes 4 (d.time.ns / 1000000000) ++ leBytes 4 (d.time.ns % 1000000000) ++ leBytes 2 (if f.ended then f.len else 0)
      ++ leBytes 2 cap.length ++ slice cap 0 220
    { d with tel := { d.tel with tastings := n } }.pushRing 1 item

/-! ### Histograms (R337, R338) -/

/-- ⌊log₂ w⌋ + 1 for w > 0, 0 for 0. -/
def bitLength : Nat → Nat → Nat
  | 0, _ => 0
  | fuel + 1, w => if w = 0 then 0 else bitLength fuel (w / 2) + 1

/-- A copy that left port p with a correct FCS counts in its histogram. -/
def Device.histogram (d : Device) (p latencyNs depth len : Nat) : Device :=
  let c := d.cur (E.HIST_CONTROL p)
  let v := match bits c 0 2 with
    | 1 => min latencyNs 0xFFFFFFFF
    | 2 => depth
    | _ => len
  if bits c 0 2 = 0 then d
  else d.addUnit (d.cur (E.HIST_BASE p)) (min 15 (bitLength 64 (v / 2 ^ bits c 4 5))) 1

/-! ### Windows (R336) -/

/-- The windows at the boundary after round r of `ps`. -/
def Device.closeWindows (d : Device) (r ps : Nat) : Device :=
  d.ports'.foldl (fun d p =>
    let w := d.cur (E.BW_WINDOW_ROUNDS p)
    let total := SMap.get d.tel.windowPs 0 p + ps
    if (r + 1) % w = 0 then
      let rx := SMap.get d.tel.window 0 (p * 2)
      let tx := SMap.get d.tel.window 0 (p * 2 + 1)
      let off := d.tel.windowOff.contains p
      let d := { d with tel := { d.tel with windowPs := SMap.set d.tel.windowPs 0 p 0
                                            window := SMap.set (SMap.set d.tel.window 0 (p * 2) 0) 0 (p * 2 + 1) 0
                                            windowOff := d.tel.windowOff.filter (· ≠ p) } }
      if off then d
      else
        let d := ((d.wr (E.RX_WINDOW_BYTES p) rx).wr (E.TX_WINDOW_BYTES p) tx).wr (E.WINDOW_NS p) (total / 1000)
        (d.wr (E.RX_PEAK_BYTES p) (max rx (d.rd (E.RX_PEAK_BYTES p)))).wr (E.TX_PEAK_BYTES p)
          (max tx (d.rd (E.TX_PEAK_BYTES p)))
    else { d with tel := { d.tel with windowPs := SMap.set d.tel.windowPs 0 p total } }) d

/-- A flip that changes BW_WINDOW_ROUNDS abandons the running window. -/
def Device.flipWindows (d : Device) : Device :=
  let ps := (List.range 512).filter (fun p => d.rdp 0 (E.BW_WINDOW_ROUNDS p) ≠ d.rdp 1 (E.BW_WINDOW_ROUNDS p))
  { d with tel := { d.tel with windowOff := (d.tel.windowOff ++ ps).eraseDups } }

/-! ### Clears (R335) -/

/-- The range of CLEAR_FIRST and CLEAR_COUNT splits a chained pair or lies beyond the counters. -/
def Device.clearBad (d : Device) : Bool :=
  let a := d.rd E.CLEAR_FIRST
  let n := d.rd E.CLEAR_COUNT
  n ≠ 0 && (decide (a + n > 2097152) || (d.chained a && a % 2 = 1) || (d.chained (a + n - 1) && (a + n) % 2 = 1))

/-- An armed clear takes effect at a round boundary, after its snapshots. -/
def Device.applyClear (d : Device) : Device :=
  match d.tel.clearArmed with
  | none => { d with tel := { d.tel with cleared := false } }
  | some (a, n) =>
    let cs := d.tel.counters.filter (fun c => !(a ≤ c.1 && c.1 < a + n))
    let d := { d with tel := { d.tel with counters := cs, clearArmed := none, cleared := true } }
    ((d.wr E.CLEAR 0).bumpSat E.CLEARS_DONE 1).raise Src.COUNTER_CLEAR_DONE 0

/-- The counter lay in a chain range of the configuration last installed. -/
def Device.wasChained (d : Device) (n : Nat) : Bool :=
  (List.range 64).any (fun c =>
    let k := d.cur (E.CHAIN_COUNT c)
    k ≠ 0 && d.cur (E.CHAIN_FIRST c) ≤ n && n < d.cur (E.CHAIN_FIRST c) + k)

/-- The counters whose chaining a passing enable check changes read 0 (R335): the chain ranges are compared with those
of the last installation, which the copies of both parities hold. -/
def Device.resetChains (d : Device) : Device :=
  { d with tel := { d.tel with counters := d.tel.counters.filter (fun c => d.chained c.1 = d.wasChained c.1) } }

/-! ### Harvest (R342 to R345) -/

/-- The Harvest header of a boundary (Table 13.6) but for SEQUENCE, SKIPPED and PAYLOAD_CRC: bytes 4 to 7, 16 to 83 and
88 to 95. -/
def Device.harvestHeader (d : Device) (r boundary : Nat) (willClear : Bool) (lateNs : Nat) : List Byte :=
  leBytes 2 1 ++ leBytes 2 (d.timeValid.toNat + 2 * willClear.toNat) ++ leBytes 8 r ++ leBytes 8 (boundary / 2 ^ 32)
    ++ leBytes 4 boundary ++ leBytes 4 (d.rd E.DIGEST_VINTAGE) ++ leBytes 1 (d.rd E.DIGEST_STATE)
    ++ leBytes 1 (d.rd E.MODE_STATE) ++ [0, 0] ++ leBytes 4 (d.rd E.VINTAGE_CURRENT)
    ++ (List.range 8).flatMap (fun i => beBytes 4 (d.rd (E.VINTAGE_DIGEST i)))
    ++ leBytes 2 (d.cur E.HARVEST_FIRST_PAGE) ++ leBytes 2 (d.cur E.HARVEST_PAGES) ++ leBytes 8 lateNs

/-- How many Harvests fall due at the boundary after round r, whose BOUNDARY_TIME is `now` ns; the new j (R342). Those
scheduled by time wait for TIME_VALID, and for Δ to reach them (R306, R325, R326). -/
def Device.harvestsDue (d : Device) (r now : Nat) : Nat × Nat :=
  let period := d.cur E.HARVEST_PERIOD_NS
  let base := d.cur E.HARVEST_BASE_TIME
  if d.cur E.HARVEST_ENABLE = 0 ∨ period = 0 then (0, d.tel.harvestNext)
  else if base = 0 then ((if (r + 1) % (period / 640) = 0 then 1 else 0), d.tel.harvestNext)
  else
    let past := timeDelta (time80 now) base
    let n := if !d.timeValid ∨ past < 0 then 0 else past.toNat / period + 1
    (n - d.tel.harvestNext, max n d.tel.harvestNext)

/-- Harvests are skipped: each is counted, and each raises the event (R345). -/
def Device.skipHarvests (d : Device) (n : Nat) : Device :=
  if n = 0 then d
  else
    let d := { d with tel := { d.tel with harvestSkips := d.tel.harvestSkips + n } }
    (List.range n).foldl (fun (d : Device) _ => d.raise Src.HARVEST_SKIPPED 0) (d.bumpSat E.HARVEST_SKIPPED n)

/-- The snapshot of step 1 of R27 for the Harvests due after round r at BOUNDARY_TIME `now` ns. -/
def Device.harvestSnapshot (d : Device) (r now : Nat) : Device :=
  let due := d.harvestsDue r now
  let base := d.cur E.HARVEST_BASE_TIME
  let late := if base = 0 then 0 else (timeDelta (time80 now) base).toNat - (due.2 - 1) * d.cur E.HARVEST_PERIOD_NS
  let d := { d with tel := { d.tel with harvestNext := due.2 } }
  if due.1 = 0 then d
  else
    let full := (d.rd E.HARVEST_WRITTEN + 2 ^ 32 - d.rd E.HARVEST_CONSUMED) % 2 ^ 32 = d.cur E.HARVEST_RING_SLOTS
    if d.tel.harvest.isSome ∨ full then d.skipHarvests due.1
    else
      let first := 1024 * d.cur E.HARVEST_FIRST_PAGE
      let last := first + 1024 * d.cur E.HARVEST_PAGES
      let cs := d.tel.counters.filter (fun c => first ≤ c.1 && c.1 < last)
      let h : Harvest := { counters := cs, header := d.harvestHeader r (time80 now) d.tel.clearArmed.isSome late }
      { d with tel := { d.tel with harvest := some h } }.skipHarvests (due.1 - 1)

/-- A flip that changes the schedule starts j again (R342): at the smallest value whose time has not passed (DESIGN CHOICE,
log entry 169). -/
def Device.flipHarvest (d : Device) (old : Nat) : Device :=
  if [E.HARVEST_ENABLE, E.HARVEST_PERIOD_NS, E.HARVEST_BASE_TIME].all (fun a => d.rdp old a = d.cur a) then d
  else
    let past := timeDelta (d.rd E.BOUNDARY_TIME) (d.cur E.HARVEST_BASE_TIME)
    let n := if !d.timeValid ∨ past < 0 then 0 else ceilDiv past.toNat (max 1 (d.cur E.HARVEST_PERIOD_NS))
    { d with tel := { d.tel with harvestNext := n } }

/-- A staging error of an export (R387, R393, R398): a strike against its channel, if that is not retired. -/
def Device.strikeChannel (d : Device) (c : Nat) : Device := (d.bumpSat (E.CHANNEL_STRIKES c) 1).strike 10 c

end Sys2Proof.Machine
end

