-- ==== Sys2Proof/Machine/Cooper.lean ====
section
/-! DEFINITION. The Cooper stages: actions, the microword of a stage, and the commands of single ALU and action slots
(R190 to R200, R298). -/

namespace Sys2Proof.Machine

open Sys2Proof

/-! ### Actions (Table 8.4)

Each takes the header as it stood at the start of the stage and the slot's value. An action of the other pipeline stands
in no word that an image may hold, and has no effect (R207, log entry 22). -/

/-- A FORWARD of a frame of a parity may name the port: a front port of either member that exists in it (R49), or 0x840 (R198,
R427). -/
def Device.isTarget (d : Device) (parity v : Nat) : Bool :=
  v = 0x840 ||
    match d.localPort v with
    | some p => decide (p < 512) && d.rdp parity (E.PORT_WIDTH p) ≠ 0
    | none => d.joined && decide (v < 1024) && d.peerRd parity (E.PORT_WIDTH (v % 512)) ≠ 0

/-- A disposition set in the ingress pipeline. -/
def Device.setDisp (d : Device) (h : Header) (x : Disp) : Device :=
  if h.egress then d else d.modPass h.id (fun p => { p with disp := x })

def Device.actForward (d : Device) (h : Header) (v : Nat) : Device :=
  d.setDisp h (if d.isTarget h.parity (bits v 0 12) then .forward (bits v 0 12) (bits v 12 3) else .badPort)

def Device.actMcast (d : Device) (h : Header) (v : Nat) : Device := d.setDisp h (.mcast (bits v 0 16) (bits v 16 3))

def Device.actTrap (d : Device) (h : Header) (v : Nat) : Device := d.setDisp h (.trap (max 16 (bits v 0 8)) (bit v 8))

def Device.actDiscard (d : Device) (h : Header) (v : Nat) : Device :=
  d.modPass h.id (fun p => { p with disp := .discard Reason.PROGRAM_DISCARD, code := bits v 0 8 })

def Device.actRecirc (d : Device) (h : Header) : Device := d.setDisp h .recirc

/-- COUNT (R332, R333). -/
def Device.actCount (d : Device) (h : Header) (v : Nat) : Device :=
  let n := bits v 0 21
  let d := d.addUnit n 0 1
  if bit v 21 then
    match d.frameOf h with
    | some f => d.addBytes f (d.unitAt n 1)
    | none => d
  else d

/-- POLICE (R199, R200, R278, R280). -/
def Device.actPolice (d : Device) (h : Header) (v : Nat) : Device :=
  match d.frame? h.frame with
  | none => d
  | some f =>
    if h.egress then d
    else
      let n := bits v 0 18
      let bytes := if h.p.known then f.len else d.chargeBytes { f with ended := false } h.parity
      let r := d.police h.parity n f.id bytes h.p.known
      let d := if f.ended then r.1.creditPolicers f.id f.len else r.1
      let red := r.2 = 2 && bit v 18
      d.modPass h.id (fun p => { p with colour := some r.2, policedRed := p.policedRed || red,
                                        redPolicer := if red then n else p.redPolicer })

/-- The length with FCS of a mirror copy of a frame whose own length counts as `len` (R299). -/
def mirrorLength (h : Header) (truncate len : Nat) : Nat :=
  if h.egress then
    min (if truncate = 0 then 256 else min 256 truncate) (h.p.emitLength + (len - 4 - h.p.bodyOffset)) + 4
  else if truncate = 0 then len
  else min truncate (len - 4) + 4

/-- The queue of a mirror session's copies in a parity (R298). -/
def Device.mirrorQueue (d : Device) (parity m : Nat) : Nat :=
  let dest := d.rdp parity (E.MIRROR_DEST m)
  if dest = 0x800 then cpuQueue (d.rdp parity (E.MIRROR_CPU_QUEUE m))
  else if dest = 0x840 then mgmtQueue
  else match d.localPort dest with
    | some p => frontQueue p 1 (d.rdp parity (E.MIRROR_CLASS m))
    | none => crossQueue (d.rdp parity (E.MIRROR_CLASS m))

/-- The port of a mirror session's copies: a local front port, or the number that MIRROR_DEST holds. -/
def Device.mirrorPort (d : Device) (parity m : Nat) : Nat :=
  let dest := d.rdp parity (E.MIRROR_DEST m)
  (d.localPort dest).getD dest

/-- A copy of a frame for a mirror session. -/
def Device.mirrorCopy (d : Device) (f : Frame) (parity m : Nat) (egress : Bool) : Copy :=
  { id := d.nextCopy, frame := f.id, queue := d.mirrorQueue parity m, kind := .mirror m egress, eprog := 0,
    tc := d.rdp parity (E.MIRROR_CLASS m), port := d.mirrorPort parity m, entered := 0,
    truncate := if egress then 0 else d.rdp parity (E.MIRROR_TRUNCATE m) }

/-- A mirror copy that the session's policer marked red (R298): a discard with MIRROR_POLICED, of the frame as its pass has
it. -/
def Device.mirrorPoliced (d : Device) (f : Frame) (parity m : Nat) (egress : Bool) : Device :=
  let d := (d.bump64 (E.MIRROR_POLICED m) 1).discarded Reason.MIRROR_POLICED
  let r := d.sampleDiscard parity Reason.MIRROR_POLICED f.sampled
  r.1.copyRecord f (d.mirrorCopy f parity m egress) Reason.MIRROR_POLICED none false false 0 r.2

/-- MIRROR (R199, R298, R351). The session is read in the parity of the frame's VTAG, in an egress pass too (R297, R492). -/
def Device.actMirror (d : Device) (h : Header) (v : Nat) : Device :=
  match d.header? h.id, d.frameOf h with
  | some now, some f =>
    if now.p.mirrorCount ≥ 4 then d.bump64 (E.MIRROR_EXCESS h.slice) 1
    else
      let m := bits v 0 6
      let q := h.vtag % 2
      let d := d.modPass h.id (fun p => { p with mirrorCount := p.mirrorCount + 1 })
      let pol := d.rdp q (E.MIRROR_POLICER m)
      let dest := d.rdp q (E.MIRROR_DEST m)
      let len := if h.p.known then f.len else d.chargeBytes { f with ended := false } q
      let r := if pol = 0xFFFFFFFF then (d, 0)
        else d.police q pol f.id (mirrorLength h (d.rdp q (E.MIRROR_TRUNCATE m)) len) h.p.known
      let d := if f.ended then r.1.creditPolicers f.id f.len else r.1
      let d := if r.2 = 2 then d.mirrorPoliced (now.frameNow f) q m h.egress
        else if dest = 0xFFFF then d
        else (d.bump64 (E.MIRROR_COPIES m) 1).modPass h.id (fun p => { p with mirrors := p.mirrors ++ [m] })
      if bit (d.rdp q (E.MIRROR_FLAGS m)) 0 then
        let outcome := if r.2 = 2 then 1 else if dest = 0xFFFF then 2 else 0
        if h.egress then
          d.taste f m dest outcome true (slice h.p.hv 0 h.p.emitLength ++ f.bytes.drop h.p.bodyOffset) f.ended
        else d.taste f m dest outcome false f.bytes f.ended
      else d
  | _, _ => d

def Device.actSetEgress (d : Device) (h : Header) (v : Nat) : Device :=
  if h.egress then d else d.modPass h.id (fun p => { p with eprog := bits v 0 10 })

/-- SET_EMIT: a value outside the ranges has no effect (R198). -/
def Device.actSetEmit (d : Device) (h : Header) (v : Nat) : Device :=
  if bits v 0 9 > 384 ∨ bits v 9 10 > 512 then d
  else d.modPass h.id (fun p => { p with emitLength := bits v 0 9, bodyOffset := bits v 9 10 })

/-- SAMPLE (R339): ignored where the sampler's SOURCE is not 0. -/
def Device.actSample (d : Device) (h : Header) (v : Nat) : Device :=
  let k := bits v 0 8
  if bits (d.rdp h.parity (E.SAMPLER_CONTROL k)) 8 8 ≠ 0 then d
  else
    let r := d.sampleEvent h.parity k
    if r.2 then r.1.modPass h.id (fun p => { p with sampled := p.sampled ++ [k] }) else r.1

/-- TIMESTAMP (R316): asked of the transmit MAC. -/
def Device.actTimestamp (d : Device) (h : Header) (v : Nat) : Device :=
  if h.egress then d.modPass h.id (fun p => { p with stamp := some (v % 2 ^ 22) }) else d

/-- IOAM (R349): asked of the transmit MAC. -/
def Device.actIoam (d : Device) (h : Header) (v : Nat) : Device :=
  if h.egress then d.modPass h.id (fun p => { p with ioam := some (bits v 0 9) }) else d

/-- FLOW (R346). -/
def Device.actFlow (d : Device) (h : Header) (v : Nat) : Device :=
  match d.frame? h.frame with
  | some f => d.flow (bits v 0 18) h.p.space f
  | none => d

/-- The slot is one that a word may hold (R195, R198). -/
def actOk (a : ActArgs) : Bool := a.pred < 32 && (if a.aAddr then a.arg < 512 && operandOk a.arg 4 else a.arg < 2 ^ 22)

/-- The action of the slot takes effect: its condition holds at the start of the stage, and the frame is not discarded. -/
def actTaken (h : Header) (a : ActArgs) : Bool := actOk a && condHolds h.p h.pass a.pred && !h.p.vintageExpired

/-- What an action slot does; `h` is the header at the start of the stage. The factory codes name no effect in the spec
and do nothing here (log entry 26). -/
def Device.action (d : Device) (h : Header) (code : Nat) (a : ActArgs) : Device :=
  if !actTaken h a then d
  else
    let v := actValue h.p a
    match code with
    | 0x01 => d.actForward h v
    | 0x02 => d.actMcast h v
    | 0x03 => d.actTrap h v
    | 0x04 => d.actDiscard h v
    | 0x05 => d.actRecirc h
    | 0x06 => d.actCount h v
    | 0x07 => d.actPolice h v
    | 0x08 => d.actMirror h v
    | 0x09 => d.actSetEgress h v
    | 0x0A => d.actSetEmit h v
    | 0x0B => d.actSample h v
    | 0x0C => d.actTimestamp h v
    | 0x0D => d.actIoam h v
    | 0x0E => d.actFlow h v
    | _ => d

/-- An ALU slot executed for a header whose state at the start of the stage is `h`. -/
def Device.aluSlot (d : Device) (h : Header) (op : Nat) (a : AluArgs) : Device :=
  d.modPass h.id (fun p => p.applyAlu (aluEffect op a h.p))

/-! ### The word of a stage (R190, R191, R193, R196) -/

/-- The word at an address of a slice's Cooper store, of a parity (R204, R205). -/
def Device.cooperWord (d : Device) (slice' parity addr : Nat) : Nat :=
  if addr < 0x3000 then factoryCooperWord addr
  else beNat (slice (d.objp parity (E.OPEN_IMAGE slice')) (16 + 24 * (addr - 0x3000)) 24)

/-- The bank of a Cooper store word (Table 18.4). -/
def storeBankOf (slice' parity addr : Nat) : Nat :=
  20 * slice' + (if addr < 0x3000 then addr / 1024 else 12 + 4 * (parity % 2) + (addr - 0x3000) / 1024)

/-- A header begins the stage `k`: the colour of the last POLICE is written, the results due arrive, and the stage notes
whether the frame's length is known (R196, R199, R280). -/
def Device.beginStage (d : Device) (id k : Nat) : Device :=
  let d := d.modPass id (fun p => { p.applyColour with stage := k })
  match d.header? id with
  | none => d
  | some h =>
    let d := d.finishDue h
    let known := match d.frame? h.frame with
      | some f => f.ended
      | none => true
    d.modPass id (fun p => { p with known := known })

/-- The header's frame has been discarded in its pass (R58). -/
def Device.expiredIn (d : Device) (id : Nat) : Bool := (d.header? id).any (fun x => x.p.vintageExpired)

/-- The ALU slots and the actions of a word, and the choice of the next word. -/
def Device.runSlots (d : Device) (h : Header) (addr w : Nat) : Device :=
  let d := [0, 1].foldl (fun d i => d.aluSlot h (aluOp (Word192.alu w i)) (aluArgs (Word192.alu w i))) d
  let d := [0, 1].foldl (fun d i => d.action h (actCode (Word192.act w i)) (actArgs (Word192.act w i))) d
  let next := if Word192.ends w then none
    else if condHolds h.p h.pass (Word192.cond w) then some (Word192.jump w) else some ((addr + 1) % 16384)
  d.modPass h.id (fun p => { p with next := next })

/-- A word takes effect at the end of its stage: its launches, and the rest of it unless one of them found the frame's VTAG
expired (R58). -/
def Device.runWord (d : Device) (h : Header) (addr w : Nat) : Device :=
  let d := (Word192.launches w).foldl (fun d l => (d.header? h.id).elim d (fun x => d.launch x h.p l.1 l.2)) d
  if d.expiredIn h.id then d else d.runSlots h addr w

/-- A word fetched with an uncorrectable error (R193). -/
def Device.badWord (d : Device) (h : Header) (addr : Nat) : Device :=
  let d := d.modPass h.id (fun p => { p with storeError := true, next := none })
  (d.bump64 (E.STORE_ERRORS h.slice) 1).strike 7 (storeBankOf h.slice h.parity addr)

/-- The stage that a header is in ends: its word executes, where its path still runs. A location without a word ends the
path (log entry 22). `bad` holds the store words that the slot's fetches meet with an uncorrectable error. -/
def Device.endStage (d : Device) (id : Nat) (bad : List (Nat × Nat)) : Device :=
  match d.header? id with
  | none => d
  | some h =>
    match h.p.next with
    | none => d
    | some addr =>
      if bad.contains (h.slice, addr) then d.badWord h addr
      else
        let w := d.cooperWord h.slice h.parity addr
        if Word192.valid w then d.runWord h addr w else d.modPass id (fun p => { p with next := none })

/-! ### The commands of one ALU slot (R197) -/

/-- One ALU slot of a header executed in its present stage. -/
def State.alu (s : State) (h op : Nat) (a : AluArgs) : Host.Outcome State Fault Refusal :=
  s.on (fun d => (d.header? h).elim d (fun x => d.aluSlot x op a))

def execAluNop (h : Nat) (a : AluArgs) (s : State) : Host.Outcome State Fault Refusal := s.alu h 0x0 a
def execAluMov (h : Nat) (a : AluArgs) (s : State) : Host.Outcome State Fault Refusal := s.alu h 0x1 a
def execAluAdd (h : Nat) (a : AluArgs) (s : State) : Host.Outcome State Fault Refusal := s.alu h 0x2 a
def execAluSub (h : Nat) (a : AluArgs) (s : State) : Host.Outcome State Fault Refusal := s.alu h 0x3 a
def execAluAnd (h : Nat) (a : AluArgs) (s : State) : Host.Outcome State Fault Refusal := s.alu h 0x4 a
def execAluOr (h : Nat) (a : AluArgs) (s : State) : Host.Outcome State Fault Refusal := s.alu h 0x5 a
def execAluXor (h : Nat) (a : AluArgs) (s : State) : Host.Outcome State Fault Refusal := s.alu h 0x6 a
def execAluShl (h : Nat) (a : AluArgs) (s : State) : Host.Outcome State Fault Refusal := s.alu h 0x7 a
def execAluShr (h : Nat) (a : AluArgs) (s : State) : Host.Outcome State Fault Refusal := s.alu h 0x8 a
def execOsum (h : Nat) (a : AluArgs) (s : State) : Host.Outcome State Fault Refusal := s.alu h 0x9 a
def execCeq (h : Nat) (a : AluArgs) (s : State) : Host.Outcome State Fault Refusal := s.alu h 0xA a
def execCne (h : Nat) (a : AluArgs) (s : State) : Host.Outcome State Fault Refusal := s.alu h 0xB a
def execCltu (h : Nat) (a : AluArgs) (s : State) : Host.Outcome State Fault Refusal := s.alu h 0xC a
def execCgeu (h : Nat) (a : AluArgs) (s : State) : Host.Outcome State Fault Refusal := s.alu h 0xD a
def execTbit (h : Nat) (a : AluArgs) (s : State) : Host.Outcome State Fault Refusal := s.alu h 0xE a

/-! ### The commands of one action slot (R198) -/

/-- One action slot of a header executed in its present stage. -/
def State.act (s : State) (h code : Nat) (a : ActArgs) : Host.Outcome State Fault Refusal :=
  s.on (fun d => (d.header? h).elim d (fun x => d.action x code a))

def execActionNone (h : Nat) (a : ActArgs) (s : State) : Host.Outcome State Fault Refusal := s.act h 0x00 a
def execForward (h : Nat) (a : ActArgs) (s : State) : Host.Outcome State Fault Refusal := s.act h 0x01 a
def execMcast (h : Nat) (a : ActArgs) (s : State) : Host.Outcome State Fault Refusal := s.act h 0x02 a
def execTrap (h : Nat) (a : ActArgs) (s : State) : Host.Outcome State Fault Refusal := s.act h 0x03 a
def execDiscard (h : Nat) (a : ActArgs) (s : State) : Host.Outcome State Fault Refusal := s.act h 0x04 a
def execRecirc (h : Nat) (a : ActArgs) (s : State) : Host.Outcome State Fault Refusal := s.act h 0x05 a
def execCount (h : Nat) (a : ActArgs) (s : State) : Host.Outcome State Fault Refusal := s.act h 0x06 a
def execPolice (h : Nat) (a : ActArgs) (s : State) : Host.Outcome State Fault Refusal := s.act h 0x07 a
def execMirror (h : Nat) (a : ActArgs) (s : State) : Host.Outcome State Fault Refusal := s.act h 0x08 a
def execSetEgress (h : Nat) (a : ActArgs) (s : State) : Host.Outcome State Fault Refusal := s.act h 0x09 a
def execSetEmit (h : Nat) (a : ActArgs) (s : State) : Host.Outcome State Fault Refusal := s.act h 0x0A a
def execSample (h : Nat) (a : ActArgs) (s : State) : Host.Outcome State Fault Refusal := s.act h 0x0B a
def execTimestamp (h : Nat) (a : ActArgs) (s : State) : Host.Outcome State Fault Refusal := s.act h 0x0C a
def execIoam (h : Nat) (a : ActArgs) (s : State) : Host.Outcome State Fault Refusal := s.act h 0x0D a
def execFlow (h : Nat) (a : ActArgs) (s : State) : Host.Outcome State Fault Refusal := s.act h 0x0E a

/-- FACTORY_ACTION (R198): the spec reserves the codes 0x18 to 0x1F to words of the factory region and names no effect
for any of them, so that a slot whose condition holds is refused. -/
def execFactoryAction (h : Nat) (a : ActArgs) (s : State) : Host.Outcome State Fault Refusal :=
  match s.dev.header? h with
  | some x => if actTaken x a && !s.dev.board.tripped then .refused .factoryActionUnspecified else s.on (fun d => d)
  | none => s.on (fun d => d)

end Sys2Proof.Machine
end

