-- ==== Sys2Proof/Machine/Access.lean ====
section
/-! DEFINITION. What an entry reads: status that follows the state, objects that the state holds elsewhere, and the
access masks of the principals (R8, R38 to R43). -/

namespace Sys2Proof.Machine

open Sys2Proof

/-! ### Siphon's status word (Table 15.2) -/

/-- The use of a channel in the current parity (R378). -/
def Device.channelUse (d : Device) (c : Nat) : Nat := d.cur (E.CHANNEL_USE c)

/-- The registers of a channel's doorbell page that BAR4 shows, modulo 2^32: records consumed by the host. -/
def Device.completionFull (d : Device) (ch : Channel) : Bool :=
  (ch.completed + 2 ^ 32 - ch.consumed % 2 ^ 32) % 2 ^ 32 = d.cur (E.COMPL_SLOTS ch.c)

/-- A Walking channel waits in Held (R381, R383, R397); an INJECT channel, outside the forwarding modes, before it reads a
FIRST descriptor (R392): no run is open, and none is being abandoned. -/
def Device.channelHeld (d : Device) (ch : Channel) : Bool :=
  ch.state = 1 && (!d.busMaster || (ch.use ≠ 3 && d.completionFull ch) || (ch.use = 2 && ch.phase = 1 && !ch.inRun && !ch.badRun && !d.mode.forwards))

/-- The channel is in use, EXPORT (R381): it reads STATE 1, or Held while Bus Master Enable is 0 (R397). -/
def Device.exporting (d : Device) (c : Nat) : Bool := d.channelUse c = 3

/-- SIPHON_STATE: [2:0] STATE in its published code, [3] LATCHED, [7:4] HALT_CAUSE, [31:8] BUDGET_LEFT. -/
def Device.siphonState (d : Device) (c : Nat) : Nat :=
  let ch := d.channel c
  let code :=
    if ch.state = 5 then 5
    else if ch.state ≠ 1 ∧ d.exporting c then (if d.busMaster then 1 else 3)
    else if d.channelHeld ch then 3
    else ch.state
  code + 8 * ch.latched.toNat + 16 * ch.cause + 256 * min ch.budget 0xFFFFFF

/-! ### Status entries that follow the state -/

/-- The header of a cell (Table 9.2). -/
def cellHeader (c : Cell) : Nat :=
  c.state * 2 ^ 94 + c.owner * 2 ^ 78 + c.lastOwner * 2 ^ 62 + c.fill * 2 ^ 50 + c.last.toNat * 2 ^ 49 + c.charge * 2 ^ 47
    + c.inPort * 2 ^ 37 + c.inClass * 2 ^ 34 + c.next

/-- The records in every Middle (R246). -/
def Device.rackedRecords (d : Device) : Nat := (d.queued.filter (fun c => c.place = .cellar)).length

/-- The receive side of the port sleeps while its partner signals low-power idle (R132). -/
def Device.rxLpi (d : Device) (p : Nat) : Bool :=
  d.portExists p && d.portCtl p 7 && (d.portLanes p).all (fun l => d.rxState l = 1 || d.rxState l = 2)

/-- PORT_STATUS: the stored bits, with the fault bits, RX_LPI and the PCS code as they stand (R119, R132, Table 5.2). -/
def Device.portStatus (d : Device) (p : Nat) : Nat :=
  let w := d.cur (E.PORT_WIDTH p)
  let m := d.cur (E.LANE_MODE (d.cur (E.PORT_LANE_BASE p)))
  let v := setBit (setBit (d.rd (E.PORT_STATUS p)) 1 (d.portLocalFault p)) 2
    (d.portRemoteFault p)
  setBits (setBit v 7 (d.rxLpi p)) 16 4 (if d.portExists p then pcsCode w m else 0)

/-- Rows of a Mask bank valid in the current parity. -/
def Device.bankRows (d : Device) (b : Nat) : Nat :=
  (d.stores.mask.filter (fun e => storeBank 2 e.loc = b && e.valid d.parity)).length

/-- The Care array is being loaded for the mode that the armed transition enters (R173). -/
def Device.careLoading (d : Device) : Bool :=
  match d.armed with
  | some m => m.powersCare && !d.careLoaded
  | none => false

/-- RX_SNR (2000+L:0A) is measured by the Stave: its value is a free one at every read. -/
def isMeasured (a : Addr) : Bool := 0x2000 ≤ indexOf a && indexOf a < 0x2200 && subOf a = 0x0A

/-- The comparison of Recovery runs (R468). -/
def Device.comparing (d : Device) : Bool := decide (d.mode = .recovery) && d.rd E.RECOVERY_STATE = 1 && d.verify.comparedAt.isNone

/-- The work of R210 that holds a factory context in the model's state: restores and spare copies (0), the commit sweep,
refits, a Care load under way and the comparison of Recovery (1), a Harvest assembly (2). The passes of aging, of the shadow
comparison and of the scrubber hold context 2 from CONTEXT_PREEMPT until they end (log entry 176). -/
def Device.contextWork (d : Device) (c : Nat) : Bool :=
  match c with
  | 0 => d.restores ≠ [] || d.subst.any (fun x => !x.copied)
  | 1 => d.sweeping || d.refits ≠ [] || d.careLoading || d.comparing
  | 2 => d.tel.harvest.isSome
  | _ => false

/-- A routine runs or stands stopped in the context. -/
def Device.contextBusy (d : Device) (c : Nat) : Bool := (d.ctx.getD c {}).busy || d.contextWork c

/-- A context's bit is set in BG_STATUS while a routine runs or stands stopped there; pre-empted while a higher context is
busy too (R210, R211). -/
def Device.bgStatus (d : Device) : Nat :=
  (List.range 4).foldl (fun a c =>
    let busy := d.contextBusy c
    let above := (List.range c).any d.contextBusy
    a + busy.toNat * 2 ^ c + (busy && above).toNat * 2 ^ (4 + c))
    (bits (d.rd E.BG_STATUS) 8 13 * 256)

/-- BULK_SHARE_TOTAL_KIB: 2 KiB for each of the 960 Bulk channels, and what the listed shares differ. -/
def Device.bulkShare (d : Device) : Nat :=
  let listed := d.bk.filter (fun e => 0xA140 ≤ indexOf e.1 && indexOf e.1 < 0xA500 && subOf e.1 = 3)
  1920 + sumOn listed (·.2) - 2 * listed.length

/-- GPIO_IN: the levels at the balls (R486): an output's is its GPIO_OUT bit; an input's is what the board drives. -/
def Device.gpioIn (d : Device) : Nat :=
  let dir := d.rd E.GPIO_DIR
  (d.rd E.GPIO_OUT &&& dir) ||| (d.rd E.GPIO_IN &&& lnot 32 dir)

/-- Frames in flight with the previous vintage (R52). -/
def Device.inflightPrevious (d : Device) : Nat :=
  match d.previous with
  | some v => d.inflightOf (v % 256)
  | none => 0

/-- Headers in egress passes with the previous vintage's parity (R52). -/
def Device.egressPrevious (d : Device) : Nat :=
  match d.previous with
  | some v => sumOn (List.range 32) (fun s => SMap.get d.egressCount 0 (s * 2 + v % 2))
  | none => 0

/-- The codes of a commit's phases (Table 2.7). -/
def CommitState.code : CommitState → Nat
  | .idle => 0 | .checking => 1 | .preparing => 2 | .armed => 3 | .retiring => 4 | .refused => 5 | .aborted => 6

/-- A commit is in progress (R48). -/
def Device.committing (d : Device) : Bool := d.commit = .checking || d.commit = .preparing || d.commit = .armed

/-- WAIT of COMMIT_STATE (R54, R434): 1 a previous vintage or its sweep, 2 frames with the new VTAG, 3 the partner, 4 the
commit time. -/
def Device.waitCode (d : Device) : Nat :=
  match d.commit with
  | .preparing =>
    if d.previous.isSome || d.sweeping then 1
    else if !d.newDigest.isEmpty then 3
    else if d.inflightOf (d.rd E.VINTAGE_STAGING % 256) ≠ 0 then 2
    else 0
  | .armed =>
    if d.joined && !d.join.go then 3
    else if d.commitTime ≠ 0 && !d.timeDue d.commitTime then 4
    else 0
  | _ => 0

/-- COMMIT_STATE (Table 2.7). -/
def Device.commitWord (d : Device) : Nat := d.commit.code + 16 * d.waitCode + 256 * min d.lateNs 0xFFFFFF

/-- Entries of the Sorting Table that follow the state (Table 7.8, R164, R165): LATENCY reads what R164 gives from reset on
(DEDUCED, log entry 223). -/
def Device.liveTable (d : Device) (a : Addr) : Option Nat :=
  let i := indexOf a
  let s := subOf a
  if 0x4100 ≤ i ∧ i < 0x4200 ∧ s = 0x0E then
    let n := i - 0x4100
    some (latencyOf (d.rd (E.TARGET n)) (d.rd (E.POWER_MODE n)) (d.rd (E.PROFILE_FLAGS n)))
  else if 0x4200 ≤ i ∧ i < 0x43F0 ∧ s = 3 then some (d.physical 5 (i - 0x4200))
  else if 0x4200 ≤ i ∧ i < 0x43F0 ∧ s = 4 then some (d.bankRows (i - 0x4200))
  else if a = E.MASK_SPARES_FREE then some (d.sparesFree 5 [0])
  else if a = E.EXACT_SPARES_FREE then some (d.sparesFree 3 [0, 66, 132])
  else if a = E.LPM_SPARES_FREE then some (d.sparesFree 4 [0])
  else if a = E.MASK_BANKS_OUT then some (d.banksOut 5)
  else if a = E.EXACT_BANKS_OUT then some (d.banksOut 3)
  else if a = E.LPM_BANKS_OUT then some (d.banksOut 4)
  else if a = E.CARE_BANKS_OUT then some (d.banksOut 6)
  else if a = E.EXACT_USED then some d.stores.exact.length
  else if a = E.LPM4_USED then some (d.stores.lpm.filter (fun e => byteAt e.bytes 0 = 4)).length
  else if a = E.LPM6_USED then some (d.stores.lpm.filter (fun e => byteAt e.bytes 0 = 6)).length
  else if a = E.MASK_USED then some ((d.stores.mask.map (·.loc)).eraseDups).length
  else if a = E.CARE_USED then some ((d.stores.care.map (·.loc)).eraseDups).length
  else none

/-- Entries of the Cask and the Cellar that follow the state (Tables 9.4 to 9.7). -/
def Device.liveCask (d : Device) (a : Addr) : Option Nat :=
  let i := indexOf a
  if a = E.RESERVE_CLASS then some d.reserveClass
  else if a = E.UNITS_IN_SERVICE then some d.unitsInService
  else if a = E.FREE_UNITS then some d.freeUnits
  else if a = E.GUARD_UNITS then some d.guardUnits
  else if a = E.FRAME_RECORDS_FREE then some (1572864 - d.frames.length)
  else if a = E.COPY_DESCRIPTORS_FREE then some (4194304 - d.descriptors)
  else if 0x6500 ≤ i ∧ i < 0x6700 ∧ subOf a = 0x13 then
    some (sumOn (List.range 16) (fun q => d.cellarUse (16 * (i - 0x6500) + q)))
  else if a = E.CELLAR_CELLS_IN_SERVICE then some d.spillInService
  else if a = E.CELLAR_CELLS_FREE then some d.spillFree
  else if a = E.RACKED_RECORDS then some d.rackedRecords
  else if a = E.PC_SPARES_FREE then some (d.sparesFree 9 [0, 32, 64, 96])
  else if a = E.PC_OUT then some (d.banksOut 9)
  else if a = E.CASK_SPARES_FREE then some (d.sparesFree 8 [0, 25, 50, 75])
  else if a = E.CASK_BANKS_OUT then some (d.banksOut 8)
  else if a = E.CELL_HEADER then
    some (match d.cells.find? (fun c => c.handle = d.rd E.CELL_HANDLE) with
      | some c => cellHeader c
      | none => 0)
  else none

/-- The value of an entry that follows the state; none for an entry whose value is stored. -/
def Device.live (d : Device) (a : Addr) : Option Nat :=
  let i := indexOf a
  match d.liveTable a with
  | some v => some v
  | none =>
  match d.liveCask a with
  | some v => some v
  | none =>
  if 0x2400 ≤ i ∧ i < 0x2600 ∧ subOf a = 9 then some (d.portStatus (i - 0x2400))
  else if 0x2400 ≤ i ∧ i < 0x2600 ∧ subOf a = 0x0A then some (d.portRate (i - 0x2400))
  else if a = E.INFLIGHT_PREVIOUS then some d.inflightPrevious
  else if a = E.EGRESS_PREVIOUS then some d.egressPrevious
  else if a = E.COMMIT_STATE then some d.commitWord
  else if a = E.COMMIT then some d.committing.toNat
  else if a = E.CLEAR then some d.tel.clearArmed.isSome.toNat
  else if a = E.ENABLE then some (d.mode = .check && !d.installDue : Bool).toNat
  else if a = E.BG_STATUS then some d.bgStatus
  else if a = E.TIME_NOW then some d.now80
  else if a = E.BULK_SHARE_TOTAL_KIB then some d.bulkShare
  else if a = E.CHANNELS_RETIRED then some (d.channels.filter (fun c => c.state = 5)).length
  else if 0xA100 ≤ i ∧ i < 0xA500 ∧ subOf a = 0x0D then some (d.siphonState (i - 0xA100))
  else if a = E.MAP_RECORDS then some d.retired.length
  else if a = E.UNRETIRE_PENDING then some d.unretiring.length
  else if a = E.GPIO_IN then some d.gpioIn
  else none

/-- What a read of an existing entry returns (Table 0.2, R43): 0 for WO; the current copy of an RWV entry where the
request selects it, and the staging value otherwise. -/
def Device.value (d : Device) (a : Addr) (current : Bool) : Nat :=
  match findRow a with
  | none => 0
  | some r =>
    match r.acc with
    | .wo => 0
    | .rwv => if current then d.cur a else d.rd a
    | _ => (d.live a).getD (d.rd a)

/-! ### DOMAIN objects -/

/-- A record of the retirement map (Table 18.5). -/
def Retired.bytes (r : Retired) : List Byte :=
  beBytes 1 r.kind ++ beBytes 1 r.flags ++ beBytes 2 r.spare ++ beBytes 4 r.inst ++ beBytes 8 r.seconds

/-- The slots of a ring object of `n` slots of `size` bytes, 0 where a slot was never written. -/
def ringBytes (m : BMap) (n size : Nat) : List Byte :=
  (List.range n).flatMap (fun k => slice (BMap.get m [] k) 0 size)

/-- The header and the LENGTH bytes of image of a slot that is valid; the header alone of one that is not (R484). -/
def imageBytes (valid : Bool) (bs : List Byte) : List Byte :=
  bs.take (if valid then 256 + beNat (slice bs 16 4) else 256)

/-- A DOMAIN object as a read of it sees it (R43, R73). -/
def Device.object (d : Device) (a : Addr) (current : Bool) : List Byte :=
  match findRow a with
  | none => []
  | some r =>
    if a = E.COUNTERS then (List.range 2097152).flatMap (fun n => beBytes 4 (d.counter n))
    else if a = E.TX_STAMPS then (List.range 4096).flatMap (fun k => slice (d.tel.txStamps.getD k []) 0 16)
    else if a = E.RETIREMENT_MAP then d.retired.flatMap Retired.bytes
    else if a = E.BG_OUTPUT then d.bgOutput.flatten
    else if a = E.GAUGE_RECORDS then ringBytes d.gauge.mirrorRecords 96 33264
    else if a = E.GAUGE_AUDIT then ringBytes d.gauge.mirrorAudits 4096 64
    else if a = E.IMAGE_SLOT_A then imageBytes (d.board.failA = 0) (d.obj a)
    else if a = E.IMAGE_SLOT_B then imageBytes (d.board.failB = 0) (d.obj a)
    else match r.acc with
      | .rwv => if current then d.curObj a else d.obj a
      | .wo => []
      | _ => d.obj a

/-! ### Masks (R39 to R41) -/

/-- The factory write mask of an entry, in the principal bits of Table 2.4. -/
def factoryWriteMask (a : Addr) : Nat :=
  let i := indexOf a
  if i < 0x1000 then 0
  else if 0x1100 ≤ i ∧ i ≤ 0x11FF then 0x40001
  else if i = 0x9010 ∨ i = 0x9020 then 0x3FFFD
  else if 0xA100 ≤ i ∧ i < 0xA500 ∧ subOf a = 0x0B then 3
  else 0x7FFFD

/-- The factory read mask: all 19 principals. -/
def factoryReadMask : Nat := 0x7FFFF

/-- The deny bits of every rule that covers the entry's index, without those that R40 ignores. -/
def Device.denyBits (d : Device) (a : Addr) (write : Bool) : Nat :=
  let i := indexOf a
  let hit := (List.range 64).filter (fun n => d.rd (E.DENY_FIRST n) ≤ i && i ≤ d.rd (E.DENY_LAST n))
  let all := hit.foldl (fun m n => m ||| d.rd (if write then E.WRITE_DENY n else E.READ_DENY n)) 0
  let all := setBit all 18 false
  if 0x1000 ≤ i ∧ i ≤ 0x11FF then setBit all 0 false else all

/-- The effective mask of an entry (R40). -/
def Device.effectiveMask (d : Device) (a : Addr) (write : Bool) : Nat :=
  (if write then factoryWriteMask a else factoryReadMask) &&& lnot 32 (d.denyBits a write)

/-- The principal may read, or write, the entry. -/
def Device.permits (d : Device) (principal : Nat) (a : Addr) (write : Bool) : Bool :=
  bit (d.effectiveMask a write) principal

end Sys2Proof.Machine
end

