-- ==== Sys2Proof/Machine/Cellarhand.lean ====
section
/-! DEFINITION. The Cellarhand: its contexts, journals, operations, aborts and triggers (R210 to R220). -/

namespace Sys2Proof.Machine

open Sys2Proof

/-! ### Contexts -/

def Device.context (d : Device) (c : Nat) : Context := d.ctx.getD c {}

def Device.modContext (d : Device) (c : Nat) (f : Context → Context) : Device := { d with ctx := modAt d.ctx c f }

/-- A context whose routine has ended: its registers and flags stay, everything else is given up. -/
def Context.ended (c : Context) : Context :=
  { c with pc := none, stall := 0, waitRounds := 0, words := 0, trigger := 0, journal := [], busy := false, scrubbing := false }

/-- The address of a context's last word: context 3's stands in BG_STATUS; of a factory routine the spec prints no
addresses (log entry 28). -/
def Device.lastAddress (d : Device) (c : Nat) : Nat × Device :=
  if c = 3 then (bits (d.rd E.BG_STATUS) 8 13, d)
  else
    let r := d.draw
    (r.1 % 0x1800, r.2)

/-- A routine is aborted (R216): its journal is discarded, and the abort is counted, recorded and raised. -/
def Device.abortHand (d : Device) (c cause : Nat) : Device :=
  let r := d.lastAddress c
  let d := r.2.modContext c (fun x => { x.ended with output := [] })
  ((d.bumpSat E.BG_ABORTS 1).wr E.BG_LAST_ABORT (cause + 256 * c + 1024 * r.1)).raise Src.CELLARHAND_ABORT 0

/-- A record goes to the context's journal; a 65th aborts the routine (R210, R216). -/
def Device.journal (d : Device) (c : Nat) (r : JournalRecord) : Device :=
  if (d.context c).journal.length < 64 then d.modContext c (fun x => { x with journal := x.journal ++ [r] })
  else d.abortHand c 2

/-! ### Commits (R213, R214) -/

/-- An entry list of a store with a journaled record applied. -/
def journalEntries (shadow : List TableEntry) (store : Nat) (es : List TableEntry) (r : JournalRecord) : List TableEntry :=
  match r with
  | .entryWrite st loc bytes v0 v1 =>
    if st = store then liveEntries (insEntry (storedEntry loc bytes v0 v1) (es.filter (fun e => e.loc ≠ loc))) else es
  | .entryMove st src dst => if st = store then moveEntry (es.filter (fun e => e.loc ≠ dst || e.loc = src)) src dst else es
  | .restore st loc =>
    if st = store then
      (shadow.filter (fun e => e.loc = loc)).foldl (fun es e => insEntry e es) (es.filter (fun e => e.loc ≠ loc))
    else es
  | _ => es

/-- A record of the BG_OUTPUT ring (R219): the ROUND_COUNT at the commit, and the value; the oldest of 65,536 is
overwritten. -/
def Device.appendOutput (d : Device) (v : Nat) : Device :=
  let r := leBytes 8 (d.rd E.ROUND_COUNT) ++ leBytes 8 v
  let d := { d with bgWritten := d.bgWritten + 1 }
  if d.bgOutput.length < 65536 then { d with bgOutput := d.bgOutput ++ [r] }
  else { d with bgOutput := modAt d.bgOutput ((d.bgWritten - 1) % 65536) (fun _ => r) }.bumpSat E.BG_OUTPUT_LOST 1

/-- One journal record made visible. A write of an absent counter changes nothing. -/
def Device.applyRecord (d : Device) (c : Nat) (r : JournalRecord) : Device :=
  match r with
  | .counter n v => if n < 2097152 then d.setCounter n v else d
  | .raiseUser n => d.raise (Src.CELLARHAND_USER n) 0
  | .append v => if c = 3 then d.appendOutput v else d.modContext c (fun x => { x with output := x.output ++ [v] })
  | .bookWrite a v => d.wr a v
  | .restore store loc => d.restoreEntry store loc
  | .entryWrite store _ _ _ _ => d.setEntries store (journalEntries (d.shadow.get store) store (d.stores.get store) r)
  | .entryMove store _ _ => d.setEntries store (journalEntries (d.shadow.get store) store (d.stores.get store) r)

/-- The journal is applied in its order, as one step, and is then empty (R214). -/
def Device.commitJournal (d : Device) (c : Nat) : Device :=
  let rs := (d.context c).journal
  let d := d.modContext c (fun x => { x with journal := [] })
  rs.foldl (fun d r => d.applyRecord c r) d

/-! ### Reads (R213, R216) -/

/-- A counter as the context sees it: the value that its own journal holds pending, or the counter. -/
def Device.seenCounter (d : Device) (c n : Nat) : Nat :=
  ((d.context c).journal.foldl (fun v r => match r with
    | .counter m x => if m = n then some (x % 2 ^ 32) else v
    | _ => v) none).getD (d.counter n)

/-- The entries of a store as the context sees them. -/
def Device.seenEntries (d : Device) (c store : Nat) : List TableEntry :=
  (d.context c).journal.foldl (journalEntries (d.shadow.get store) store) (d.stores.get store)

/-- An entry's value as the context sees it. -/
def Device.seenEntry (d : Device) (c a : Nat) : Nat :=
  ((d.context c).journal.foldl (fun v r => match r with
    | .bookWrite b x => if b = a then some x else v
    | _ => v) none).getD (d.value a false)

/-- The location exists in its store (R175; LPM rows as log entry 27 numbers them). -/
def locationExists (store loc : Nat) : Bool :=
  match store with
  | 0 => loc < 3 * 2 ^ 22 && loc % 2 ^ 22 < 2 ^ 21
  | 1 => loc / 65536 < 64 && loc % 65536 < 49152
  | 2 => loc < 496 * 1024
  | 3 => loc < 16384
  | _ => false

/-! ### Operations (Table 8.6)

Each takes the context, the fields of the word and the device, and gives the device after the word's own effect. -/

def Device.handMov (d : Device) (c : Nat) (w : HandArgs) : Device :=
  d.modContext c (fun x => x.setReg w.dst (handB x w))

/-- ADD, SUB, AND, OR, XOR, SHL, SHR. -/
def Device.handAlu (d : Device) (c op : Nat) (w : HandArgs) : Device :=
  d.modContext c (fun x => x.setReg w.dst (handResult op (handA x w) (handB x w)))

def Device.handCmp (d : Device) (c : Nat) (w : HandArgs) : Device :=
  d.modContext c (fun x => x.compare (handA x w) (handB x w))

/-- BR: the next word is TARGET if COND holds; a reserved condition aborts (R216). -/
def Device.handBr (d : Device) (c : Nat) (w : HandArgs) : Device :=
  match branchTaken (d.context c) w.cond with
  | none => d.abortHand c 7
  | some true => if (d.context c).busy ∨ (d.context c).pc.isSome then
      d.modContext c (fun x => { x with pc := some (w.target % 8192) }) else d
  | some false => d

def Device.handRdcnt (d : Device) (c : Nat) (w : HandArgs) : Device :=
  let n := handB (d.context c) w
  if n < 2097152 then d.modContext c (fun x => x.setReg w.dst (d.seenCounter c n)) else d.abortHand c 4

def Device.handRdpair (d : Device) (c : Nat) (w : HandArgs) : Device :=
  let k := handB (d.context c) w
  if k < 1048576 then
    d.modContext c (fun x => x.setReg w.dst (d.seenCounter c (2 * k + 1) * 2 ^ 32 + d.seenCounter c (2 * k)))
  else d.abortHand c 4

def Device.handWrcnt (d : Device) (c : Nat) (w : HandArgs) : Device :=
  let x := d.context c
  d.journal c (.counter (handA x w) (handB x w % 2 ^ 32))

/-- RDENT: 64 bits, in word pair B of the entry in its transfer format, most significant byte first (log entry 27). -/
def Device.handRdent (d : Device) (c : Nat) (w : HandArgs) : Device :=
  let x := d.context c
  let store := handA x w / 2 ^ 60
  let loc := handA x w % 2 ^ 24
  let k := handB x w
  if locationExists store loc ∧ 8 * k < entrySize store then
    let v := match (d.seenEntries c store).find? (fun e => e.loc = loc) with
      | some e => beNat (slice e.bytes (8 * k) 8)
      | none => 0
    d.modContext c (fun x => x.setReg w.dst v)
  else d.abortHand c 4

/-- TSTHIT: HIT is read and cleared at once, outside the journal (R215). -/
def Device.handTsthit (d : Device) (c : Nat) (w : HandArgs) : Device :=
  let loc := handA (d.context c) w % 2 ^ 24
  if locationExists 0 loc then
    let hit := (d.stores.exact.find? (fun e => e.loc = loc)).elim false (·.hit)
    (d.setHit loc false).modContext c (fun x => x.setReg w.dst hit.toNat)
  else d.abortHand c 4

/-- RDBOOK: read as the principal host kernel; a read that is refused returns 0 and sets Z. A measured entry reads a free
value, as in a READ. -/
def Device.handRdbook (d : Device) (c : Nat) (w : HandArgs) : Device :=
  let a := handB (d.context c) w % 2 ^ 24
  match findRow a with
  | none => d.abortHand c 4
  | some r =>
    if r.ty = .domain ∨ !d.permits 0 a false then
      d.modContext c (fun x => { x.setReg w.dst 0 with z := true })
    else if isMeasured a then
      let v := d.draw
      v.2.modContext c (fun x => x.setReg w.dst (v.1 % 2 ^ (8 * r.ty.size)))
    else d.modContext c (fun x => x.setReg w.dst (d.seenEntry c a))

def Device.handRaise (d : Device) (c : Nat) (w : HandArgs) : Device :=
  d.journal c (.raiseUser (handB (d.context c) w % 16))

/-- WAIT: until B round boundaries have passed; the next one when B is 0. -/
def Device.handWait (d : Device) (c : Nat) (w : HandArgs) : Device :=
  d.modContext c (fun x => { x with waitRounds := max 1 (handB x w) })

def Device.handAppend (d : Device) (c : Nat) (w : HandArgs) : Device :=
  d.journal c (.append (handA (d.context c) w))

/-- END: the journal commits and the routine ends. -/
def Device.handEnd (d : Device) (c : Nat) : Device :=
  (d.commitJournal c).modContext c Context.ended

/-- Operations that read a counter, a table entry or a Cellar Book entry take up to 64 counted slots (R211). -/
def isHandRead (op : Nat) : Bool := op = 0x0B || op = 0x0C || op = 0x0E || op = 0x0F || op = 0x10

/-- The effect of an operation of Table 8.6; a reserved or factory code aborts with BAD_OP, and a read that meets an
uncorrectable error with UNCORRECTABLE (R216). -/
def Device.handEffect (d : Device) (c op : Nat) (w : HandArgs) : Device :=
  if w.faulty && isHandRead op then d.abortHand c 1
  else match op with
  | 0x00 => d
  | 0x01 => d.handMov c w
  | 0x02 => d.handAlu c 0x02 w
  | 0x03 => d.handAlu c 0x03 w
  | 0x04 => d.handAlu c 0x04 w
  | 0x05 => d.handAlu c 0x05 w
  | 0x06 => d.handAlu c 0x06 w
  | 0x07 => d.handAlu c 0x07 w
  | 0x08 => d.handAlu c 0x08 w
  | 0x09 => d.handCmp c w
  | 0x0A => d.handBr c w
  | 0x0B => d.handRdcnt c w
  | 0x0C => d.handRdpair c w
  | 0x0D => d.handWrcnt c w
  | 0x0E => d.handRdent c w
  | 0x0F => d.handTsthit c w
  | 0x10 => d.handRdbook c w
  | 0x11 => d.handRaise c w
  | 0x12 => d.handWait c w
  | 0x13 => d.handEnd c
  | 0x14 => d.handAppend c w
  | _ => d.abortHand c 7

/-- A word executes in a context: its own effect, then the commit that COMMIT asks for (R214). A word that aborted its
routine leaves an empty journal, so that no commit shows anything of it. A word fetched with an uncorrectable error aborts
its routine (R216, R453). -/
def Device.handWord (d : Device) (c op : Nat) (w : HandArgs) : Device :=
  if 4 ≤ c then d
  else if w.badFetch then d.abortHand c 1
  else
    let after := d.handEffect c op w
    if w.commit then after.commitJournal c else after

/-! ### Customer routines (R211, R216, R217) -/

/-- The word of the Cellarhand store that stands at an address of the customer region (R220). -/
def Device.customerWord (d : Device) (addr : Nat) : Nat :=
  beNat (slice (d.curObj E.BG_OPEN_IMAGE) (16 + 16 * (addr - 0x1800)) 16)

/-- A read of context 3 goes on (R211): it does not stop within its word. -/
def Device.readOn (d : Device) (faults : List SlotFault) : Device :=
  if faults.contains .handRead then d.abortHand 3 1 else d.modContext 3 (fun x => { x with stall := x.stall - 1 })

/-- Context 3 executes the word at its pc in this counted slot, where no higher context has the Cellarhand (R211); `faults`
says whether its fetch or the read that it makes meets an uncorrectable error. A word outside the customer region is none
that the enable check lets a routine reach (R220); it aborts with BAD_OP. -/
def Device.customerStep (d : Device) (faults : List SlotFault) : Device :=
  let x := d.context 3
  match x.pc with
  | none => d
  | some addr =>
    if (List.range 3).any d.contextBusy ∨ x.waitRounds ≠ 0 then d
    else
      let d := d.wrBits E.BG_STATUS 8 13 addr
      if addr < 0x1800 ∨ 0x2000 ≤ addr then d.abortHand 3 7
      else
        let w := d.customerWord addr
        let op := bits w 122 6
        let d := d.modContext 3 (fun x => { x with pc := some ((addr + 1) % 8192), words := x.words + 1 })
        let d := d.handWord 3 op { handArgs w with faulty := faults.contains .handRead, badFetch := faults.contains .handFetch }
        if (d.context 3).busy && decide (d.rd E.BG_WORD_LIMIT ≤ (d.context 3).words) then d.abortHand 3 3
        else if (d.context 3).busy && isHandRead op then
          let r := d.draw
          r.2.modContext 3 (fun x => { x with stall := r.1 % 64 })
        else d

/-- The lowest waiting trigger starts where context 3 is idle: its registers are 0. -/
def Device.startTrigger (d : Device) : Device :=
  match d.trigWaiting with
  | [] => d
  | t :: rest =>
    if (d.context 3).busy then d
    else
      let x : Context := { z := (d.context 3).z, c := (d.context 3).c, pc := some (d.cur (E.TRIG_ENTRY t)), trigger := t,
                           busy := true }
      ({ d with trigWaiting := rest }.modContext 3 (fun _ => x)).bumpSat (E.TRIG_STARTS t) 1

/-- A trigger number put in ascending order. -/
def insNat (n : Nat) : List Nat → List Nat
  | [] => [n]
  | x :: t => if n < x then n :: x :: t else if n = x then n :: t else x :: insNat n t

/-- The starts that fall due at a round boundary with this ROUND_COUNT (R217). -/
def Device.dueTriggers (d : Device) (round : Nat) : Device :=
  (List.range 16).foldl (fun (d : Device) t =>
    if d.cur (E.TRIG_ENABLE t) = 1 ∧ round % d.cur (E.TRIG_PERIOD t) = 0 then
      if d.trigWaiting.contains t || ((d.context 3).busy && (d.context 3).trigger = t) then d.bumpSat (E.TRIG_SKIPPED t) 1
      else { d with trigWaiting := insNat t d.trigWaiting }
    else d) d

/-- A round boundary passes for the waiting contexts. -/
def Device.handBoundary (d : Device) (round : Nat) : Device :=
  let d := { d with ctx := d.ctx.map (fun (x : Context) => { x with waitRounds := x.waitRounds - 1 }) }
  (d.dueTriggers round).startTrigger

/-- One restore from the shadow that waits takes effect (R183, R185): the work of context 0. -/
def Device.nextRestore (d : Device) : Device :=
  match d.restores with
  | [] => d
  | r :: _ => d.restoreEntry r.1 r.2

/-- One refit that waits takes effect (R187): the work of context 1. -/
def Device.nextRefit (d : Device) : Device :=
  match d.refits with
  | [] => d
  | r :: rest => ({ d with refits := rest } : Device).refitBank r.1 r.2

/-- A counted slot of the Cellarhand (R211): the start that is due, and one word: of a read of context 3 that is under way,
which no request stops; else of a restore that waits (context 0), of a refit (context 1), or of context 3. -/
def Device.handSlot (d : Device) (faults : List SlotFault) : Device :=
  let d := d.startTrigger
  if (d.context 3).stall ≠ 0 then d.readOn faults
  else if d.restores ≠ [] then d.nextRestore
  else if d.refits ≠ [] then d.nextRefit
  else d.customerStep faults

/-- A flip that changed E504 aborts the customer routine (R216). -/
def Device.flipHand (d : Device) (old : Nat) : Device :=
  if (d.context 3).busy ∧ d.objp old E.BG_OPEN_IMAGE ≠ d.curObj E.BG_OPEN_IMAGE then d.abortHand 3 6 else d

/-- The Cellarmaster aborts every routine that runs but the scrubber's (R457). The work that a factory routine was about
waits on, since its owner starts it again (R216). -/
def Device.abortAll (d : Device) : Device :=
  let d := { d with trigWaiting := [] }
  (List.range 4).foldl (fun (d : Device) c =>
    if d.contextBusy c && !(d.context c).scrubbing then d.abortHand c 5 else d) d

/-! ### The commands of one Cellarhand word -/

/-- A word of an operation executes in a context. A branch that falls through, like any other word, leaves the next word
to be the following one. -/
def State.hand (s : State) (c op : Nat) (w : HandArgs) : Host.Outcome State Fault Refusal :=
  s.on (fun d => d.handWord c op w)

def execCellarhandNop (context : Nat) (w : HandArgs) (s : State) : Host.Outcome State Fault Refusal := s.hand context 0x00 w
def execCellarhandMov (context : Nat) (w : HandArgs) (s : State) : Host.Outcome State Fault Refusal := s.hand context 0x01 w
def execCellarhandAdd (context : Nat) (w : HandArgs) (s : State) : Host.Outcome State Fault Refusal := s.hand context 0x02 w
def execCellarhandSub (context : Nat) (w : HandArgs) (s : State) : Host.Outcome State Fault Refusal := s.hand context 0x03 w
def execCellarhandAnd (context : Nat) (w : HandArgs) (s : State) : Host.Outcome State Fault Refusal := s.hand context 0x04 w
def execCellarhandOr (context : Nat) (w : HandArgs) (s : State) : Host.Outcome State Fault Refusal := s.hand context 0x05 w
def execCellarhandXor (context : Nat) (w : HandArgs) (s : State) : Host.Outcome State Fault Refusal := s.hand context 0x06 w
def execCellarhandShl (context : Nat) (w : HandArgs) (s : State) : Host.Outcome State Fault Refusal := s.hand context 0x07 w
def execCellarhandShr (context : Nat) (w : HandArgs) (s : State) : Host.Outcome State Fault Refusal := s.hand context 0x08 w
def execCmp (context : Nat) (w : HandArgs) (s : State) : Host.Outcome State Fault Refusal := s.hand context 0x09 w
def execBr (context : Nat) (w : HandArgs) (s : State) : Host.Outcome State Fault Refusal := s.hand context 0x0A w
def execRdcnt (context : Nat) (w : HandArgs) (s : State) : Host.Outcome State Fault Refusal := s.hand context 0x0B w
def execRdpair (context : Nat) (w : HandArgs) (s : State) : Host.Outcome State Fault Refusal := s.hand context 0x0C w
def execWrcnt (context : Nat) (w : HandArgs) (s : State) : Host.Outcome State Fault Refusal := s.hand context 0x0D w
def execRdent (context : Nat) (w : HandArgs) (s : State) : Host.Outcome State Fault Refusal := s.hand context 0x0E w
def execTsthit (context : Nat) (w : HandArgs) (s : State) : Host.Outcome State Fault Refusal := s.hand context 0x0F w
def execRdbook (context : Nat) (w : HandArgs) (s : State) : Host.Outcome State Fault Refusal := s.hand context 0x10 w
def execRaiseUser (context : Nat) (w : HandArgs) (s : State) : Host.Outcome State Fault Refusal := s.hand context 0x11 w
def execWait (context : Nat) (w : HandArgs) (s : State) : Host.Outcome State Fault Refusal := s.hand context 0x12 w
def execEndRoutine (context : Nat) (w : HandArgs) (s : State) : Host.Outcome State Fault Refusal := s.hand context 0x13 w
def execAppendRecord (context : Nat) (w : HandArgs) (s : State) : Host.Outcome State Fault Refusal := s.hand context 0x14 w

/-- The journal record of a factory operation (Table 8.6). -/
def factoryRecord (op : FactoryOp) : JournalRecord :=
  match op with
  | .entryWrite store loc bytes v0 v1 => .entryWrite store loc bytes v0 v1
  | .entryMove store src dst => .entryMove store src dst
  | .restore store loc => .restore store loc
  | .bookWrite a v => .bookWrite a v

/-- FACTORY_OPERATION (R212, R213): an entry write, a move, a shadow operation or a Book write goes to the journal. -/
def execFactoryOperation (context : Nat) (op : FactoryOp) (commit : Bool) (s : State) : Host.Outcome State Fault Refusal :=
  s.on (fun d =>
    if 4 ≤ context then d
    else
      let after := d.journal context (factoryRecord op)
      if commit then after.commitJournal context else after)

/-- JOURNAL_COMMIT (R214). -/
def execJournalCommit (context : Nat) (s : State) : Host.Outcome State Fault Refusal :=
  s.on (fun d => d.commitJournal context)

/-- CONTEXT_PREEMPT (R211): the context becomes ready and runs from the next word boundary; every lower context that runs
stands stopped until its routine ends. -/
def execContextPreempt (c : ContextStart) (s : State) : Host.Outcome State Fault Refusal :=
  s.on (fun d =>
    if c.context < 3 then d.modContext c.context (fun x => { x with busy := true, scrubbing := c.scrubs && c.context = 2 }) else d)

/-- A pass of context 2 ends, and with it the routine that held the context for it: the scrubber's, or another. -/
def Device.passEnds (d : Device) (scrub : Bool) : Device :=
  if (d.context 2).busy && ((d.context 2).scrubbing == scrub) then d.modContext 2 Context.ended else d

/-! ### Aging (R218) -/

/-- AGING_PASS (R218): the entries of the Exact table that are valid in the current parity and were not hit since the last
pass replace AGED_LIST, and every HIT tested is cleared. -/
def execAgingPass (s : State) : Host.Outcome State Fault Refusal :=
  s.on (fun d =>
    if d.rd E.AGE_ENABLE = 0 then d
    else
      let tested := d.stores.exact.filter (fun e => e.valid d.parity)
      let aged := (tested.filter (fun e => !e.hit)).foldl (fun xs e => putEntry 32 e.bytes xs) []
      let clear (e : TableEntry) : TableEntry := if e.valid d.parity then { e with hit := false } else e
      let d := { d with stores := { d.stores with exact := d.stores.exact.map clear } }
      (((d.setObj E.AGED_LIST (aged.take 65536).flatten).bumpSat E.AGED_PASSES 1).modContext 2 (fun x => { x with output := [] })).passEnds false)

end Sys2Proof.Machine
end

