-- ==== Sys2Proof/Machine/RetirementMap.lean ====
section
/-! DEFINITION. The board flash: its two copies of the retirement map, and what Boot reads of them (R451, R452, R458,
R483). -/

namespace Sys2Proof.Machine

open Sys2Proof

/-! ### Offsets (Table 20.5) -/

def flashMapA : Nat := 0x02200000
def flashMapB : Nat := 0x02210000
def flashSafeHold : Nat := 0x02220000

/-! ### Writing the map (R451) -/

/-- A copy of the map as the flash holds it: the header, with the CRC-32C over it and the records, and the records. -/
def mapImage (seq : Nat) (rs : List Retired) : List Byte :=
  let head := [0x55, 0x52, 0x54, 0x4D] ++ beBytes 4 seq ++ beBytes 2 rs.length ++ List.replicate 18 0
  let body := rs.flatMap Retired.bytes
  head ++ beBytes 4 (crc32c (head ++ body)) ++ body

/-- The newer copy of the map. -/
def Device.newestMap (d : Device) : Nat × List Retired := if d.mapA.1 < d.mapB.1 then d.mapB else d.mapA

/-- The whole map written into the copy with the lower sequence: up to 4,000 records, the oldest retirements (log entry
204). -/
def Device.writeMap (d : Device) : Device :=
  let seq := (d.newestMap.1 + 1) % 2 ^ 32
  let rs := d.retired.take 4000
  let d : Device := if d.mapA.1 < d.mapB.1 then
      ({ d with mapA := (seq, rs) } : Device).send (.flash flashMapA (mapImage seq rs))
    else ({ d with mapB := (seq, rs) } : Device).send (.flash flashMapB (mapImage seq rs))
  d.wr E.MAP_SEQUENCE seq

/-- The flash does not hold the map as it is now: a write is due (R451). Before Boot has read it there is none, and a map
that Boot rebuilds is written at Boot's end (R452). -/
def Device.mapPending (d : Device) : Bool :=
  d.mapRead && d.newestMap.2 ≠ d.retired.take 4000 && (d.mode ≠ .boot || d.rd E.MAP_STATE ≠ 1)

/-! ### Reading it at Boot (R452) -/

/-- A record of the map put in force: its instance out of service, and its spare in its place. -/
def Device.reapply (d : Device) (r : Retired) : Device :=
  let d : Device := { d with retired := d.retired ++ [r] }
  match r.kind with
  | 1 => d.laneOut r.inst
  | 2 =>
    let k := wireGroup r.inst
    let stave := bits r.inst 21 3
    let g := bits r.inst 6 5
    if SMap.get d.lanes.shifted 0 k ≠ 0 then d.wrBit (E.EXHAUSTED_MAP stave) g true
    else
      let d : Device := { d with lanes := { d.lanes with shifted := SMap.set d.lanes.shifted 0 k (bits r.inst 0 6 + 1) } }
      if bits r.inst 0 6 = 32 then d
      else d.wrBit (if bits r.inst 20 1 = 0 then E.RX_SPARE_MAP stave else E.TX_SPARE_MAP stave) g true
  | 7 => d
  | 10 => d.withChannel { d.channel r.inst with state := 5 }
  | k =>
    match d.logicalOf k r.inst with
    | some l =>
      let d := d.setMap k l (if bit r.flags 0 then r.spare else 0xFFFF)
      if k = 9 ∧ !bit r.flags 0 then d.moveSystem l else d
    | none => d

/-- A copy is erased flash, which holds no map yet. -/
def mapErased (m : Nat × List Retired) : Bool := m = (0, [])

/-- The map that Boot reads: the valid copy with the higher sequence is applied; two erased copies are an empty map; else it
is to be rebuilt from what self-test finds, and MAP_STATE is 1. `badA` and `badB` say that a copy's magic or CRC-32C is
wrong. -/
def Device.loadMap (d : Device) (badA badB : Bool) : Device :=
  let a := !badA && !mapErased d.mapA
  let b := !badB && !mapErased d.mapB
  let d : Device := { d with mapRead := true }
  if a || b then
    let m := if a && (!b || d.mapB.1 ≤ d.mapA.1) then d.mapA else d.mapB
    ((m.2.foldl (fun (d : Device) r => d.reapply r) d).wr E.MAP_SEQUENCE m.1).wr E.MAP_STATE 0
  else if badA || badB then d.wr E.MAP_STATE 1
  else (d.wr E.MAP_SEQUENCE 0).wr E.MAP_STATE 0

/-- A rebuilt map is written to both copies, with the sequence after the newest; RETIREMENT_MAP is raised once READY is 1
(R452). -/
def Device.writeRebuilt (d : Device) : Device :=
  if d.rd E.MAP_STATE = 1 then
    let seq := (d.newestMap.1 + 1) % 2 ^ 32
    let bs := mapImage seq d.retired
    let d : Device := { d with mapA := (seq, d.retired), mapB := (seq, d.retired) }
    (((d.send (.flash flashMapA bs)).send (.flash flashMapB bs)).wr E.MAP_SEQUENCE seq).raise Src.RETIREMENT_MAP 0
  else d

/-! ### The Safe-Hold log (R458) -/

/-- What the start of service reports of earlier runs (R458). -/
def Device.reportLast (d : Device) : Device :=
  (d.wr E.LAST_SAFE_HOLD_CAUSE d.flashCause).wr E.SAFE_HOLD_TOTAL d.flashTotal

/-- An entry into Safe-Hold in the flash's log (Table 20.5): TOTAL in the header, and a record of the cause, the detail and
the second in the ring's next place. -/
def Device.logSafeHold (d : Device) (cause detail : Nat) : Device :=
  let total := min (d.flashTotal + 1) 0xFFFFFFFF
  let place := (total + 4094) % 4095
  let r := beBytes 1 cause ++ [0, 0, 0] ++ beBytes 4 detail ++ beBytes 8 (d.now80 / 2 ^ 32)
  let d : Device := { d with flashCause := cause, flashTotal := total, flashLog := BMap.set d.flashLog [] place r }
  ((d.send (.flash flashSafeHold (beBytes 4 total))).send (.flash (flashSafeHold + 16 + 16 * place) r)).wr E.SAFE_HOLD_TOTAL total

end Sys2Proof.Machine
end

