-- ==== Sys2Proof/Machine/Hold.lean ====
section
/-! DEFINITION. The end of a check, and Safe-Hold: its entry, and the fatal faults that only enter it (R46, R47, R456 to
R458, R461, R466). -/

namespace Sys2Proof.Machine

open Sys2Proof

/-- A check ends (R46, R47): its reason, the offending entry where there is one, its detail, and CHECK_DONE. -/
def Device.endCheck (d : Device) (reason : Nat) (bad : Option Addr) (detail : Nat) : Device :=
  let e := match bad with
    | some a => 2 ^ 31 + a
    | none => bits (d.rd E.CHECK_ENTRY) 0 31
  (((d.wr E.CHECK_REASON reason).wr E.CHECK_ENTRY e).wr E.CHECK_DETAIL detail).raise Src.CHECK_DONE 0

/-- The other parity's copies of entries and objects take the values of the current one, the partner's with them. -/
def Device.alignCopies (d : Device) : Device :=
  if d.parity = 0 then { d with p1 := d.p0, objs1 := d.objs0, peer := { d.peer with copy1 := d.peer.copy0 } }
  else { d with p0 := d.p1, objs0 := d.objs1, peer := { d.peer with copy0 := d.peer.copy1 } }

/-- The copies of the parity that is not current equal the current parity's, on tables and objects (R57). -/
def Device.sweepCopies (d : Device) : Device :=
  let p := d.parity
  let d := (List.range 4).foldl (fun (d : Device) k => d.setEntries k (sweepEntries (d.stores.get k) p)) d
  d.alignCopies

/-- What Preparing has written is undone, so that the next check and its Preparing start from the same hardware (R169;
DEDUCED, log entry 200). -/
def Device.undoPreparing (d : Device) : Device :=
  if d.newDigest = [] then d else { d.sweepCopies with newDigest := [] }

/-- A commit in progress ends Aborted with a reason (R434, R466): one whose check still ran ends that check with it. -/
def Device.abortCommit (d : Device) (reason detail : Nat) : Device :=
  if !d.committing then d
  else
    let d := d.undoPreparing
    let d := if d.commit = .checking then d.endCheck reason none detail
      else (d.wr E.CHECK_REASON reason).wr E.CHECK_DETAIL detail
    { d with commit := .aborted
             join := { d.join with prepared := false, armFlip := none, acked := false, go := false } }

/-- Every object whose factory content phase 8 of Boot would load reads as empty (R461). -/
def Device.emptyFactory (d : Device) : Device :=
  [E.PARSE_STATES, E.INGRESS_PROGRAMS, E.FACTORY_IMAGE, E.POLICERS].foldl (fun (d : Device) a =>
    { d with objs := BMap.set d.objs (defaultObject a) a [], objs0 := BMap.set d.objs0 (defaultObject a) a []
             objs1 := BMap.set d.objs1 (defaultObject a) a [] }) d

/-- No transition is armed, and none is agreed with a partner. -/
def Device.disarm (d : Device) : Device :=
  { d with armed := none, armedPair := false, join := { d.join with partnerReady := false, toldReady := false, changeAt := none } }

/-- What runs when a device enters Safe-Hold stops (R457, R466): the check, the commit, the armed transition, a requested
Reset. -/
def Device.stopForHold (d : Device) : Device :=
  let d := if d.mode = .check ∧ !d.installDue then d.endCheck 0x0101 none 11 else d
  let d := d.abortCommit 0x0101 11
  { d.disarm with resetHold := false, installDue := false }

/-- The transmitters of every front-port and join lane are off (R457). -/
def Device.transmittersOff (d : Device) : Device :=
  (List.range 512).foldl (fun (d : Device) l => if d.txState l = 3 then d else d.setTxState l 3) d

/-- A fatal fault ends Boot (R461): the map is read, where phase 3 has not come to it, what earlier runs left is reported,
and READY is 1. -/
def Device.endedBoot (d : Device) : Device :=
  let d := if d.mapRead then d else d.loadMap false false
  let d : Device := { d.reportLast with ready := true }
  d.writeRebuilt.wr E.BOOT_TIME_US (min (d.clk.nowPs / 1000000) 0xFFFFFFFF)

/-- A fatal fault, or a request for Safe-Hold (R456 to R458): from any mode from Boot's phase 3 onwards. -/
def Device.safeHold (d : Device) (cause detail : Nat) : Device :=
  if d.mode = .off ∨ d.mode = .reset ∨ d.mode = .safeHold ∨ (d.mode = .boot ∧ d.bootPhase < 3) then d
  else
    let boot := d.mode = .boot
    let d := d.stopForHold
    let d := if boot then d.emptyFactory else d
    let d := if boot then d.endedBoot else d
    let d := d.enterMode .safeHold
    let d := (d.wr E.DRAIN_STATE 0).wr E.RECOVERY_STATE 0
    let d := ((d.wr E.SAFE_HOLD_CAUSE cause).wr E.SAFE_HOLD_DETAIL detail).wr E.SAFE_HOLD_TIME d.now80
    let d : Device := { d.logSafeHold cause detail with safeHoldSlots := 0 }
    let d := d.raise Src.SAFE_HOLD_ENTERED 0
    let d := d.ports'.foldl (fun (d : Device) p => d.portDown p) d
    let d := if d.joined then (d.sendLeave 4).split 4 else d
    let narrowed := match d.pow.choice with
      | some c => c.narrowed
      | none => bits (d.rd E.POWER_STATE) 16 8
    let rest : PowerChoice := { op := d.cur (E.PREF_MODE 6), skips := 0, narrowed := narrowed }
    let d : Device := { d with pow := { d.pow with choice := some rest } }
    d.transmittersOff.abortAll

/-! ### The fatal faults (Table 18.7) -/

/-- THERMAL_FATAL (R411): a Core or Stave sensor at or above 110 degrees for 1 ms. -/
def execThermalFatal (sensor : Nat) (s : State) : Host.Outcome State Fault Refusal :=
  s.on (fun d => if d.alive then ({ d with hot := true } : Device).safeHold 1 sensor else d)

/-- CORE_PLL (R456): the slot-clock PLL loses lock. -/
def execCorePll (s : State) : Host.Outcome State Fault Refusal :=
  s.on (fun d => d.safeHold 3 0)

/-- SUPPLY_UNDERVOLTAGE (R456): a Core rail more than 12 % below its setpoint for 10 us. -/
def execSupplyUndervoltage (rail : Nat) (s : State) : Host.Outcome State Fault Refusal :=
  s.on (fun d => d.safeHold 4 rail)

/-- FIRMWARE_SUPERVISION_FAULT (R456). -/
def execFirmwareSupervisionFault (code : Nat) (s : State) : Host.Outcome State Fault Refusal :=
  s.on (fun d => d.safeHold 5 (code % 2 ^ 32))

end Sys2Proof.Machine
end

