-- ==== Sys2Proof/Machine/Press.lean ====
section
/-! DEFINITION. The Press and the Sieve: the parse graph's walk, what it records, and the Press disposition
(chapter 06). -/

namespace Sys2Proof.Machine

open Sys2Proof

/-- Bits of PARSE_FLAGS (Table 6.6). -/
def PARSE_DONE : Nat := 0
def PARSE_TRUNCATED : Nat := 1
def LEN_CONFLICT : Nat := 2
def PARSE_FAIL : Nat := 3
def IPV4_CSUM_BAD : Nat := 4
def SIEVE_OVERFLOW : Nat := 5
def EXTRACT_SKIPPED : Nat := 6
def FRAME_LONG : Nat := 7

/-- The number of the first two bytes of an entry. -/
def entryNumber (e : List Byte) : Nat := beNat (e.take 2)

/-- The state of a number: absent numbers are invalid (R139). -/
def parseState (states : List (List Byte)) (n : Nat) : Option (List Byte) :=
  states.find? (fun e => entryNumber e = n && bit (byteAt e 2) 0)

/-- A window byte that the walk reads, or the flag that ends the walk (R144). -/
def winByte (win : List Byte) (contentEnd : Option Nat) (i : Nat) : Except Nat Nat :=
  if 512 ≤ i then .error PARSE_TRUNCATED
  else match contentEnd with
    | some c => if c ≤ i then .error LEN_CONFLICT else .ok (byteAt win i)
    | none => .ok (byteAt win i)

/-- A 16-bit field of two window bytes (R143). -/
def winField (win : List Byte) (contentEnd : Option Nat) (i : Nat) : Except Nat Nat :=
  match winByte win contentEnd i, winByte win contentEnd (i + 1) with
  | .ok a, .ok b => .ok (a * 256 + b)
  | .error e, _ => .error e
  | _, .error e => .error e

/-- The ones' complement sum of 16-bit words (an odd last byte is the upper byte of a word). -/
def onesSum : List Byte → Nat
  | [] => 0
  | [a] => a.toNat * 256
  | a :: b :: t =>
    let s := onesSum t + a.toNat * 256 + b.toNat
    if s ≥ 65536 then s - 65535 else s

/-- The header length that a state computes at the walk's position (R143). -/
def headerLength (win : List Byte) (ce : Option Nat) (e : List Byte) (pos : Nat) : Except Nat Nat :=
  if byteAt e 5 = 0 then .ok (byteAt e 3)
  else match winByte win ce (pos + byteAt e 4) with
    | .ok b => .ok (byteAt e 3 + ((b &&& byteAt e 5) / 2 ^ bits (byteAt e 6) 4 4) * bits (byteAt e 6) 0 4)
    | .error f => .error f

/-- The walk's bound after a state's claim, or the flag that ends the walk (R143). -/
def claimBound (win : List Byte) (ce : Option Nat) (e : List Byte) (w : Walk) (len : Nat) : Except Nat (Option Nat) :=
  if bit (byteAt e 2) 5 then
    match winField win ce (w.pos + byteAt e 8) with
    | .error f => .error f
    | .ok v =>
      let claim := w.pos + byteAt e 9 + v
      let beyond := match ce with
        | some c => decide (claim > c)
        | none => false
      let off := match w.bound with
        | some b => decide (claim > b) || (bit (byteAt e 2) 6 && claim ≠ b)
        | none => false
      if claim < w.pos + len || beyond || off then .error LEN_CONFLICT else .ok (some claim)
  else .ok w.bound

/-- The selector key under the state's mask (R143): a half whose mask is 0 is not read. -/
def selectorKey (win : List Byte) (ce : Option Nat) (e : List Byte) (pos : Nat) : Except Nat Nat :=
  let mask := beNat (slice e 12 4)
  let a := if bits mask 16 16 = 0 then .ok 0 else winField win ce (pos + byteAt e 10)
  let b := if bits mask 0 16 = 0 then .ok 0 else winField win ce (pos + byteAt e 11)
  match a, b with
  | .ok a, .ok b => .ok ((a * 65536 + b) &&& mask)
  | .error f, _ => .error f
  | _, .error f => .error f

/-- The (MD offset, byte) pairs of step 7 of R145, or the flag of a read outside the frame. A byte that a recirculation
pass skips is not read. -/
def mdCopy (win : List Byte) (ce : Option Nat) (e : List Byte) (pos : Nat) (recirc : Bool) :
    Nat → Except Nat (List (Nat × Nat))
  | 0 => .ok []
  | n + 1 =>
    match mdCopy win ce e pos recirc n with
    | .error f => .error f
    | .ok l =>
      if recirc ∧ 48 ≤ byteAt e 33 + n then .ok l
      else match winByte win ce (pos + byteAt e 32 + n) with
        | .ok b => .ok (l ++ [(byteAt e 33 + n, b)])
        | .error f => .error f

/-- Recording a header (R145): `copied` are the bytes of step 7, already read. -/
def recordHeader (win : List Byte) (e : List Byte) (len : Nat) (copied : List (Nat × Nat)) (w : Walk) : Walk :=
  let st := entryNumber e
  let fl := byteAt e 2
  let layer := bits fl 2 2
  let hdr := slice win w.pos len
  let w := if bit fl 4 && onesSum hdr % 65536 ≠ 0xFFFF then { w with flags := setBit w.flags IPV4_CSUM_BAD true } else w
  let v := (w.visits.filter (· = st)).length
  let group := bits (byteAt e 19) 4 4
  let w := if bit fl 1 then
      if v < bits (byteAt e 19) 0 4 && !w.extracted.any (fun x => x.1 ≠ st && group ≠ 0 && x.2 = group) then
        let src := slice hdr 0 (byteAt e 18)
        { w with hv := overlay w.hv (beNat (slice e 16 2) + v * byteAt e 20) src, extracted := (st, group) :: w.extracted }
      else { w with flags := setBit w.flags EXTRACT_SKIPPED true }
    else w
  let vb := byteAt e 21
  let w := if vb = 255 then w
    else { w with hvValid := w.hvValid ||| 2 ^ vb, upperValid := if layer = 0 then w.upperValid else w.upperValid ||| 2 ^ vb }
  let an := bits (byteAt e 22) 0 3
  let w := if an = 0 then w
    else { w with anchors := modAt w.anchors (an - 1) (fun _ => w.pos)
                  upperAnchors := if layer = 0 then w.upperAnchors else (an - 1) :: w.upperAnchors }
  let pr := beNat (slice e 24 2)
  let w := if pr = 0xFFFF then w else { w with profile := pr, profile2 := if layer = 0 then pr else w.profile2 }
  let w := { w with flags := w.flags ||| (byteAt e 23 * 256) }
  let w := copied.foldl (fun w c => { w with md := overlay w.md c.1 [BitVec.ofNat 8 c.2] }) w
  { w with lastState := st % 256, visits := st :: w.visits, count := w.count + 1 }

/-- The transition of a recorded header: (kind, next) (R143). -/
def transition (rows : List (List Byte)) (e : List Byte) (key : Nat) : Nat × Nat :=
  let base := beNat (slice e 26 2)
  let mask := beNat (slice e 12 4)
  match rows.find? (fun r => base ≤ entryNumber r && entryNumber r < base + byteAt e 28
      && bits (beNat (slice r 6 2)) 14 2 ≠ 3 && (beNat (slice r 2 4) &&& mask) = key) with
  | some r => (bits (beNat (slice r 6 2)) 14 2, bits (beNat (slice r 6 2)) 0 10)
  | none => (bits (byteAt e 29) 0 2, beNat (slice e 30 2))

/-- The walk stopped with a flag. -/
def Walk.stop (w : Walk) (flag : Nat) : Walk := { w with flags := setBit w.flags flag true }

/-- The walk from a state (R143); `fuel` is the number of headers that it may still record. DEFAULT_KIND 3 acts as FAIL
(log entry 20). -/
def walkFrom (states rows : List (List Byte)) (win : List Byte) (ce : Option Nat) (recirc : Bool) :
    Nat → Nat → Walk → Walk
  | 0, _, w => w.stop PARSE_TRUNCATED
  | fuel + 1, st, w =>
    match parseState states st with
    | none => w.stop PARSE_FAIL
    | some e =>
      match headerLength win ce e w.pos with
      | .error f => w.stop f
      | .ok len =>
        if len < byteAt e 7 then w.stop LEN_CONFLICT
        else if w.pos + len > 512 then w.stop PARSE_TRUNCATED
        else if (match ce with | some c => decide (w.pos + len > c) | none => false) then w.stop LEN_CONFLICT
        else match claimBound win ce e w len with
          | .error f => w.stop f
          | .ok bound =>
            let w := { w with bound := bound }
            match selectorKey win ce e w.pos, mdCopy win ce e w.pos recirc (byteAt e 34) with
            | .error f, _ => w.stop f
            | _, .error f => w.stop f
            | .ok key, .ok copied =>
              let w := recordHeader win e len copied w
              let t := transition rows e key
              let w := { w with pos := w.pos + len }
              if t.1 = 1 then w.stop PARSE_DONE
              else if t.1 ≠ 0 then w.stop PARSE_FAIL
              else walkFrom states rows win ce recirc fuel t.2 w

/-! ### The Sieve (R150, R151) -/

/-- The pattern matches with all its bytes from a start position. -/
def patternAt (p win : List Byte) (start : Nat) : Bool :=
  (List.range (byteAt p 3)).all (fun i =>
    ((byteAt win (start + i) ^^^ byteAt p (8 + i)) &&& byteAt p (40 + i)) = 0)

/-- The BASE position of a pattern; none where it names an unset anchor. -/
def patternBase (p : List Byte) (anchors : List Nat) : Option Nat :=
  let b := bits (byteAt p 2) 3 3
  if b = 0 then some 0
  else
    let a := anchors.getD (b - 1) 0xFFFF
    if a = 0xFFFF then none else some a

/-- The pattern may start at a position. -/
def patternStart (p : List Byte) (b start : Nat) : Bool :=
  let off := beNat (slice p 4 2)
  match bits (byteAt p 2) 1 2 with
  | 0 => b ≤ start
  | 1 => start = b + off
  | 2 => b ≤ start && start ≤ b + off
  | _ => false

/-- The hits of the Sieve over the searched bytes, by ascending end and pattern number: (pattern, class). -/
def sieveHits (patterns : List (List Byte)) (searched : List Byte) (anchors : List Nat) : List (Nat × Nat) :=
  (List.range (searched.length + 1)).flatMap (fun e =>
    patterns.filterMap (fun p =>
      if bit (byteAt p 2) 0 && byteAt p 3 ≤ e && byteAt p 3 ≠ 0 then
        match patternBase p anchors with
        | some b =>
          if patternStart p b (e - byteAt p 3) && patternAt p searched (e - byteAt p 3) then
            some (entryNumber p, byteAt p 6)
          else none
        | none => none
      else none))

/-- SIEVE_RESULT of the reported hits (R151). -/
def sieveResult (hits : List (Nat × Nat)) : Nat :=
  match hits with
  | [] => 0
  | h :: _ =>
    min hits.length 15 * 2 ^ 60 + h.1 * 2 ^ 48 + hits.foldl (fun a x => a ||| 2 ^ x.2) 0

/-! ### The Press's result -/

/-- The Press disposition of the set flags (R153): (action entry, flag, trap reason, discard code), by subindex. -/
def flagActions : List (Addr × Nat × Nat × Nat) := [
  (E.LEN_CONFLICT_ACTION, LEN_CONFLICT, 1, Reason.LEN_CONFLICT),
  (E.TRUNCATED_ACTION, PARSE_TRUNCATED, 2, Reason.PARSE_TRUNCATED),
  (E.FAIL_ACTION, PARSE_FAIL, 3, Reason.PARSE_FAIL),
  (E.CSUM_ACTION, IPV4_CSUM_BAD, 4, Reason.IPV4_CHECKSUM),
  (E.SIEVE_OVERFLOW_ACTION, SIEVE_OVERFLOW, 5, Reason.SIEVE_OVERFLOW),
  (E.SKIPPED_ACTION, EXTRACT_SKIPPED, 6, Reason.EXTRACT_SKIPPED)]

def Device.pressDisposition (d : Device) (parity flags : Nat) : Disp :=
  let set := flagActions.filter (fun a => bit flags a.2.1)
  match set.find? (fun a => d.rdp parity a.1 = 2) with
  | some a => .discard a.2.2.2
  | none =>
    match set.find? (fun a => d.rdp parity a.1 = 1) with
    | some a => .trap a.2.2.1 false
    | none => .none

/-- The start state of a source (R139): 0 front port, 1 recirculation, 2 host, 3 management port. -/
def Device.startState (d : Device) (parity source : Nat) : Nat :=
  d.rdp parity ([E.START_FRONT, E.START_RECIRC, E.START_INJECT, E.START_MGMT].getD source E.START_FRONT)

/-- The MD as it leaves the Press (Table 6.5). -/
def pressMd (f : Frame) (h : Header) (w : Walk) (hvValid profile : Nat) (anchors : List Nat) (length sieve : Nat) :
    List Byte :=
  beBytes 2 f.inPort ++ beBytes 1 h.vtag ++ beBytes 1 h.pass ++ beBytes 2 w.flags ++ beBytes 2 profile
    ++ beBytes 4 hvValid ++ anchors.flatMap (beBytes 2) ++ beBytes 1 (w.count + 32 * h.source) ++ beBytes 1 w.lastState
    ++ beBytes 2 length ++ beBytes 8 sieve ++ beBytes 10 f.rxTime ++ slice w.md 42 22

/-- The Press's counters of a walk (R159). -/
def Device.countWalk (d : Device) (s flags : Nat) : Device :=
  let d := d.bump64 (E.PRESS_PARSED s) 1
  [(PARSE_DONE, E.PRESS_DONE s), (PARSE_TRUNCATED, E.TRUNCATED s), (LEN_CONFLICT, E.LEN_CONFLICTS s),
    (PARSE_FAIL, E.FAILS s), (IPV4_CSUM_BAD, E.CSUM_BAD s), (SIEVE_OVERFLOW, E.SIEVE_OVERFLOWS s),
    (EXTRACT_SKIPPED, E.SKIPPED s)].foldl (fun d c => if bit flags c.1 then d.bump64 c.2 1 else d) d

/-- The header window (R138): bytes 0 to 511 of the frame, its FCS among them where they hold it. What the commands have
not yet given of a frame that has not ended are free values: by R137 the block has those bytes (log entry 21). -/
def Device.headerWindow (d : Device) (f : Frame) : Device × List Byte :=
  let bs := (f.bytes ++ f.fcs).take 512
  if f.ended then (d, bs) else d.padFree bs 512

/-- The claim beyond the end of a frame longer than 512 bytes, counted and marked (R146). -/
def Device.countLate (d : Device) (id slice bound len : Nat) : Device :=
  if 512 < len ∧ len - 4 < bound then
    (d.bump64 (E.LATE_LEN_CONFLICTS slice) 1).modFrame id (fun f => { f with late := true })
  else d

/-- A frame's end is known to intake: the claims that waited for it are checked (R146), the frame's own fate aside. -/
def Device.lateCheck (d : Device) (id len : Nat) : Device :=
  let cs := d.tel.lateClaims.filter (fun c => c.1 = id)
  if cs = [] then d
  else
    cs.foldl (fun (d : Device) c => d.countLate id c.2.1 c.2.2 len)
      { d with tel := { d.tel with lateClaims := d.tel.lateClaims.filter (fun c => c.1 ≠ id) } }

/-- The last bound of a walk over a frame longer than 512 bytes: checked now, or when its end comes (R146). -/
def Device.noteBound (d : Device) (f : Frame) (bound : Option Nat) : Device :=
  match bound with
  | none => d
  | some b =>
    if f.ended then d.countLate f.id f.slice b f.len
    else { d with tel := { d.tel with lateClaims := d.tel.lateClaims ++ [(f.id, f.slice, b)] } }

/-- The Press's work on a header (R137 to R154): the header as it enters ingress stage 0. The end is known of a frame of at
most 512 bytes, whose end has come by then (R137, R138; log entry 21). A header injected DIRECT has no flag action
(R296). -/
def Device.press (d : Device) (h : Header) (f : Frame) : Device × Header :=
  let q := h.parity
  let known := f.ended && f.len ≤ 512
  let ce := if known then some (f.len - 4) else none
  let window := d.headerWindow f
  let d := window.1
  let win := window.2
  let recirc := h.source = 1
  let md0 := if recirc then List.replicate 48 0 ++ slice f.md 48 16 else List.replicate 64 0
  let w0 : Walk := { hv := List.replicate 384 0, md := md0 }
  let w := walkFrom (pieces 40 (d.objp q E.PARSE_STATES)) (pieces 8 (d.objp q E.PARSE_ROWS)) win ce recirc 16
    (d.startState q h.source) w0
  let searched := if known then win.take (f.len - 4) else win
  let hits := sieveHits (pieces 72 (d.objp q E.SIEVE_PATTERNS)) searched w.anchors
  let w := if hits.length > 64 then { w with flags := setBit w.flags SIEVE_OVERFLOW true } else w
  let w := if known then w else { w with flags := setBit w.flags FRAME_LONG true }
  let disp := if h.direct.isSome then .none else d.pressDisposition q w.flags
  let cut := h.direct.isNone && bit w.flags LEN_CONFLICT && d.rdp q E.LEN_CONFLICT_ACTION = 0
  let hvValid := if cut then w.hvValid - (w.hvValid &&& w.upperValid) else w.hvValid
  let anchors := if cut then w.upperAnchors.foldl (fun a i => modAt a i (fun _ => 0xFFFF)) w.anchors else w.anchors
  let profile := if cut then w.profile2 else w.profile
  let md := pressMd f h w hvValid profile anchors (if known then f.len else 0) (sieveResult (hits.take 64))
  let d := d.countWalk h.slice w.flags
  ((if known then d else d.noteBound f w.bound), { h with flags := w.flags, pressDisp := disp, p := { h.p with hv := w.hv, md := md } })

end Sys2Proof.Machine
end

