-- ==== Sys2Proof/Machine/Journey.lean ====
section
/-! DEFINITION. A frame's way through the pipeline: admission, the ingress pass and its outcome, the Cask write and the
Replicator, the egress pass (R16 to R20, R49 to R52, R200, R209, R238 to R243, R287, R291 to R299). -/

namespace Sys2Proof.Machine

open Sys2Proof

/-! ### Admission (R17, R18, R20, R49, R225) -/

/-- The frames that a slice may admit: injected ones only while the device forwards (R295), none in Safe-Hold (R457) or
while the slice is clock-gated (R415). -/
def Device.admissible (d : Device) (s : Nat) : List Waiting :=
  if d.mode = .safeHold ∨ d.sliceGated s then []
  else d.waiting.filter (fun w => w.slice = s && (w.frame.source ≠ 2 || d.mode.forwards))

/-- The least requester after `last`, in ascending order with wrap, that has a header waiting. -/
def nextRequester (rs : List Nat) (last : Nat) : Option Nat :=
  match (rs.filter (fun r => last < r)).min? with
  | some r => some r
  | none => rs.min?

/-- The length that fixes a frame's body class (R225). -/
def Device.classLength (d : Device) (f : Frame) : Nat := if f.ended then f.len else d.cur (E.PORT_MTU f.chargePort)

/-- A waiting frame takes an opening of its slice: it is stamped, and a header enters the Press. A recirculated frame whose
VTAG has expired is discarded (R58). -/
def Device.admitHeader (d : Device) (w : Waiting) : Device :=
  let f := w.frame
  let again := f.source = 1
  let f : Frame := if again then f else { f with vtag := d.vintage % 256 }
  let f : Frame := if f.source ≥ 2 then { f with rxTime := d.now80 } else f
  let l := d.classLength f
  let f : Frame := { f with admitLength := l, bodyClass := d.bodyClass l, holder := w.slice, flying := true, count := 1 }
  let d := if again then d else d.inflightAdd w.slice f.vtag
  let d : Device := { d with waiting := d.waiting.filter (fun x => x.frame.id ≠ f.id), frames := d.frames ++ [f],
                             pow := { d.pow with headers := d.pow.headers + 1 } }
  if again && d.expired.contains f.vtag then d.dropFrame f.id Reason.VINTAGE_EXPIRED 0
  else
    let h : Header := { id := d.nextHeader, frame := f.id, slice := w.slice, egress := false, age := 0, pass := f.pass,
                        source := f.source, vtag := f.vtag, parity := f.vtag % 2, direct := f.direct }
    { d with headers := d.headers ++ [h], nextHeader := d.nextHeader + 1 }

/-- One opening of a slice, given the requester that took the one before. -/
def Device.opening (d : Device) (s last : Nat) : Device × Option Nat :=
  let ws := d.admissible s
  match nextRequester (ws.map (·.requester)) last with
  | none => (d, none)
  | some r =>
    match ws.find? (fun w => w.requester = r) with
    | none => (d, none)
    | some w => ({ d.admitHeader w with lastServed := SMap.set d.lastServed 0 s r }, some r)

/-- The two openings of a slice in a slot go to the next two requesters that have a header waiting (R18); where one alone
has headers waiting it takes both, as the rates of R21 require (DEDUCED, log entry 196). -/
def Device.admitSlice (d : Device) (s : Nat) : Device :=
  let a := d.opening s (SMap.get d.lastServed 0 s)
  match a.2 with
  | none => d
  | some r => (a.1.opening s r).1

def Device.admitAll (d : Device) : Device :=
  (d.waiting.map (·.slice)).eraseDups.foldl (fun (d : Device) s => d.admitSlice s) d

/-! ### Stages (R16, R190, R202) -/

/-- An entry of a program table: its address and PASS_LIMIT; none where it is not valid (R202). -/
def programEntry (table : List Byte) (n : Nat) : Option (Nat × Nat) :=
  let e := slice table (4 * n) 4
  if bit (byteAt e 3) 0 then some (beNat (e.take 2) % 2 ^ 14, byteAt e 2) else none

/-- A header leaves the Press for ingress stage 0 (R143 to R154, R202, R296). -/
def Device.enterIngress (d : Device) (h : Header) : Device :=
  match d.frame? h.frame with
  | none => d
  | some f =>
    let r := d.press h f
    let d := r.1
    let x := r.2
    let program := programEntry (d.objp h.parity E.INGRESS_PROGRAMS) (beNat (slice x.p.md 6 2) % 1024)
    let x : Header :=
      if h.direct.isSome then { x with pressDisp := .none }
      else match program with
        | some e => { x with p := { x.p with next := some e.1, passLimit := e.2 } }
        | none => { x with p := { x.p with disp := .trap 16 true } }
    let d := if h.direct.isNone && program.isNone then d.bump64 (E.NO_PROGRAM h.slice) 1 else d
    (d.modHeader h.id (fun _ => x)).beginStage h.id 0

/-- The stage work of a header whose age is `age` counted slots after it entered stage 0 of its pass (8 slots a stage). -/
def Device.stageAt (d : Device) (id age stages : Nat) (bad : List (Nat × Nat)) : Device :=
  if age % 8 ≠ 0 ∨ age = 0 ∨ 8 * stages < age then d
  else
    let d := d.endStage id bad
    if age = 8 * stages then d.modPass id (fun p => p.applyColour) else d.beginStage id (age / 8)

/-! ### The outcome of an ingress pass (R155, R200, R209, R241, R294 to R296) -/

/-- The group of a number in a MC_GROUPS object (R240): its flags, first counter and members. -/
def findGroup (g : Nat) : Nat → List Byte → Option (Nat × Nat × List Nat)
  | 0, _ => none
  | fuel + 1, bs =>
    if bs.length < 8 then none
    else
      let n := beNat (slice bs 2 2)
      if beNat (bs.take 2) = g then
        some (byteAt bs 4, beNat (slice bs 5 3) % 2 ^ 21, (List.range n).map (fun i => beNat (slice bs (8 + 2 * i) 2)))
      else findGroup g fuel (bs.drop (8 + (2 * n + 7) / 8 * 8))

def Device.group (d : Device) (parity g : Nat) : Option (Nat × Nat × List Nat) :=
  let bs := d.objp parity E.MC_GROUPS
  findGroup g (bs.length / 8) bs

/-- A copy of a frame before it is offered. -/
def newCopy (f : Frame) (queue port tc eprog : Nat) (kind : CopyKind) : Copy :=
  { id := 0, frame := f.id, queue := queue, kind := kind, eprog := eprog, tc := tc, port := port, entered := 0 }

/-- The copy of a FORWARD: to a front queue, the management port queue, or a cross queue (R198, R423). -/
def Device.forwardCopy (d : Device) (f : Frame) (port tc eprog : Nat) : Copy :=
  match d.localPort port with
  | some p => newCopy f (frontQueue p 0 tc) p tc eprog .unicast
  | none =>
    if port = 0x840 then newCopy f mgmtQueue port tc eprog .unicast else newCopy f (crossQueue tc) port tc eprog .unicast

/-- The copies of a multicast group's members on this member, in list order (R241, R425); one for a port that has ceased to
exist too, which its queue's head discards (R302). A discard counts i units after the group's base (R332). -/
def Device.memberCopies (d : Device) (f : Frame) (g : Nat × Nat × List Nat) (tc eprog : Nat) : List Copy :=
  (List.range g.2.2.length).filterMap (fun i =>
    let m := g.2.2.getD i 0
    let counter := if bit g.1 1 then some (d.unitAt g.2.1 i) else none
    if m = f.inPort && !bit g.1 0 then none
    else if m = 0x840 then some (newCopy f mgmtQueue m tc eprog (.member i counter))
    else (d.localPort m).map (fun p => newCopy f (frontQueue p 1 tc) p tc eprog (.member i counter)))

/-- The members of a group on the partner that take part (R423). -/
def Device.partnerMembers (d : Device) (f : Frame) (g : Nat × Nat × List Nat) : List Nat :=
  g.2.2.filter (fun m => m < 1024 && d.joined && (d.localPort m).isNone && (m ≠ f.inPort || bit g.1 0))

/-- The copies of an MCAST: the members on this member, and one crossing copy for those on the partner (R241, R423). -/
def Device.mcastCopies (d : Device) (f : Frame) (g tc eprog : Nat) : List Copy :=
  match d.group (f.vtag % 2) g with
  | none => []
  | some grp =>
    d.memberCopies f grp tc eprog
      ++ (if d.partnerMembers f grp = [] then [] else [newCopy f (crossQueue tc) 0xFFFF tc eprog (.cross g)])

/-- The disposition with which a header's ingress pass ends (R193, R58, R200). A word fetched in error comes before what the
Press chose, since both are carried out at the end of the pass (DESIGN CHOICE, log entry 199). -/
def outcome (h : Header) : Disp :=
  if h.p.vintageExpired then .discard Reason.VINTAGE_EXPIRED
  else if h.p.storeError then .discard Reason.STORE_ERROR
  else match h.direct with
    | some x => .forward x.1 x.2.1
    | none =>
      if h.pressDisp ≠ .none then h.pressDisp
      else if h.p.policedRed then .discard Reason.POLICED_RED
      else if h.p.disp = .none then .discard Reason.NO_DISPOSITION
      else h.p.disp

/-- A trap with a reason (R155): policed, and sent to its CPU queue; the device, and the copy or the discard. -/
def Device.trapOutcome (d : Device) (h : Header) (f : Frame) (r : Nat) (miss : Bool) : Device × Except Nat (List Copy) :=
  let q := h.parity
  let p := d.police q (d.rdp q (E.TRAP_POLICER r)) f.id (d.chargeBytes f q) f.ended
  if p.2 = 2 then (p.1.bump64 (E.REASON_POLICED r) 1, .error Reason.TRAP_POLICED)
  else
    let punt := miss || d.rdp q (E.IS_PUNT r) = 1
    let d := (p.1.bump64 (E.REASON_TRAPPED r) 1).modFrame f.id (fun f => { f with trapped := true, punt := punt })
    (d, .ok [newCopy f (cpuQueue (d.rdp q (E.TRAP_QUEUE r))) 0x800 0 0 (.trap r punt)])

/-- What becomes of a frame's disposition: its copies, or the reason of its discard. -/
def Device.dispose (d : Device) (h : Header) (f : Frame) : Device × Except Nat (List Copy) :=
  match outcome h with
  | .none => (d, .error Reason.NO_DISPOSITION)
  | .badPort => (d, .error Reason.BAD_PORT)
  | .discard code => (d, .error code)
  | .forward port tc =>
    if d.isTarget h.parity port then (d, .ok [d.forwardCopy f port tc ((h.direct.map (·.2.2)).getD h.p.eprog)])
    else (d, .error Reason.BAD_PORT)
  | .mcast g tc =>
    match d.mcastCopies f g tc h.p.eprog with
    | [] => (d, .error Reason.MC_NO_MEMBER)
    | cs => (d, .ok cs)
  | .trap r miss => d.trapOutcome h f r miss
  | .recirc =>
    if h.pass + 1 ≤ h.p.passLimit then
      (d.bump64 (E.RECIRC_PASSES h.slice) 1, .ok [newCopy f (recircQueue h.slice) (0x820 + h.slice) 0 0 .recirc])
    else (d, .error Reason.PASS_LIMIT)

/-- The detail of a discard's record. -/
def lossDetail (h : Header) (code : Nat) : Nat :=
  if code = Reason.PROGRAM_DISCARD then h.p.code
  else if code = Reason.TRAP_POLICED then
    (match outcome h with
      | .trap r _ => r
      | _ => 0)
  else 0

/-- Copies numbered from the next copy number on. -/
def numberCopies (n : Nat) : List Copy → List Copy
  | [] => []
  | c :: t => { c with id := n } :: numberCopies (n + 1) t

/-- A mirror session's destination has a queue: every one but 0xFFFF, a front port that no longer exists included (R298,
R302); a port of the partner only while the join is formed (DEDUCED, log entry 171). -/
def Device.mirrorMakes (d : Device) (parity m : Nat) : Bool :=
  let dest := d.rdp parity (E.MIRROR_DEST m)
  dest ≠ 0xFFFF && (dest = 0x800 || dest = 0x840 || (d.localPort dest).isSome || (d.joined && dest < 1024))

/-- The ingress pass of a frame ends that was discarded part-way in it: its mirror copies go with its cells (R231; DEDUCED,
log entry 198), and its record is complete (R328). -/
def Device.endDropped (d : Device) (f : Frame) (mirrors : List Copy) (code : Nat) : Device :=
  let d := mirrors.foldl (fun (d : Device) c => d.refuseCopy c code) d
  (d.frameRecord f code 0 f.sampled).releaseFrame f.id

/-- An ingress pass ends in slot `n` (R200, R287, R291): the frame keeps what its egress passes need, and its copies wait
for the Cask write in slot n + 64, or with others for the Replicator job in slot n + 63. -/
def Device.endIngress (d : Device) (h : Header) (n : Nat) : Device :=
  let d : Device := { d with headers := d.headers.filter (fun x => x.id ≠ h.id) }
  match d.frame? h.frame with
  | none => d
  | some f =>
    let f : Frame := { h.frameNow f with hv := h.p.hv, emitLength := h.p.emitLength, bodyOffset := h.p.bodyOffset }
    let d := d.modFrame f.id (fun _ => f)
    let mirrors := (h.p.mirrors.filter (d.mirrorMakes h.parity)).map (fun m => d.mirrorCopy f h.parity m false)
    match f.dropped with
    | some code => d.endDropped f mirrors code
    | none =>
      let o := d.dispose h f
      let d := o.1
      let d := match o.2 with
        | .error code => if h.p.vintageExpired then d else d.countFrame f.id code (lossDetail h code)
        | .ok _ => d
      let d := match outcome h, o.2 with
        | .trap _ _, _ => d.land f.id
        | _, .error _ => d.land f.id
        | _, _ => d
      let cs := (match o.2 with | .ok cs => cs | .error _ => []) ++ mirrors
      let multi := 1 < cs.length
      let cs := numberCopies d.nextCopy (cs.map (fun c => { c with multi := multi }))
      if cs = [] then d.releaseFrame f.id
      else
        let j : Job := { slice := h.slice, frame := f.id, copies := cs, due := n + (if multi then 63 else 64), multi := multi }
        let d : Device := { d with nextCopy := d.nextCopy + cs.length, jobs := d.jobs ++ [j] }
        d.modFrame f.id (fun f => { f with headBytes := headBlockBytes f.hv })

/-! ### The Cask write and the Replicator (R232, R242, R243) -/

/-- A frame written to its queues ends its flight, but for one that goes to a recirculation or a cross queue (R52, R426). -/
def Device.landJob (d : Device) (j : Job) : Device :=
  if j.copies.any (fun c => isCross c.queue || c.kind = .recirc) then d else d.land j.frame

def Device.setJob (d : Device) (frame : Nat) (f : Job → Job) : Device :=
  { d with jobs := modFirst d.jobs (fun j => j.frame = frame) f }

def Device.endJob (d : Device) (frame : Nat) : Device := { d with jobs := d.jobs.filter (fun j => j.frame ≠ frame) }

/-- A frame's only copy is written to its queue in slot `n`. -/
def Device.writeSingle (d : Device) (j : Job) (n : Nat) : Device :=
  let d := (d.landJob j).endJob j.frame
  match j.copies with
  | [] => d.releaseFrame j.frame
  | c :: _ =>
    let d := d.handOver j.frame (tokenOf c.queue)
    match d.offer c n with
    | .ok d => d
    | .error code => d.dropCopy c code false none

/-- A frame with several copies is handed to the Replicator, or finds its queue of 4,096 jobs full: those written before it
that have not started (R242). Its flight ends here, when its cells are the Replicator's (DESIGN CHOICE, log entry 197). -/
def Device.writeMulti (d : Device) (j : Job) : Device :=
  let before := d.jobs.takeWhile (fun x => x.frame ≠ j.frame)
  let queued := (before.filter (fun x => x.slice = j.slice && x.multi && !x.started)).length
  let d := d.landJob j
  if 4096 ≤ queued then (d.endJob j.frame).dropFrame j.frame Reason.REPLICATION_FULL 0
  else d.handOver j.frame replicatorToken

/-- One copy of a running job is offered. -/
def Device.offerJobCopy (d : Device) (c : Copy) (n : Nat) : Device :=
  match d.offer c n with
  | .ok d => d.modFrame c.frame (fun f => { f with count := f.count + 1 })
  | .error code =>
    let d := d.refuseCopy c code
    if isCross c.queue ∧ !d.queued.any (fun x => x.frame = c.frame && isCross x.queue) then d.land c.frame else d

/-- A running job offers up to 16 copies in slot `n`, and ends when it has offered all. -/
def Device.runJob (d : Device) (j : Job) (n : Nat) : Device :=
  if !j.started ∨ n ≤ j.startSlot then d
  else
    let d := (j.copies.take 16).foldl (fun (d : Device) c => d.offerJobCopy c n) d
    let rest := j.copies.drop 16
    if rest = [] then (d.endJob j.frame).releaseFrame j.frame else d.setJob j.frame (fun x => { x with copies := rest })

/-- The new frame of an egress mirror still asks for a cell. -/
def Device.awaitsCells (d : Device) (frame : Nat) : Bool :=
  match d.frame? frame with
  | some f => f.follows.isSome && (d.wants f).isSome
  | none => false

/-- The Cask writes and the Replicator's work in slot `n`. An egress mirror enters its queue once it has its cells, well
within the 64 slots of R299. -/
def Device.serveJobs (d : Device) (n : Nat) : Device :=
  d.jobs.foldl (fun (d : Device) j =>
    if j.multi then (if j.due = n then d.writeMulti j else d.runJob j n)
    else if j.due ≤ n ∧ !d.awaitsCells j.frame then d.writeSingle j n
    else d) d

/-- REPLICATION_JOB_START (R242, R291): the idle engine of a slice (32 for the join's) takes its oldest job. -/
def execReplicationJobStart (slice : Nat) (s : State) : Host.Outcome State Fault Refusal :=
  s.on (fun d =>
    if d.jobs.any (fun j => j.slice = slice && j.started) then d
    else match d.jobs.find? (fun j => j.slice = slice && j.multi && j.due ≤ d.clk.slots) with
      | some j => d.setJob j.frame (fun x => { x with started := true, startSlot := max j.due (d.clk.slots - 1) })
      | none => d)

/-! ### The egress pass (R50, R192, R201, R299) -/

def egressKey (slice parity : Nat) : Nat := slice * 2 + parity % 2

def Device.countEgress (d : Device) (k : Nat) (up : Bool) : Device :=
  let v := SMap.get d.egressCount 0 k
  { d with egressCount := SMap.set d.egressCount 0 k (if up then v + 1 else v - 1) }

/-- A copy's head enters egress stage 0 (R50, R192). A copy that carries its frame as received runs no word (log entry 29). -/
def Device.enterEgress (d : Device) (t : Tx) : Device :=
  match d.frame? t.copy.frame with
  | none => d
  | some f =>
    let c := t.copy
    let q := d.parity
    let asIs := c.kind.asReceived
    let program := programEntry (d.objp q E.EGRESS_PROGRAMS) c.eprog
    let md := overlay (overlay (slice f.md 0 64) 42 (beBytes 2 (d.jointPort c.port))) 44 [BitVec.ofNat 8 c.tc]
    let p : Pass := { hv := slice f.hv 0 384, md := md, emitLength := if asIs then 0 else f.emitLength,
                      bodyOffset := if asIs then 0 else f.bodyOffset,
                      next := if asIs then none else program.map (·.1) }
    let s := d.sliceOf c.port
    let h : Header := { id := d.nextHeader, frame := f.id, slice := s, egress := true, age := 0, pass := f.pass,
                        source := f.source, vtag := f.vtag, parity := q, copy := some c, held := some f, p := p }
    let d : Device := { d with headers := d.headers ++ [h], nextHeader := d.nextHeader + 1 }
    (d.countEgress (egressKey s q) true).beginStage h.id 0

/-- An egress mirror copy (R299): a new frame of at most 256 bytes, which the egress slice's writer stores in cells charged
shared with IN_PORT 0x3FF, asking for them from the next slot on. Of a frame that has not ended, the bytes that no command
has given are free values (log entry 21). The copy takes the verdict of the frame that it mirrors (R298). -/
def Device.egressMirror (d : Device) (h : Header) (f : Frame) (n m : Nat) : Device :=
  let q := h.vtag % 2
  if d.mirrorMakes q m then
    let cut := d.rdp q (E.MIRROR_TRUNCATE m)
    let limit := if cut = 0 then 256 else min 256 cut
    let out := slice h.p.hv 0 h.p.emitLength ++ f.bytes.drop h.p.bodyOffset
    let r := if f.ended then (d, out) else d.padFree out limit
    let d := r.1
    let bytes := r.2.take limit
    let len := bytes.length + 4
    let g : Frame := { id := d.nextFrame, slice := h.slice, inPort := f.inPort, chargePort := 0x3FF, inClass := 0,
                       source := f.source, bytes := bytes, fcs := fcsOf bytes true, ended := true, len := len,
                       rxTime := f.rxTime, vtag := f.vtag, pass := f.pass, cls := f.cls, verdict := f.verdict,
                       verdictSlot := f.verdictSlot, follows := some (f.id, f.ended), holder := h.slice, md := f.md,
                       sampled := f.sampled, headBytes := headBlockBytes [], admitLength := len, bodyClass := d.bodyClass len }
    let c : Copy := { d.mirrorCopy f q m true with frame := g.id }
    let j : Job := { slice := h.slice, frame := g.id, copies := [c], due := n + 1, multi := false }
    { d with nextFrame := d.nextFrame + 1, nextCopy := d.nextCopy + 1, frames := d.frames ++ [g], jobs := d.jobs ++ [j] }
  else d

/-- An egress pass ends in slot `n`: its mirrors are made, whatever has become of the mirrored copy (R298), and the copy's
bytes are fixed, or the copy is discarded. -/
def Device.endEgress (d : Device) (h : Header) (n : Nat) : Device :=
  let d : Device := { d with headers := d.headers.filter (fun x => x.id ≠ h.id) }
  let d := d.countEgress (egressKey h.slice h.parity) false
  let d := match d.frameOf h with
    | some f => h.p.mirrors.foldl (fun (d : Device) m => d.egressMirror h f n m) d
    | none => d
  match h.copy, d.frame? h.frame with
  | some c, some f =>
    if !d.dec.tx.any (fun t => t.copy.id = c.id) then d
    else
      let d := d.modFrame f.id (fun f => { f with sampled := f.sampled ++ h.p.sampled })
      if h.p.storeError then d.dropCopy c Reason.STORE_ERROR true none
      else match h.p.disp with
        | .discard code => d.dropCopy c code true (some h.p.code)
        | _ =>
          d.modTx c.id (fun t =>
            { t with passed := true, head := slice h.p.hv 0 h.p.emitLength, bodyOffset := h.p.bodyOffset,
                     stamp := h.p.stamp, ioam := h.p.ioam, hop := byteAt h.p.md 45 })
  | _, _ => d

/-- A copy passes to the management port's transmit FIFO of 64 KiB, or finds it full (R136). -/
def Device.enterFifo (d : Device) (c : Copy) : Device :=
  if c.port = 0x840 then
    let used := sumOn (d.dec.tx.filter (fun t => t.port = 0x840 && t.passed)) (fun t => d.txLength t)
    if 65536 < used then d.dropCopy c Reason.MGMT_FIFO_FULL true none else d
  else d

/-! ### The headers of a slot -/

/-- A header's next counted slot. -/
def Device.headerSlot (d : Device) (h : Header) (n : Nat) (bad : List (Nat × Nat)) : Device :=
  let age := h.age + 1
  let d := d.modHeader h.id (fun h => { h with age := age })
  let now := { h with age := age }
  if h.egress then
    let d := d.stageAt h.id age 12 bad
    if age = 96 then (match d.header? h.id with | some x => x.copy.elim (d.endEgress x n) (d.endEgress x n).enterFifo | none => d) else d
  else if age = 48 then d.enterIngress now
  else if 48 < age then
    let d := d.stageAt h.id (age - 48) 24 bad
    if age = 240 then (match d.header? h.id with | some x => d.endIngress x n | none => d) else d
  else d

/-- A header before the others of its slice and of those above. -/
def insBySlice (h : Header) : List Header → List Header
  | [] => [h]
  | x :: t => if h.slice ≤ x.slice then h :: x :: t else x :: insBySlice h t

/-- Headers in ascending slice order, those of a slice in admission order (R281, R346, R351). -/
def bySlice (hs : List Header) : List Header := hs.foldr insBySlice []

/-- Every header advances one slot, but those of a clock-gated slice (R415; log entry 203); copies selected 64 slots ago enter egress stage 0 (R16, R261). -/
def Device.headersSlot (d : Device) (n : Nat) (bad : List (Nat × Nat)) : Device :=
  let d := (bySlice (d.headers.filter (fun h => !d.sliceGated h.slice))).foldl (fun (d : Device) h => d.headerSlot h n bad) d
  (d.dec.tx.filter (fun t => t.selected + 64 = n)).foldl (fun (d : Device) t => d.enterEgress t) d

end Sys2Proof.Machine
end

