-- ==== Sys2Proof/Machine/Wire.lean ====
section
/-! DEFINITION. The receive and transmit MACs: a frame's arrival, its class and its verdict, and a copy's transmission
(R119, R122 to R128, R136, R137, R201, R261, R276, R316 to R320, R349). -/

namespace Sys2Proof.Machine

open Sys2Proof

/-! ### What a received frame is -/

/-- A frame's EtherType at an offset. -/
def etherAt (bs : List Byte) (i : Nat) : Nat := beNat (slice bs i 2)

/-- The EtherType after at most one 802.1Q tag (R79). -/
def etherType (bs : List Byte) : Nat := if etherAt bs 12 = 0x8100 then etherAt bs 16 else etherAt bs 12

/-- The device takes the frame as Tendril (R79, R80). -/
def Device.takesTendril (d : Device) (port : Nat) (bs : List Byte) : Bool :=
  d.ready && etherType bs = d.rd E.TENDRIL_ETHERTYPE
    && (port = 0x840 || (port < 512 && d.linkUp port && d.rdBit (E.FRONT_GRANT (port / 32)) (port % 32)))

/-- A MAC control frame. -/
def macControl (bs : List Byte) : Bool := etherAt bs 12 = 0x8808

/-- The ingress class of a frame (R234). -/
def Device.ingressClass (d : Device) (port : Nat) (bs : List Byte) : Nat :=
  if etherAt bs 12 = 0x8100 ∨ etherAt bs 12 = 0x88A8 then bits (byteAt bs 14) 5 3 else d.cur (E.PCP_DEFAULT port)

/-- The class of a frame with its FCS (R122): 0 passed, or the discard code. -/
def frameClass (e : RxEnd) (mtu : Nat) : Nat :=
  let n := e.bytes.length
  let body := e.bytes.take (n - 4)
  if e.pcsError then Reason.PCS_ERROR
  else if mtu < n then Reason.OVERSIZE
  else if n < 64 then Reason.UNDERSIZE
  else if e.bytes.drop (n - 4) ≠ fcsOf body true then Reason.FCS_ERROR
  else 0

/-! ### Intake (R19, R137) -/

/-- Bytes in a slice's intake: of the frames that wait for admission, and of those that are being moved there. -/
def Device.intakeUsed (d : Device) (s : Nat) : Nat :=
  sumOn (d.waiting.filter (fun w => w.slice = s)) (fun w => w.frame.bytes.length)
    + sumOn (d.recircMoving.filter (fun r => r.1 = s)) (fun r => r.2.2.1)

def intakeSize : Nat := 65536

/-- The frame of a port whose first bytes reach intake. -/
def Device.newFrame (d : Device) (port agePs : Nat) (bytes : List Byte) : Frame :=
  let front := port < 512
  { id := d.nextFrame, slice := d.sliceOf port, inPort := if front then d.jointPort port else port,
    chargePort := if front then port else 0x3FF, inClass := if front then d.ingressClass port bytes else 0,
    source := if front then 0 else 3, bytes := bytes, ended := false, len := 0,
    rxTime := if front then d.rxStamp port agePs else 0, vtag := 0, pass := 0, sincePs := d.clk.nowPs }

/-- A frame's header is offered for admission. -/
def Device.offerHeader (d : Device) (f : Frame) (requester : Nat) : Device :=
  { d with waiting := d.waiting ++ [{ slice := f.slice, requester := requester, frame := f }], nextFrame := d.nextFrame + 1 }

def Device.setArriving (d : Device) (port v : Nat) : Device :=
  { d with ports := { d.ports with arriving := SMap.set d.ports.arriving 0 port v } }

/-- What an egress pass keeps of a frame, changed with it. -/
def Header.modHeld (h : Header) (id : Nat) (g : Frame → Frame) : Header :=
  match h.held with
  | some f => if f.id = id then { h with held := some (g f) } else h
  | none => h

/-- The frame of an offered header, changed, wherever it stands. -/
def Device.modAny (d : Device) (id : Nat) (g : Frame → Frame) : Device :=
  { d.modFrame id g with
      dec := { d.dec with owing := d.dec.owing.map (fun o => if o.frame.id = id then { o with frame := g o.frame } else o) }
      waiting := modFirst d.waiting (fun w => w.frame.id = id) (fun w => { w with frame := g w.frame })
      headers := d.headers.map (fun h => h.modHeld id g) }

def Device.anyFrame (d : Device) (id : Nat) : Option Frame :=
  match d.frame? id with
  | some f => some f
  | none =>
    match d.waiting.find? (fun w => w.frame.id = id) with
    | some w => some w.frame
    | none => (d.headers.filterMap (·.held) ++ d.dec.owing.map (·.frame)).find? (fun f => f.id = id)

/-- The receive MAC of a port that a frame arrives at: with PREEMPT_ENABLE set a front port has an express MAC, at its
number, and a preemptable MAC, at its number + 4096 (R127, R128); else it has one. -/
def Device.macOf (d : Device) (port : Nat) (preemptable : Bool) : Nat :=
  if preemptable && decide (port < 512) && d.portCtl port 2 then port + 4096 else port

/-- More bytes of a frame that is still arriving, where they begin with those given before. -/
def Frame.grow (f : Frame) (bytes : List Byte) : Frame :=
  if !f.ended && f.bytes.isPrefixOf bytes then { f with bytes := bytes } else f

/-- FRAME_HEAD_READY (R137, R19): a front-port frame is offered to its slice's intake, unless it is consumed at the MAC or
the device does not forward. Given again, it brings further bytes of the frame (log entry 172). -/
def execFrameHeadReady (port agePs : Nat) (head : HeadBytes) (s : State) : Host.Outcome State Fault Refusal :=
  s.on (fun d =>
    let mac := d.macOf port head.preemptable
    let a := SMap.get d.ports.arriving 0 mac
    if 2 ≤ a then d.modAny (a - 2) (fun f => f.grow head.bytes)
    else if !d.mode.forwards ∨ !d.portExists port ∨ !d.adminUp port ∨ head.bytes.length < 64 ∨ macControl head.bytes
        ∨ d.takesTendril port head.bytes ∨ a ≠ 0 then d
    else
      let f := d.newFrame port agePs head.bytes
      if intakeSize < d.intakeUsed f.slice + head.bytes.length then d.setArriving mac 1
      else (d.offerHeader f port).setArriving mac (2 + f.id))

/-! ### A frame's end (R122, R126, R128, R129, R133) -/

/-- The MAC counter of a front port's class. -/
def classCounter (p code : Nat) : Addr :=
  if code = Reason.PCS_ERROR then E.RX_PCS_ERRORS p
  else if code = Reason.OVERSIZE then E.RX_OVERSIZE p
  else if code = Reason.UNDERSIZE then E.RX_UNDERSIZE p
  else E.RX_FCS_ERRORS p

/-- A front port's MAC counters of a classed frame. -/
def Device.countClass (d : Device) (p code : Nat) (e : RxEnd) : Device :=
  if code = 0 then (d.bump64 (E.RX_FRAMES_OK p) 1).bump64 (E.RX_BYTES_OK p) e.bytes.length
  else
    let d := (d.bump64 (classCounter p code) 1).tap p 1 e.bytes.length
    let n := e.bytes.length
    let stomped := (code = Reason.PCS_ERROR || code = Reason.FCS_ERROR) && e.bytes.drop (n - 4) = fcsOf (e.bytes.take (n - 4)) false
    if stomped then d.bump64 (E.RX_STOMPED p) 1 else d

/-- A discard at the MAC or at intake, counted by its reason and seen by the samplers of its code (R303, R339). Such a frame
has no VTAG and no parse flags: in its postcard those are free values. -/
def Device.lostAtMac (d : Device) (port code agePs n : Nat) : Device :=
  let d := d.discarded code
  let r := d.sampleDiscard d.parity code []
  if r.2 = [] then r.1
  else
    let v := r.1.draw
    let x := v.2.draw
    let rx := if port < 512 then x.2.rxStamp port agePs else x.2.now80
    x.2.postcard r.2 (fun seq k =>
      recordBytes seq (if port < 512 then x.2.jointPort port else port) 0xFFFF 0xFFFF n (v.1 % 256) 0 code 0 0 x.1 rx 0 0
        x.2.caskUnits k 0)

/-- The counters of a discard at a front port's MAC or intake, and its adder (R122, R128, R133). -/
def Device.macLoss (d : Device) (port code n : Nat) : Device :=
  if port < 512 then
    let d := d.tap port 1 n
    if code = Reason.PORT_DISABLED then d.bump64 (E.RX_DISABLED_DISCARDS port) 1
    else if code = Reason.MAC_CONTROL then d.bump64 (E.RX_MAC_CONTROL_DISCARDS port) 1
    else if code = Reason.INTAKE_FULL then
      (d.bump64 (E.PORT_INTAKE_FULL port) 1).raise (Src.INTAKE_FULL (d.sliceOf port)) port
    else if code = Reason.PREEMPT_ASSEMBLY then d.bump64 (E.PREEMPT_ASSEMBLY_ERRORS port) 1
    else d
  else if code = Reason.INTAKE_FULL then d.raise (Src.INTAKE_FULL (d.sliceOf port)) port
  else d

/-- A frame that the MAC or intake discards. -/
def Device.macDiscard (d : Device) (port code agePs n : Nat) : Device := (d.lostAtMac port code agePs n).macLoss port code n

/-- The end of a frame whose header was offered: its length is known (R280, R333, R146), and the class that its copies and
those of its egress mirrors take as their verdict (R123, R298). -/
def Device.endOffered (d : Device) (id code : Nat) (e : RxEnd) : Device :=
  let n := e.bytes.length
  let d := d.modAny id (fun f => { f with bytes := e.bytes.take (n - 4), fcs := e.bytes.drop (n - 4), ended := true, len := n,
                                          cls := code })
  let d : Device := { d with frames := d.frames.map (fun f =>
    if f.follows = some (id, false) then { f with cls := code, follows := some (id, true) } else f) }
  ((((d.addDue id n).tapsAtEnd id n).creditPolicers id n).lateCheck id n)

/-- A frame goes to the Cellarmaster's queue of 256 (R79). -/
def Device.takeTendril (d : Device) (port : Nat) (bs : List Byte) : Device :=
  if d.tendrilQueue.length < 256 then { d with tendrilQueue := d.tendrilQueue ++ [{ port := port, bytes := bs }] }
  else (d.bumpSat E.QUEUE_DROPS 1).raise Src.TENDRIL_DROP 0

/-- A whole frame is offered to intake: of the management port, or of a front port whose head was not offered before. -/
def Device.offerWhole (d : Device) (port : Nat) (e : RxEnd) : Device :=
  let n := e.bytes.length
  let f := { d.newFrame port e.agePs (e.bytes.take (n - 4)) with
              fcs := e.bytes.drop (n - 4), ended := true, len := n, verdict := if port < 512 then none else some 0,
              verdictSlot := d.clk.slots }
  if intakeSize < d.intakeUsed f.slice + n then d.macDiscard port Reason.INTAKE_FULL e.agePs n
  else (d.tap port 0 n).offerHeader f (if port < 512 then port else 0xFFF)

/-- A passed frame goes where R122 sends it. One whose header was offered is discarded with PORT_DISABLED where its copies
stand (R119, R125). A MAC control frame of 0x840 is discarded as one of a front port is (DEDUCED, log entry 221). -/
def Device.sendOn (d : Device) (port arriving : Nat) (e : RxEnd) : Device :=
  let n := e.bytes.length
  let bs := e.bytes.take (n - 4)
  let off := decide (port < 512) && !d.adminUp port
  if 2 ≤ arriving then
    (if off then (d.macLoss port Reason.PORT_DISABLED n).endOffered (arriving - 2) Reason.PORT_DISABLED e
     else (d.tap port 0 n).endOffered (arriving - 2) 0 e)
  else if off then d.macDiscard port Reason.PORT_DISABLED e.agePs n
  else if macControl bs ∧ port < 512 ∧ etherAt bs 14 = 0x0101 then
    ((d.tap port 0 n).bump64 (E.RX_PFC_FRAMES port) 1).receivePfc port bs
  else if macControl bs then d.macDiscard port Reason.MAC_CONTROL e.agePs n
  else if d.takesTendril port bs then (d.tap port 0 n).takeTendril port bs
  else if !d.mode.forwards then d.macDiscard port Reason.PORT_DISABLED e.agePs n
  else if arriving = 1 then d.macDiscard port Reason.INTAKE_FULL e.agePs n
  else d.offerWhole port e

/-- The end of a reassembly with a fault (R128): a discard with PREEMPT_ASSEMBLY, of the offered frame's copies where its
header was offered. -/
def Device.assemblyFault (d : Device) (port arriving : Nat) (e : RxEnd) : Device :=
  let n := e.bytes.length
  if 2 ≤ arriving then (d.macLoss port Reason.PREEMPT_ASSEMBLY n).endOffered (arriving - 2) Reason.PREEMPT_ASSEMBLY e
  else d.macDiscard port Reason.PREEMPT_ASSEMBLY e.agePs n

/-- A frame whose end has reached a MAC is classed (R122). -/
def Device.classify (d : Device) (port arriving : Nat) (e : RxEnd) : Device :=
  let front := decide (port < 512)
  let code := frameClass e (if front then d.cur (E.PORT_MTU port) else d.rd E.MGMT_MTU)
  let d := if front then d.countClass port code e else d
  if code = 0 then d.sendOn port arriving e
  else if 2 ≤ arriving then d.endOffered (arriving - 2) code e
  else d.lostAtMac port code e.agePs e.bytes.length

/-- The receiver of a 3.2T port interleaves its deskewed instances' blocks, and takes the frame from them (R118). -/
def Device.deinterleaved (d : Device) (port : Nat) (e : RxEnd) : RxEnd :=
  match e.blocks with
  | some x => if (d.instances port).length = 2 then { e with bytes := blockBytes (mergeBlocks x.1 x.2) } else e
  | none => e

/-- RX_FRAME_END (R122, R128): the frame's end reaches a receive MAC of a front port, or that of the management port. A
frame whose header was offered is discarded where its copies stand, and counted there (log entry 30). -/
def execRxFrameEnd (port : Nat) (e : RxEnd) (s : State) : Host.Outcome State Fault Refusal :=
  s.on (fun d =>
    let e := d.deinterleaved port e
    if !d.alive ∨ !(d.portExists port ∨ (port = 0x840 ∧ d.rd E.MGMT_MODE ≠ 0)) then d
    else
      let mac := d.macOf port e.preemptable
      let a := SMap.get d.ports.arriving 0 mac
      let d := d.setArriving mac 0
      let fragments := mac ≠ port
      let d := if fragments then d.bump64 (E.PREEMPT_RX_FRAGMENTS port) e.fragments else d
      if fragments ∧ e.assemblyFault then d.assemblyFault port a e else d.classify port a e)

/-- The verdict of a frame reaches a transmission (R125). -/
def Device.judgeTx (d : Device) (t : Tx) (cls : Nat) : Device :=
  if cls = 0 then d
  else if t.started then d.modTx t.copy.id (fun x => { x with stomp := some (x.stomp.getD cls) })
  else d.dropCopy t.copy cls true none

/-- VERDICT_ARRIVAL (R123, R125, R260): the verdict reaches every copy of a frame whose end has arrived, those of its
egress mirrors among them (R298). -/
def execVerdictArrival (frame : Nat) (s : State) : Host.Outcome State Fault Refusal :=
  s.on (fun d =>
    let now := d.clk.slots
    let d := match d.anyFrame frame with
      | some f =>
        if f.ended && f.verdict.isNone then d.modAny frame (fun f => { f with verdict := some f.cls, verdictSlot := now }) else d
      | none => d
    let d : Device := { d with frames := d.frames.map (fun f =>
      if f.follows = some (frame, true) && f.verdict.isNone then { f with verdict := some f.cls, verdictSlot := now } else f) }
    let d := d.creditFrame frame
    (d.dec.tx.filter (fun t => match d.frame? t.copy.frame with
        | some f => (f.id = frame || f.follows = some (frame, true)) && f.verdict.isSome && t.stomp.isNone
        | none => false)).foldl (fun (d : Device) t =>
      match d.frame? t.copy.frame with
      | some f => d.judgeTx t (f.verdict.getD 0)
      | none => d) d)

/-! ### IOAM (R349) -/

/-- The trace-type bits that Table 13.10 supports, with their 4-octet units. -/
def ioamUnits : List (Nat × Nat) := [(0, 1), (1, 1), (2, 1), (3, 1), (4, 1), (5, 1), (6, 1), (8, 2), (9, 2), (11, 1)]

/-- A bit of a trace type, bit 0 the most significant of 24. -/
def ioamBit (ty i : Nat) : Bool := bit ty (23 - i)

/-- The node data of one trace-type bit. -/
def Device.ioamData (d : Device) (t : Tx) (f : Frame) (i ns : Nat) : List Byte :=
  let out := d.jointPort t.port
  let tx := time80 ns
  match i with
  | 0 => beBytes 1 t.hop ++ beBytes 3 (d.cur E.IOAM_NODE_ID)
  | 1 => beBytes 2 f.inPort ++ beBytes 2 out
  | 2 => beBytes 4 (tx / 2 ^ 32)
  | 3 => beBytes 4 tx
  | 4 =>
    let delay := (timeDelta tx f.rxTime).toNat
    beBytes 4 (if 2 ^ 31 ≤ delay then setBit (delay % 2 ^ 32) 31 true else delay)
  | 5 => beBytes 4 (d.cur E.IOAM_NS_DATA)
  | 6 => beBytes 4 t.depthAt
  | 8 => beBytes 1 t.hop ++ beBytes 7 (d.cur E.IOAM_NODE_ID)
  | 9 => beBytes 4 f.inPort ++ beBytes 4 out
  | _ => beBytes 4 t.caskAt

/-- What the transmit MAC does with a copy's IOAM action (R349): the bytes to emit. -/
def Device.carryIoam (d : Device) (t : Tx) (f : Frame) (off ns : Nat) (head : List Byte) : Device × List Byte :=
  let name := beNat (slice head off 2)
  let word := beNat (slice head (off + 2) 2)
  let ty := beNat (slice head (off + 4) 3)
  let nodeLen := bits word 11 5
  let left := bits word 0 7
  let used := ioamUnits.filter (fun u => ioamBit ty u.1)
  let known := (List.range 24).all (fun i => !ioamBit ty i || ioamUnits.any (fun u => u.1 = i))
  let at' := off + 8 + 4 * (left - nodeLen)
  let bad := 512 ≤ t.port || !bit (d.cur (E.IOAM_PORTS (t.port / 32))) (t.port % 32)
    || (name ≠ 0 && name ≠ d.cur E.IOAM_NAMESPACE) || !known || nodeLen ≠ sumOn used (·.2)
    || ((ioamBit ty 2 || ioamBit ty 3) && !d.timeValid) || head.length < off + 8
    || (nodeLen ≤ left && head.length < at' + 4 * nodeLen)
  if bad then (d.bump64 E.IOAM_SKIPPED 1, head)
  else if left < nodeLen then
    (d.bump64 E.IOAM_OVERFLOWS 1, overlay head (off + 2) (beBytes 2 (setBit word 10 true)))
  else
    let head := overlay head (off + 2) (beBytes 2 (word - nodeLen))
    (d, overlay head at' (used.flatMap (fun u => d.ioamData t f u.1 ns)))

/-! ### The first byte leaves (R261, R276, R289) -/

/-- The port's transmit side can carry a frame. -/
def Device.txReady (d : Device) (p : Nat) : Bool :=
  if p = 0x840 then d.rdBit E.MGMT_STATUS 0 else d.linkUp p && d.txAwake p

/-- The transmissions of a port that were selected before a copy. -/
def earlierTxs (txs : List Tx) (t : Tx) : List Tx :=
  ((txs.takeWhile (fun x => x.copy.id ≠ t.copy.id)).filter (fun x => x.port = t.port))

/-- The time from which the wire is free for a transmission, and the preemptable copy that it interrupts; none while it
must wait. An express copy also cuts a preemptable Tendril frame short. -/
def Device.wireSlot (d : Device) (t : Tx) : Option (Nat × Option Tx) :=
  let free := max t.start (if d.txPreemptable t then SMap.get d.dec.wireEnd 0 t.port else d.expressEnd t.port t.start)
  let before := earlierTxs d.dec.tx t
  let onWire := d.dec.tx.filter (fun x => x.port = t.port && x.started && !x.gateHeld && x.copy.id ≠ t.copy.id)
  if d.txPreemptable t then
    (if before = [] ∧ onWire = [] ∧ !d.dec.ownWire.any (fun w => w.port = t.port && w.waits) then some (free, none) else none)
  else if before.any (fun x => !d.txPreemptable x) || onWire.any (fun x => !d.txPreemptable x) then none
  else match onWire with
    | [] => some (free, none)
    | x :: _ =>
      if free ≤ x.fragStart then some (free, some x)
      else match d.permittedPoint x free with
        | some n => some (max free (x.fragStart + (n + 24) * d.byteTime t.port), some x)
        | none => none

/-- A copy's first byte leaves at a time: its stamp and edits (R314 to R320, R349). -/
def Device.startTx (d : Device) (t : Tx) (f : Frame) (at' : Nat) : Device :=
  let st : Nat × Nat := if t.port < 512 then d.txStamp t.port else (d.time.ns, d.frac16)
  let edit : Device × List Byte := match t.stamp with
    | some v => d.carryStamp t.port v f.rxTime t.head st.1 st.2
    | none => (d, t.head)
  let edit : Device × List Byte := match t.ioam with
    | some off => edit.1.carryIoam t f off st.1 edit.2
    | none => edit
  edit.1.modTx t.copy.id (fun x =>
    { x with started := true, start := at', fragStart := at', sentBefore := 0, cutThrough := !f.ended, head := edit.2,
             txTime := time80 st.1 })

/-- The copy that a starting one interrupts ends its fragment, or has not begun it yet. -/
def Device.cutFragment (d : Device) (cut : Option Tx) (at' : Nat) : Device :=
  match cut with
  | some x =>
    if at' ≤ x.fragStart then d.modTx x.copy.id (fun y => { y with fragStart := at' })
    else d.endFragment x ((at' - x.fragStart) / d.byteTime x.port - 24) at' false
  | none => d

/-- A copy takes the wire at a time, from what it interrupts. -/
def Device.takeWire (d : Device) (t : Tx) (f : Frame) (at' : Nat) (cut : Option Tx) : Device :=
  let d := d.cutFragment cut at'
  (if d.txPreemptable t then d else d.yieldOwn t.port at').startTx t f at'

/-- COPY_TX_START (R261): the copy is past its egress pass, the later of 272 slots and the wire's time has come. A due PFC
frame goes before it (R263). -/
def execCopyTxStart (copy : Nat) (s : State) : Host.Outcome State Fault Refusal :=
  s.on (fun d =>
    match d.dec.tx.find? (fun t => t.copy.id = copy) with
    | none => d
    | some t =>
      match d.frame? t.copy.frame with
      | none => d
      | some f =>
        if t.started ∨ !t.passed ∨ d.clk.slots ≤ t.selected + 272 ∨ !d.txReady t.port then d
        else if f.cellError then d.dropCopy t.copy Reason.CELL_ERROR true none
        else
          let d := d.insertPfc t.port
          match d.wireSlot t with
          | none => d
          | some (at', cut) => if 2 * d.clk.nowPs < at' then d else d.takeWire t f at' cut)

/-! ### The last byte leaves (R125, R133, R337) -/

/-- Why a transmission ends badly: a stomp that was decided, a bad verdict, a cell error, or its length. -/
def Device.badEnd (d : Device) (t : Tx) (f : Frame) (bytes : List Byte) : Option Nat :=
  match t.stomp with
  | some code => some code
  | none =>
    if f.verdict.getD 0 ≠ 0 then f.verdict
    else if f.cellError then some Reason.CELL_ERROR
    else if t.port < 512 ∧ d.cur (E.PORT_MTU t.port) < bytes.length + 4 then some Reason.EGRESS_MTU
    else none

/-- A copy is delivered. -/
def Device.deliverTx (d : Device) (t : Tx) (f : Frame) (bytes : List Byte) : Device :=
  let p := t.port
  let out := bytes ++ fcsOf bytes true
  let d := d.putOnWire p out true true
  let d := if p < 512 then
      let d := ((d.tap p 2 out.length).bump64 (E.TX_FRAMES_OK p) 1).bump64 (E.TX_BYTES_OK p) out.length
      d.histogram p (timeDelta t.txTime f.rxTime).toNat t.copy.depth f.len
    else d
  (d.copyRecord f t.copy 0 none t.cutThrough false t.txTime f.sampled).doneCopy t.copy

/-- The wire after a transmission: what it carried last ends, and a preempted frame resumes (R261, R276). -/
def Device.freeWire (d : Device) (p fin : Nat) : Device :=
  ({ d with dec := { d.dec with
      wireEnd := SMap.set d.dec.wireEnd 0 p fin
      tx := d.dec.tx.map (fun x => if x.port = p && x.started && !x.gateHeld then { x with fragStart := fin } else x) } } : Device).resumeOwn
    p fin

/-- A copy whose frame has not ended has sent its egress port's PORT_MTU: it outgrows it (R125). -/
def Device.outgrown (d : Device) (t : Tx) (f : Frame) : Bool :=
  decide (t.port < 512) && !f.ended && t.stomp.isNone && decide (d.cur (E.PORT_MTU t.port) ≤ d.sentBytes t)

/-- The bytes, without FCS, that a copy has sent when it ends badly: all of a frame that has ended, else what has left by
now, and at a front port never more than its PORT_MTU takes (R125). -/
def Device.badLength (d : Device) (t : Tx) (f : Frame) (code : Nat) : Nat :=
  let n := if code = Reason.EGRESS_MTU ∨ f.ended then (txBytes f t).length else d.sentBytes t
  if t.port < 512 then min n (d.cur (E.PORT_MTU t.port) - 4) else n

/-- A transmission ends: whole, or stomped with a reason. -/
def Device.finishTx (d : Device) (t : Tx) (f : Frame) (bad : Option Nat) : Device :=
  match bad with
  | some code =>
    let n := d.badLength t f code
    let fin := t.fragStart + (n + 24 - t.sentBefore) * d.byteTime t.port
    let r := d.sentSoFar t n
    (r.1.endBadly t code true r.2).freeWire t.port fin
  | none => (d.deliverTx t f (txBytes f t)).freeWire t.port (d.txEnd t)

/-- COPY_TX_END (R133): the last byte leaves, with the correct FCS or stomped. A copy that another frame has interrupted, or
whose frame has no verdict yet, does not end, but for one that outgrows the egress PORT_MTU. -/
def execCopyTxEnd (copy : Nat) (s : State) : Host.Outcome State Fault Refusal :=
  s.on (fun d =>
    match d.dec.tx.find? (fun t => t.copy.id = copy) with
    | none => d
    | some t =>
      match d.frame? t.copy.frame with
      | none => d
      | some f =>
        let long := d.outgrown t f
        if !t.started ∨ d.offWire t ∨ (t.stomp = none ∧ !long ∧ (!f.ended ∨ f.verdict.isNone)) then d
        else d.finishTx t f (if long then some Reason.EGRESS_MTU else d.badEnd t f (txBytes f t)))

end Sys2Proof.Machine
end

