-- ==== Sys2Proof/Machine/Cellar.lean ====
section
/-! DEFINITION. Racking, recirculation into intake, and the gate overrun (R245 to R250, R274, R293). -/

namespace Sys2Proof.Machine

open Sys2Proof

/-! ### Rack-out (R245 to R249) -/

/-- The Middle of a queue is not empty. -/
def Device.hasMiddle (d : Device) (q : Nat) : Bool := (d.waitingIn q).any (fun c => c.place = .cellar)

/-- The Head: the copies in the Cask before the first one in the Cellar. -/
def Device.headCopies (d : Device) (q : Nat) : List Copy := (d.waitingIn q).takeWhile (fun c => c.place = .cask)

def Device.copyUnits (d : Device) (cs : List Copy) : Nat := sumOn cs (fun c => d.frameUnits c.frame)

/-- The copies from the Tail on, each with the Cask units that stand ahead of it. -/
def Device.withAhead (d : Device) : Nat → List Copy → List (Copy × Nat)
  | _, [] => []
  | u, c :: t => (c, u) :: d.withAhead (u + d.frameUnits c.frame) t

/-- The copy that the racker would move out: the oldest of the Tail, behind at least RACK_KEEP units. With no Middle, all
copies are Head and Tail at once. -/
def Device.rackCandidate (d : Device) (q : Nat) : Option Copy :=
  let keep := d.cur (E.RACK_KEEP (portOf q))
  let cs := d.waitingIn q
  let head := d.headCopies q
  let pick := if d.hasMiddle q then
      (if keep ≤ d.copyUnits head then ((cs.drop head.length).find? (fun c => c.place = .cask)) else none)
    else ((d.withAhead 0 cs).find? (fun x => keep ≤ x.2)).map (·.1)
  pick.filter (fun c => match d.frame? c.frame with
    | some f => f.holder = tokenOf q && f.ended && f.verdict = some 0 && f.dropped.isNone && (d.wants f).isNone
    | none => false)

/-- The queue asks for a rack-out. -/
def Device.asksRack (d : Device) (q : Nat) : Bool :=
  d.rackable q && d.cur (E.RACK_START (portOf q)) < d.queueUse q
    && !d.racking.any (fun r => d.queued.any (fun c => c.id = r.1 && c.queue = q)) && (d.rackCandidate q).isSome

/-- One rack-out visit: the next queue that asks begins to write the record of its candidate (R247, R248). -/
def Device.rackVisit (d : Device) : Device :=
  let qs := d.busyQueues.filter d.asksRack
  match nextRequester qs d.rackNext with
  | none => d
  | some q =>
    match (d.rackCandidate q).bind (fun c => (d.frame? c.frame).map (fun f => (c, f))) with
    | none => d
    | some (c, f) =>
      let n := rackCells f
      let cells := d.spillCells n
      if d.rackOutTokens < n ∨ cells.length < n then d
      else { d with rackNext := q, rackOutTokens := d.rackOutTokens - n, racking := d.racking ++ [(c.id, cells)],
                    spillUsed := d.spillUsed ++ cells }

/-- RACK_OUT_COMPLETE (R249): the record is written; the racker takes the Cask cells and frees them. -/
def execRackOutComplete (copy : Nat) (s : State) : Host.Outcome State Fault Refusal :=
  s.on (fun d =>
    match d.racking.find? (fun r => r.1 = copy), d.queued.find? (fun c => c.id = copy) with
    | some r, some c =>
      let d := d.handOver c.frame rackerToken
      let d := (d.cellsOf c.frame).foldl (fun (d : Device) x => d.freeCell x.handle rackerToken) d
      let d : Device := { d with racking := d.racking.filter (fun x => x.1 ≠ copy),
                                 queued := modFirst d.queued (fun x => x.id = copy)
                                   (fun x => { x with place := .cellar, spill := r.2, racked := true }) }
      d.bump64 (E.RACKED_OUT (portOf c.queue)) 1
    | _, _ => d)

/-! ### Return (R246, R248, R250) -/

/-- The queue asks for the return of its Middle's oldest record: its Head holds fewer than RACK_KEEP units, and no return of
it is under way or was lost in this round (R246, R248). -/
def Device.asksReturn (d : Device) (q : Nat) : Bool :=
  d.hasMiddle q && decide (d.copyUnits (d.headCopies q) < d.cur (E.RACK_KEEP (portOf q))) && !d.returnLost.contains q
    && !d.returning.any (fun id => d.queued.any (fun c => c.id = id && c.queue = q))

/-- A record that cannot return: its frame is discarded with CELLAR_ERROR (R250, R254). -/
def Device.loseRecord (d : Device) (c : Copy) : Device := d.dropCopy c Reason.CELLAR_ERROR true none

/-- The pseudo-channel of a spill cell is struck (R250). -/
def Device.strikeSpill (d : Device) (k : Nat) : Device := d.strike 9 (d.physical 9 (channelOf k))

/-- What the racker finds in a record that it reads (R250, R254): one with a cell out of service, an uncorrectable read of
one of its cells, or a wrong CRC is lost; a whole one asks for its Cask cells in the next slot. -/
def Device.readRecord (d : Device) (c : Copy) (fault : MemFault) (cell : Nat) : Device :=
  if c.spill.any (fun k => !d.pcIn (channelOf k)) then d.loseRecord c
  else match fault with
    | .uncorrectable => (d.strikeSpill (c.spill.getD cell (c.spill.headD 0))).loseRecord c
    | .mismatch => (d.strikeSpill (c.spill.headD 0)).loseRecord c
    | _ => { d with returning := d.returning ++ [c.id] }

/-- RACK_RETURN (R248, R250): one visit of the racker's return: the next queue that asks, in ascending order round robin, has
the oldest record of its Middle read. `cell` is the record's cell that an uncorrectable read names. -/
def execRackReturn (fault : MemFault) (cell : Nat) (s : State) : Host.Outcome State Fault Refusal :=
  s.on (fun d =>
    match nextRequester (d.busyQueues.filter d.asksReturn) d.rackInNext with
    | none => d
    | some q =>
      match (d.waitingIn q).find? (fun c => c.place = .cellar) with
      | none => d
      | some c =>
        let n := c.spill.length
        if d.rackInTokens < n then d
        else ({ d with rackInNext := q, rackInTokens := d.rackInTokens - n } : Device).readRecord c fault cell)

/-- Queues whose Head is empty while their Middle is not (R249). -/
def Device.noteStalls (d : Device) : Device :=
  let qs := ((d.queued.filter (fun c => c.place = .cellar)).map (·.queue)).eraseDups.filter (fun q => d.headCopies q = [])
  { d with stalled := d.stalled ++ qs.filter (fun q => !d.stalled.contains q) }

/-- RACK_STALLS at a round boundary, one for each port with a stalled queue, and the tokens of the new round (R248, R249). -/
def Device.rackRound (d : Device) : Device :=
  let d := (d.stalled.map portOf).eraseDups.foldl (fun (d : Device) p => d.bump64 (E.RACK_STALLS p) 1) d
  let part := if d.rdBit E.POWER_STATE 12 then 2 else 1
  { d with stalled := [], returnLost := [], rackOutTokens := d.cur E.RACK_OUT_GBPS * 5 / 128 / part
           rackInTokens := d.cur E.RACK_IN_GBPS * 5 / 128 / part }

/-! ### The gate overrun (R274) -/

/-- GATE_OVERRUN (R274): the head of the queue, which fits no open run, has stood there for a whole cycle. A reason that goes
before it in R300 is the copy's reason. -/
def execGateOverrun (queue : Nat) (s : State) : Host.Outcome State Fault Refusal :=
  s.on (fun d =>
    match d.dec.gateStuck.find? (fun g => g.1 = queue), d.headOf queue, d.gate? (portOf queue) with
    | some g, some c, some gate =>
      if g.2.1 = c.id ∧ g.2.2 + cycleOf gate.entries ≤ d.clk.slots ∧ c.place = .cask then
        d.dropCopy c ((d.headReason c d.clk.slots).getD Reason.GATE_OVERRUN) true none
      else d
    | _, _, _ => d)

/-! ### Recirculation (R293) -/

/-- The frame of a recirculation copy as it stands whole in intake (R156, R201). -/
def Device.recircFrame (d : Device) (f : Frame) (c : Copy) : Frame :=
  let bytes := copyBytes f c
  { f with id := d.nextFrame, chargePort := 0x3FF, inClass := 0, source := 1, bytes := bytes, ended := true,
           fcs := fcsOf bytes true, len := bytes.length + 4, pass := f.pass + 1, verdict := some 0, verdictSlot := d.clk.slots, stored := 0,
           retry := none, headBytes := 0, headStored := 0, bodyLast := none, headLast := none, cellError := false,
           count := 1, flying := true, direct := none }

/-- A copy whole in intake leaves its queue, its record complete (R328), and its frame is offered for admission. -/
def Device.finishRecirc (d : Device) (slice : Nat) (f : Frame) (c : Copy) : Device :=
  let g := d.recircFrame f c
  let d := ((d.leftRecord c).modFrame f.id (fun f => { f with flying := false })).doneCopy c
  let d : Device := { d with recircMoving := d.recircMoving.filter (fun r => r.1 ≠ slice) }
  d.offerHeader g (0x820 + slice)

/-- RECIRC_INTAKE_MOVE (R293): the slice's recirculation queue in one slot: the VTAG test and the start of the Cask read of
its head, or up to 500 bytes of the copy being moved. -/
def execRecircIntakeMove (slice : Nat) (s : State) : Host.Outcome State Fault Refusal :=
  s.on (fun d =>
    if 32 ≤ slice ∨ !d.alive then d
    else match d.headOf (recircQueue slice) with
      | none => d
      | some c =>
        match d.frame? c.frame with
        | none => d
        | some f =>
          match d.recircMoving.find? (fun r => r.1 = slice && r.2.1 = c.id) with
          | none =>
            if f.verdict ≠ some 0 then d
            else if d.expired.contains f.vtag then d.dropCopy c Reason.VINTAGE_EXPIRED true none
            else { d with recircMoving := d.recircMoving.filter (fun r => r.1 ≠ slice) ++ [(slice, c.id, 0, d.clk.slots + 64)] }
          | some r =>
            if d.clk.slots < r.2.2.2 then d
            else
              let total := (copyBytes f c).length + 4
              let moved := min total (r.2.2.1 + min 500 (intakeSize - d.intakeUsed slice))
              if total ≤ moved then d.finishRecirc slice f c
              else { d with recircMoving := d.recircMoving.filter (fun x => x.1 ≠ slice)
                                              ++ [(slice, c.id, moved, d.clk.slots + 1)] })

end Sys2Proof.Machine
end

