-- ==== Sys2Proof/Machine/Stripes.lean ====
section
/-! DEFINITION. Stripes: the codewords of the join, the crossing units in their streams, the sender's acknowledgements and
the receiver's NAK (R419 to R425, R437). -/

namespace Sys2Proof.Machine

open Sys2Proof

/-! ### Crossing units (R423, R424) -/

/-- The 64-byte segments of an HV that hold a byte other than 0. -/
def hvSegments (hv : List Byte) : List Nat := (List.range 6).filter (fun i => (slice hv (64 * i) 64).any (· ≠ 0))

/-- The head block of a frame (R226). -/
def headBlock (f : Frame) : List Byte :=
  beBytes 8 (Config.headControl f.id) ++ slice f.md 0 64 ++ (hvSegments f.hv).flatMap (fun i => slice f.hv (64 * i) 64)

/-- KIND of a crossing copy: 1 unicast, 2 multicast, 3 mirror. -/
def crossKind (c : Copy) : Nat :=
  match c.kind with
  | .cross _ => 2
  | .mirror _ _ => 3
  | _ => 1

/-- A crossing unit: header, head block, body and padding (Table 17.3). -/
def crossUnit (f : Frame) (c : Copy) (seq : Nat) : List Byte :=
  let body := if c.kind.asReceived then copyBytes f c else f.bytes
  let dest := match c.kind with
    | .cross g => g
    | _ => c.port
  let session := match c.kind with
    | .mirror m _ => m
    | _ => 0
  let hdr := beBytes 1 (crossKind c + 4 * c.tc) ++ beBytes 1 f.vtag ++ beBytes 2 dest ++ beBytes 2 f.inPort
    ++ beBytes 2 body.length ++ beBytes 1 ((hvSegments f.hv).foldl (fun a i => a + 2 ^ i) 0) ++ beBytes 1 session
    ++ beBytes 2 c.eprog ++ beBytes 2 f.emitLength ++ beBytes 2 f.bodyOffset ++ beBytes 4 seq ++ List.replicate 8 0
  let crc := crc32c (hdr ++ headBlock f ++ body)
  let pad := (8 - (32 + (headBlock f).length + body.length) % 8) % 8
  hdr ++ beBytes 4 crc ++ headBlock f ++ body ++ List.replicate pad 0

/-! ### Codewords (R420, Table 17.2) -/

def wordStream (w : Nat) : Nat := bits w 5136 4
def wordSide (w : Nat) : Nat := bits w 5120 16
def wordData (w : Nat) : List Byte := beBytes 640 (w % 2 ^ 5120)

/-! ### Sending stripes (R419 to R423) -/

/-- A unit of which stripes carry a part: its copy, its CROSS_SEQ and its length. -/
structure Begun where
  copy : Nat
  number : Nat
  length : Nat

/-- The crossing copy may leave: its frame is whole and its verdict has come (R288, R423). -/
def Device.crossReady (d : Device) (c : Copy) (n : Nat) : Bool :=
  c.entered + 32 ≤ n && (match d.frame? c.frame with | some f => f.settled n && f.verdict = some 0 | none => false)

/-- The unit of stream `t` that earlier stripes began. -/
def Device.begunUnit (d : Device) (t : Nat) : Option Begun :=
  let g (k : Nat) : Nat := SMap.get d.join.progress 0 (k + t)
  if g 32 = 0 then none else some { copy := g 32 - 1, number := g 16, length := g 48 }

/-- The copies that a stream has still to begin, in the order of their queue, as far as they are ready. -/
def Device.streamCopies (d : Device) (t n : Nat) : List Copy :=
  let gone := d.join.sentStripes.flatMap (·.copies) ++ ((d.begunUnit t).map (·.copy)).toList
  ((d.waitingIn (crossQueue t)).filter (fun c => !gone.contains c.id)).takeWhile (fun c => d.crossReady c n)

/-- The bytes of a unit begun; where its copy is gone meanwhile, zeros. -/
def Device.unitBytes (d : Device) (b : Begun) : List Byte :=
  let u := (d.queued.find? (fun c => c.id = b.copy)).bind (fun c => (d.frame? c.frame).map (fun f => crossUnit f c b.number))
  slice (u.getD []) 0 b.length

/-- What a stream has to send: the bytes left of the unit begun, that unit, and the copies after it. -/
structure StreamFill where
  rest : List Byte
  begun : Option Begun
  copies : List Copy

/-- The stream at the start of a stripe: the unit that earlier stripes began is resumed where they stopped. -/
def Device.streamFill (d : Device) (t n : Nat) : StreamFill :=
  let b := d.begunUnit t
  { rest := b.elim [] (fun b => (d.unitBytes b).drop (SMap.get d.join.progress 0 t)), begun := b, copies := d.streamCopies t n }

/-- The stream has bytes to send. -/
def StreamFill.waits (s : StreamFill) : Bool := s.begun.isSome || !s.copies.isEmpty

/-- One codeword of a stream: units are begun, each with the next CROSS_SEQ, until 640 bytes stand. The result is the DATA,
the stream after it, the next free number, and the copies whose last byte is carried. -/
def Device.fillWord (d : Device) : List Copy → List Byte → Option Begun → Nat → List Nat →
    List Byte × StreamFill × Nat × List Nat
  | [], buf, begun, next, done =>
    if buf.length ≤ 640 then (buf, { rest := [], begun := none, copies := [] }, next, done ++ (begun.map (·.copy)).toList)
    else (buf.take 640, { rest := buf.drop 640, begun := begun, copies := [] }, next, done)
  | c :: more, buf, begun, next, done =>
    if buf.length < 640 then
      let u := (d.frame? c.frame).elim [] (fun f => crossUnit f c next)
      d.fillWord more (buf ++ u) (some { copy := c.id, number := next, length := u.length }) ((next + 1) % 2 ^ 32)
        (done ++ (begun.map (·.copy)).toList)
    else if buf.length = 640 then
      (buf, { rest := [], begun := none, copies := c :: more }, next, done ++ (begun.map (·.copy)).toList)
    else (buf.take 640, { rest := buf.drop 640, begun := begun, copies := c :: more }, next, done)

/-- The streams while a stripe is filled: their fills by class, the class served last of 0 to 6, the next free CROSS_SEQ,
and the copies finished. -/
structure StripeFill where
  streams : List StreamFill
  last : Nat
  next : Nat
  done : List Nat

/-- The stream that fills the next codeword (R423): 7 first, then 6 to 0 in rotation from after the class served last. -/
def StripeFill.choose (f : StripeFill) : Option Nat :=
  let waits (t : Nat) : Bool := (f.streams[t]?).elim false StreamFill.waits
  if waits 7 then some 7 else ((List.range 7).map (fun i => (f.last + 6 - i) % 7)).find? waits

/-- The next codewords of a stripe, `n` of them at most, as (STREAM, DATA). -/
def Device.fillStripe (d : Device) : Nat → StripeFill → List (Nat × List Byte) × StripeFill
  | 0, f => ([], f)
  | n + 1, f =>
    match f.choose with
    | none => ([], f)
    | some t =>
      let s := (f.streams[t]?).getD { rest := [], begun := none, copies := [] }
      let w := d.fillWord s.copies s.rest s.begun f.next []
      let g : StripeFill := { streams := modAt f.streams t (fun _ => w.2.1), last := if t = 7 then f.last else t
                              next := w.2.2.1, done := f.done ++ w.2.2.2 }
      let r := d.fillStripe n g
      ((t, w.1) :: r.1, r.2)

/-- Where a stream with a unit begun stands, put among the others. -/
def putBegun (m : SMap) (t : Nat) (b : Begun) (done : Nat) : SMap :=
  SMap.set (SMap.set (SMap.set (SMap.set m 0 t done) 0 (16 + t) b.number) 0 (32 + t) (b.copy + 1)) 0 (48 + t) b.length

/-- Where the streams stand, as `Join.progress` holds it; a held class stands where it stood. -/
def Device.fillProgress (d : Device) (f : StripeFill) (held : Nat → Bool) : SMap :=
  let m := (List.range 8).foldl (fun (m : SMap) t =>
    if held t then (d.begunUnit t).elim m (fun b => putBegun m t b (SMap.get d.join.progress 0 t))
    else match f.streams[t]? with
      | some s => s.begun.elim m (fun b => putBegun m t b (b.length - s.rest.length))
      | none => m) []
  SMap.set (SMap.set m 0 100 f.next) 0 101 f.last

/-- One block time in picoseconds: 43,552 symbols at 212.5 GBd. -/
def stripeTime : Nat := 204951

/-- One stripe is formed and sent (R420 to R423): the management messages that wait, the codewords that the streams fill,
those of a held class left out, and idle ones after them. -/
def Device.sendStripe (d : Device) (n : Nat) : Device :=
  let room := 16 * d.txLanes.length
  let ms := d.join.outbox.take room
  let held (t : Nat) : Bool := t < 7 && bit (d.rd (E.HOLD_ACTIVE 0)) t
  let streams := (List.range 8).map (fun t =>
    if held t || !d.joined then { rest := [], begun := none, copies := [] } else d.streamFill t n)
  let g := d.join.progress
  let r := d.fillStripe (room - ms.length) { streams := streams, last := SMap.get g 0 101, next := SMap.get g 0 100, done := [] }
  let sent : SentStripe := { seq := d.join.txSeq, sentPs := d.clk.nowPs, epoch := d.join.txEpoch, messages := ms
                             copies := r.2.done, progress := g }
  let join : Join := { d.join with outbox := d.join.outbox.drop room, sentStripes := d.join.sentStripes ++ [sent]
                                   progress := d.fillProgress r.2 held }
  (({ d with join := join } : Device).putStripe (ms.map (fun m => (messageStream, m)) ++ r.1))

/-- Stripes run: from Training until the join splits or ends. -/
def Device.stripesRun (d : Device) : Bool := 1 ≤ d.rd E.JOIN_STATE && d.rd E.JOIN_STATE ≤ 4

/-- Crossed frames whose copies the partner has offered by now are in flight no more (R426). -/
def Device.landCrossed (d : Device) : Device :=
  let due := d.join.landing.filter (fun x => x.1 ≤ d.clk.slots)
  if due = [] then d
  else
    due.foldl (fun (d : Device) x => d.inflightSub x.2.1 x.2.2)
      { d with join := { d.join with landing := d.join.landing.filter (fun x => d.clk.slots < x.1) } }

/-- The join in slot `n`: one stripe in every block time. -/
def Device.stripeSlot (d : Device) (n : Nat) : Device :=
  let d := d.landCrossed.settleSplit
  if d.stripesRun ∧ d.join.stripePs + stripeTime ≤ d.clk.nowPs ∧ d.txLanes ≠ [] then d.sendStripe n else d

/-! ### Receiving stripes (R421, R425) -/

/-- A stripe number is acknowledged by ACK_SEQ: it lies at most 32,767 before it. -/
def acked (ack seq : Nat) : Bool := (ack + 65536 - seq) % 65536 < 32768

/-- A frame's last crossing copy has reached the partner, which offers it within 64 slots (R425, R426; log entry 218). -/
def Device.deferLanding (d : Device) (c : Copy) : Device :=
  match d.frame? c.frame with
  | some f =>
    if f.flying && !d.queued.any (fun x => x.frame = c.frame && x.id ≠ c.id && isCross x.queue) then
      ({ d with join := { d.join with landing := d.join.landing ++ [(d.clk.slots + 64, f.slice, f.vtag)] } } : Device).modFrame f.id
        (fun f => { f with flying := false })
    else d
  | none => d

/-- The stripes that an acknowledgement names: their copies are done, with their records (R328), and the cells freed. -/
def Device.ackStripes (d : Device) (ack : Nat) : Device :=
  let done := d.join.sentStripes.filter (fun x => acked ack x.seq)
  if done = [] then d
  else
    let d : Device := { d with join := { d.join with
      sentStripes := d.join.sentStripes.filter (fun x => !acked ack x.seq), naks := 0
      mapOutstanding := d.join.mapOutstanding && done.all (fun x => x.epoch ≠ d.join.txEpoch) } }
    (done.flatMap (·.copies)).foldl (fun (d : Device) id =>
      match d.queued.find? (fun c => c.id = id) with
      | some c => (((d.leftRecord c).deferLanding c).doneCopy c).bump64 (E.CROSSINGS 0) 1
      | none => d) d

/-- A NAK: every stream resumes where it stood at the start of the oldest stripe not acknowledged. It counts towards the
split unless a MAP is outstanding (R436). -/
def Device.resendStripes (d : Device) : Device :=
  match d.join.sentStripes with
  | [] => d
  | x :: rest =>
    let j : Join := { d.join with sentStripes := [], progress := x.progress, txSeq := x.seq
                                  outbox := (x :: rest).flatMap (·.messages) ++ d.join.outbox
                                  naks := if d.join.mapOutstanding then d.join.naks else d.join.naks + 1 }
    ({ d with join := j } : Device).bump64 (E.REPLAYS 0) (rest.length + 1)

/-- The number of 1 bits among the low `n`. -/
def bitCount (n v : Nat) : Nat := ((List.range n).filter (fun i => bit v i)).length

/-- The CRC of a crossing unit and its number are right. -/
def unitOk (u : List Byte) (number : Nat) : Bool :=
  let n := 32 + 72 + 64 * (bitCount 6 (byteAt u 8)) + beNat (slice u 6 2)
  n ≤ u.length && beNat (slice u 28 4) = crc32c (u.take 28 ++ slice u 32 (n - 32)) && beNat (slice u 16 4) = number

/-- A stored crossing unit as a new frame (R425): written by the join's writer, its slice number 32 (log entry 33). -/
def Device.unitFrame (d : Device) (u : List Byte) : Frame :=
  let segs := byteAt u 8
  let md := slice u 40 64
  let head := 72 + 64 * bitCount 6 segs
  let hv := (List.range 6).flatMap (fun i =>
    if bit segs i then slice u (104 + 64 * bitCount i segs) 64 else List.replicate 64 0)
  let body := slice u (32 + head) (beNat (slice u 6 2))
  { id := d.nextFrame, slice := 32, inPort := beNat (slice u 4 2), chargePort := joinPort, inClass := bits (byteAt u 0) 2 3,
    source := 0, bytes := body, ended := true, len := body.length + 4, rxTime := beNat (slice md 32 10), vtag := byteAt u 1,
    pass := byteAt md 3, verdict := some 0, verdictSlot := d.clk.slots, holder := 32, headBytes := head, hv := hv, md := md,
    fcs := fcsOf body true, admitLength := body.length + 4,
    emitLength := bits (beNat (slice u 12 2)) 0 9, bodyOffset := bits (beNat (slice u 14 2)) 0 10,
    bodyClass := d.bodyClass (body.length + 4) }

/-- The copies that a crossing unit makes on this member. -/
def Device.unitCopies (d : Device) (u : List Byte) (f : Frame) : List Copy :=
  let tc := bits (byteAt u 0) 2 3
  let dest := beNat (slice u 2 2)
  let eprog := bits (beNat (slice u 10 2)) 0 10
  match bits (byteAt u 0) 0 2 with
  | 1 => match d.localPort dest with
    | some p => [newCopy f (frontQueue p 0 tc) p tc eprog .unicast]
    | none => []
  | 2 => match d.group (f.vtag % 2) dest with
    | some g => (d.memberCopies f g tc eprog).filter (fun c => c.port ≠ 0x840)
    | none => []
  | 3 => match d.localPort dest with
    | some p => [newCopy f (frontQueue p 1 tc) p tc 0 (.mirror (byteAt u 9) false)]
    | none => []
  | _ => []

/-- A unit whose CRC or number fails (R425): a strike against the join, which no resource kind of Table 18.4 counts (log entry
173), and a discard with CELL_ERROR, with its record (R328, R339). -/
def Device.lostUnit (d : Device) (f : Frame) : Device :=
  let d : Device := { d with join := { d.join with strikes := d.join.strikes + 1 } }
  let r := (d.discarded Reason.CELL_ERROR).sampleDiscard (f.vtag % 2) Reason.CELL_ERROR []
  r.1.frameRecord f Reason.CELL_ERROR 0 r.2

/-- A crossing unit stored (R425), the CROSS_SEQ expected of it `number`: its copies wait until it is written, as at a Cask
write. One whose CRC or number fails is discarded with CELL_ERROR. -/
def Device.storeUnit (d : Device) (u : List Byte) (number : Nat) : Device :=
  let ok := unitOk u number
  let d := d.bump64 (E.CROSSINGS 1) 1
  let f := d.unitFrame u
  if !ok then d.lostUnit f
  else
    let cs := d.unitCopies u f
    let multi := 1 < cs.length
    let cs := numberCopies d.nextCopy (cs.map (fun c => { c with multi := multi }))
    let d : Device := { d with nextFrame := d.nextFrame + 1, nextCopy := d.nextCopy + cs.length, frames := d.frames ++ [f] }
    if cs = [] then d.dropFrame f.id Reason.MC_NO_MEMBER 0
    else { d with jobs := d.jobs ++ [{ slice := 32, frame := f.id, copies := cs, due := d.clk.slots + 64, multi := multi }] }

/-- A unit's length in its stream, by its cross header: the body padded to a multiple of 8 bytes (R420). -/
def unitLength (u : List Byte) : Nat := ceilDiv (32 + 72 + 64 * bitCount 6 (byteAt u 8) + beNat (slice u 6 2)) 8 * 8

/-- The bytes of stream `t` that stand at a unit boundary, cut into units, each with the CROSS_SEQ expected in it: the units
are numbered as their headers begin. A byte 0 at a boundary marks the rest of the codeword as padding. `number` is that of
a unit begun before. -/
def Device.cutUnits (d : Device) (t : Nat) : Nat → Option Nat → List Byte → Device
  | 0, _, _ => d
  | fuel + 1, number, bs =>
    if number.isNone && (bs.isEmpty || byteAt bs 0 = 0) then
      { d with join := { d.join with rxParts := BMap.set d.join.rxParts [] t [] } }
    else
      let k := number.getD d.join.crossRx
      let d : Device := if number.isNone then { d with join := { d.join with crossRx := (k + 1) % 2 ^ 32 } } else d
      if bs.length < 32 || bs.length < unitLength bs then
        { d with join := { d.join with rxParts := BMap.set d.join.rxParts [] t bs, rxNumbers := SMap.set d.join.rxNumbers 0 t k } }
      else
        let n := unitLength bs
        (d.storeUnit (bs.take n) k).cutUnits t fuel none (bs.drop n)

/-- A codeword of a whole stripe: those of streams 0 to 7 carry crossing units; 8 and 10 to 15 are idle, and a management
message of stream 9 is a command of its own (R420, R422). -/
def Device.takeWord (d : Device) (w : Nat) : Device :=
  let t := wordStream w
  if 8 ≤ t then d
  else
    let part := BMap.get d.join.rxParts [] t
    let number := if part = [] then none else some (SMap.get d.join.rxNumbers 0 t)
    d.cutUnits t 8 number (part ++ wordData w)

/-- The codeword of a lane's block at a position; none where it is uncorrectable or the lane brought no block. -/
def stripeWord (x : Stripe) (i n : Nat) : Option Nat := (x.blocks.find? (fun b => b.1 = i)).bind (fun b => (b.2[n]?).getD none)

/-- SIDE of a position, from the lowest-indexed of some lanes whose codeword decoded; none where none did (R420). -/
def stripeSide (x : Stripe) (lanes : List Nat) (n : Nat) : Option Nat := (lanes.findSome? (fun i => stripeWord x i n)).map wordSide

/-- The active lanes of a stripe, by the map whose epoch it carries (R436); where it names no map, those of the latest. -/
def Device.stripeLanes (d : Device) (x : Stripe) : List Nat :=
  let epoch := (stripeSide x (List.range 256) 4).map (· % 256)
  let named := epoch.bind (fun e => d.join.rxMaps.find? (fun m => m.1 = e))
  (named.orElse (fun _ => d.join.rxMaps.getLast?)).elim [] (·.2)

/-- Every active lane's block decoded without an uncorrectable codeword (R421). -/
def stripeDecoded (x : Stripe) (lanes : List Nat) : Bool :=
  lanes ≠ [] && lanes.all (fun i => (List.range 16).all (fun n => (stripeWord x i n).isSome))

/-- The codewords of a stripe in their order: by position, and then by ascending join index (R420). -/
def stripeWords (x : Stripe) (lanes : List Nat) : List Nat :=
  (List.range 16).flatMap (fun n => lanes.filterMap (fun i => stripeWord x i n))

/-- STRIPE_RECEIVED (R421): what its SIDE values say acts on the sender's side; a stripe that is whole, in its turn, yields
its units, and any other a NAK. -/
def execStripeReceived (x : Stripe) (s : State) : Host.Outcome State Fault Refusal :=
  s.on (fun d =>
    if !d.stripesRun then d
    else
      let lanes := d.stripeLanes x
      let d := match stripeSide x lanes 3 with
        | some h => d.wr (E.HOLD_ACTIVE 0) (h % 128)
        | none => d
      let d := match stripeSide x lanes 1 with
        | some a => d.ackStripes a
        | none => d
      let d := if (stripeSide x lanes 2).elim false (fun v => bit v 15) then d.resendStripes else d
      let next := (d.join.rxSeq + 1) % 65536
      if stripeDecoded x lanes ∧ stripeSide x lanes 0 = some next then
        let d : Device := { d with join := { d.join with rxSeq := next, nak := false } }
        (stripeWords x lanes).foldl (fun (d : Device) w => d.takeWord w) d
      else if d.join.nak then d
      else ({ d with join := { d.join with nak := true } } : Device).bump64 (E.REPLAYS 1) 1)

/-- STRIPE_ACK_TIMEOUT (R437): a stripe NAKed 8 times in succession, or not acknowledged within 64 stripes. -/
def execStripeAckTimeout (s : State) : Host.Outcome State Fault Refusal :=
  s.on (fun d => if 8 ≤ d.join.naks ∨ 64 ≤ d.join.sentStripes.length then d.split 2 else d)

end Sys2Proof.Machine
end

