-- ==== Sys2Proof/Machine/Assemblage.lean ====
section
/-! DEFINITION. The Assemblage: forming the join, held classes, maps and pace (R417 to R419, R425, R432, R435 to R437). -/

namespace Sys2Proof.Machine

open Sys2Proof

/-! ### Forming the join (R418, R435) -/

/-- The join begins in a state, its maps empty. -/
def Device.beginJoin (d : Device) (st : Nat) : Device :=
  let d := d.wr E.JOIN_STATE st
  let d := (List.range 512).foldl (fun (d : Device) i => d.wrBit (E.LANE_MAP (i / 256) (i % 256 / 32)) (i % 32) false) d
  { (d.countActive 0).countActive 1 with join := { waitingBooks := d.join.waitingBooks, landing := d.join.landing } }

/-- A split pair that returns to Configure with JOIN_ENABLE 1 trains again (R435, R437). -/
def Device.rejoin (d : Device) : Device :=
  if d.rd E.JOIN_ENABLE = 1 ∧ d.rd E.JOIN_STATE = 5 then (d.beginJoin 1).joinProgress else d

/-- A write of JOIN_ENABLE: the join lanes go over to mode 6, or back. -/
def Device.enableJoin (d : Device) (v : Nat) : Device :=
  let d := d.beginJoin v
  (List.range 512).foldl (fun (d : Device) l => if 512 - d.rd E.JOIN_WIDTH ≤ l then d.laneRestart l else d) d

/-- HELLO (R435): the partner has named itself; one that fits takes the join from Identifying to Mirroring. -/
def execHello (m : HelloMsg) (s : State) : Host.Outcome State Fault Refusal :=
  s.on (fun d =>
    if d.rd E.JOIN_ENABLE = 1 ∧ (d.rd E.JOIN_STATE = 1 ∨ d.rd E.JOIN_STATE = 2) then
      let d : Device := { (d.wr E.PARTNER_SERIAL m.serial).wr E.PARTNER_STEPPING m.stepping with
                            join := { d.join with hello := some m } }
      d.joinProgress.identify
    else d)

/-- The joint entries and objects take the partner's values; one that is not listed has its default. -/
def Device.takeJoint (d : Device) (entries : List (Nat × Nat)) (objects : List (Nat × List Byte)) : Device :=
  { d with bk := (entries.filter (fun e => !memberEntry e.1)).foldl (fun m e => SMap.set m (defaultOf e.1) e.1 e.2)
             (d.bk.filter (fun e => memberEntry e.1))
           objs := (objects.filter (fun e => !memberEntry e.1)).foldl (fun m e => BMap.set m (defaultObject e.1) e.1 e.2)
             (d.objs.filter (fun e => memberEntry e.1)) }

/-- What the partner tells of its own entries and image slots. -/
def Device.takePeer (d : Device) (entries : List (Nat × Nat)) (objects : List (Nat × List Byte)) : Device :=
  let es := (entries.filter (fun e => memberEntry e.1)).foldl (fun m e => SMap.set m (defaultOf e.1) e.1 e.2) []
  let os := (objects.filter (fun e => memberEntry e.1)).foldl (fun m e => BMap.set m (defaultObject e.1) e.1 e.2) []
  { d with peer := { entries := es, copy0 := es.filter (fun e => copied e.1), copy1 := es.filter (fun e => copied e.1), objs := os } }

/-- JOIN_MIRRORING_END (R435, R482): each member holds what the other told of itself, the secondary the primary's joint
entries and ROUND_COUNT; the delays are measured, pace begins, and the join is formed. -/
def execJoinMirroringEnd (m : MirrorReport) (entries : List (Nat × Nat)) (objects : List (Nat × List Byte)) (s : State) :
    Host.Outcome State Fault Refusal :=
  s.on (fun d =>
    if d.rd E.JOIN_STATE ≠ 3 then d
    else
      let d := if d.member = 1 then (d.takeJoint entries objects).wr E.ROUND_COUNT (m.roundCount % 2 ^ 64) else d
      let d := d.takePeer entries objects
      let d := ((d.wr E.JOIN_DELAY_PS (m.flightPs % 2 ^ 32)).wr E.PACE_OFFSET_MAX 0).wr E.JOIN_STATE 4
      let j : Join := { d.join with progress := [], crossRx := 0, rxParts := [], rxNumbers := [], naks := 0, mapOutstanding := false
                                    pinDelayPs := m.roundTripPs / 2 }
      ({ d with join := j } : Device).raise Src.JOIN_FORMED 0)

/-! ### Holding classes (R425) -/

/-- The classes that the receiver holds are released in the first slot in which XON holds (R237, R425). -/
def Device.testJoinXon (d : Device) : Device :=
  if !d.joined ∨ d.rd (E.HOLD_ACTIVE 1) = 0 then d
  else (List.range 7).foldl (fun (d : Device) t =>
    if d.rdBit (E.HOLD_ACTIVE 1) t && d.used joinPort t 2 = 0
        && alphaOk (d.inAlpha joinPort t) (d.used joinPort t 1 + d.cur E.XON_DELTA) d.freeShared then
      d.wrBit (E.HOLD_ACTIVE 1) t false
    else d) d

/-! ### Maps, pace, leaving (R432, R436, R437) -/

/-- A map takes a lane of the former one out, and no lower lane of its Stave comes for it. -/
def narrows (before lanes : List Nat) : Bool :=
  before.any (fun i => !lanes.contains i && !lanes.any (fun k => k / 64 = i / 64 && k < i && !before.contains k))

/-- MAP (R436): the partner's receiver names the lanes of this member's transmit direction. -/
def execMap (m : MapMsg) (s : State) : Host.Outcome State Fault Refusal :=
  s.on (fun d =>
    if !d.stripesRun then d
    else
      let before := (List.range 256).filter (fun i => bit (d.rd (E.LANE_MAP 0 (i / 32))) (i % 32))
      let lanes := m.lanes.filter (fun i => i < d.rd E.JOIN_WIDTH)
      let d := (List.range 256).foldl (fun (d : Device) i => d.wrBit (E.LANE_MAP 0 (i / 32)) (i % 32) (lanes.contains i)) d
      let d := d.countActive 0
      let d : Device := { d with join := { d.join with txEpoch := m.epoch % 256, naks := 0, mapOutstanding := true } }
      let d := if narrows before lanes then (d.bumpSat (E.NARROWINGS 0) 1).raise Src.JOIN_NARROWED 0 else d
      if d.joined ∧ d.rd (E.ACTIVE_LANES 0) < d.rd E.MIN_ACTIVE_LANES then d.split 1 else d.joinProgress)

/-- Pace skips per round beside a partner's plan (R432): `mine` and `other` are (slot period in ps, power skips). -/
def paceSkips (mine other : Nat × Nat) : Nat :=
  let l := max ((1024 + mine.2) * mine.1) ((1024 + other.2) * other.1)
  ceilDiv l mine.1 - 1024 - mine.2

/-- PACE_PLAN (R432): the partner's plan for the next epoch, taken at the epoch's start. -/
def execPacePlan (m : PacePlanMsg) (s : State) : Host.Outcome State Fault Refusal :=
  s.on (fun d => if d.joined then { d with join := { d.join with partnerPlan := some (m.epoch, m.op, m.skips) } } else d)

/-- The partner's boundary mark, sent the pin delay before it came (R432, R482): the time by which this member's boundary
lies before the partner's is made up by pace skips of the next round; an offset beyond 64 slot periods splits the join. -/
def Device.paceMark (d : Device) : Device :=
  let period := max 1 (d.rd E.SLOT_PERIOD_PS)
  let since := d.clk.nowPs - d.clk.roundStartPs
  let delay := d.join.pinDelayPs
  let late := 2 * since ≤ d.clk.lastRoundPs
  let ahead := if late then ceilDiv (since - delay) period else 0
  let behind := if late then ceilDiv (delay - since) period else 1024 - d.clk.slot + ceilDiv delay period
  let off := ahead + behind
  let d := d.wr E.PACE_OFFSET_MAX (max (d.rd E.PACE_OFFSET_MAX) (min off 0xFFFF))
  if 64 < off then d.split 3
  else if 0 < ahead then { d with join := { d.join with markNext := ahead } }
  else d

/-- PACE_IN_MARK (R432): a boundary mark of the partner, with which a secondary's device time follows the primary's (R433), or
a droop burst that it inserts. -/
def execPaceInMark (m : PaceMark) (s : State) : Host.Outcome State Fault Refusal :=
  s.on (fun d =>
    if !d.joined then d
    else match m with
      | .boundary t => (if d.member = 1 then d.followTime t else d).paceMark
      | .droop n => { d with join := { d.join with burstLeft := max d.join.burstLeft n } })

/-- LEAVE (R437). -/
def execLeave (s : State) : Host.Outcome State Fault Refusal := s.on (fun d => d.split 4)

end Sys2Proof.Machine
end

