-- ==== Sys2Proof/Machine/Check.lean ====
section
/-! DEFINITION. The conditions of the enable check, area by area (R44, R46, R60, R116, R158, R189, R208, R220, R255, R282,
R327, R352, R399, R416, R439, R493). The configuration that is checked is what `rd` and `obj` read: staging values of RWV
entries, and the values of all others. -/

namespace Sys2Proof.Machine

open Sys2Proof

/-- A condition that is met: the reason code, the offending entry, and its detail. -/
abbrev Finding := Nat × Addr × Nat

/-- The finding of the lower entry. -/
def leastFinding : List (Option Finding) → Option Finding
  | [] => none
  | none :: t => leastFinding t
  | some f :: t =>
    match leastFinding t with
    | some g => some (if g.2.1 < f.2.1 then g else f)
    | none => some f

/-- A finding where a condition holds. -/
def findIf (b : Bool) (reason : Nat) (a : Addr) (detail : Nat) : Option Finding := if b then some (reason, a, detail) else none

/-- The front ports that exist in the configuration checked, ascending (R44): PORT_WIDTH reads 0 where it is not listed. -/
def Device.stagedPorts (d : Device) : List Nat :=
  d.bk.filterMap (fun e =>
    if 0x2400 ≤ indexOf e.1 ∧ indexOf e.1 < 0x2600 ∧ subOf e.1 = 2 then some (indexOf e.1 - 0x2400) else none)

def Device.stagedExists (d : Device) (p : Nat) : Bool := decide (p < 512) && d.rd (E.PORT_WIDTH p) ≠ 0

/-- The lanes of a port in the configuration checked. -/
def Device.stagedLanes (d : Device) (p : Nat) : List Nat :=
  (List.range (d.rd (E.PORT_WIDTH p))).map (· + d.rd (E.PORT_LANE_BASE p))

/-- The configuration has a join (R418). -/
def Device.joins (d : Device) : Bool := d.rd E.JOIN_ENABLE = 1

/-- The gate lists that an existing port names, ascending (R282). -/
def Device.listsNamed (d : Device) : List Nat :=
  (List.range 64).filter (fun g => d.stagedPorts.any (fun p => d.rd (E.GATE_LIST p) = g))

/-! ### Device control, area 0x01 -/

/-- COMMIT_TIME_INVALID (R326): the latched time, at the moment of Checking. -/
def Device.checkCommitTime (d : Device) : Option Finding :=
  let ahead := timeDelta d.commitTime d.now80
  findIf (d.commitTime ≠ 0 && (!d.timeValid || ahead > 10000000000)) 0x0102 E.COMMIT_TIME
    (min (ahead.toNat / 1000000000) 0xFFFFFFFF)

/-- The entry is judged (R44, R282): those indexed by a front port only while the port exists, those of a gate list only
while a port names it. -/
def Device.judged (d : Device) (a : Addr) : Bool :=
  let i := indexOf a
  if 0x2400 ≤ i ∧ i < 0x2600 then subOf a = 2 || d.stagedExists (i - 0x2400)
  else if 0x6100 ≤ i ∧ i < 0x6300 then d.stagedExists (i - 0x6100)
  else if 0x6300 ≤ i ∧ i < 0x6500 then d.stagedExists (i - 0x6300)
  else if 0x7100 ≤ i ∧ i < 0x7300 then d.stagedExists (i - 0x7100)
  else if 0x7600 ≤ i ∧ i < 0x7640 then d.stagedPorts.any (fun p => d.rd (E.GATE_LIST p) = i - 0x7600)
  else if 0x8200 ≤ i ∧ i < 0x8400 then d.stagedExists (i - 0x8200)
  else true

/-- Another code of Table 2.9 names the condition (R60): a port's lanes beyond lane 511, a thermal limit that is too high. -/
def namedElsewhere (a : Addr) (v : Nat) : Bool :=
  (0x2400 ≤ indexOf a && indexOf a < 0x2600) && subOf a = 1
    || (a = E.THROTTLE_TJ_C && v > 105) || (a = E.HBM_THROTTLE_C && v > 95)

/-- A value outside the range that the catalogue gives its entry (R490): the first listed one. A default is in range. -/
def Device.rangeListed (d : Device) : Option Finding :=
  d.bk.findSome? (fun e =>
    match findRow e.1 with
    | some r => findIf (r.checked && !r.allowed.ok e.2 && !namedElsewhere e.1 e.2 && d.judged e.1) 0x0103 e.1
        (e.2 % 2 ^ 32)
    | none => none)

/-- A key field in use that ends beyond the 448 bytes, or is longer than 20 (R189, R346). -/
def keyFieldBad (v : Nat) : Bool := bits v 16 5 ≠ 0 && (bits v 0 9 + bits v 16 5 > 448 || bits v 16 5 > 20)

/-- The partner's staging value of a member entry, as this member holds it. -/
def Device.peerStaged (d : Device) (a : Addr) : Nat := SMap.get d.peer.entries (defaultOf a) a

/-- The port number is the joint number of a port of the partner (R427), which exists; before the join is formed it is not
known whether it does. -/
def Device.partnerPort (d : Device) (v : Nat) : Bool :=
  d.joins && v < 1024 && v / 512 ≠ d.rd E.JOIN_ROLE && (!d.joined || d.peerStaged (E.PORT_WIDTH (v % 512)) ≠ 0)

/-- The number names a front port that exists (R427). -/
def Device.stagedTarget (d : Device) (v : Nat) : Bool :=
  if d.joins then v < 1024 && (d.partnerPort v || d.stagedExists (v % 512)) else d.stagedExists v

/-- A port reference that no configuration may hold (R439). -/
def Device.portSpace (d : Device) (v : Nat) : Bool :=
  (0x200 ≤ v && v ≤ 0x3FF && !d.joins) || (v > 0x3FF && v ≠ 0x800 && v ≠ 0x840 && !(0x820 ≤ v && v ≤ 0x83F))

/-- The power of two that COMPL_SLOTS may be, 16 to 65,536. -/
def slotsOk (v : Nat) : Bool := (List.range 13).any (fun k => v = 2 ^ (k + 4))

/-- The Harvest names the channel, whether or not it is in force (R399). -/
def Device.harvestNames (d : Device) (c : Nat) : Bool := d.rd E.HARVEST_CHANNEL = c

/-- A channel with a use, or that a CPU queue, an export ring or the Harvest names: in use (R399). -/
def Device.channelInUse (d : Device) (c : Nat) : Bool :=
  d.rd (E.CHANNEL_USE c) ≠ 0 || (List.range 128).any (fun n => d.rd (E.CPU_QUEUE_CHANNEL n) = c)
    || (List.range 3).any (fun x => d.rd (E.RING_CHANNEL x) = c) || d.harvestNames c

/-- A range that its entry's row does not say, for the listed entries: the value is out of range (R189, R282, R297, R399,
R485). -/
def Device.specialRange (d : Device) (a v : Nat) : Bool :=
  let i := indexOf a
  let s := subOf a
  if 0x2E00 ≤ i ∧ i < 0x2E12 ∧ s = 1 then
    (i - 0x2E00 ≤ 15 && (v = 5 || v = 6)) || (i - 0x2E00 ≥ 16 && 1 ≤ v && v ≤ 4)
  else if i = 0x3000 then s ≠ 0 && v > 1023
  else if 0x4100 ≤ i ∧ i < 0x4200 ∧ 2 ≤ s ∧ s ≤ 9 then keyFieldBad v
  else if 0x4200 ≤ i ∧ i < 0x43F0 ∧ s = 1 then v ≠ 0xFFFF && (v > 255 || d.rd (E.TARGET v) ≠ 4)
  else if 0x6900 ≤ i ∧ i < 0x6940 ∧ s = 1 then
    v ≠ 0xFFFF && v ≠ 0x800 && v ≠ 0x840 && !d.stagedTarget v && !d.portSpace v
  else if 0x7100 ≤ i ∧ i < 0x7300 ∧ s = 3 then
    d.judged a && d.rd (E.PORT_RATE_MBPS (i - 0x7100)) = 0 && (v = 0 || v > 16777216)
  else if 0x7100 ≤ i ∧ i < 0x7300 ∧ s = 5 then d.judged a && 64 ≤ v && v ≠ 0xFFFF
  else if a = E.HARVEST_PERIOD_NS then v < 640 || v > 3600000000000
  else if 0x8910 ≤ i ∧ i < 0x8920 ∧ 6 ≤ s ∧ s ≤ 0x0D then keyFieldBad v
  else if 0xA100 ≤ i ∧ i < 0xA500 ∧ s = 5 then !slotsOk v
  else if 0xA140 ≤ i ∧ i < 0xA500 ∧ s = 3 then v < 2 && d.channelInUse (i - 0xA100)
  else false

def Device.rangeSpecial (d : Device) : Option Finding :=
  d.bk.findSome? (fun e => findIf (d.specialRange e.1 e.2) 0x0103 e.1 (e.2 % 2 ^ 32))

/-- An entry in use of a named gate list with DURATION 0 (R282). -/
def Device.rangeGates (d : Device) : Option Finding :=
  d.listsNamed.findSome? (fun g =>
    (List.range (min (d.rd (E.GATE_LENGTH g)) 64)).findSome? (fun i =>
      let v := d.rd (E.GATE_ENTRY g i)
      findIf (bits v 8 24 = 0) 0x0103 (E.GATE_ENTRY g i) v))

/-- The field of a parse state that is out of range, in byte order (R140, R158); TRANS_BASE where it and TRANS_COUNT lead
beyond the rows together (DESIGN CHOICE, log entry 222). -/
def stateFieldBad (e : List Byte) : Option Nat :=
  let b := byteAt e
  let base := b 26 * 256 + b 27
  let hv := b 16 * 256 + b 17
  if b 0 * 256 + b 1 > 1023 then some (b 0 * 256 + b 1)
  else if b 6 / 16 > 7 then some (b 6 / 16)
  else if hv > 383 then some hv
  else if b 18 > 64 then some (b 18)
  else if b 2 / 2 % 2 = 1 ∧ b 19 % 16 = 0 then some 0
  else if 32 ≤ b 21 ∧ b 21 ≠ 255 then some (b 21)
  else if b 22 % 8 > 4 then some (b 22 % 8)
  else if base > 4095 then some base
  else if b 28 > 32 then some (b 28)
  else if base + b 28 > 4096 then some base
  else if b 29 % 4 = 3 then some 3
  else if b 34 > 8 then some (b 34)
  else none

/-- The field of a Sieve pattern that is out of range (R150, R158). -/
def patternFieldBad (e : List Byte) : Option Nat :=
  let b := byteAt e
  if b 0 * 256 + b 1 > 4095 then some (b 0 * 256 + b 1)
  else if b 2 / 2 % 4 = 3 then some 3
  else if b 2 / 8 % 8 > 4 then some (b 2 / 8 % 8)
  else if b 3 = 0 ∨ b 3 > 32 then some (b 3)
  else if b 4 * 256 + b 5 > 511 then some (b 4 * 256 + b 5)
  else if b 6 > 47 then some (b 6)
  else none

/-- The field of a Cooper word that no word may hold (R197, R198): OSUM's WIDTH, the upper bits of a compare's DST, of a
B address, or of an ARG address. -/
def wordFieldBad (w : Nat) : Option Nat :=
  let alu := fun i =>
    let s := Word192.alu w i
    let op := aluOp s
    let x := aluArgs s
    if op = 9 ∧ x.width ≠ 1 then some x.width
    else if 0xA ≤ op ∧ op ≤ 0xE ∧ x.dst > 7 then some x.dst
    else if 1 ≤ op ∧ op ≤ 0xE ∧ !x.bImm ∧ x.b > 511 then some x.b
    else none
  let act := fun i =>
    let s := Word192.act w i
    let x := actArgs s
    if actCode s ≠ 0 ∧ x.aAddr ∧ x.arg > 511 then some x.arg else none
  if Word192.valid w then [alu 0, alu 1, act 0, act 1].findSome? id else none

/-- The entries of a program table (R202). -/
def Device.programs (d : Device) (egress : Bool) : List (List Byte) :=
  pieces 4 (d.obj (if egress then E.EGRESS_PROGRAMS else E.INGRESS_PROGRAMS))

/-- Fields of DOMAIN objects that are out of range (R158, R208). -/
def Device.rangeObjects (d : Device) : Option Finding :=
  let first := fun (a : Addr) (v : Option Nat) => v.map (fun x => (0x0103, a, x))
  [fun (_ : Unit) => first E.PARSE_STATES ((pieces 40 (d.obj E.PARSE_STATES)).findSome? stateFieldBad),
   fun _ => first E.PARSE_ROWS ((pieces 8 (d.obj E.PARSE_ROWS)).findSome? (fun e =>
      if entryNumber e > 4095 then some (entryNumber e) else none)),
   fun _ => first E.SIEVE_PATTERNS ((pieces 72 (d.obj E.SIEVE_PATTERNS)).findSome? patternFieldBad),
   fun _ => first E.INGRESS_PROGRAMS ((d.programs false).findSome? (fun e => if byteAt e 2 > 15 then some (byteAt e 2) else none)),
   fun _ => first E.EGRESS_PROGRAMS ((d.programs true).findSome? (fun e => if byteAt e 2 > 0 then some (byteAt e 2) else none)),
   fun _ => (List.range 32).findSome? (fun s => first (E.OPEN_IMAGE s)
      ((pieces 24 ((d.obj (E.OPEN_IMAGE s)).drop 16)).findSome? (fun w => wordFieldBad (beNat w))))].findSome? (fun f => f ())

/-- VALUE_RANGE (R60): the first entry that holds a value outside its range. -/
def Device.checkRange (d : Device) : Option Finding :=
  let pages := d.rd E.HARVEST_PAGES
  match leastFinding [d.rangeListed, d.rangeSpecial, d.rangeGates,
      findIf (pages = 0 || pages + d.rd E.HARVEST_FIRST_PAGE > 2048) 0x0103 E.HARVEST_PAGES pages] with
  | some f => some f
  | none => d.rangeObjects

/-- CAPABILITY (R493). -/
def Device.checkCapability (d : Device) : Option Finding :=
  let cap := d.rd E.CAPABILITIES
  [fun (_ : Unit) => (List.range 512).findSome? (fun l =>
      let m := d.rd (E.LANE_MODE l)
      if m = 5 then findIf (!bit cap 0) 0x0104 (E.LANE_MODE l) 0
      else findIf (m = 6 && !bit cap 1) 0x0104 (E.LANE_MODE l) 1),
   fun _ => d.stagedPorts.findSome? (fun p =>
      findIf (d.rd (E.RACK_CLASSES p) ≠ 0 && !bit cap 3) 0x0104 (E.RACK_CLASSES p) 3),
   fun _ => findIf (d.joins && !bit cap 1) 0x0104 E.JOIN_ENABLE 1].findSome? (fun f => f ())

/-- DENY_RULE (R41). -/
def Device.checkDeny (d : Device) : Option Finding :=
  (List.range 64).findSome? (fun n =>
    [E.READ_DENY n, E.WRITE_DENY n].findSome? (fun a => findIf (d.rd a / 2 ^ 19 ≠ 0) 0x0105 a n))

/-- Area 0x01; `commit` in the check of a commit. -/
def Device.checkDevice (d : Device) (commit : Bool) : Option Finding :=
  [fun (_ : Unit) => if commit then d.checkCommitTime else none, fun _ => d.checkRange, fun _ => d.checkCapability,
   fun _ => d.checkDeny].findSome? (fun f => f ())

/-! ### Ports, area 0x02 (R116); the spec names no entry for 0x0201 to 0x0206 (log entry 40) -/

/-- The board table's entry of a lane is valid for a mode (R101). -/
def Device.boardOk (d : Device) (l mode : Nat) : Bool :=
  let ch := d.rd (E.BOARD_CHANNEL l)
  let media := bits ch 24 4
  let taps := d.rd (if mode ≥ 5 then E.BOARD_TX_FAST l else E.BOARD_TX_STD l)
  let tap := fun i => toInt 8 (bits taps (8 * i) 8)
  bit ch 0 && (if mode = 6 then media = 3 else media = 1 || media = 2)
    && (if mode ≥ 5 then bits ch 8 8 ≤ 64 else bits ch 16 8 ≤ 120)
    && decide ((tap 0).natAbs + (tap 1).natAbs + (tap 2).natAbs + (tap 3).natAbs ≤ 128 ∧ 64 ≤ tap 2)

/-- The lanes in use, ascending, with their modes: those of the ports that exist, and the join's. -/
def Device.lanesInUse (d : Device) : List (Nat × Nat) :=
  (List.range 512).filterMap (fun l =>
    if d.isJoinLane l then some (l, 6)
    else if d.stagedPorts.any (fun p => (d.stagedLanes p).contains l) then some (l, d.rd (E.LANE_MODE l))
    else none)

def Device.checkPorts (d : Device) : Option Finding :=
  let ps := d.stagedPorts
  let base := fun p => d.rd (E.PORT_LANE_BASE p)
  let width := fun p => d.rd (E.PORT_WIDTH p)
  let mode := fun l => d.rd (E.LANE_MODE l)
  [fun (_ : Unit) => ps.findSome? (fun p =>
      findIf (min (base p) 511 / 16 ≠ min (base p + width p - 1) 511 / 16) 0x0201 (E.PORT_LANE_BASE p) p),
   fun _ => ps.findSome? (fun p =>
      if !([1, 2, 4, 8].contains (width p)) then some (0x0202, E.PORT_WIDTH p, p)
      else findIf (base p % width p ≠ 0 || base p + width p > 512) 0x0202 (E.PORT_LANE_BASE p) p),
   fun _ => ps.findSome? (fun p => (d.stagedLanes p).findSome? (fun l =>
      findIf (d.isJoinLane l || ps.any (fun q => q < p && (d.stagedLanes q).contains l)) 0x0203 (E.PORT_LANE_BASE p) l)),
   fun _ => ps.findSome? (fun p => (d.stagedLanes p).findSome? (fun l =>
      findIf (d.isRetired 1 l) 0x0204 (E.PORT_LANE_BASE p) l)),
   fun _ => (List.range 512).findSome? (fun l => findIf (d.isJoinLane l && d.isRetired 1 l) 0x0204 E.JOIN_WIDTH l),
   fun _ => ps.findSome? (fun p => (d.stagedLanes p).findSome? (fun l =>
      findIf (mode l ≠ mode (base p)) 0x0205 (E.LANE_MODE l) p)),
   fun _ => ps.findSome? (fun p =>
      findIf (pcsCode (width p) (mode (base p)) = 0) 0x0206 (E.PORT_WIDTH p) p),
   fun _ => d.lanesInUse.findSome? (fun x => findIf (!d.boardOk x.1 x.2) 0x0207 (E.BOARD_CHANNEL x.1) x.1),
   fun _ => ps.findSome? (fun p =>
      findIf (d.rd (E.PORT_MTU p) < 1518 || d.rd (E.PORT_MTU p) > 16000) 0x0208 (E.PORT_MTU p) p)].findSome? (fun f => f ())

/-! ### The Press, area 0x03 (R158) -/

/-- The regions of HV that a state extracts: (first, end) of each visit. -/
def stateRegions (e : List Byte) : List (Nat × Nat) :=
  let off := byteAt e 16 * 256 + byteAt e 17
  if byteAt e 2 / 2 % 2 = 1 ∧ byteAt e 18 ≠ 0 then
    (List.range (byteAt e 19 % 16)).map (fun v => (off + v * byteAt e 20, off + v * byteAt e 20 + byteAt e 18))
  else []

def stateGroup (e : List Byte) : Nat := byteAt e 19 / 16

/-- A state's extraction leaves HV, or its own visits overlap (Table 6.10). -/
def extractBad (e : List Byte) : Bool :=
  let visits := byteAt e 19 % 16
  byteAt e 2 / 2 % 2 = 1
    && (byteAt e 16 * 256 + byteAt e 17 + (visits - 1) * byteAt e 20 + byteAt e 18 > 384
      || (visits > 1 && byteAt e 20 < byteAt e 18))

/-- Two states' regions overlap, and no common group allows it. -/
def regionsMeet (a b : List Byte) : Bool :=
  !(stateGroup a ≠ 0 && stateGroup a = stateGroup b)
    && (stateRegions a).any (fun x => (stateRegions b).any (fun y => x.1 < y.2 && y.1 < x.2))

def Device.checkPress (d : Device) : Option Finding :=
  let states := pieces 40 (d.obj E.PARSE_STATES)
  let rows := pieces 8 (d.obj E.PARSE_ROWS)
  let live := states.filter (fun e => byteAt e 2 % 2 = 1)
  let known := fun n => live.any (fun e => entryNumber e = n)
  let pats := (pieces 72 (d.obj E.SIEVE_PATTERNS)).filter (fun e => byteAt e 2 % 2 = 1)
  let rowsOf := fun e =>
    rows.filter (fun r => byteAt e 26 * 256 + byteAt e 27 ≤ entryNumber r
      && entryNumber r < byteAt e 26 * 256 + byteAt e 27 + byteAt e 28)
  [fun (_ : Unit) => findIf (live.length > 256) 0x0301 E.PARSE_STATES live.length,
   fun _ => [E.START_FRONT, E.START_RECIRC, E.START_INJECT, E.START_MGMT].findSome? (fun a =>
      findIf (!known (d.rd a)) 0x0302 a (d.rd a)),
   fun _ => live.findSome? (fun e =>
      findIf (byteAt e 29 % 4 = 0 && !known (byteAt e 30 * 256 + byteAt e 31)) 0x0302 E.PARSE_STATES (entryNumber e)),
   fun _ => live.findSome? (fun e =>
      findIf ((rowsOf e).any (fun r => byteAt r 6 / 64 = 0 && !known (byteAt r 6 % 4 * 256 + byteAt r 7))) 0x0302 E.PARSE_ROWS
        (entryNumber e)),
   fun _ => live.findSome? (fun e =>
      findIf (extractBad e || live.any (fun x => entryNumber x < entryNumber e && regionsMeet x e)) 0x0303 E.PARSE_STATES
        (entryNumber e)),
   fun _ => states.findSome? (fun e =>
      findIf ((byteAt e 34 ≠ 0 && byteAt e 33 < 42) || byteAt e 33 + byteAt e 34 > 64) 0x0304 E.PARSE_STATES (entryNumber e)),
   fun _ => findIf (sumOn pats (fun e => byteAt e 3) > 65536) 0x0305 E.SIEVE_PATTERNS pats.length,
   fun _ => (List.range 255).findSome? (fun i =>
      findIf (d.rd (E.TRAP_POLICER (i + 1)) ≥ 262144) 0x0306 (E.TRAP_POLICER (i + 1)) (i + 1))].findSome? (fun f => f ())

/-! ### Cooper programs (R204 to R208) -/

/-- A word of a slice's store as the staging image makes it. -/
def Device.stagedWord (d : Device) (s addr : Nat) : Nat :=
  if addr < 0x3000 then factoryCooperWord addr
  else beNat (slice (d.obj (E.OPEN_IMAGE s)) (16 + 24 * (addr - 0x3000)) 24)

/-- The successors of a word: the next one, and JUMP. -/
def successors (addr w : Nat) : List Nat :=
  if Word192.ends w then []
  else (if Word192.cond w ≠ 1 then [addr + 1] else []) ++ (if Word192.cond w ≠ 0 then [Word192.jump w] else [])

/-- Numbers put in ascending order without repeats. -/
def insNew (n : Nat) : List Nat → List Nat
  | [] => [n]
  | x :: t => if n < x then n :: x :: t else if n = x then x :: t else x :: insNew n t

/-- The addresses that a program reaches at each stage, from an address on: (stage, ascending addresses), the store's end
left out. -/
def Device.reachFrom (d : Device) (s : Nat) : Nat → Nat → List Nat → List (Nat × List Nat)
  | 0, _, _ => []
  | n + 1, k, level =>
    let next := (level.flatMap (fun a => successors a (d.stagedWord s a))).foldl (fun l a =>
      if a < 0x4000 then insNew a l else l) []
    (k, level) :: d.reachFrom s n (k + 1) next

/-- A program: its ENTRY and PASS_LIMIT, and what it reaches. An entry refused with 0x0503 is not walked further
(DEDUCED, log entry 53). -/
def Device.programPaths (d : Device) (s : Nat) (egress : Bool) : List (Nat × Nat × List (Nat × List Nat)) :=
  (d.programs egress).filterMap (fun e =>
    if byteAt e 3 % 2 = 1 then
      let x := (byteAt e 0 * 256 + byteAt e 1) % 0x4000
      let w := d.stagedWord s x
      some (x, byteAt e 2, if Word192.valid w && Word192.start w then d.reachFrom s (if egress then 12 else 24) 0 [x] else [])
    else none)

/-- The latency of a profile in the configuration checked. -/
def Device.stagedLatency (d : Device) (n : Nat) : Nat :=
  latencyOf (d.rd (E.TARGET n)) (d.rd (E.POWER_MODE n)) (d.rd (E.PROFILE_FLAGS n))

/-- The launches of a word at a stage keep within R164. -/
def Device.launchesOk (d : Device) (egress : Bool) (k w : Nat) : Bool :=
  let ls := Word192.launches w
  let last := if egress then 11 else 23
  ls.all (fun l => k + d.stagedLatency l.1 ≤ last)
    && (ls.filter (fun l => 2 ≤ d.rd (E.TARGET l.1) && d.rd (E.TARGET l.1) ≤ 4)).length ≤ 1

/-- An ALU slot breaks R195 or R207: a reserved operation, an operand across a boundary, a byte that words may not write. -/
def aluBreaks (w i : Nat) : Bool :=
  let s := Word192.alu w i
  let op := aluOp s
  let x := aluArgs s
  !aluOk op x || (1 ≤ op && op < 0xA && !(List.range (widthOf x.width)).all (fun j => writable (x.dst + j)))

/-- An action slot breaks R195, R198, R207 or R316: a code for neither, a SET_EMIT out of range, a TIMESTAMP of format 3, an
operand across a boundary, or an action of the other pipeline. -/
def actBreaks (egress : Bool) (w i : Nat) : Bool :=
  let s := Word192.act w i
  let code := actCode s
  let x := actArgs s
  let ingressOnly := [1, 2, 3, 5, 7, 9].contains code
  let egressOnly := code = 0x0C || code = 0x0D
  code ≥ 0x0F || (code ≠ 0 && !actOk x)
    || (code = 0x0A && !x.aAddr && (bits x.arg 0 9 > 384 || bits x.arg 9 10 > 512))
    || (code = 0x0C && !x.aAddr && bits x.arg 9 2 = 3)
    || (if egress then ingressOnly else egressOnly)

/-- An Open-store word breaks its limits (R195, R207). -/
def Device.openBreaks (d : Device) (s : Nat) (egress : Bool) (addr : Nat) : Bool :=
  let w := d.stagedWord s addr
  let succOk := fun a => a < 0x4000 && Word192.valid (d.stagedWord s a) && (0x3000 ≤ a || Word192.start (d.stagedWord s a))
  0x3000 ≤ addr
    && (aluBreaks w 0 || aluBreaks w 1 || actBreaks egress w 0 || actBreaks egress w 1
      || (Word192.launches w).any (fun l => l.1 ≥ 240) || !(successors addr w).all succOk)

/-- The program table of a pipeline. -/
def programTable (egress : Bool) : Addr := if egress then E.EGRESS_PROGRAMS else E.INGRESS_PROGRAMS

/-- The first program, in the order of R208, of which `f` finds a fault: `f` takes the slice, the pipeline, ENTRY,
PASS_LIMIT and what it reaches. -/
def Device.findProgram (d : Device) (f : Nat → Bool → Nat → Nat → List (Nat × List Nat) → Option Finding) :
    Option Finding :=
  (List.range 32).findSome? (fun s => [false, true].findSome? (fun egress =>
    (d.programPaths s egress).findSome? (fun x => f s egress x.1 x.2.1 x.2.2)))

/-- SEARCH_BUDGET (R164, R208). -/
def Device.checkLaunches (d : Device) : Option Finding :=
  d.findProgram (fun s egress _ _ reach => reach.findSome? (fun lv => lv.2.findSome? (fun a =>
    findIf (!d.launchesOk egress lv.1 (d.stagedWord s a)) 0x0402 (E.OPEN_IMAGE s) (lv.1 + if egress then 0x100 else 0))))

/-- A word holds an action of a code whose PRED is not 0. -/
def hasAction (w code : Nat) : Bool :=
  [0, 1].any (fun i => actCode (Word192.act w i) = code && (actArgs (Word192.act w i)).pred ≠ 0)

/-! ### Customer routines (R220) -/

/-- A word of the staged Cellarhand image. -/
def Device.stagedHand (d : Device) (addr : Nat) : Nat :=
  beNat (slice (d.obj E.BG_OPEN_IMAGE) (16 + 16 * (addr - 0x1800)) 16)

def handInside (a : Nat) : Bool := 0x1800 ≤ a && a ≤ 0x1FFF

/-- The words that follow a Cellarhand word, by fall-through and by TARGET. -/
def handNext (addr w : Nat) : List Nat :=
  let op := bits w 122 6
  if op = 0x13 then []
  else if op = 0x0A then (if (handArgs w).cond = 0 then [] else [addr + 1]) ++ [(handArgs w).target]
  else [addr + 1]

/-- The addresses that are reachable, no further than the first outside the region; `fuel` bounds the number of words
visited. -/
def Device.handReach (d : Device) : Nat → List Nat → List Nat → List Nat
  | 0, _, seen => seen
  | _ + 1, [], seen => seen
  | n + 1, a :: todo, seen =>
    if seen.contains a then d.handReach n todo seen
    else if !handInside a then d.handReach n todo (insNew a seen)
    else d.handReach n (handNext a (d.stagedHand a) ++ todo) (insNew a seen)

/-- A reachable Cellarhand word is at fault: it lies outside the region, is reserved, or branches on a reserved
condition. -/
def Device.handFault (d : Device) (a : Nat) : Bool :=
  let w := d.stagedHand a
  !handInside a || bits w 122 6 ≥ 0x15 || (bits w 122 6 = 0x0A && (handArgs w).cond ≥ 5)

/-- CELLARHAND_ROUTINE of a trigger (R220): the address at fault. -/
def Device.checkTrigger (d : Device) (t : Nat) : Option Finding :=
  let x := d.rd (E.TRIG_ENTRY t)
  if d.rd (E.TRIG_ENABLE t) = 0 then none
  else if !handInside x then some (0x0505, E.BG_OPEN_IMAGE, x)
  else
    let reach := d.handReach 8192 [x] []
    match reach.find? d.handFault with
    | some a => some (0x0505, E.BG_OPEN_IMAGE, a)
    | none => findIf (!reach.any (fun a => handInside a && (bit (d.stagedHand a) 121 || bits (d.stagedHand a) 122 6 = 0x13))) 0x0505
        E.BG_OPEN_IMAGE x

/-! ### The Sorting Table, area 0x04 (R189) -/

/-- What an entry's bytes are at in a list of entries: the index. -/
def indexOfEntry (e : List Byte) (es : List (List Byte)) : Nat := es.findIdx (fun x => x = e)

/-- The prefixes that count against a family's capacity (R170): the staged ones, and the current ones that are not among
them. -/
def Device.prefixes (d : Device) (family : Nat) : Nat :=
  let staged := (d.stagedEntries 1).filter (fun e => byteAt e 0 = family)
  let now := (d.stores.lpm.filter (fun e => e.valid d.parity && byteAt e.bytes 0 = family)).map (·.bytes)
  staged.length + (now.filter (fun e => !staged.contains e)).length

/-- The Exact entries on which the placement of a check runs (R169): in a commit those that the sweep leaves, since
Preparing does not begin before it has ended. -/
def Device.modelEntries (d : Device) (commit : Bool) : List TableEntry :=
  if commit then sweepEntries d.stores.exact d.parity else d.stores.exact

def Device.checkSorting (d : Device) (commit : Bool) : Option Finding :=
  let rows := d.stagedEntries 2
  let exact := d.stagedEntries 0
  let q := d.rd E.VINTAGE_STAGING % 2
  let lpmBanks := ((List.range 64).filter (d.bankIn 4)).length
  let rowBanks := rows.foldl (fun l e => insNew (entryNumber e) l) []
  let keyLen := fun n => sumOn (List.range 8) (fun i => bits (d.rd (E.PROFILE_KEY_FIELD n i)) 16 5)
  [fun (_ : Unit) => (List.range 256).findSome? (fun n =>
      let t := d.rd (E.TARGET n)
      findIf ((t = 1 && keyLen n > 16) || (t = 4 && keyLen n > 20) || (t = 2 && keyLen n ≠ 6) || (t = 3 && keyLen n ≠ 18))
        0x0401 (E.TARGET n) n),
   fun _ => d.checkLaunches,
   fun _ => rows.findSome? (fun e =>
      findIf (beNat (slice e 8 20) &&& lnot 160 (d.rd (E.BANK_MASK (entryNumber e))) ≠ 0) 0x0403 E.MASK_ROWS (entryNumber e)),
   fun _ => (List.range exact.length).findSome? (fun i =>
      findIf (i > 0 && identity 0 (exact.getD i []) = identity 0 (exact.getD (i - 1) [])) 0x0404 E.EXACT_ENTRIES (32 * i)),
   fun _ => match d.loadStore 0 q (!commit) (d.modelEntries commit) exact with
      | .ok _ => none
      | .error e => some (0x0405, E.EXACT_ENTRIES, 32 * indexOfEntry e exact),
   fun _ => [(4, 32768), (6, 16384)].findSome? (fun f =>
      findIf (d.prefixes f.1 > f.2 * lpmBanks) 0x0406 E.LPM_ENTRIES (d.prefixes f.1)),
   fun _ => (List.range 496).findSome? (fun b =>
      findIf (d.rd (E.BANK_PROFILE b) ≠ 0xFFFF && !d.bankIn 5 b) 0x0407 (E.BANK_PROFILE b) rowBanks.length),
   fun _ => findIf (rowBanks.any (fun b => !d.bankIn 5 b)) 0x0407 E.MASK_ROWS rowBanks.length,
   fun _ => (List.range 256).findSome? (fun n => findIf (d.rd (E.TARGET n) = 5) 0x0408 (E.TARGET n) n)].findSome? (fun f => f ())

/-! ### Coopers, area 0x05 (R208, R220) -/

def Device.checkCoopers (d : Device) : Option Finding :=
  let passMax := d.rd E.PASS_LIMIT_MAX
  [fun (_ : Unit) => d.findProgram (fun s egress x _ reach =>
      let last := if egress then 11 else 23
      findIf (reach.any (fun lv => lv.1 = last && lv.2.any (fun a => !Word192.ends (d.stagedWord s a)))) 0x0501
        (programTable egress) x),
   fun _ => d.findProgram (fun s egress _ _ reach => reach.findSome? (fun lv => lv.2.findSome? (fun a =>
      findIf (d.openBreaks s egress a) 0x0502 (E.OPEN_IMAGE s) a))),
   fun _ => d.findProgram (fun s egress x _ _ =>
      let w := d.stagedWord s x
      findIf (!Word192.valid w || !Word192.start w) 0x0503 (programTable egress) x),
   fun _ => d.findProgram (fun s egress x limit reach =>
      findIf (!egress && reach.any (fun lv => lv.2.any (fun a => hasAction (d.stagedWord s a) 0x05))
        && (limit = 0 || limit > passMax)) 0x0504 E.INGRESS_PROGRAMS x),
   fun _ => (List.range 16).findSome? d.checkTrigger,
   fun _ => (List.range 32).findSome? (fun s =>
      let v := beNat (slice (d.obj (E.OPEN_IMAGE s)) 4 4)
      findIf (v ≠ 0 && v ≠ d.rd E.VINTAGE_STAGING) 0x0506 (E.OPEN_IMAGE s) s)].findSome? (fun f => f ())

/-! ### Buffers, area 0x06 (R255, R439) -/

/-- The first entry at which a running sum exceeds a limit. -/
def exceedsAt (limit reason detail : Nat) : Nat → List (Addr × Nat) → Option Finding
  | _, [] => none
  | sum, (a, n) :: t => if sum + n > limit then some (reason, a, detail) else exceedsAt limit reason detail (sum + n) t

/-- The groups of an E600 object (R240): (GROUP, FLAGS, COUNTER_BASE, members). `fuel` bounds the number of groups. -/
def groupsOf : Nat → List Byte → List (Nat × Nat × Nat × List Nat)
  | 0, _ => []
  | n + 1, bs =>
    if bs.length < 8 then []
    else
      let count := byteAt bs 2 * 256 + byteAt bs 3
      (byteAt bs 0 * 256 + byteAt bs 1, byteAt bs 4, beNat (slice bs 5 3), (pieces 2 ((bs.drop 8).take (2 * count))).map beNat)
        :: groupsOf n (bs.drop (8 + (2 * count + 7) / 8 * 8))

def Device.stagedGroups (d : Device) : List (Nat × Nat × Nat × List Nat) :=
  groupsOf ((d.obj E.MC_GROUPS).length / 8) (d.obj E.MC_GROUPS)

/-- The largest PORT_MTU of this device, in a pair of both members (R439). -/
def Device.largestMtu (d : Device) : Nat :=
  let peer := if d.joined then (List.range 512).filter (fun p => d.peerStaged (E.PORT_WIDTH p) ≠ 0) else []
  peer.foldl (fun m p => max m (d.peerStaged (E.PORT_MTU p))) (d.stagedPorts.foldl (fun m p => max m (d.rd (E.PORT_MTU p))) 0)

/-- The units that Q_MIN_UC_7 must give a port of an MTU (Table 9.8), with cells of `c` bytes. -/
def tc7Units (mtu c : Nat) : Nat := 2 * (ceilDiv 456 c + ceilDiv (mtu - 4) c) * c / 256

def Device.checkBuffers (d : Device) : Option Finding :=
  let ps := d.stagedPorts
  let banks := fun c => d.rd (E.BIN_BANKS c)
  let rc := d.reserveClass
  let r := d.classBanks rc
  let units := 16384 * ((List.range r.2).filter (fun i => d.caskBankIn (r.1 + i))).length
  let eight := fun (f : Nat → Addr) => sumOn (List.range 8) (fun t => d.rd (f t))
  let inSums := ps.map (fun p => (E.IN_MIN p 0, eight (E.IN_MIN p) + eight (E.HEADROOM p)))
    ++ (if d.joins then [(E.JOIN_IN_MIN 0, eight E.JOIN_IN_MIN + eight E.JOIN_HEADROOM)] else [])
  let qSums := [(E.CPU_Q_MIN, 129 * d.rd E.CPU_Q_MIN), (E.RECIRC_Q_MIN, 32 * d.rd E.RECIRC_Q_MIN)]
    ++ ps.map (fun p => (E.Q_MIN_UC p 0, eight (E.Q_MIN_UC p) + eight (E.Q_MIN_MC p)))
    ++ (if d.joins then [(E.CROSS_Q_MIN 0, eight E.CROSS_Q_MIN)] else [])
  let mtu := d.largestMtu
  let c0 := cellSize rc
  [fun (_ : Unit) => (List.range 4).findSome? (fun c => findIf (0 < banks c && banks c < 8) 0x0601 (E.BIN_BANKS 0) c),
   fun _ => findIf (sumOn (List.range 4) banks ≠ 96) 0x0601 (E.BIN_BANKS 0) 4,
   fun _ => leastFinding [exceedsAt units 0x0602 rc 0 inSums, exceedsAt d.unitsInService 0x0602 4 0 qSums],
   fun _ => ps.findSome? (fun p => findIf (bit (d.rd (E.RACK_CLASSES p)) 7) 0x0603 (E.RACK_CLASSES p) (16 * p + 7)),
   fun _ => [E.RACK_OUT_GBPS, E.RACK_IN_GBPS].findSome? (fun a => findIf (d.rd a > 16000) 0x0604 a (d.rd a)),
   fun _ => d.stagedGroups.findSome? (fun g =>
      findIf (g.2.2.2.any (fun m => m ≠ 0x840 && !d.stagedTarget m)) 0x0605 E.MC_GROUPS g.1),
   fun _ => ps.findSome? (fun p =>
      findIf (d.rd (E.Q_MIN_UC p 7) < tc7Units (d.rd (E.PORT_MTU p)) c0) 0x0606 (E.Q_MIN_UC p 7) (16 * p + 7)),
   fun _ => if d.joins then [E.CROSS_Q_MIN 7, E.JOIN_IN_MIN 7].findSome? (fun a => findIf (d.rd a < tc7Units mtu c0) 0x0606 a 7)
      else none].findSome? (fun f => f ())

/-! ### The Decanter, area 0x07 (R282) -/

/-- The shapers of a port: (rate entry, burst entry, shaper number), the port's, the groups', the queues'. -/
def shapersOf (p : Nat) : List (Addr × Addr × Nat) :=
  [(E.PORT_RATE_MBPS p, E.PORT_BURST p, 10240 + p)]
    ++ (List.range 4).map (fun g => (E.GROUP_RATE_MBPS p g, E.GROUP_BURST p g, 8192 + 4 * p + g))
    ++ (List.range 16).map (fun i => (E.QUEUE_RATE_MBPS p i, E.QUEUE_BURST p i, 16 * p + i))

/-- The first entry of a port at which a shaper that is on is out of range. -/
def Device.checkShaper (d : Device) (p : Nat) : Option Finding :=
  leastFinding ((shapersOf p).flatMap (fun s =>
    let rate := d.rd s.1
    let burst := d.rd s.2.1
    [findIf (rate > 3200000) 0x0701 s.1 s.2.2,
     findIf (rate ≠ 0 && (burst = 0 || burst > 16777216)) 0x0701 s.2.1 s.2.2]))

/-- The queues of classes 0 to 6. -/
def ordinaryQueues : List Nat := (List.range 16).filter (fun i => i % 8 ≠ 7)

/-- The entries of a staged gate list: (open classes, duration). -/
def Device.stagedGates (d : Device) (g : Nat) : List (Nat × Nat) :=
  (List.range (d.rd (E.GATE_LENGTH g))).map (fun i =>
    let v := d.rd (E.GATE_ENTRY g i)
    (v % 256, v / 256))

/-- The lengths of the open runs in a list of (open, duration); `run` slots are open before it. -/
def runsFrom : Option Nat → List (Bool × Nat) → List Nat
  | none, [] => []
  | some r, [] => [r]
  | none, (true, n) :: t => runsFrom (some n) t
  | none, (false, _) :: t => runsFrom none t
  | some r, (true, n) :: t => runsFrom (some (r + n)) t
  | some r, (false, _) :: t => r :: runsFrom none t

/-- The open runs of a class over one cycle, joined across the wrap (R282): none for a class that is always open, or
where there is no cycle; one of length 0 for a class closed in every entry. -/
def openRuns (gates : List (Nat × Nat)) (c : Nat) : List Nat :=
  let es := gates.map (fun e => (bit e.1 c, e.2))
  if es.all (·.1) then []
  else if !es.any (·.1) then [0]
  else
    let k := es.findIdx (fun e => !e.1)
    runsFrom none (es.drop k ++ es.take k)

/-- tx(L) in slots (R271). -/
def txSlots (gbps len : Nat) : Nat := ceilDiv ((len + 20) * 8000) (625 * gbps)

/-- A class of a gated port has a run that is too short for its largest frame (0x0703). -/
def Device.windowShort (d : Device) (g p c : Nat) : Bool :=
  let rate := d.rd (E.PORT_WIDTH p) * lanePayload (d.rd (E.LANE_MODE (d.rd (E.PORT_LANE_BASE p))))
  !(c < 7 && bit (d.rd (E.PORT_SCHED p)) (8 + c) && bit (d.rd (E.PORT_CONTROL p)) 2)
    && (openRuns (d.stagedGates g) c).any (fun n => n < txSlots rate (d.rd (E.PORT_MTU p)))

/-- A policer entry that is in use is inconsistent (0x0706). -/
def policerBad (e : List Byte) : Bool :=
  let n := fun i => beNat (slice e i 4)
  let mode := byteAt e 4
  (mode = 1 || mode = 2) && (n 8 = 0 || n 16 = 0 || (mode = 1 && n 12 ≠ 0) || (mode = 2 && (n 12 < n 8 || n 20 = 0)))

def Device.checkDecanter (d : Device) : Option Finding :=
  let ps := d.stagedPorts
  let qc := fun p i => d.rd (E.QUEUE_CTRL p i)
  [fun (_ : Unit) => ps.findSome? d.checkShaper,
   fun _ => ps.findSome? (fun p => leastFinding (
      (List.range 4).map (fun g => findIf (bit (d.rd (E.GROUP p g)) 0 && bits (d.rd (E.GROUP p g)) 4 12 = 0) 0x0702
        (E.GROUP p g) (16 * p))
      ++ ordinaryQueues.map (fun i => findIf (bits (qc p i) 4 12 = 0) 0x0702 (E.QUEUE_CTRL p i) (16 * p + i)))),
   fun _ => d.listsNamed.findSome? (fun g => ps.findSome? (fun p =>
      if d.rd (E.GATE_LIST p) = g then
        (List.range 8).findSome? (fun c => findIf (d.windowShort g p c) 0x0703 (E.GATE_ENTRY g 0) (16 * p + c))
      else none)),
   fun _ => d.listsNamed.findSome? (fun g =>
      let cycle := sumOn (d.stagedGates g) (·.2)
      findIf (d.rd (E.GATE_LENGTH g) = 0 || cycle % 1024 ≠ 0 || cycle > 1048576) 0x0704 (E.GATE_LENGTH g) g),
   fun _ => ps.findSome? (fun p => findIf (bit (d.rd (E.PORT_SCHED p)) 15) 0x0705 (E.PORT_SCHED p) p),
   fun _ => (pieces 32 (d.obj E.POLICERS)).findSome? (fun e => findIf (policerBad e) 0x0706 E.POLICERS (beNat (e.take 4))),
   fun _ => ps.findSome? (fun p => ordinaryQueues.findSome? (fun i =>
      findIf (!bit (d.rd (E.GROUP p (qc p i % 4))) 0) 0x0707 (E.QUEUE_CTRL p i) (16 * p + i)))].findSome? (fun f => f ())

/-! ### Time, area 0x08 (R327, R352) -/

/-- A path of an egress program of a slice stamps (0x0802). -/
def Device.sliceStamps (d : Device) (s : Nat) : Bool :=
  (d.programPaths s true).any (fun x => x.2.2.any (fun lv => lv.2.any (fun a => hasAction (d.stagedWord s a) 0x0C)))

def Device.checkTime (d : Device) (commit : Bool) : Option Finding :=
  let ps := d.stagedPorts
  let at' := if commit then d.commitTime else d.rd E.COMMIT_TIME
  [fun (_ : Unit) => ps.findSome? (fun p => findIf (d.rd (E.TX_LATENCY_PS p) > 1000000) 0x0801 (E.TX_LATENCY_PS p) p),
   fun _ => ps.findSome? (fun p => findIf (d.rd (E.RX_LATENCY_PS p) > 1000000) 0x0801 (E.RX_LATENCY_PS p) p),
   fun _ => ps.findSome? (fun p =>
      findIf (decide ((toInt 32 (d.rd (E.ASYMMETRY_PS p))).natAbs > 1000000)) 0x0801 (E.ASYMMETRY_PS p) p),
   fun _ => ps.findSome? (fun p =>
      findIf (bit (d.rd (E.ONE_STEP_PORTS (p / 32))) (p % 32) && !d.sliceStamps (d.rd (E.PORT_LANE_BASE p) / 16)) 0x0802
        (E.ONE_STEP_PORTS (p / 32)) p),
   fun _ => findIf (d.rd E.PPS_IN_PIN = d.rd E.PPS_OUT_PIN && d.rd E.PPS_IN_PIN ≠ 0xFF) 0x0803 E.PPS_OUT_PIN (d.rd E.PPS_IN_PIN),
   fun _ => findIf (d.rd E.TIME_SOURCE = 0
        && (at' ≠ 0 || d.listsNamed.any (fun g => d.rd (E.GATE_BASE_TIME g) ≠ 0) || d.rd E.HARVEST_BASE_TIME ≠ 0))
      0x0804 E.TIME_SOURCE 0].findSome? (fun f => f ())

/-! ### Telemetry, area 0x09 (R331, R332, R352) -/

/-- The uses of counters in the order of their entries: (entry, the (base, units) that it counts in). -/
def Device.counterUses (d : Device) : List (Addr × List (Nat × Nat)) :=
  let hist := d.stagedPorts.filterMap (fun p =>
    if d.rd (E.HIST_CONTROL p) % 4 ≠ 0 then some (E.HIST_BASE p, [(d.rd (E.HIST_BASE p), 16)]) else none)
  let counts := (List.range 32).flatMap (fun s =>
    (pieces 24 ((d.obj (E.OPEN_IMAGE s)).drop 16)).flatMap (fun b =>
      let w := beNat b
      if Word192.valid w then
        [0, 1].filterMap (fun i =>
          let x := actArgs (Word192.act w i)
          if actCode (Word192.act w i) = 0x06 ∧ !x.aAddr then some (E.OPEN_IMAGE s, x.arg % 2 ^ 21, 1 + x.arg / 2 ^ 21) else none)
      else []))
  let groups := d.stagedGroups.filterMap (fun g =>
    if bit g.2.1 1 then some (E.MC_GROUPS, [(g.2.2.1 % 2 ^ 21, g.2.2.2.length)]) else none)
  let policers := (pieces 32 (d.obj E.POLICERS)).filterMap (fun e =>
    let c := beNat (slice e 24 4)
    if bit c 31 then some (E.POLICERS, [(c % 2 ^ 21, 3)]) else none)
  hist ++ (match counts with
    | [] => []
    | x :: _ => [(x.1, counts.map (·.2))]) ++ groups ++ policers

/-- The counters of a base and its units: (first, last), as far as counter 2,097,151. -/
def Device.useRange (d : Device) (b : Nat × Nat) : Nat × Nat :=
  (b.1, min (d.unitAt b.1 b.2 - 1) 2097151)

/-- A use that breaks a chain: its base is odd in a chain range, or it lies partly in one. -/
def Device.useChainBad (d : Device) (b : Nat × Nat) : Bool :=
  (d.chained b.1 && b.1 % 2 = 1) || (List.range b.2).any (fun k => d.unitAt b.1 k ≤ 2097151 && d.chained (d.unitAt b.1 k) ≠ d.chained b.1)

/-- The lowest counter that two uses share. -/
def Device.sharedCounter (d : Device) (xs ys : List (Nat × Nat)) : Option Nat :=
  (xs.flatMap (fun x => ys.filterMap (fun y =>
    let a := d.useRange x
    let b := d.useRange y
    if a.1 ≤ b.2 ∧ b.1 ≤ a.2 then some (max a.1 b.1) else none))).min?

/-- COUNTER_OVERLAP: the first use that shares a counter with an earlier one. -/
def Device.overlapOf (d : Device) : List (List (Nat × Nat)) → List (Addr × List (Nat × Nat)) → Option Finding
  | _, [] => none
  | before, (a, u) :: t =>
    match d.sharedCounter u before.flatten with
    | some n => some (0x0902, a, n)
    | none => d.overlapOf (before ++ [u]) t

/-- The chain range `c` is bad (0x0901). -/
def Device.chainBad (d : Device) (c : Nat) : Bool :=
  let f := d.rd (E.CHAIN_FIRST c)
  let n := d.rd (E.CHAIN_COUNT c)
  n ≠ 0 && (f % 2 = 1 || n % 2 = 1 || f + n > 2097152
    || (List.range c).any (fun k =>
        let g := d.rd (E.CHAIN_FIRST k)
        let m := d.rd (E.CHAIN_COUNT k)
        m ≠ 0 && f < g + m && g < f + n))

/-- A flow profile that is enabled is invalid (0x0904). -/
def Device.templateBad (d : Device) (t : Nat) : Bool :=
  let n := d.rd (E.FLOW_COUNT t)
  let f := d.rd (E.FLOW_FIRST t)
  let len := fun i => bits (d.rd (E.FLOW_KEY_FIELD t i)) 16 5
  let total := sumOn (List.range 8) len
  let others := (List.range 16).filter (fun k => k ≠ t && d.rd (E.FLOW_COUNT k) ≠ 0)
  n ≠ 0 && (d.rd (E.TEMPLATE_ID t) < 256 || others.any (fun k => d.rd (E.TEMPLATE_ID k) = d.rd (E.TEMPLATE_ID t))
    || (List.range 8).any (fun i => len i ≠ 0 && d.rd (E.FLOW_KEY_IE t i) = 0) || total = 0 || total > 40
    || f + n > 262144
    || others.any (fun k => f < d.rd (E.FLOW_FIRST k) + d.rd (E.FLOW_COUNT k) && d.rd (E.FLOW_FIRST k) < f + n))

def Device.checkTelemetry (d : Device) : Option Finding :=
  let ps := d.stagedPorts
  let uses := d.counterUses
  let need := 128 + 4096 * d.rd E.HARVEST_PAGES
  let on := d.rd E.HARVEST_ENABLE = 1
  let mtu := ps.foldl (fun m p => max m (d.rd (E.PORT_MTU p))) 0
  [fun (_ : Unit) => (List.range 64).findSome? (fun c => findIf (d.chainBad c) 0x0901 (E.CHAIN_FIRST c) (d.rd (E.CHAIN_FIRST c))),
   fun _ => uses.findSome? (fun u => (u.2.find? d.useChainBad).map (fun b => (0x0901, u.1, b.1))),
   fun _ => d.overlapOf [] uses,
   fun _ => findIf (on && d.rd E.HARVEST_PERIOD_NS % 640 ≠ 0) 0x0903 E.HARVEST_PERIOD_NS need,
   fun _ => findIf (on && d.rd E.HARVEST_SLOT_BYTES < need) 0x0903 E.HARVEST_SLOT_BYTES need,
   fun _ => (List.range 16).findSome? (fun t => findIf (d.templateBad t) 0x0904 (E.FLOW_FIRST t) t),
   fun _ => ps.findSome? (fun p =>
      findIf (bit (d.rd (E.IOAM_PORTS (p / 32))) (p % 32) && d.rd (E.PORT_MTU p) < mtu + d.rd E.IOAM_MAX_ADD) 0x0905
        (E.IOAM_PORTS (p / 32)) p),
   fun _ => (List.range 256).findSome? (fun k =>
      if bit (d.rd (E.SAMPLER_CONTROL k)) 0 ∧ bits (d.rd (E.SAMPLER_CONTROL k)) 8 8 > 36 then
        some (0x0906, E.SAMPLER_CONTROL k, k)
      else findIf (d.rd (E.SAMPLE_RATE k) = 0 || d.rd (E.SAMPLE_RATE k) > 16777216) 0x0906 (E.SAMPLE_RATE k) k)].findSome? (fun f => f ())

/-! ### Siphon, area 0x0A (R352, R399) -/

/-- The entries that name a channel, ascending: (entry, channel, the use that the channel must have). -/
def Device.namings (d : Device) : List (Addr × Nat × Nat) :=
  (if d.rd E.HARVEST_ENABLE = 1 ∨ d.rd E.HARVEST_CHANNEL ≠ 0xFFFF then [(E.HARVEST_CHANNEL, d.rd E.HARVEST_CHANNEL, 3)] else [])
    ++ (List.range 3).filterMap (fun x =>
      if d.rd (E.RING_CHANNEL x) ≠ 0xFFFF then some (E.RING_CHANNEL x, d.rd (E.RING_CHANNEL x), 3) else none)
    ++ (List.range 128).filterMap (fun n =>
      if d.rd (E.CPU_QUEUE_CHANNEL n) ≠ 0xFFFF then some (E.CPU_QUEUE_CHANNEL n, d.rd (E.CPU_QUEUE_CHANNEL n), 1) else none)

/-- A naming that is wrong: a channel of another use or outside its class, or one that an earlier ring or the Harvest
names. -/
def Device.namingBad (d : Device) (all : List (Addr × Nat × Nat)) (n : Addr × Nat × Nat) : Bool :=
  n.2.1 ≥ 1024 || (n.2.2 = 3 && n.2.1 < 64) || d.rd (E.CHANNEL_USE n.2.1) ≠ n.2.2
    || (n.2.2 = 3 && all.any (fun m => m.1 < n.1 && m.2.1 = n.2.1 && m.2.2 = 3))

def Device.channelRetired (d : Device) (c : Nat) : Bool := (d.channel c).state = 5

def Device.checkSiphon (d : Device) : Option Finding :=
  let names := d.namings
  let used := (List.range 1024).filter (fun c => d.rd (E.CHANNEL_USE c) ≠ 0 || names.any (fun n => n.2.1 = c))
  let use := fun c => d.rd (E.CHANNEL_USE c)
  let shares := (List.range 960).map (fun i => (E.BUFFER_SHARE_KIB (64 + i), d.rd (E.BUFFER_SHARE_KIB (64 + i))))
  [fun (_ : Unit) => (names.find? (d.namingBad names)).map (fun n => (0x0A01, n.1, n.2.1)),
   fun _ => (List.range 64).findSome? (fun c => findIf (use c ≥ 3) 0x0A01 (E.CHANNEL_USE c) c),
   fun _ => findIf (d.rd E.HARVEST_ENABLE = 1 && d.rd E.HARVEST_RING_BASE % 4096 ≠ 0) 0x0A02 E.HARVEST_RING_BASE
      (d.rd E.HARVEST_CHANNEL),
   fun _ => (List.range 3).findSome? (fun x =>
      findIf (d.rd (E.RING_CHANNEL x) ≠ 0xFFFF && d.rd (E.RING_BASE x) % 4096 ≠ 0) 0x0A02 (E.RING_BASE x)
        (d.rd (E.RING_CHANNEL x))),
   fun _ => used.findSome? (fun c =>
      findIf ((use c = 1 || use c = 2 || use c = 4) && d.rd (E.COMPL_BASE c) % 4096 ≠ 0) 0x0A02 (E.COMPL_BASE c) c),
   fun _ => used.findSome? (fun c => findIf (d.rd (E.WALK_BUDGET c) = 0) 0x0A03 (E.WALK_BUDGET c) c),
   fun _ => (names.find? (fun n => d.channelRetired n.2.1)).map (fun n => (0x0A04, n.1, n.2.1)),
   fun _ => used.findSome? (fun c => findIf (d.channelRetired c) 0x0A04 (E.CHANNEL_USE c) c),
   fun _ => exceedsAt 2048 0x0A05 (sumOn shares (·.2)) 0 shares].findSome? (fun f => f ())

/-! ### Power, area 0x0B (R416) -/

/-- MODE_STATE of the mode whose preference stands at B010:`i + 1`. -/
def prefMode (i : Nat) : Nat := [3, 4, 7, 8, 9, 10, 11, 5, 5, 5, 5, 6, 6, 6, 6].getD i 0

def Device.checkPower (d : Device) : Option Finding :=
  let cap := d.rd E.POWER_CAP_W
  [fun (_ : Unit) => (List.range 15).findSome? (fun i => findIf (d.rd (E.PREF_MODE i) > 7) 0x0B01 (E.PREF_MODE i) (prefMode i)),
   fun _ => findIf (cap ≠ 0 && cap < d.rd E.POWER_CAP_FLOOR_W) 0x0B02 E.POWER_CAP_W cap,
   fun _ => findIf (d.rd E.THROTTLE_TJ_C > 105) 0x0B03 E.THROTTLE_TJ_C (d.rd E.THROTTLE_TJ_C),
   fun _ => findIf (d.rd E.HBM_THROTTLE_C > 95) 0x0B03 E.HBM_THROTTLE_C (d.rd E.HBM_THROTTLE_C),
   fun _ => findIf (bit (d.rd E.NARROW_ALLOWED) 7) 0x0B04 E.NARROW_ALLOWED (d.stagedPorts.headD 0)].findSome? (fun f => f ())

/-! ### The Assemblage, area 0x0C (R439) -/

/-- The checks of Table 17.6 but 0x0606. JOIN_STATE is judged whether or not a partner has said HELLO (log entry 166). -/
def Device.checkJoin (d : Device) : Option Finding :=
  let w := d.rd E.JOIN_WIDTH
  let partner := if d.joins then d.join.hello else none
  [fun (_ : Unit) => findIf (!([64, 128, 192, 256].contains w) || partner.any (fun h => h.width ≠ w)) 0x0C01 E.JOIN_WIDTH w,
   fun _ => findIf (d.joins && d.rd E.JOIN_STATE ≠ 4) 0x0C02 E.JOIN_STATE 0,
   fun _ => partner.bind (fun h => findIf (h.stepping ≠ d.rd E.STEPPING || beNat h.firmware ≠ d.rd E.FIRMWARE_DIGEST) 0x0C03
      E.PARTNER_STEPPING h.stepping),
   fun _ => (List.range 16).findSome? (fun c =>
      findIf (d.portSpace (d.rd (E.CTRL_PORT c))) 0x0C04 (E.CTRL_PORT c) (d.rd (E.CTRL_PORT c))),
   fun _ => (List.range 64).findSome? (fun m =>
      let v := d.rd (E.MIRROR_DEST m)
      findIf (v ≠ 0xFFFF && d.portSpace v) 0x0C04 (E.MIRROR_DEST m) v),
   fun _ => (d.stagedGroups.flatMap (·.2.2.2)).findSome? (fun m => findIf (d.portSpace m) 0x0C04 E.MC_GROUPS m),
   fun _ => partner.bind (fun h => findIf ((h.role = 0) = (d.rd E.JOIN_ROLE = 0)) 0x0C06 E.JOIN_ROLE 0)].findSome? (fun f => f ())

/-- The first failure of the enable check in the order of R46; none where it passes. -/
def Device.enableCheck (d : Device) (commit : Bool) : Option Finding :=
  [fun (_ : Unit) => d.checkDevice commit, fun _ => d.checkPorts, fun _ => d.checkPress, fun _ => d.checkSorting commit,
   fun _ => d.checkCoopers, fun _ => d.checkBuffers, fun _ => d.checkDecanter, fun _ => d.checkTime commit,
   fun _ => d.checkTelemetry, fun _ => d.checkSiphon, fun _ => d.checkPower, fun _ => d.checkJoin].findSome? (fun f => f ())

/-- The pair as its partner has it (R431): the partner's own entries as this member holds them beside the joint ones, its
retired lanes, and this member as the other one. Its banks and channels are taken as this member's (log entry 62). -/
def Device.partnerView (d : Device) : Device :=
  let bk := (d.peer.entries.filter (fun e => toldEntry e.1)).foldl (fun m e => SMap.set m (defaultOf e.1) e.1 e.2)
    (d.bk.filter (fun e => !toldEntry e.1))
  let lanes := (List.range 512).filter (fun l => bit (d.peerStaged (E.LANE_STATUS l)) 4)
  let me : HelloMsg := { serial := d.rd E.SERIAL, stepping := d.rd E.STEPPING, firmware := beBytes 32 (d.rd E.FIRMWARE_DIGEST)
                         role := d.member, width := d.rd E.JOIN_WIDTH }
  { d with bk := bk, join := { d.join with hello := some me }
           retired := d.retired.filter (fun r => r.kind ≠ 1)
             ++ lanes.map (fun l => { kind := 1, flags := 0, spare := 0xFFFF, inst := l, seconds := 0 })
           peer := { d.peer with entries := d.bk.filter (fun e => toldEntry e.1) } }

/-- The check of this device, or of a pair over both members (R431), with the member of the finding's entry: the lower code,
and the primary's where both members have one. -/
def Device.pairCheck (d : Device) (commit : Bool) : Option (Nat × Finding) :=
  let mine := (d.enableCheck commit).map (fun f => (d.member, f))
  if !d.joined then mine
  else
    let other := (d.partnerView.enableCheck commit).map (fun f => (1 - d.member, f))
    let p := if d.member = 0 then mine else other
    let s := if d.member = 0 then other else mine
    match p, s with
    | some f, some g => if g.2.1 < f.2.1 then some g else some f
    | some f, none => some f
    | none, g => g

end Sys2Proof.Machine
end

