-- ==== Sys2Proof/Machine/Vintage.lean ====
section
/-! DEFINITION. Checks, commits up to Armed, the copy sweep and the vintage digest (R44 to R48, R53 to R64, R434). -/

namespace Sys2Proof.Machine

open Sys2Proof

/-! ### Busy refusals (R48) -/

/-- Writes to RWV entries are refused as busy. -/
def Device.rwvBusy (d : Device) : Bool := d.mode = .check || d.committing

/-! ### The digest (R61 to R64) -/

/-- A record of the serialisation (R62). -/
def digestRecord (a ty : Nat) (v : List Byte) : List Byte :=
  beBytes 2 (indexOf a) ++ beBytes 1 (subOf a) ++ beBytes 1 ty ++ beBytes 4 v.length ++ v

/-- A catalogue row put in ascending subindex. -/
def insRow (r : Row) : List Row → List Row
  | [] => [r]
  | x :: t => if r.sub0 < x.sub0 then r :: x :: t else x :: insRow r t

/-- The entries whose descriptor has DIGEST = 1, ascending: every RWV and RWC entry, with its type. -/
def digestEntries : List (Addr × Ty) :=
  (List.range 0x10000).flatMap (fun i =>
    ((bookRows.filter (fun r => (r.acc = .rwv || r.acc = .rwc) && r.index ≤ i && i < r.index + r.count)).foldl
        (fun l r => insRow r l) []).flatMap (fun r =>
      (List.range (r.sub1 + 1 - r.sub0)).map (fun j => (entry i (r.sub0 + j), r.ty))))

/-- Strings of one length put in ascending order. -/
def insBytes (b : List Byte) : List (List Byte) → List (List Byte)
  | [] => [b]
  | x :: t => if beNat b ≤ beNat x then b :: x :: t else x :: insBytes b t

/-- A table's entries valid in a parity, in ascending order of their bytes (R63). -/
def Device.tableBytes (d : Device) (store q : Nat) : List Byte :=
  ((((d.stores.get store).filter (fun e => e.valid q)).map (·.bytes)).foldl (fun l b => insBytes b l) []).flatten

/-- A DOMAIN object as the serialisation holds it: a table by its logical content, an image slot as it reads, any other
object as its bytes in the parity's copy. -/
def Device.digestObject (d : Device) (q : Nat) (a : Addr) : List Byte :=
  match (List.range 4).find? (fun k => storeObject k = a) with
  | some k => d.tableBytes k q
  | none => if a = E.IMAGE_SLOT_A ∨ a = E.IMAGE_SLOT_B then d.object a false else d.objp q a

/-- The record of an entry in this member's hardware state in parity `q`. -/
def Device.ownRecord (d : Device) (q : Nat) (e : Addr × Ty) : List Byte :=
  digestRecord e.1 e.2.code (if e.2 = .domain then d.digestObject q e.1 else beBytes e.2.size (d.rdp q e.1))

/-- The record of a member entry in the partner's hardware state, as this member holds it. -/
def Device.peerRecord (d : Device) (q : Nat) (e : Addr × Ty) : List Byte :=
  digestRecord e.1 e.2.code
    (if e.2 = .domain then BMap.get d.peer.objs (defaultObject e.1) e.1 else beBytes e.2.size (d.peerRd q e.1))

/-- The records of an entry in a pair's digest (R430): a joint entry's once, a member entry's of the primary and then of the
secondary. -/
def Device.pairRecords (d : Device) (q : Nat) (e : Addr × Ty) : List Byte :=
  if !memberEntry e.1 then d.ownRecord q e
  else if d.member = 0 then d.ownRecord q e ++ d.peerRecord q e
  else d.peerRecord q e ++ d.ownRecord q e

/-- The canonical serialisation of the hardware state in parity `q` as vintage `n`, of this device or of a pair (R61, R430). -/
def Device.serialise (d : Device) (pair : Bool) (q n : Nat) : List Byte :=
  [0x55, 0x4C, 0x56, 0x44, if pair then 2 else 1, 0, 0, 0] ++ beBytes 4 n
    ++ digestEntries.flatMap (fun e => if pair then d.pairRecords q e else d.ownRecord q e)

/-- The digest of that serialisation. -/
def Device.vintageDigest (d : Device) (pair : Bool) (q n : Nat) : List Byte := sha256 (d.serialise pair q n)

/-- The digest of vintage `n` is published in 1020:01 to 1020:09, and kept for the passes of R64 to compare with. -/
def Device.publishVintage (d : Device) (n : Nat) (digest : List Byte) : Device :=
  let d := (List.range 8).foldl (fun (d : Device) k => d.wr (E.VINTAGE_DIGEST k) (beNat (slice digest (4 * k) 4))) d
  let d := ((d.wr E.DIGEST_VINTAGE n).wr E.DIGEST_STATE 0).wr E.VERIFY_PASSES 0
  { d with partDigest := digest, pairDigest := d.joined }

/-- A re-verification pass ends (R64). In Recovery, one that began after the comparison ended and agrees makes the state
Verified (R468). -/
def Device.digestPass (d : Device) : Device :=
  let agree := decide (d.vintageDigest d.pairDigest d.parity d.vintage = d.partDigest)
  let d := if agree then (d.wr E.DIGEST_STATE 1).bumpSat E.VERIFY_PASSES 1
    else ((d.wr E.DIGEST_STATE 2).bumpSat E.DIGEST_MISMATCHES 1).raise Src.DIGEST_MISMATCH 0
  let after := match d.verify.comparedAt with
    | some t => decide (t ≤ d.digestPassStart)
    | none => false
  let d := if agree && d.mode == .recovery && after then d.wr E.RECOVERY_STATE 2 else d
  { d with digestPassStart := d.clk.nowPs }

/-- DIGEST_VERIFY_PASS (R64). -/
def execDigestVerifyPass (s : State) : Host.Outcome State Fault Refusal :=
  s.on (fun d => if d.ready then d.digestPass else d)

/-! ### Starting a check (R45, R53) -/

/-- The check's verdict on the configuration as it stands, a pair's over both members (R431). -/
def Device.judge (d : Device) (commit : Bool) : Device :=
  let found := d.pairCheck commit
  { d with checkFound := found.map (·.2), checkMember := found.elim d.member (·.1) }

/-- A write of 1 to ENABLE: its result. In Configure the check starts, and its verdict is that of the configuration at
this moment (R44). -/
def Device.startEnable (d : Device) : Nat × Device :=
  match d.mode with
  | .configure =>
    (Res.OK, ({ (d.judge false) with armed := none, installDue := false } : Device).enterMode .check)
  | .check => (Res.BUSY, d)
  | _ => (Res.OK, d.endCheck 0x0101 none d.mode.code)

/-- A write of 1 to COMMIT: its result. An accepted one latches COMMIT_TIME and enters Checking. -/
def Device.startCommit (d : Device) : Nat × Device :=
  if !d.mode.forwards then
    (Res.OK, ({ d with commit := .refused } : Device).endCheck 0x0101 none d.mode.code)
  else if d.committing then (Res.BUSY, d)
  else
    let j : Join := { d.join with prepared := false, armFlip := none, acked := false, go := false }
    let d : Device := { d with commitTime := d.rd E.COMMIT_TIME, newDigest := [], join := j }
    (Res.OK, { (d.judge true) with commit := .checking })

/-! ### The ends of checks (R46, R47, R54) -/

/-- Where a passing check leads (Table 19.2): Joined Run where the join is configured and formed, else Run. -/
def Device.runMode (d : Device) : Mode := if d.joined then .joinedRun else .run

/-- CHECK_COMPLETE (R45 to R47): a failing check returns to Configure; a passing one waits for the next round boundary,
where its vintage is installed (R465). CHECK_MEMBER names the member of the offending entry (R431). -/
def Device.checkComplete (d : Device) : Device :=
  if d.mode ≠ .check ∨ d.installDue then d
  else
    match d.checkFound with
    | some f => ((d.wr E.CHECK_MEMBER d.checkMember).endCheck f.1 (some f.2.1) f.2.2).enterMode .configure
    | none => { d.endCheck 0 none 0 with installDue := true, armed := some d.runMode, armedPair := d.joined }

def execCheckComplete (s : State) : Host.Outcome State Fault Refusal := s.on Device.checkComplete

/-- A message of the COMMIT operation to the partner (Table 17.2, R434): the step, the vintage, the flip boundary. The
steps are numbered in the table's order from 0 (log entry 43). -/
def Device.commitMessage (d : Device) (step flip : Nat) : Device :=
  d.message 5 (beBytes 1 step ++ beBytes 4 (d.rd E.VINTAGE_STAGING) ++ beBytes 8 flip)

/-- COMMIT_CHECKING_END (R54): a failing commit is Refused with its staging values kept; a passing one is Preparing, and
in a pair the primary sends PREPARE. -/
def Device.checkingEnd (d : Device) : Device :=
  if d.commit ≠ .checking then d
  else
    match d.checkFound with
    | some f => ({ d with commit := .refused } : Device).wr E.CHECK_MEMBER d.checkMember |>.endCheck f.1 (some f.2.1) f.2.2
    | none =>
      let d : Device := { d with commit := .preparing }.endCheck 0 none 0
      if d.joined ∧ d.member = 0 then d.commitMessage 0 0 else d

def execCommitCheckingEnd (s : State) : Host.Outcome State Fault Refusal := s.on Device.checkingEnd

/-! ### Writing the copies (R54, R169, R179) -/

def isRwv (a : Addr) : Bool :=
  match findRow a with
  | some r => r.acc = .rwv
  | none => false

/-- The staged values and objects written into a parity's copy, and the partner's beside them. -/
def Device.writeCopy (d : Device) (q : Nat) : Device :=
  let es := d.bk.filter (fun e => copied e.1)
  let os := d.objs.filter (fun e => isRwv e.1)
  let peer := d.peer.entries.filter (fun e => copied e.1)
  if q % 2 = 0 then { d with p0 := es, objs0 := os, peer := { d.peer with copy0 := peer } }
  else { d with p1 := es, objs1 := os, peer := { d.peer with copy1 := peer } }

/-- A store's staged contents in parity `q`; entries that no bank can take are left out. `fuel` bounds their number. -/
def Device.loadFitting (d : Device) (store q : Nat) (both : Bool) : Nat → List (List Byte) → List TableEntry
  | 0, _ => d.stores.get store
  | n + 1, staged =>
    match d.loadStore store q both (d.stores.get store) staged with
    | .ok es => es
    | .error e => d.loadFitting store q both n (staged.erase e)

/-- The staged contents of a store written to die and shadow in parity `q`. A bank may have been lost since Checking: a
prefix that no longer fits is lost (R187). -/
def Device.loadTable (d : Device) (store q : Nat) (both : Bool) : Device :=
  let staged := d.stagedEntries store
  d.setEntries store (d.loadFitting store q both (staged.length + 1) staged)

/-- Preparing writes the hardware copies of parity q and computes the digest (R54); in a pair the secondary answers
PREPARED, and the primary goes on once it has that answer. Exact placement that fails refuses the commit (R169). -/
def Device.prepare (d : Device) : Device :=
  if d.commit ≠ .preparing ∨ d.waitCode ≠ 0 then d
  else
    let n := d.rd E.VINTAGE_STAGING
    let q := n % 2
    let exact := d.stagedEntries 0
    match d.loadStore 0 q false d.stores.exact exact with
    | .error e =>
      let d : Device := { d with commit := .refused }
      let d := (d.wr E.CHECK_REASON 0x0405).wr E.CHECK_ENTRY (2 ^ 31 + E.EXACT_ENTRIES)
      d.wr E.CHECK_DETAIL (32 * indexOfEntry e exact)
    | .ok es =>
      let d := d.setEntries 0 es
      let d := [1, 2, 3].foldl (fun (d : Device) k => d.loadTable k q false) d
      let d := d.writeCopy q
      let d : Device := { d with newDigest := d.vintageDigest d.joined q n }
      if d.joined then
        if d.member = 0 then (if d.join.prepared then { d with commit := .armed } else d) else d.commitMessage 1 0
      else { d with commit := .armed }

def execCommitPrepare (s : State) : Host.Outcome State Fault Refusal := s.on Device.prepare

/-- COPY_SWEEP_END (R57): the retired parity's copies equal the current parity's, and STATE becomes Idle if it still reads
Retiring. -/
def Device.sweepEnd (d : Device) : Device :=
  if !d.sweeping then d
  else
    let d := d.sweepCopies
    { d with sweeping := false, commit := if d.commit = .retiring then .idle else d.commit }

def execCopySweepEnd (s : State) : Host.Outcome State Fault Refusal := s.on Device.sweepEnd

/-- RWV entries among staging values take those of a copy. -/
def unstage (staged copy : SMap) : SMap :=
  (copy.filter (fun e => isRwv e.1)).foldl (fun m e => SMap.ins m e.1 e.2) (staged.filter (fun e => !isRwv e.1))

/-- DISCARD_STAGING: the staging copy of every RWV entry takes its current value, in a pair on both members. -/
def Device.discardStaging (d : Device) : Device :=
  let now := if d.parity = 0 then d.p0 else d.p1
  let objs := if d.parity = 0 then d.objs0 else d.objs1
  let peer := if d.parity = 0 then d.peer.copy0 else d.peer.copy1
  let os := objs.foldl (fun m e => BMap.ins m e.1 e.2) (d.objs.filter (fun e => !isRwv e.1))
  { d with bk := unstage d.bk now, objs := os, peer := { d.peer with entries := unstage d.peer.entries peer } }

/-! ### A pair's commit (R434) -/

/-- PREPARE at the secondary: it prepares its own copies. -/
def execPrepare (vintage : Nat) (s : State) : Host.Outcome State Fault Refusal :=
  s.on (fun d =>
    if d.joined ∧ d.member = 1 ∧ !d.committing ∧ vintage = d.rd E.VINTAGE_STAGING then
      let j : Join := { d.join with prepared := false, armFlip := none, acked := false, go := false }
      { d with commit := .preparing, commitTime := d.rd E.COMMIT_TIME, newDigest := [], join := j }
    else d)

/-- PREPARED at the primary. -/
def execPrepared (vintage : Nat) (s : State) : Host.Outcome State Fault Refusal :=
  s.on (fun d =>
    if d.joined ∧ d.member = 0 ∧ d.committing ∧ vintage = d.rd E.VINTAGE_STAGING then
      let d : Device := { d with join := { d.join with prepared := true } }
      if d.commit = .preparing ∧ !d.newDigest.isEmpty then { d with commit := .armed } else d
    else d)

/-- ARM at the secondary: it notes the flip boundary and answers ACK. -/
def execArm (vintage boundary : Nat) (s : State) : Host.Outcome State Fault Refusal :=
  s.on (fun d =>
    if d.joined ∧ d.member = 1 ∧ d.commit = .preparing ∧ !d.newDigest.isEmpty ∧ vintage = d.rd E.VINTAGE_STAGING then
      ({ d with join := { d.join with armFlip := some boundary, acked := true } } : Device).commitMessage 3 boundary
    else d)

/-- ACK at the primary, by boundary b + 16 of an ARM sent at b: it sends GO. -/
def execAck (vintage : Nat) (s : State) : Host.Outcome State Fault Refusal :=
  s.on (fun d =>
    match d.join.armFlip with
    | some f =>
      if d.joined ∧ d.member = 0 ∧ d.commit = .armed ∧ vintage = d.rd E.VINTAGE_STAGING
          ∧ d.rd E.ROUND_COUNT ≤ d.join.armAt + 16 then
        ({ d with join := { d.join with acked := true, go := true } } : Device).commitMessage 4 f
      else d
    | none => d)

/-- GO at the secondary: it is Armed for the flip boundary. -/
def execGo (vintage : Nat) (s : State) : Host.Outcome State Fault Refusal :=
  s.on (fun d =>
    if d.joined ∧ d.member = 1 ∧ d.commit = .preparing ∧ d.join.armFlip.isSome ∧ vintage = d.rd E.VINTAGE_STAGING then
      { d with commit := .armed, join := { d.join with go := true } }
    else d)

/-- ABORT at the secondary: both members are Aborted with 0x0C05 and keep their staging values. -/
def execAbort (vintage : Nat) (s : State) : Host.Outcome State Fault Refusal :=
  s.on (fun d =>
    if d.joined ∧ d.committing ∧ vintage = d.rd E.VINTAGE_STAGING then d.abortCommit 0x0C05 1 else d)

/-- ACK_TIMEOUT: no ACK reached the primary by boundary b + 16. It sends ABORT. -/
def execAckTimeout (s : State) : Host.Outcome State Fault Refusal :=
  s.on (fun d =>
    if d.joined ∧ d.member = 0 ∧ d.commit = .armed ∧ d.join.armFlip.isSome ∧ !d.join.acked
        ∧ d.join.armAt + 16 ≤ d.rd E.ROUND_COUNT then
      (d.commitMessage 5 0).abortCommit 0x0C05 1
    else d)

/-- FLIP_WITHOUT_GO: a secondary that holds neither GO nor ABORT at the flip boundary splits the join with cause 5. -/
def execFlipWithoutGo (s : State) : Host.Outcome State Fault Refusal :=
  s.on (fun d =>
    match d.join.armFlip with
    | some f =>
      if d.joined ∧ d.member = 1 ∧ d.committing ∧ !d.join.go ∧ f ≤ d.rd E.ROUND_COUNT then d.split 5 else d
    | none => d)

end Sys2Proof.Machine
end

