-- ==== Sys2Proof/Machine/Objects.lean ====
section
/-! DEFINITION. The DOMAIN objects: what a write of one must hold, how it is installed, and the writes that are open (R73,
R87, R139, R176 to R178, R202, R205, R220, R240, R277, R484). -/

namespace Sys2Proof.Machine

open Sys2Proof

/-! ### Formats -/

/-- A parse state's reserved bits and bytes are 0 (R140). -/
def stateReservedOk (e : List Byte) : Bool :=
  byteAt e 2 < 128 && byteAt e 22 < 8 && byteAt e 29 < 4 && allZero (slice e 35 5)

/-- A transition row's reserved bits are 0 (R141). -/
def rowReservedOk (e : List Byte) : Bool := bits (byteAt e 6) 2 4 = 0

/-- A Sieve pattern's reserved bits are 0 (R150). -/
def patternReservedOk (e : List Byte) : Bool := byteAt e 2 < 64 && byteAt e 7 = 0

/-- Entries of `size` bytes in strictly ascending order of a number of `n` bytes, each of which passes `ok`. -/
def entriesOk (size n : Nat) (ok : List Byte → Bool) (bs : List Byte) : Bool :=
  let es := pieces size bs
  bs.length % size = 0 && risingBy n es && es.all ok

/-- A program table has the length and the reserved bits of R202. -/
def programTableOk (bs : List Byte) : Bool :=
  bs.length = 4096 && (pieces 4 bs).all (fun e => byteAt e 0 < 64 && byteAt e 3 < 2)

/-- The 16-byte header of an image (R205, R220): its four letters, a vintage, and eight bytes of 0. -/
def imageHeaderOk (letters bs : List Byte) : Bool := slice bs 0 4 = letters && allZero (slice bs 8 8)

/-- An Open image (R205). -/
def openImageOk (bs : List Byte) : Bool := bs.length = 98320 && imageHeaderOk [0x55, 0x4F, 0x50, 0x4E] bs

/-- A Cellarhand image (R220). -/
def handImageOk (bs : List Byte) : Bool :=
  bs.length = 32784 && imageHeaderOk [0x55, 0x42, 0x47, 0x4E] bs
    && (pieces 16 (bs.drop 16)).all (fun w => bits (beNat w) 64 27 = 0)

/-- The length of a group of `count` members, padded to a multiple of 8 bytes (R240). -/
def groupLength (count : Nat) : Nat := 8 + (2 * count + 7) / 8 * 8

/-- Strictly rising numbers. -/
def rising : List Nat → Bool
  | [] => true
  | [_] => true
  | a :: b :: t => decide (a < b) && rising (b :: t)

/-- One group at the front of a string (R240). -/
def groupOk (bs : List Byte) : Bool :=
  let n := beNat (slice bs 2 2)
  1 ≤ n && n ≤ 512 && byteAt bs 4 < 4 && byteAt bs 5 < 32 && groupLength n ≤ bs.length
    && rising ((List.range n).map (fun i => beNat (slice bs (8 + 2 * i) 2)))
    && allZero (slice bs (8 + 2 * n) (groupLength n - 8 - 2 * n))

/-- The groups of an object, in strictly ascending order after group `last` less one. `fuel` bounds their number. -/
def groupsOk : Nat → Nat → List Byte → Bool
  | 0, _, bs => bs.isEmpty
  | fuel + 1, least, bs =>
    bs.isEmpty || (8 ≤ bs.length && groupOk bs && least ≤ beNat (slice bs 0 2)
      && groupsOk fuel (beNat (slice bs 0 2) + 1) (bs.drop (groupLength (beNat (slice bs 2 2)))))

/-- The multicast groups (R240). -/
def mcGroupsOk (bs : List Byte) : Bool :=
  groupsOk 65537 0 bs && sumOn (groupsOf 65537 bs) (fun g => g.2.2.2.length) ≤ 1048576

/-- A policer entry's fields and reserved bits (R277, Table 10.3); a PIR that srTCM
forbids is left to the enable check (0x0706). -/
def policerOk (e : List Byte) : Bool :=
  let f (i : Nat) := beNat (slice e i 4)
  f 0 ≤ 262143 && byteAt e 4 ≤ 2 && allZero (slice e 5 3) && f 8 ≤ 3200000 && f 12 ≤ 3200000
    && f 16 ≤ 16777216 && f 20 ≤ 16777216 && bits (f 24) 21 10 = 0 && f 28 = 0

/-- Why an image slot of these bytes is not valid (R462), in the failure codes of Table 20.7; 0 where it is. -/
def Device.slotFailure (d : Device) (bs : List Byte) : Nat :=
  let root := byteAt bs 4
  let key := slice bs 20 32
  let n := beNat (slice bs 16 4)
  if slice bs 0 4 ≠ [0x55, 0x43, 0x4D, 0x49] ∨ !allZero (slice bs 5 3) ∨ !allZero (slice bs 148 108) then 1
  else if root > 3 ∨ bit (d.rd E.ROOT_REVOKED) root then 2
  else if sha256 key ≠ Config.rootHash root then 3
  else if beNat (slice bs 12 4) < d.rd E.ROLLBACK_MIN then 4
  else if !Config.ed25519Verify key (slice bs 0 84) (slice bs 84 64) then 5
  else if n > 16777216 ∨ bs.length < 256 + n ∨ sha256 (slice bs 256 n) ≠ slice bs 52 32 then 6
  else 0

/-- The object of a DOMAIN_END passes the tests of its own chapter. -/
def Device.objectFits (d : Device) (a : Addr) (bs : List Byte) : Bool :=
  match (List.range 4).find? (fun k => storeObject k = a) with
  | some k => objectOk k bs
  | none =>
    if a = E.PARSE_STATES then entriesOk 40 2 stateReservedOk bs
    else if a = E.PARSE_ROWS then entriesOk 8 2 rowReservedOk bs
    else if a = E.SIEVE_PATTERNS then entriesOk 72 2 patternReservedOk bs
    else if a = E.INGRESS_PROGRAMS ∨ a = E.EGRESS_PROGRAMS then programTableOk bs
    else if a = E.OPEN_IMAGE_ALL then openImageOk bs
    else if E.OPEN_IMAGE 0 ≤ a ∧ a ≤ E.OPEN_IMAGE 31 then openImageOk bs
    else if a = E.BG_OPEN_IMAGE then handImageOk bs
    else if a = E.MC_GROUPS then mcGroupsOk bs
    else if a = E.POLICERS then entriesOk 32 4 policerOk bs
    else if a = E.IMAGE_SLOT_A ∨ a = E.IMAGE_SLOT_B then
      d.slotFailure bs = 0 && bs.length = 256 + beNat (slice bs 16 4)
    else true

/-! ### Access (R8, R491) -/

/-- The tests of an access to an entry up to PRINCIPAL, in the order of R491. No access code forbids a read. -/
def Device.accessCode (d : Device) (p : Nat) (a : Addr) (write : Bool) : Nat :=
  match findRow a with
  | none => Res.NO_ENTRY
  | some r =>
    if write && (r.acc = .ro || (r.acc = .rwc && d.mode ≠ .configure && d.mode ≠ .check)) then Res.ACCESS
    else if !d.permits p a write then Res.PRINCIPAL
    else Res.OK

/-- The tests of a DOMAIN operation before it starts. A read of the Gauge's objects waits for the mirror (R374). -/
def Device.domainCode (d : Device) (p : Nat) (a : Addr) (write : Bool) : Nat :=
  let c := d.accessCode p a write
  if c ≠ Res.OK then c
  else
    match findRow a with
    | some r =>
      if r.ty ≠ .domain then Res.TYPE_LENGTH
      else if !write ∧ (a = E.GAUGE_RECORDS ∨ a = E.GAUGE_AUDIT) ∧ !d.gauge.mirrorComplete then Res.BUSY
      else Res.OK
    | none => Res.NO_ENTRY

/-! ### DOMAIN_END (R73) -/

/-- The result of a DOMAIN_END that starts the programming of an image slot: none yet. -/
def Res.PENDING : Nat := 0x10000

/-- The records of a TABLE_EDITS object applied to the staged entries (R178), or where and why they are refused. -/
def Device.edits (d : Device) (bs : List Byte) : Except (Nat × Nat) (List (List (List Byte))) :=
  applyEdits (bs.length / 8 + 1) 0 bs ((List.range 4).map d.stagedEntries)

/-- The object is one whose write is refused as busy now (R48, R484): an RWV object, TABLE_EDITS or OPEN_IMAGE_ALL while
staging is closed, an RWC object in Check, and an image slot while one is being programmed. -/
def Device.objectBusy (d : Device) (a : Addr) : Bool :=
  match findRow a with
  | some r =>
    (r.acc = .rwv && d.rwvBusy) || (r.acc = .rwc && d.mode = .check) || (r.acc = .wo && d.rwvBusy)
      || ((a = E.IMAGE_SLOT_A || a = E.IMAGE_SLOT_B) && d.board.programming.isSome)
  | none => false

/-- What an erased slot holds. -/
def erasedSlot : List Byte := List.replicate 256 0xFF

/-- A slot of the flash, with the failure code that R462 gives it; BOOT_SLOT tells of the slot that did not boot (R484), and a
BOOK message tells the partner (R430). -/
def Device.setSlot (d : Device) (slotB : Bool) (bs : List Byte) : Device :=
  let d := d.setObj (if slotB then E.IMAGE_SLOT_B else E.IMAGE_SLOT_A) bs
  let f := d.slotFailure bs
  let d := if d.rdBit E.BOOT_SLOT 0 = slotB then d else d.wrBit E.BOOT_SLOT 1 (f ≠ 0)
  let d := if d.joined then d.bookMessage 3 (bookEntry (if slotB then E.IMAGE_SLOT_B else E.IMAGE_SLOT_A) bs) else d
  { d with board := if slotB then { d.board with failB := f } else { d.board with failA := f } }

/-- An object that passed every test replaces the old one: in staging for an RWV object, and at once otherwise. The slot
of an image is erased first (R484). -/
def Device.install (d : Device) (a : Addr) (bs : List Byte) (reply : Reply) : Nat × Device :=
  if a = E.TABLE_EDITS then
    match d.edits bs with
    | .ok tabs =>
      let d := (List.range 4).foldl (fun (d : Device) k => d.setObj (storeObject k) (tabs.getD k []).flatten) d
      (Res.OK, (d.wr E.EDIT_REFUSED_RECORD 0).wr E.EDIT_REFUSED_CAUSE 0)
    | .error _ => (Res.VALUE, d)
  else if a = E.OPEN_IMAGE_ALL then
    (Res.OK, (List.range 32).foldl (fun (d : Device) s => d.setObj (E.OPEN_IMAGE s) bs) d)
  else if a = E.IMAGE_SLOT_A ∨ a = E.IMAGE_SLOT_B then
    let slotB := a = E.IMAGE_SLOT_B
    let d := (d.setSlot slotB erasedSlot).send (.flash (if slotB then 0x01100000 else 0) bs)
    (Res.PENDING, { d with board := { d.board with programming := some { slotB := slotB, data := bs, reply := reply } } })
  else (Res.OK, d.setObj a bs)

/-- A write of a joint entry goes to the partner in a BOOK message, and waits for its result (R429): at the secondary before
it is applied, at the primary once it is. Results come in the order of the writes. -/
def Device.forwardJoint (d : Device) (p : Nat) (a : Addr) (data : List Byte) (reply : Reply) : Nat × Device :=
  let w : JointWrite := { reply := reply, addr := a, data := data, principal := p }
  (Res.PENDING, ({ d with join := { d.join with waitingBooks := d.join.waitingBooks ++ [w] } } : Device).bookMessage 1
    (beBytes 2 p ++ bookEntry a data))

/-- An object that passed every test is installed; in a pair, by both members (R429). -/
def Device.installObject (d : Device) (p : Nat) (a : Addr) (bs : List Byte) (reply : Reply) : Nat × Device :=
  if d.isJoint a && d.member = 1 then d.forwardJoint p a bs reply
  else
    let x := d.install a bs reply
    if x.2.isJoint a && x.1 = Res.OK then x.2.forwardJoint p a bs reply else x

/-- DOMAIN_END of a whole object by a principal: VALUE, then BUSY, then CRC_MISMATCH, in the order of R491. -/
def Device.endObject (d : Device) (p : Nat) (a : Addr) (bs : List Byte) (crc : Nat) (reply : Reply) : Nat × Device :=
  let bad := if a = E.TABLE_EDITS then (match d.edits bs with | .ok _ => none | .error e => some e) else none
  match bad with
  | some e => (Res.VALUE, (d.wr E.EDIT_REFUSED_RECORD (e.1 + 1)).wr E.EDIT_REFUSED_CAUSE e.2)
  | none =>
    if !d.objectFits a bs then (Res.VALUE, d)
    else if d.objectBusy a then (Res.BUSY, d)
    else if crc32c bs ≠ crc then (Res.CRC_MISMATCH, d)
    else d.installObject p a bs reply

/-! ### Open writes (R73, R87) -/

/-- The principal's open write. -/
def Device.openWrite (d : Device) (p : Nat) : Option OpenWrite := d.writes.find? (fun w => w.principal = p)

/-- The principal's open write ends. -/
def Device.dropWrite (d : Device) (p : Nat) : Device := { d with writes := d.writes.filter (fun w => w.principal ≠ p) }

/-- Another principal has a write of the object open. -/
def Device.writeConflict (d : Device) (p : Nat) (a : Addr) : Bool :=
  d.writes.any (fun w => w.principal ≠ p && w.addr = a)

/-- The principal's write with its bytes changed. -/
def Device.growWrite (d : Device) (p : Nat) (f : List Byte → List Byte) : Device :=
  { d with writes := modFirst d.writes (fun w => w.principal = p)
             (fun w => { w with data := f w.data }) }

/-- A DOMAIN write opens. The principal's previous write is aborted, and with it the window that carried it. -/
def Device.beginWrite (d : Device) (p : Nat) (a : Addr) (total : Nat) (window : Bool) (channel : Option Nat) : Device :=
  let shut := match d.openWrite p with
    | some w => w.window
    | none => false
  let d := if shut then { d with window := none } else d
  let d := d.dropWrite p
  let w : OpenWrite :=
    { principal := p, addr := a, total := total, window := window
      data := if window then List.replicate total 0 else [], channel := channel }
  { d with writes := w :: d.writes }

/-- Bytes posted into the DOMAIN window at an offset from its start (R73): the write takes those within its length. The
result says whether a write window was there to take them all. -/
def Device.windowStore (d : Device) (offset : Nat) (bs : List Byte) : Bool × Device :=
  match d.window with
  | some w =>
    let p := if w.owner < 4 then 0 else 1
    match d.openWrite p with
    | some o =>
      if w.write ∧ o.window ∧ w.base + offset + bs.length ≤ o.total then
        (true, d.growWrite p (fun data => overlay data (w.base + offset) bs))
      else (false, d)
    | none => (false, d)
  | none => (false, d)

/-- DOMAIN_WRITE_TIMEOUT (R87): a controller's write has seen no segment for 1 s and is aborted. -/
def execDomainWriteTimeout (controller : Nat) (s : State) : Host.Outcome State Fault Refusal :=
  s.on (fun d => d.dropWrite (2 + controller))

end Sys2Proof.Machine
end

