-- ==== Sys2Proof/Machine/Siphon.lean ====
section
/-! DEFINITION. Siphon: the doorbells, the descriptor walk, and the transfers of its channels (R378 to R398). -/

namespace Sys2Proof.Machine

open Sys2Proof

/-! ### Descriptors (Table 15.3) -/

/-- A descriptor's NEXT, CONTROL, LENGTH, BUFFER and ARG. -/
def descNext (b : List Byte) : Nat := leNat (slice b 0 8)
def descControl (b : List Byte) : Nat := leNat (slice b 8 4)
def descLength (b : List Byte) : Nat := leNat (slice b 12 4)
def descBuffer (b : List Byte) : Nat := leNat (slice b 16 8)
def descArg (b : List Byte) : Nat := leNat (slice b 24 8)

/-- END, IRQ, FIRST and LAST of CONTROL. -/
def descEnd (b : List Byte) : Bool := bit (descControl b) 0
def descIrq (b : List Byte) : Bool := bit (descControl b) 1
def descFirst (b : List Byte) : Bool := bit (descControl b) 2
def descLast (b : List Byte) : Bool := bit (descControl b) 3

/-- The channel stands inside a frame: an INJECT run that is open, or a CPU_RX copy partly written (R379). -/
def Channel.midFrame (ch : Channel) : Bool := ch.inRun || ch.rxCopy.isSome || ch.phase = 7

/-- The channel reads buffers: INJECT, or a DOMAIN write. -/
def Channel.readsBuffers (ch : Channel) : Bool :=
  ch.use = 2 || (match ch.dom with | some t => t.write | none => false)

/-- The ARG of a FIRST descriptor is one that R392 takes (Table 15.6). -/
def Device.argOk (d : Device) (arg : Nat) : Bool :=
  let p := bits arg 0 12
  bits arg 38 26 = 0 && (p = 0x800 || p = 0x840 || (match d.localPort p with | some l => d.portExists l | none => false))

/-- The descriptor completes BAD MALFORMED (R388, R392). -/
def Device.descMalformed (d : Device) (ch : Channel) : Bool :=
  let b := ch.desc
  let n := descLength b
  let total := ch.run.length + n
  n < 64 || n > 16777216 || bits (descControl b) 4 28 ≠ 0
    || (if ch.use = 2 then
          (if ch.inRun then descFirst b || descArg b ≠ 0 else !descFirst b || !d.argOk (descArg b))
            || total > 15996 || (descLast b && total < 60)
        else descFirst b || descLast b || descArg b ≠ 0)

/-- The rest of a failed run, or of an aborted DOMAIN write, completes ABANDONED (R392, R396). -/
def Channel.abandons (ch : Channel) : Bool :=
  ch.badRun || (match ch.dom with | some t => t.aborted | none => false)

/-- The bytes of the present buffer that the transfer uses: the whole of it but in a DOMAIN transfer's last one. -/
def Channel.wanted (ch : Channel) : Nat :=
  match ch.dom with
  | some t => min (descLength ch.desc) (t.length - t.moved)
  | none => descLength ch.desc

/-! ### Staging (R390) -/

/-- Bytes of the channel's staging: the 16 KiB buffer of a Priority channel, or its share of the Bulk buffer. -/
def Device.staging (d : Device) (c : Nat) : Nat := if c < 64 then 16384 else 1024 * max 1 (d.cur (E.BUFFER_SHARE_KIB c))

/-- A transfer of `n` bytes in parts that the staging holds: (first byte, bytes). -/
def parts (size n : Nat) : List (Nat × Nat) :=
  (List.range (ceilDiv n size)).map (fun i => (size * i, min size (n - size * i)))

/-- A buffer of host memory is read into the channel's staging, in requests of at most the maximum read request size. -/
def Device.readBuffer (d : Device) (c address n : Nat) : Device :=
  (parts (min (d.staging c) d.board.pci.readRequest) n).foldl (fun (d : Device) x => d.send (.hostRead (address + x.1) x.2)) d

/-- Bytes are written from the channel's staging to a buffer of host memory, in writes of at most the maximum payload size. -/
def Device.writeBuffer (d : Device) (c address : Nat) (bs : List Byte) : Device :=
  (parts (min (d.staging c) d.board.pci.payload) bs.length).foldl (fun (d : Device) x => d.send (.hostWrite (address + x.1) (slice bs x.1 x.2))) d

/-! ### Halting, parking, walking (R381, R384, R386) -/

/-- The channel has nothing under way. -/
def Channel.cleared (ch : Channel) : Channel :=
  { ch with phase := 0, moved := 0, stopping := false, changing := false, inRun := false, run := [], badRun := false,
            rxCopy := none, rxBytes := [], rxSent := 0, came := [], dom := none }

/-- A DOMAIN write of the channel's that is open ends. -/
def Device.dropChannelWrite (d : Device) (c : Nat) : Device :=
  { d with writes := d.writes.filter (fun w => w.channel ≠ some c) }

/-- The channel enters Halted with a cause. A DOMAIN transfer under way ends with DOMAIN_SEQUENCE. -/
def Device.haltChannel (d : Device) (c cause : Nat) : Device :=
  let ch := d.channel c
  let d := if ch.dom.isSome then (d.dropChannelWrite c).wr (E.DOMAIN_RESULT c) Res.DOMAIN_SEQUENCE else d
  d.withChannel { ch.cleared with state := 4, cause := cause, latched := false }

/-- The channel enters Idle. -/
def Device.idleChannel (d : Device) (c : Nat) : Device :=
  d.withChannel { (d.channel c).cleared with state := 0, latched := false }

/-- A record may be written: the completion ring has room and Bus Master Enable is 1 (R383, R397). -/
def Device.recordsOpen (d : Device) (ch : Channel) : Bool := d.busMaster && !d.completionFull ch

/-- A completion record (Table 15.4) of the present descriptor, with its counters, its interrupt, and the strike of a BAD
outcome other than MALFORMED (R383, R387, R388). -/
def Device.record (d : Device) (c bytes crc outcome cause : Nat) (first last : Bool) (result : Nat) : Device :=
  let ch := d.channel c
  let n := ch.completed
  let slots := max 1 (d.cur (E.COMPL_SLOTS c))
  let status := outcome + 4 * cause + 32 * first.toNat + 64 * last.toNat + 2 ^ 15 * (n / slots % 2 = 0 : Bool).toNat
  let rec16 := leBytes 4 n ++ leBytes 4 bytes ++ leBytes 4 crc ++ leBytes 2 status ++ leBytes 2 result
  let d := d.send (.hostWrite (d.cur (E.COMPL_BASE c) + 16 * (n % slots)) rec16)
  let d := d.withChannel { ch with completed := (n + 1) % 2 ^ 32 }
  let d := (d.bump64 (E.DESCRIPTORS_DONE c) 1).bump64 (E.BYTES_MOVED c) bytes
  let d := if descIrq ch.desc then
      (d.wrBit (E.COMPLETION_PENDING (c / 32)) (c % 32) true).raise (Src.SIPHON_COMPLETION (c / 64)) c
    else d
  if outcome = 1 then
    let d := (d.bump64 (E.BAD_DESCRIPTORS c) 1).raise Src.SIPHON_BAD c
    if cause = 4 then d else d.strikeChannel c
  else d

/-- The record of a descriptor read that failed, and the halt that follows (R387). -/
def Device.failRead (d : Device) (c : Nat) : Device :=
  let d := d.record c 0 0 1 3 false false 0
  if (d.channel c).state = 5 then d else d.haltChannel c 2

/-- The channel goes on to the descriptor after the present one, or halts where NEXT is misaligned. -/
def Device.follow (d : Device) (c : Nat) : Device :=
  let ch := d.channel c
  if descNext ch.desc % 32 ≠ 0 then d.haltChannel c 3
  else d.withChannel { ch with current := descNext ch.desc, phase := 1, moved := 0 }

/-- After END: a latched RING leads to a re-read, and otherwise the channel parks. -/
def Device.park (d : Device) (c : Nat) : Device :=
  let ch := d.channel c
  if ch.latched then d.withChannel { ch with latched := false, phase := 3, moved := 0 }
  else d.withChannel { ch with state := 2, phase := 0, moved := 0 }

/-- What waits for the end of a descriptor or frame: RECONFIGURED, or STOP; else the walk goes on (R379, R381, R384). -/
def Device.proceed (d : Device) (c : Nat) : Device :=
  let ch := d.channel c
  if ch.state ≠ 1 then d
  else if ch.changing && !ch.midFrame then d.haltChannel c 5
  else if ch.stopping && !ch.midFrame then (d.dropChannelWrite c).idleChannel c
  else if descEnd ch.desc then d.park c
  else d.follow c

/-! ### Completions (R383, R387, R388, R391, R392, R395, R396) -/

/-- The CRC of the bytes moved, 0 when none was. -/
def movedCrc (bs : List Byte) : Nat := if bs = [] then 0 else crc32c bs

/-- A DOMAIN transfer ends with the present descriptor: its record with LAST and RESULT, DOMAIN_RESULT, and Idle. -/
def Device.endTransfer (d : Device) (c bytes crc outcome cause : Nat) (first : Bool) (result : Nat) : Device :=
  let d := (d.record c bytes crc outcome cause first true result).wr (E.DOMAIN_RESULT c) result
  let d := d.dropChannelWrite c
  if (d.channel c).state = 5 then d
  else if (d.channel c).changing then d.haltChannel c 5 |>.wr (E.DOMAIN_RESULT c) result
  else d.idleChannel c

/-- The DOMAIN write of the channel still stands open: no later write of its principal took its place (R87). -/
def Device.writeStands (d : Device) (c : Nat) : Bool := d.writes.any (fun w => w.channel = some c)

/-- A descriptor of a DOMAIN transfer that failed, or that stands after a failure. A failure in a write aborts it, and the
write ends with the descriptors that its length takes (log entry 130); in a read the next descriptor takes the bytes that
this one did not (R395). -/
def Device.failTransfer (d : Device) (c : Nat) (t : DomTransfer) (bytes crc outcome cause : Nat) : Device :=
  let moved := if t.write then t.moved + (d.channel c).wanted else t.moved
  let first := t.moved = 0
  let d := if t.write then d.dropChannelWrite c else d
  if t.write ∧ t.length ≤ moved then d.endTransfer c bytes crc outcome cause first Res.DOMAIN_SEQUENCE
  else
    let t := { t with moved := moved, aborted := t.write }
    ((d.withChannel { d.channel c with dom := some t }).record c bytes crc outcome cause first false 0).proceed c

/-- The bytes of a DOMAIN transfer's buffer are moved. -/
def Device.moveTransfer (d : Device) (c : Nat) (t : DomTransfer) (bytes : List Byte) : Device :=
  let n := (d.channel c).wanted
  let first := t.moved = 0
  let moved := t.moved + n
  if t.write then
    let bs := bytes.take n
    let t := { t with moved := moved, data := t.data ++ bs }
    let d := d.withChannel { d.channel c with dom := some t }
    if moved < t.length then (d.record c n (movedCrc bs) 0 0 first false 0).proceed c
    else
      let x := if d.writeStands c then d.endObject t.principal t.addr t.data t.crc (.channel c) else (Res.DOMAIN_SEQUENCE, d)
      if x.1 = Res.PENDING then x.2.withChannel { x.2.channel c with phase := 9, rxBytes := bs }
      else x.2.endTransfer c n (movedCrc bs) 0 0 first x.1
  else
    let bs := slice (d.object t.addr t.current) (t.offset + t.moved) n
    let d := d.writeBuffer c (descBuffer (d.channel c).desc) bs
    if moved < t.length then
      ((d.withChannel { d.channel c with dom := some { t with moved := moved } }).record c n (movedCrc bs) 0 0 first false 0).proceed c
    else d.endTransfer c n (movedCrc bs) 0 0 first Res.OK

/-- A descriptor of an INJECT run that failed, or that stands after a failure: the rest of the run is abandoned. -/
def Device.failRun (d : Device) (c bytes crc outcome cause : Nat) : Device :=
  let ch := d.channel c
  let d := d.withChannel { ch with inRun := false, run := [], badRun := !descLast ch.desc }
  (d.record c bytes crc outcome cause (descFirst ch.desc) (descLast ch.desc) 0).proceed c

/-- The bytes of a descriptor of an INJECT run have been read: the last one's frame waits for intake. -/
def Device.readRun (d : Device) (c : Nat) (bytes : List Byte) : Device :=
  let ch := d.channel c
  let b := ch.desc
  let bs := bytes.take (descLength b)
  let ch := { ch with run := ch.run ++ bs, inRun := !descLast b, arg := if descFirst b then descArg b else ch.arg }
  let d := (d.withChannel ch).record c bs.length (movedCrc bs) 0 0 (descFirst b) (descLast b) 0
  if descLast b then (if (d.channel c).state = 1 then d.withChannel { d.channel c with phase := 7 } else d) else d.proceed c

/-- A copy that has been written whole to the host: its record, and its end. -/
def Device.deliverCpu (d : Device) (id : Nat) : Device :=
  match d.queued.find? (fun x => x.id = id) with
  | none => d
  | some x =>
    match d.frame? x.frame with
    | none => d
    | some f => (d.copyRecord f x 0 none false false 0 f.sampled).doneCopy x

/-- The part of a CPU copy that stands in the present buffer is complete. With the last part's record the copy has been
written whole, and leaves its queue (R391, R397). -/
def Device.endChunk (d : Device) (c : Nat) (staging : Bool) : Device :=
  let ch := d.channel c
  let bs := slice ch.rxBytes (ch.rxSent - ch.moved) ch.moved
  let first := ch.rxSent = ch.moved
  let last := ch.rxSent = ch.rxBytes.length
  let d := if last then d.withChannel { ch with rxCopy := none, rxBytes := [], rxSent := 0 } else d
  let d := d.record c bs.length (movedCrc bs) (if staging then 1 else 0) (if staging then 5 else 0) first last 0
  let d := match ch.rxCopy with
    | some id => if last then d.deliverCpu id else d
    | none => d
  d.proceed c

/-! ### The engines and their arbitration (R386, R389, R390) -/

/-- The record of a buffer read that timed out, with the bytes that had come (R387). -/
def Device.failBuffer (d : Device) (c : Nat) : Device :=
  let ch := d.channel c
  let got := ch.came.take ch.wanted
  match ch.dom with
  | some t => d.failTransfer c t got.length (movedCrc got) 1 1
  | none => d.failRun c got.length (movedCrc got) 1 1

/-- The engine takes the channel's next read as far as it may: a descriptor (R386), a re-read, a buffer, or the record of a
failed read. A channel in Held does nothing. -/
def Device.engine (d : Device) (c : Nat) : Device :=
  let ch := d.channel c
  if ch.state ≠ 1 ∨ d.channelHeld ch then d
  else
    match ch.phase with
    | 1 =>
      if ch.budget = 0 then ((d.haltChannel c 1).bumpSat (E.CHAIN_LOOPS c) 1).raise Src.SIPHON_HALTED c
      else (d.withChannel { ch with budget := ch.budget - 1, phase := 2, desc := [] }).send (.hostRead ch.current 32)
    | 3 => (d.withChannel { ch with phase := 4 }).send (.hostRead ch.current 16)
    | 8 => d.failRead c
    | 10 => (d.withChannel { ch with phase := 5 }).readBuffer c (descBuffer ch.desc) ch.wanted
    | 11 => d.failBuffer c
    | _ => d

/-- Beats of 64 bytes that a transfer takes. -/
def beats (n : Nat) : Nat := ceilDiv n 64

/-- The channel has a read to issue, or the record of a failed one. -/
def Device.readDue (d : Device) (ch : Channel) : Bool :=
  ch.state = 1 && !d.channelHeld ch && [1, 3, 8, 10, 11].contains ch.phase

/-- The channel that a direction serves among those that are ready: the lowest-numbered Priority channel, and only when none
is ready a Bulk channel, round robin after the one served `last`. -/
def served (ready : List Nat) (last : Nat) : Option Nat :=
  match (ready.filter (· < 64)).min? with
  | some c => some c
  | none => nextRequester ready last

/-- The read engine serves up to `n` channels that are ready, each at its beat. A beat that a Priority channel takes while
another was ready is counted (DESIGN CHOICE, log entry 177: one for a beat, however many lose it). -/
def Device.serveReads : Nat → Device → Device
  | 0, d => d
  | n + 1, d =>
    let ready := (d.channels.filter d.readDue).map (·.c)
    match served ready d.readServed with
    | none => d
    | some c =>
      let d := if c < 64 ∧ 1 < ready.length then d.bump64 E.PRIORITY_PREEMPTS 1 else d
      let d : Device := if c < 64 then d else { d with readServed := c }
      Device.serveReads n (d.engine c)

/-- Every read that a channel may issue is issued, in the order of the arbitration. A channel may have two in turn: the
record of a failed one, and the descriptor after it. -/
def Device.engines (d : Device) : Device := d.serveReads (2 * d.channels.length)

/-- The channel starts walking from SIPHON_HEAD. -/
def Device.startChannel (d : Device) (c use : Nat) (dom : Option DomTransfer) : Device :=
  let ch := (d.channel c).cleared
  d.withChannel { ch with state := 1, latched := false, cause := 0, budget := d.cur (E.WALK_BUDGET c), use := use,
                          current := ch.head, phase := 1, dom := dom, desc := [] }

/-! ### The doorbell page (R380, R381) -/

def Device.ignoreDoorbell (d : Device) (c : Nat) : Device := d.bumpSat (E.IGNORED_WRITES c) 1

/-- The channel takes no doorbell writes: retired, off, or an EXPORT channel. -/
def Device.deaf (d : Device) (c : Nat) : Bool :=
  (d.channel c).state = 5 || ((d.channel c).state ≠ 1 && (d.channel c).state ≠ 2 && (d.channelUse c = 0 || d.channelUse c = 3))

/-- STOP of a channel that walks or is parked: at once where no descriptor and no frame is under way. -/
def Device.stopChannel (d : Device) (c : Nat) : Device :=
  let ch := d.channel c
  let busy := ch.midFrame || (ch.phase ≠ 0 && ch.phase ≠ 1 && ch.phase ≠ 3 && !(ch.phase = 5 && ch.use = 1))
  if busy then d.withChannel { ch with stopping := true } else (d.dropChannelWrite c).idleChannel c

/-- A write of SIPHON_RING, judged on the state before it; STOP is taken in Walking and Parked, not in Held. A part that the state does not permit has no effect; a write
without a permitted part is counted in IGNORED_WRITES. -/
def Device.doorbell (d : Device) (c v : Nat) : Device :=
  let ch := d.channel c
  let live := ch.state = 1 || ch.state = 2
  let stoppable := live && !d.channelHeld ch
  let armable := (ch.state = 0 || ch.state = 4) && ch.headWritten && (d.channelUse c = 1 || d.channelUse c = 2)
  if d.deaf c then d.ignoreDoorbell c
  else if bit v 2 then (if stoppable then (d.stopChannel c).engines else d.ignoreDoorbell c)
  else if bit v 0 && live then
    let ch := { ch with budget := d.cur (E.WALK_BUDGET c) }
    if ch.state = 1 then d.withChannel { ch with latched := true }
    else (d.withChannel { ch with state := 1, phase := 3 }).engines
  else if bit v 1 && armable then (d.startChannel c (d.channelUse c) none).engines
  else d.ignoreDoorbell c

/-- A write of SIPHON_HEAD: 32-byte aligned, in Idle or Halted. -/
def Device.writeHead (d : Device) (c address : Nat) : Device :=
  let ch := d.channel c
  if d.deaf c ∨ (ch.state ≠ 0 ∧ ch.state ≠ 4) ∨ address % 32 ≠ 0 then d.ignoreDoorbell c
  else d.withChannel { ch with head := address % 2 ^ 64, headWritten := true }

/-- A write of SIPHON_CONSUMED: a value beyond SIPHON_COMPLETED is ignored. A channel held by a full ring goes on. -/
def Device.writeConsumed (d : Device) (c v : Nat) : Device :=
  let ch := d.channel c
  let v := v % 2 ^ 32
  if d.deaf c ∨ (ch.completed + 2 ^ 32 - ch.consumed) % 2 ^ 32 < (v + 2 ^ 32 - ch.consumed) % 2 ^ 32 then d.ignoreDoorbell c
  else (d.withChannel { ch with consumed := v }).engines

/-! ### Reads that arrive -/

/-- A descriptor that has been read whole: the channel processes it. A buffer that it reads is to be read. -/
def Device.process (d : Device) (c : Nat) : Device :=
  let ch := d.channel c
  let reads := ch.readsBuffers && !ch.abandons && !d.descMalformed ch
  d.withChannel { ch with phase := if reads then 10 else 5, moved := 0 }

/-- A descriptor read ends; fewer bytes than asked for stand for an error completion (R387). -/
def Device.fetched (d : Device) (c : Nat) (bytes : List Byte) : Device :=
  let ch := d.channel c
  if ch.state ≠ 1 ∨ (ch.phase ≠ 2 ∧ ch.phase ≠ 4) then d
  else if bytes.length < (if ch.phase = 2 then 32 else 16) then d.withChannel { ch with phase := 8 }
  else if (ch.changing || (ch.stopping && (ch.phase = 4 || ch.use = 1))) && !ch.midFrame then
    (d.withChannel { ch with phase := 0, desc := [] }).proceed c
  else if ch.phase = 2 then (d.withChannel { ch with desc := bytes.take 32 }).process c
  else
    let d := d.withChannel { ch with desc := bytes.take 16 ++ ch.desc.drop 16 }
    if bit (descControl bytes) 0 then d.park c else d.follow c

/-- DESCRIPTOR_FETCH (R384). -/
def execDescriptorFetch (channel : Nat) (bytes : List Byte) (s : State) : Host.Outcome State Fault Refusal :=
  s.on (fun d => (d.fetched channel bytes).engines)

/-! ### CPU receive (R391) -/

/-- The receive header of a copy in CPU queue `n` (Table 15.5). -/
def receiveHeader (f : Frame) (x : Copy) (n len : Nat) : List Byte :=
  let k := match x.kind with
    | .mirror m _ => (1, m)
    | .trap r punt => (2 * punt.toNat, r)
    | _ => (0, 0)
  leBytes 2 f.inPort ++ leBytes 2 len ++ leBytes 1 k.1 ++ leBytes 1 k.2 ++ leBytes 1 f.vtag ++ leBytes 1 n
    ++ leBytes 6 (f.rxTime / 2 ^ 32) ++ [0, 0] ++ leBytes 4 (f.rxTime % 2 ^ 32) ++ List.replicate 12 0

/-- The lowest non-empty CPU queue that the channel serves, with its head. -/
def Device.lowestQueue (d : Device) (c : Nat) : Option (Nat × Copy) :=
  (List.range 128).findSome? (fun n =>
    if d.cur (E.CPU_QUEUE_CHANNEL n) = c then (d.headOf (cpuQueue n)).map (fun x => (n, x)) else none)

/-- The copy that the channel takes next: the head of that queue, once it is ready and meets no discard. -/
def Device.nextCpuCopy (d : Device) (c : Nat) : Option (Nat × Copy) :=
  (d.lowestQueue c).filter (fun x => d.copyReady x.2 d.clk.slots && (d.headReason x.2 d.clk.slots).isNone)

/-- The channel with the copy that it writes: the one under way, or the next one it may take. -/
def Device.loadCopy (d : Device) (ch : Channel) : Channel :=
  if ch.rxCopy.isSome then ch
  else match d.nextCpuCopy ch.c with
    | none => ch
    | some (n, x) =>
      match d.frame? x.frame with
      | none => ch
      | some f =>
        let bs := copyBytes f x
        let out := bs ++ fcsOf bs true
        { ch with rxCopy := some x.id, rxBytes := receiveHeader f x n out.length ++ out, rxSent := 0 }

/-- A CPU_RX channel has write beats ready: its present descriptor takes the next part of a copy. That part, with the
channel. -/
def Device.partReady (d : Device) (c : Nat) : Option (Channel × List Byte) :=
  let ch := d.channel c
  if ch.state ≠ 1 ∨ ch.use ≠ 1 ∨ ch.phase ≠ 5 ∨ !d.recordsOpen ch ∨ d.descMalformed ch then none
  else
    let ch := d.loadCopy ch
    ch.rxCopy.map (fun _ => (ch, (ch.rxBytes.drop ch.rxSent).take (descLength ch.desc)))

/-- The next part of the copy under way, or the first of the next copy, is written into the present descriptor's buffer
(R391). -/
def Device.copyToHost (d : Device) (c : Nat) : Device :=
  match d.partReady c with
  | none => d
  | some (ch, part) =>
    (d.writeBuffer c (descBuffer ch.desc) part).withChannel
      { ch with phase := 6, moved := part.length, rxSent := ch.rxSent + part.length }

/-- DESCRIPTOR_COMPLETION (R383): the present descriptor finishes. `bytes` are those that its buffer read brought, fewer
than asked for after an error completion; `staging` is an uncorrectable error in the channel's staging. -/
def Device.completeDescriptor (d : Device) (c : Nat) (bytes : List Byte) (staging : Bool) : Device :=
  let ch := d.channel c
  if ch.state ≠ 1 ∨ !d.recordsOpen ch then d
  else if ch.phase = 6 then d.endChunk c staging
  else if ch.phase ≠ 5 then d
  else
    let got := if ch.readsBuffers then bytes.take ch.wanted else []
    match ch.use, ch.dom with
    | 4, some t =>
      let stands := !t.write || d.writeStands c
      if t.aborted || !stands then d.failTransfer c { t with aborted := true } 0 0 2 6
      else if d.descMalformed ch then d.failTransfer c t 0 0 1 4
      else if staging then d.failTransfer c t got.length (movedCrc got) 1 5
      else if t.write && got.length < ch.wanted then d.failTransfer c t got.length (movedCrc got) 1 2
      else d.moveTransfer c t bytes
    | 2, _ =>
      if ch.badRun then d.failRun c 0 0 2 0
      else if d.descMalformed ch then d.failRun c 0 0 1 4
      else if staging then d.failRun c got.length (movedCrc got) 1 5
      else if got.length < ch.wanted then d.failRun c got.length (movedCrc got) 1 2
      else d.readRun c bytes
    | _, _ =>
      if d.descMalformed ch then (d.record c 0 0 1 4 false false 0).proceed c else d

/-- The channel's present descriptor may finish: its record is a write beat that is ready, and so are the bytes of a DOMAIN
read. -/
def Device.finishes (d : Device) (c : Nat) : Bool :=
  let ch := d.channel c
  ch.state = 1 && d.recordsOpen ch && (ch.phase = 6 || (ch.phase = 5 && (ch.use ≠ 1 || d.descMalformed ch)))

/-! ### Export (R341, R393) -/

/-- Bytes of an item of ring `x`. -/
def itemSize (x : Nat) : Nat := [64, 256, 2048].getD x 64

/-- EXPORT_ITEM (R393): the oldest item of a ring's FIFO is written to host memory, or dropped while the ring is full or
after a staging error. -/
def Device.exportItem (d : Device) (x : Nat) (staging : Bool) : Device :=
  let c := d.cur (E.RING_CHANNEL x)
  match d.tel.fifos.getD x [] with
  | [] => d
  | item :: rest =>
    if !d.busMaster ∨ (d.channel c).state = 5 ∨ c = 0xFFFF then d
    else
      let d : Device := { d with tel := { d.tel with fifos := modAt d.tel.fifos x (fun _ => rest) } }
      let k := d.rd (E.RING_WRITTEN x)
      if staging then (d.bump64 (E.RING_LOST x) 1).strikeChannel c
      else if (k + 2 ^ 32 - d.rd (E.RING_CONSUMED x)) % 2 ^ 32 = d.cur (E.RING_RECORDS x) then d.bump64 (E.RING_LOST x) 1
      else
        let at' := d.cur (E.RING_BASE x) + itemSize x * (k % max 1 (d.cur (E.RING_RECORDS x)))
        ((d.send (.hostWrite at' item)).bump64 (E.BYTES_MOVED c) item.length).bump (E.RING_WRITTEN x) 32 1

/-- An item of the ring is ready for its channel's beats. -/
def Device.itemReady (d : Device) (x : Nat) : Bool :=
  let c := d.cur (E.RING_CHANNEL x)
  d.tel.fifos.getD x [] ≠ [] && d.busMaster && (d.channel c).state ≠ 5 && c ≠ 0xFFFF

/-! ### The write engine (R389, R390) -/

/-- A ring that names the channel and has an item for it. -/
def Device.readyRing (d : Device) (c : Nat) : Option Nat :=
  (List.range 3).find? (fun x => d.cur (E.RING_CHANNEL x) = c && d.itemReady x)

/-- The channel has a write beat ready with what the device holds: a part of a CPU copy, a record or the bytes of a DOMAIN
read, an item of a ring. A descriptor that waits for a buffer read has none. -/
def Device.writeDue (d : Device) (c : Nat) : Bool :=
  let ch := d.channel c
  let waits := ch.phase = 5 && ch.readsBuffers && !ch.abandons && !d.descMalformed ch
  (d.partReady c).isSome || (d.finishes c && !waits) || (d.readyRing c).isSome

/-- The beats of what the channel writes next. -/
def Device.dueBeats (d : Device) (c : Nat) : Nat :=
  match d.partReady c with
  | some x => beats x.2.length
  | none => 1

/-- One descriptor's part, record, or item of the channel is written. -/
def Device.serveWrite (d : Device) (c : Nat) : Device :=
  if (d.partReady c).isSome then d.copyToHost c
  else match d.readyRing c with
    | some x => d.exportItem x false
    | none => d.completeDescriptor c [] false

/-- The write engine is at the channel: the round robin goes on after it, and beats that a Priority channel takes while
another has one ready are counted. -/
def Device.writeTurn (d : Device) (c : Nat) (others : Bool) : Device :=
  if 64 ≤ c then { d with writeServed := c }
  else if others then d.bump64 E.PRIORITY_PREEMPTS (d.dueBeats c)
  else d

/-- The channels with write beats ready. -/
def Device.writersDue (d : Device) : List Nat :=
  ((d.channels.map (·.c)) ++ (List.range 3).map (fun x => d.cur (E.RING_CHANNEL x))).eraseDups.filter d.writeDue

/-- The write engine serves the channels that go before `c` in the arbitration, and comes to `c` (log entry 177). -/
def Device.serveUntil (c : Nat) : Nat → Device → Device
  | 0, d => d
  | n + 1, d =>
    let others := d.writersDue.filter (· ≠ c)
    match served (c :: others) d.writeServed with
    | none => d
    | some k =>
      let d := d.writeTurn k (others ≠ [])
      if k = c then d else Device.serveUntil c n (d.serveWrite k)

/-- What goes before the channel's beats in the write direction, and its turn. -/
def Device.toWrite (d : Device) (c : Nat) : Device := d.serveUntil c (3 * d.channels.length + 8)

/-- CPU_RX_COPY (R391). -/
def execCpuRxCopy (channel : Nat) (s : State) : Host.Outcome State Fault Refusal :=
  s.on (fun d => if (d.partReady channel).isSome then ((d.toWrite channel).copyToHost channel).engines else d)

def execDescriptorCompletion (channel : Nat) (bytes : List Byte) (staging : Bool) (s : State) :
    Host.Outcome State Fault Refusal :=
  s.on (fun d =>
    if d.finishes channel then ((d.toWrite channel).completeDescriptor channel bytes staging).engines else d)

/-- The AER status notes a Completion Timeout: bit 14 (log entry 165). -/
def Device.noteTimeout (d : Device) : Device :=
  { d with board := { d.board with aer := setBit d.board.aer 14 true } }

/-- A read of the channel misses its 50 µs (R387): a descriptor's, or a buffer's, of which `came` had come. The bytes that
come later are discarded. -/
def Device.timeoutRead (d : Device) (c : Nat) (came : List Byte) : Device :=
  let ch := d.channel c
  if ch.state ≠ 1 then d
  else if ch.phase = 2 ∨ ch.phase = 4 then d.noteTimeout.withChannel { ch with phase := 8 }
  else if ch.phase ≠ 5 ∨ !ch.readsBuffers ∨ ch.abandons ∨ d.descMalformed ch then d
  else d.noteTimeout.withChannel { ch with phase := 11, came := came }

/-- READ_TIMEOUT (R387). -/
def execReadTimeout (r : ReadTimeout) (s : State) : Host.Outcome State Fault Refusal :=
  s.on (fun d => (d.timeoutRead r.channel r.came).engines)

def execExportItem (ring : Nat) (staging : Bool) (s : State) : Host.Outcome State Fault Refusal :=
  s.on (fun d =>
    if ring < 3 ∧ d.itemReady ring then ((d.toWrite (d.cur (E.RING_CHANNEL ring))).exportItem ring staging).engines else d)

/-! ### Injection (R295, R296, R392) -/

/-- The frame of a run that has been read whole. -/
def Device.injected (d : Device) (ch : Channel) : Frame :=
  let p := bits ch.arg 0 12
  let slice := match d.localPort p with
    | some l => d.sliceOf l
    | none => 0
  { id := d.nextFrame, slice := slice, inPort := p, chargePort := 0x3FF, inClass := 0, source := 2, bytes := ch.run,
    fcs := fcsOf ch.run true, ended := true, len := ch.run.length + 4, rxTime := 0, vtag := 0, pass := 0, sincePs := d.clk.nowPs,
    verdict := some 0, verdictSlot := d.clk.slots
    direct := if bit ch.arg 12 then some (bits ch.arg 13 12, bits ch.arg 25 3, bits ch.arg 28 10) else none }

/-- INJECT_FRAME (R392): the frame is offered to the internal requester once intake has room for it; it is held while its
slice is gated. -/
def Device.inject (d : Device) (c : Nat) : Device :=
  let ch := d.channel c
  if ch.state ≠ 1 ∨ ch.phase ≠ 7 ∨ !d.mode.forwards then d
  else
    let f := d.injected ch
    if intakeSize < d.intakeUsed f.slice + f.len ∨ d.sliceGated f.slice then d
    else ((d.offerHeader f 0xFFF).withChannel { ch with phase := 5, run := [] }).proceed c

def execInjectFrame (channel : Nat) (s : State) : Host.Outcome State Fault Refusal :=
  s.on (fun d => (d.inject channel).engines)

/-- The slot of a Harvest, payload first (R344). -/
def Device.writeHarvest (d : Device) (h : Harvest) (c : Nat) : Device :=
  let first := leNat (slice h.header 68 2)
  let pages := leNat (slice h.header 70 2)
  let payload := (List.range (1024 * pages)).flatMap (fun i => leBytes 4 (SMap.get h.counters 0 (1024 * first + i)))
  let j := d.rd E.HARVEST_WRITTEN
  let slot := d.cur E.HARVEST_RING_BASE
    + d.cur E.HARVEST_SLOT_BYTES * (j % max 1 (d.cur E.HARVEST_RING_SLOTS))
  let head := [0x48, 0x56, 0x53, 0x54] ++ slice h.header 0 4 ++ leBytes 4 j ++ leBytes 4 d.tel.harvestSkips
    ++ slice h.header 4 68 ++ leBytes 4 (crc32c payload) ++ slice h.header 72 8 ++ List.replicate 32 0
  let d := (d.send (.hostWrite (slot + 128) payload)).send (.hostWrite slot head)
  let d := d.bump64 (E.BYTES_MOVED c) (128 + payload.length)
  let d := { d with tel := { d.tel with harvest := none, harvestSkips := 0 } }
  (d.bump E.HARVEST_WRITTEN 32 1).raise Src.HARVEST_DONE 0

/-- HARVEST_WRITE (R344): the assembly ends and its slot is written. With a staging error the Harvest is abandoned and
counts as skipped (R393). -/
def execHarvestWrite (staging : Bool) (s : State) : Host.Outcome State Fault Refusal :=
  s.on (fun d =>
    match d.tel.harvest with
    | none => d
    | some h =>
      let c := d.cur E.HARVEST_CHANNEL
      if !d.busMaster ∨ (d.channel c).state = 5 then d
      else
        let d := (d.toWrite c).engines
        if staging then
          ((({ d with tel := { d.tel with harvest := none } } : Device).skipHarvests 1).strikeChannel c)
        else d.writeHarvest h c)

/-! ### Arming a DOMAIN channel (R394) -/

/-- A write of 1 to DOMAIN_ARM by a principal: its result. A transfer of no bytes ends with its first descriptor, and a
write has no use for DOMAIN_OFFSET (log entry 201). -/
def Device.armDomain (d : Device) (p c : Nat) : Nat × Device :=
  let ch := d.channel c
  let a := d.rd (E.DOMAIN_ENTRY c)
  let write := d.rdBit (E.DOMAIN_CONTROL c) 0
  let n := d.rd (E.DOMAIN_LENGTH c)
  let code := d.domainCode p a write
  let ready := (ch.state = 0 || ch.state = 4) && ch.headWritten && d.channelUse c = 4
  if code ≠ Res.OK ∧ code ≠ Res.BUSY then (code, d)
  else if code = Res.BUSY ∨ !ready ∨ (write ∧ d.writeConflict p a) then (Res.BUSY, d)
  else
    let t : DomTransfer :=
      { principal := p, addr := a, write := write, current := d.rdBit (E.DOMAIN_CONTROL c) 1
        offset := d.rd (E.DOMAIN_OFFSET c), length := n, crc := d.rd (E.DOMAIN_CRC c) }
    let d := if write then d.beginWrite p a n false (some c) else d
    (Res.OK, (d.startChannel c 4 (some t)).engines)

/-! ### Bus mastering, resets, reconfiguration (R379, R397) -/

/-- BUS_MASTER_ENABLE_CHANGE (R65, R397): the endpoint as the host's write of its configuration, or the training of its
link, leaves it. In D3hot the function issues nothing (log entry 165). -/
def execBusMasterEnableChange (c : PciControl) (s : State) : Host.Outcome State Fault Refusal :=
  s.on (fun d =>
    let board := { d.board with pci := c, aer := d.board.aer &&& lnot 32 c.aerClear }
    let d : Device := { d with busMaster := c.busMaster && !c.d3hot, board := board }
    d.engines)

/-- A Function Level Reset, or a transition to Reset, halts every channel but the retired ones. -/
def Device.haltChannels (d : Device) : Device :=
  let d : Device := { d with writes := d.writes.filter (fun w => w.channel.isNone) }
  { d with channels := (List.range 1024).map (fun c =>
      let ch := d.channel c
      if ch.state = 5 then ch else { ch.cleared with state := 4, cause := 4, latched := false }) }

/-- A flip, or an installation, that changes a channel's use: it halts with RECONFIGURED, after the descriptor or frame
that it works on; one parked inside a frame completes that frame first. -/
def Device.flipChannels (d : Device) (old : Nat) : Device :=
  (List.range 1024).foldl (fun (d : Device) c =>
    let ch := d.channel c
    if d.rdp old (E.CHANNEL_USE c) = d.channelUse c ∨ ch.state = 5 then d
    else if (ch.state = 2 ∧ ch.midFrame)
        ∨ (ch.state = 1 ∧ (ch.midFrame ∨ (ch.phase ≠ 1 ∧ ch.phase ≠ 3 ∧ !(ch.phase = 5 && ch.use = 1)))) then
      d.withChannel { ch with changing := true }
    else d.haltChannel c 5) d

end Sys2Proof.Machine
end

