-- ==== Sys2Proof/Machine/Gauge.lean ====
section
/-! DEFINITION. The Gauge die: its time, intervals, records, audit log and seal, and the tap link's receiving end
(chapter 14). -/

namespace Sys2Proof.Machine

open Sys2Proof

/-! ### Gauge time (R357) -/

/-- The clock counts of one second, and of one nanosecond. -/
def gaugeNano : Nat := 1000 * 2 ^ 40
def gaugeSecond : Nat := 1000000000 * gaugeNano

/-- Gauge time in ns. -/
def Gauge.ns (g : Gauge) : Nat := g.clock / gaugeNano

/-- How far GAUGE_CLK runs off the slot clock, in units of 2^-40: within ±70 ppm (R479, log entry 37). -/
def gaugeDrift : Int := ((Config.gaugeClkOffset % 153931627 : Nat) : Int) - 76965813

/-- The die's own clock has reached a Gauge time in ns: what its commands name they say has come, whether or not the Core
has counted slots meanwhile (R12, R30; log entry 37). -/
def Gauge.reach (g : Gauge) (ns : Nat) : Gauge := { g with clock := max g.clock (ns * gaugeNano) }

/-- The Gauge clock cycle, of 40 ns (GAUGE_CLK, 25 MHz), that a Gauge time in ns lies in. -/
def gaugeCycle (ns : Nat) : Nat := ns / 40

/-- `ps` picoseconds pass while the Core's slots run. -/
def Gauge.pass (g : Gauge) (ps : Nat) : Gauge :=
  if !g.powered then g else
  { g with clock := g.clock + ((ps : Int) * (1099511627776 + g.rate + gaugeDrift)).toNat }

/-! ### Parameters (R369 to R372) -/

/-- A record of R62 for an entry of 9010. -/
def paramRecord (sub ty n v : Nat) : List Byte := beBytes 2 0x9010 ++ beBytes 1 sub ++ beBytes 1 ty ++ beBytes 4 n ++ beBytes n v

/-- PARAM_DIGEST of parameters. -/
def GaugeParams.digest (p : GaugeParams) : List Byte :=
  sha256 (paramRecord 1 2 1 p.minutes ++ paramRecord 2 3 2 p.holdoverS ++ paramRecord 3 4 4 p.windowNs
    ++ paramRecord 4 0x0B 32 p.label)

/-- The pending parameters take effect; a change of INTERVAL_MINUTES is noted for the first new boundary (R371). -/
def Gauge.apply (g : Gauge) : Gauge :=
  { g with params := g.pending
           oldMinutes := if g.pending.minutes = g.params.minutes then g.oldMinutes
             else some (g.oldMinutes.getD g.params.minutes) }

/-! ### The audit log (R365) -/

/-- One audit entry of a kind, at the present Gauge time (Table 14.4). -/
def Gauge.audit (g : Gauge) (kind : Nat) (data : List Byte) : Gauge :=
  let chain := if g.nextAudit = 0 then List.replicate 12 0
    else (sha256 (slice (BMap.get g.audits [] ((g.nextAudit - 1) % 4096)) 0 64)).take 12
  let flags := g.timeSet.toNat + 2 * g.holdover.isSome.toNat
  let e := beBytes 4 g.nextAudit ++ beBytes 1 kind ++ beBytes 1 g.sealState ++ beBytes 1 flags ++ [0]
    ++ beBytes 10 (time80 g.ns) ++ [0, 0] ++ slice data 0 32 ++ chain
  { g with audits := BMap.set g.audits [] (g.nextAudit % 4096) e, nextAudit := g.nextAudit + 1 }

/-! ### Records (R359, R362 to R364) -/

/-- The gap flags of every point, and those of one group. -/
def allGaps : Nat := 2 ^ 2048 - 1
def groupGaps (k : Nat) : Nat := (2 ^ 64 - 1) * 2 ^ (64 * k)

/-- GAP_MAP: point m at bit 7 - (m mod 8) of byte ⌊m ÷ 8⌋. -/
def gapMap (gaps : Nat) : List Byte :=
  (List.range 256).map (fun i => BitVec.ofNat 8 (sumOn (List.range 8) (fun j => bits gaps (8 * i + j) 1 * 2 ^ (7 - j))))

/-- The signature of a record's first 33,200 bytes, under the key that its KEY_NUMBER names: zeros where it is UNSIGNED
(R363). -/
def signRecord (body : List Byte) : List Byte :=
  if bit (beNat (slice body 6 2)) 0 then List.replicate 64 0
  else slice (Config.ed25519Sign (Config.gaugeKey (beNat (slice body 52 4))) body) 0 64

/-- FLAGS of a record (Table 14.3); `extra` holds STEPPED, GAUGE_RESTART and PARAM_CHANGE of the close. -/
def Gauge.recordFlags (g : Gauge) (i : Interval) (extra : Nat) : Nat :=
  (g.sealState = 0 : Bool).toNat + 2 * i.timeSet.toNat + 4 * i.holdover.toNat + 8 * i.exceeded.toNat
    + 32 * (i.gaps ≠ 0 : Bool).toNat + 64 * i.silent.toNat + 128 * i.coreRestart.toNat + extra

/-- The interval record of an interval that ends at `stop` ns (Table 14.2), without its signature. -/
def Gauge.recordBody (g : Gauge) (serial : List Byte) (i : Interval) (stop extra : Nat) : List Byte :=
  let last := BMap.get g.audits [] ((g.nextAudit - 1) % 4096)
  [0x55, 0x47, 0x49, 0x52, 1] ++ beBytes 1 g.sealState ++ beBytes 2 (g.recordFlags i extra) ++ beBytes 8 g.nextRecord
    ++ serial ++ beBytes 10 (time80 i.start) ++ beBytes 10 (time80 stop) ++ beBytes 1 g.params.minutes ++ [0, 0, 0]
    ++ beBytes 4 g.reseals ++ beBytes 4 (if g.sealState = 0 then 0 else g.keyNumber) ++ beBytes 4 (g.nextAudit - 1)
    ++ beBytes 4 i.missing ++ beBytes 8 i.received ++ g.prevHash
    ++ (if g.nextAudit = 0 then List.replicate 32 0 else sha256 (slice last 0 64)) ++ g.params.digest
    ++ List.replicate 8 0 ++ gapMap i.gaps
    ++ (List.range 2048).flatMap (fun m => beBytes 8 (SMap.get i.bytes 0 m) ++ beBytes 8 (SMap.get i.frames 0 m))

/-- A record put in its slot of the ring, and its hash kept for the next one. -/
def Gauge.storeRecord (g : Gauge) (n : Nat) (body : List Byte) : Gauge :=
  let r := body ++ signRecord body
  { g with records := BMap.set g.records [] (n % 96) r, prevHash := sha256 r }

/-- The interval that opens at `start` ns. A tap link that is silent leaves its traffic unmeasured too (R361). -/
def Gauge.openInterval (g : Gauge) (start : Nat) : Interval :=
  let silent := g.interval.silent && !g.tapActive
  { start := start, timeSet := g.timeSet, holdover := g.holdover.isSome, exceeded := g.exceeded, silent := silent
    gaps := if silent then allGaps else 0 }

/-- An interval closes at `stop` ns with a record, and one opens at `start` ns, which the checkpoint then holds; while
Unsealed, pending parameters take effect (R359, R362, R369). -/
def Gauge.close (g : Gauge) (serial : List Byte) (i : Interval) (stop start extra : Nat) : Gauge :=
  let g := g.storeRecord g.nextRecord (g.recordBody serial i stop extra)
  let fresh := g.openInterval start
  let g : Gauge := { g with nextRecord := g.nextRecord + 1, interval := fresh, saved := fresh, savedAt := start }
  if g.sealState = 0 then g.apply else g

/-- A record with points flagged after its close, on the hash of the record before it where that one has changed. -/
def Gauge.flagRecord (g : Gauge) (n gaps : Nat) (chained : Bool) : Gauge :=
  let r := BMap.get g.records [] (n % 96)
  let old := slice r 176 256
  let new := (old.zip (gapMap gaps)).map (fun p => p.1 ||| p.2)
  let flags := setBit (beNat (slice r 6 2)) 5 true
  let body := overlay (overlay (r.take 33200) 176 new) 6 (beBytes 2 flags)
  g.storeRecord n (if chained then overlay body 72 g.prevHash else body)

/-- The records from number `first` on with points flagged after their close, as far back as the ring holds them: their
hashes and signatures follow (R361, log entry 38). -/
def Gauge.flagSince (g : Gauge) (first gaps : Nat) : Gauge :=
  let first := max first (g.nextRecord - 96)
  (List.range (g.nextRecord - first)).foldl (fun (g : Gauge) k => g.flagRecord (first + k) gaps (k ≠ 0)) g

/-- A command that reaches the Gauge die: nothing while VDD_GAUGE is absent (R477). -/
def State.onDie (s : State) (f : Device → Device) : Host.Outcome State Fault Refusal :=
  s.onBoard (fun d => if d.gauge.powered then f d else d)

/-- The device's Gauge, changed. -/
def Device.onGauge (d : Device) (f : Gauge → Gauge) : Device := { d with gauge := f d.gauge }

/-- The open interval closes now (R359): every close raises GAUGE_RECORD_READY (R364). -/
def Device.gaugeClose (d : Device) (stop start extra : Nat) : Device :=
  (d.onGauge (fun g => g.close d.serial g.interval stop start extra)).raise Src.GAUGE_RECORD_READY 0

/-! ### Delta and time records (R355, R356, R360, R361) -/

/-- A record whose CRC fails: counted, and noted once per group and interval (group 32: a time record). -/
def Gauge.badRecord (g : Gauge) (group : Nat) : Gauge :=
  let g : Gauge := { g with crcErrors := min (g.crcErrors + 1) 0xFFFFFFFF }
  let i := g.interval
  let gaps := if group < 32 then i.gaps ||| groupGaps group else i.gaps
  if bit i.crcNoted group then { g with interval := { i with gaps := gaps } }
  else
    { g with interval := { i with gaps := gaps, crcNoted := setBit i.crcNoted group true } }.audit 11
      (if group < 32 then beBytes 1 group else [0xFF])

/-- The CRC-32C at the end of a tap record of `n` bytes before it is right. -/
def tapCrcOk (bs : List Byte) (n : Nat) : Bool := bs.length = n + 4 && crc32c (bs.take n) = beNat (slice bs n 4)

/-- The deltas of a record added to the open interval. -/
def Interval.addDeltas (i : Interval) (k : Nat) (bs : List Byte) : Interval :=
  (List.range 64).foldl (fun (i : Interval) j =>
    let m := 64 * k + j
    { i with bytes := SMap.set i.bytes 0 m (SMap.get i.bytes 0 m + beNat (slice bs (16 + 12 * j) 8))
             frames := SMap.set i.frames 0 m (SMap.get i.frames 0 m + beNat (slice bs (24 + 12 * j) 4)) }) i

/-- A record out of sequence (R356, R361): the missing records are counted, and the group's points flagged, in the
intervals closed since the group's last accepted record too. -/
def Gauge.sequenceGap (g : Gauge) (k expected received : Nat) : Gauge :=
  let i := g.interval
  let i : Interval := { i with missing := i.missing + (received + 2 ^ 32 - expected) % 2 ^ 32, gaps := i.gaps ||| groupGaps k }
  let g : Gauge := { g with seqGaps := min (g.seqGaps + 1) 0xFFFFFFFF, interval := i }
  let before := SMap.get g.seenIn 0 k
  let g := if before ≠ 0 ∧ before ≤ g.nextRecord then g.flagSince (before - 1) (groupGaps k) else g
  if bit i.gapNoted k then g
  else
    { g with interval := { g.interval with gapNoted := setBit i.gapNoted k true } }.audit 10
      (beBytes 1 k ++ beBytes 4 expected ++ beBytes 4 received)

/-- An accepted record of group `k` with START set marks a Core restart; the records of one period, one a group, make one
(R361). -/
def Gauge.coreRestart (g : Gauge) (k round : Nat) : Gauge :=
  let again := g.starts ≠ 0 ∧ !bit g.starts k
  let g : Gauge := { g with interval := { g.interval with gaps := allGaps, coreRestart := true }
                            starts := if again then setBit g.starts k true else 2 ^ k }
  if again then g else g.audit 14 (beBytes 8 round)

/-- A delta record whose CRC passes (R356). -/
def Gauge.acceptDelta (g : Gauge) (bs : List Byte) : Gauge :=
  let k := byteAt bs 1 % 32
  let start := bit (beNat (slice bs 2 2)) 0
  let seq := beNat (slice bs 4 4)
  let last := SMap.get g.lastSeq 0 k
  let g : Gauge := { g with total := (g.total + 1) % 2 ^ 64, tapActive := true
                            interval := { g.interval.addDeltas k bs with received := g.interval.received + 1 } }
  let g := if start then g.coreRestart k (beNat (slice bs 8 8)) else { g with starts := 0 }
  let inSeq := last = 0 || (last % 2 ^ 32 = seq) || (start && seq = 0)
  let g := if inSeq then g else g.sequenceGap k (last % 2 ^ 32) seq
  { g with lastSeq := SMap.set g.lastSeq 0 k (seq + 1), lastAny := seq, recordAt := g.ns
           seenIn := SMap.set g.seenIn 0 k (g.nextRecord + 1) }

/-- DELTA_RECORD (R356): a delta record's bytes reach the Gauge. -/
def execDeltaRecord (bytes : List Byte) (s : State) : Host.Outcome State Fault Refusal :=
  s.onDie (fun d => d.onGauge (fun g =>
    if tapCrcOk bytes 784 && byteAt bytes 0 = 1 then g.acceptDelta bytes else g.badRecord (byteAt bytes 1 % 32)))

/-- TIME_RECORD (R355, R357): a time record's bytes reach the Gauge; a valid one names the second of the next pulse. -/
def execTimeRecord (bytes : List Byte) (s : State) : Host.Outcome State Fault Refusal :=
  s.onDie (fun d => d.onGauge (fun g =>
    if tapCrcOk bytes 16 && byteAt bytes 0 = 2 then { g with named := some (beNat (slice bytes 8 6)) } else g.badRecord 32))

/-- TAP_SILENT (R361): no delta record of any group for 1 ms. -/
def execTapSilent (s : State) : Host.Outcome State Fault Refusal :=
  s.onDie (fun d => d.onGauge (fun g =>
    let g := g.reach (g.recordAt + 1000000)
    if g.interval.silent && !g.tapActive then g
    else
      { g with tapActive := false, interval := { g.interval with gaps := allGaps, silent := true } }.audit 15
        (beBytes 4 g.lastAny)))

/-! ### Pulses and holdover (R357, R358) -/

/-- Holdover ends at a pulse accepted for discipline. -/
def Gauge.endHoldover (g : Gauge) : Gauge :=
  match g.holdover with
  | some t => { g with holdover := none, exceeded := false }.audit 8 (beBytes 4 (((g.ns : Int) - t).toNat / 1000000))
  | none => g

/-- Gauge time takes the value of a whole second: the interval closes at the old time, and one opens at the new. A holdover
that runs goes on, as long as it has been (R358). -/
def Device.gaugeSet (d : Device) (s kind : Nat) : Device :=
  let old := d.gauge.ns
  let d := d.gaugeClose old (s * 1000000000) (16 + 512)
  d.onGauge (fun g =>
    let i : Interval := { g.interval with timeSet := true }
    let at' := s * 1000000000
    { g with clock := s * gaugeSecond, timeSet := true, offRun := 0, interval := i, saved := i, recordAt := at'
             holdover := g.holdover.map (fun t => t + at' - old)
             publishedAt := at' }.audit kind
      (if kind = 6 then beBytes 10 (time80 old) ++ beBytes 10 (s * 2 ^ 32) else []))

/-- The rate is adjusted by at most 50 ppm, so as to drive the error `e` towards 0; the amount is left open, and so is the
sign where the error is 0 (R357, log entry 2). -/
def Device.gaugeSteer (d : Device) (e : Int) : Device :=
  let r := d.draw
  let amount : Int := ((r.1 / 2 % 54975582 : Nat) : Int)
  let change := if 0 < e ∨ (e = 0 ∧ r.1 % 2 = 1) then -amount else amount
  r.2.onGauge (fun g => { g with rate := max (-54975581) (min 54975581 (g.rate + change)), offRun := 0 }.endHoldover)

/-- A pulse whose whole second `s` was named (R357). -/
def Device.gaugePulse (d : Device) (s : Nat) : Device :=
  let g := d.gauge
  if !g.timeSet then d.gaugeSet s 5
  else
    let e := (g.clock : Int) - ((s * gaugeSecond : Nat) : Int)
    if e.natAbs ≤ g.params.windowNs * gaugeNano then d.gaugeSteer e
    else
      let run := if g.offRun ≠ 0 ∧ s = g.offSecond + 1 then g.offRun + 1 else 1
      if run = 8 then d.gaugeSet s 6
      else d.onGauge (fun g => { g with offRun := run, offSecond := s })

/-- GAUGE_PULSE (R357): an internal pulse; one that no valid time record named is ignored. -/
def execGaugePulse (s : State) : Host.Outcome State Fault Refusal :=
  s.onDie (fun d =>
    match d.gauge.named with
    | some sec => ((d.onGauge (fun g => { g with named := none })).gaugePulse sec).onGauge (fun g => { g with pulseAt := g.ns })
    | none => d)

/-- GAUGE_HOLDOVER_START (R358): 1.5 s without a named pulse while TIME_SET is 1. -/
def execGaugeHoldoverStart (s : State) : Host.Outcome State Fault Refusal :=
  s.onDie (fun d => d.onGauge (fun g =>
    if g.timeSet && g.holdover.isNone then
      let g := g.reach (g.pulseAt + 1500000000)
      { g with holdover := some g.ns, interval := { g.interval with holdover := true } }.audit 7 []
    else g))

/-- HOLDOVER_EXCEEDED (R358): the holdover has lasted HOLDOVER_LIMIT_S. -/
def execHoldoverExceeded (s : State) : Host.Outcome State Fault Refusal :=
  s.onDie (fun d => d.onGauge (fun g =>
    if g.holdover.isSome && !g.exceeded then
      let g := g.reach (g.holdover.getD 0 + ((1000000000 * g.params.holdoverS : Nat) : Int)).toNat
      { g with exceeded := true, interval := { g.interval with exceeded := true } }.audit 9 []
    else g))

/-! ### Boundaries (R359, R371) -/

/-- The first interval boundary after the start of the open interval, in ns. -/
def Gauge.nextBoundary (g : Gauge) : Nat :=
  let p := 60000000000 * g.params.minutes
  (g.interval.start / p + 1) * p

/-- The interval closes at the boundary that Gauge time has reached. The first one of a new length writes
INTERVAL_CHANGED. -/
def Device.gaugeBoundary (d : Device) : Device :=
  let b := d.gauge.nextBoundary
  let old := d.gauge.oldMinutes
  let d := d.onGauge (fun g => { g with oldMinutes := none, boundaryAt := some b })
  match old with
  | none => d.gaugeClose b b 0
  | some m =>
    let now := d.gauge.params.minutes
    (d.gaugeClose b b 512).onGauge (fun g => g.audit 18 (beBytes 1 m ++ beBytes 1 now))

/-- GAUGE_INTERVAL_BOUNDARY (R359): Gauge time reaches the boundary, in every mode of the Core (R30, R373). -/
def execGaugeIntervalBoundary (s : State) : Host.Outcome State Fault Refusal :=
  s.onDie (fun d => (d.onGauge (fun g => g.reach g.nextBoundary)).gaugeBoundary)

/-! ### The seal (R366 to R370) -/

/-- SEAL_BREAK_ASSERT (R367): GAUGE_SEAL_BREAK_N has been low for 100 ms, or is high again. -/
def execSealBreakAssert (asserted : Bool) (s : State) : Host.Outcome State Fault Refusal :=
  s.onDie (fun d => d.onGauge (fun g =>
    let g : Gauge := { g with pin := asserted }
    if asserted && g.sealState = 1 then { g with sealState := 2 }.audit 2 (beBytes 4 g.reseals) else g))

/-- The Gauge accepts a write to a parameter, or a write of 1 to GAUGE_SEAL (Table 14.6). -/
def Gauge.acceptsParam (g : Gauge) : Bool := g.sealState = 0 || (g.sealState = 2 && g.pin)
def Gauge.acceptsSeal (g : Gauge) : Bool := g.sealState ≠ 1 && !g.pin

/-- The open interval began at a boundary that lies in the present Gauge clock cycle. -/
def Gauge.atBoundary (g : Gauge) : Bool :=
  g.boundaryAt = some g.interval.start && gaugeCycle g.interval.start = gaugeCycle g.ns

/-- The close that a sealing makes: a boundary that has been reached writes its own record first, and one in the same Gauge
clock cycle leaves nothing for the sealing to close (R368). -/
def Device.sealClose (d : Device) : Device :=
  let d := if d.gauge.nextBoundary ≤ d.gauge.ns then d.gaugeBoundary else d
  if d.gauge.atBoundary then d else d.gaugeClose d.gauge.ns d.gauge.ns 512

/-- An accepted write of 1 to GAUGE_SEAL: the first sealing, or a reseal (R363, R366, R368). -/
def Device.gaugeSeal (d : Device) : Device :=
  let first := d.gauge.sealState = 0
  d.sealClose.onGauge (fun g =>
    let key := g.keyNumber + 1
    { g.apply with sealState := 1, fuse := true, keyNumber := key, reseals := g.reseals + (if first then 0 else 1) }.audit
      (if first then 1 else 3) (slice (Config.ed25519Public (Config.gaugeKey key)) 0 32))

/-- The parameters with entry 9010:`sub` holding `v`. -/
def GaugeParams.set (p : GaugeParams) (sub v : Nat) : GaugeParams :=
  match sub with
  | 1 => { p with minutes := v }
  | 2 => { p with holdoverS := v }
  | 3 => { p with windowNs := v }
  | _ => { p with label := v }

/-- An accepted write of `n` bytes `v` to 9010:`sub` (R369, R376): pending, read back at once, audited, and saved. -/
def Device.gaugeParam (d : Device) (sub ty n v : Nat) : Device :=
  (d.wr (entry 0x9010 sub) v).onGauge (fun g =>
    let g := { g with pending := g.pending.set sub v }.audit 4
      (beBytes 2 0x9010 ++ beBytes 1 sub ++ beBytes 1 ty ++ (sha256 (beBytes n v)).take 28)
    { g with saved := g.interval, savedAt := g.ns })

/-! ### Checkpoints and restarts (R376) -/

/-- GAUGE_CHECKPOINT (R376): 60 s of Gauge time since the last one. -/
def execGaugeCheckpoint (s : State) : Host.Outcome State Fault Refusal :=
  s.onDie (fun d => d.onGauge (fun g =>
    let g := g.reach (g.savedAt + 60000000000)
    { g with saved := g.interval, savedAt := g.ns }))

/-- The die restarts: the log's entry, the checkpointed interval's record, and a new interval from the checkpoint on. -/
def Gauge.restart (g : Gauge) (serial : List Byte) (supplyLost unreadable : Bool) : Gauge :=
  let at' := g.savedAt
  let g : Gauge := { g with clock := at' * gaugeNano, timeSet := false, holdover := none, exceeded := false, named := none
                            offRun := 0, tapActive := false, lastSeq := [], seenIn := [], starts := 0
                            pulseAt := at', recordAt := at', publishedAt := at'
                            crcErrors := 0, seqGaps := 0, total := 0
                            sealState := if g.fuse && unreadable then 2 else g.sealState }
  let g := if g.fuse && unreadable then g.audit 2 (beBytes 4 g.reseals) else g
  let g := g.audit (if supplyLost then 16 else 17) (beBytes 10 (time80 at'))
  let g := g.close serial { g.saved with gaps := allGaps } at' at' 256
  let i : Interval := { start := at' }
  { g with interval := i, saved := i }

/-- The Gauge sees the Core supply go or come back (R365), while it has its own (R477). -/
def Gauge.coreSupplyIs (g : Gauge) (present : Bool) : Gauge :=
  if !g.powered || g.coreSupply = present then g
  else { g with coreSupply := present }.audit (if present then 13 else 12) []

/-- GAUGE_RESTART (R366, R376, R477): VDD_GAUGE goes, and with it the die's running; or the die restarts, after such a loss
or from an assertion of GAUGE_RESET_N. The seal state in non-volatile memory may be unreadable. A die whose supply is back
reads its pin and the Core's supply anew (log entry 205). -/
def execGaugeRestart (cause : GaugeCause) (sealUnreadable : Bool) (s : State) : Host.Outcome State Fault Refusal :=
  s.onBoard (fun d =>
    match cause with
    | .supplyGone => d.onGauge (fun g => { g with powered := false })
    | .supplyBack =>
      if d.gauge.powered then d
      else
        (d.onGauge (fun g =>
          ({ g with powered := true, pin := false }.restart d.serial true sealUnreadable).coreSupplyIs (d.mode ≠ Mode.off))).raise
          Src.GAUGE_RECORD_READY 0
    | .resetPin =>
      if d.gauge.powered then
        (d.onGauge (fun g => g.restart d.serial false sealUnreadable)).raise Src.GAUGE_RECORD_READY 0
      else d)

/-! ### The publish link (R374) -/

/-- GAUGE_STATUS (Table 14.7). -/
def Gauge.status (g : Gauge) : Nat :=
  g.timeSet.toNat + 2 * g.holdover.isSome.toNat + 4 * g.pin.toNat + 8 * g.tapActive.toNat + 16 * g.coreSupply.toNat
    + 32 * g.mirrorComplete.toNat

/-- The entries that the publish link keeps. -/
def Device.publish (d : Device) : Device :=
  let g := d.gauge
  [(E.SEAL_STATE, g.sealState), (E.GAUGE_STATUS, g.status), (E.GAUGE_TIME, time80 g.ns), (E.RESEAL_COUNT, g.reseals),
   (E.KEY_NUMBER, g.keyNumber),
   (E.PUBLIC_KEY, if g.sealState = 0 then 0 else beNat (slice (Config.ed25519Public (Config.gaugeKey g.keyNumber)) 0 32)),
   (E.NEXT_RECORD, g.nextRecord), (E.NEXT_AUDIT, g.nextAudit), (E.TAP_CRC_ERRORS, g.crcErrors),
   (E.TAP_SEQUENCE_GAPS, g.seqGaps), (E.TAP_TOTAL, g.total), (E.PARAM_DIGEST, beNat g.params.digest)].foldl
    (fun (d : Device) e => d.wr e.1 e.2) d

/-- The mirror takes the ring and the log as they stand. -/
def Gauge.mirror (g : Gauge) : Gauge := { g with mirrorRecords := g.records, mirrorAudits := g.audits }

/-- GAUGE_STATUS_PUBLISH (R374): new records and entries first, then the status, 1 ms of Gauge time after the last. A Core
that is not ready takes nothing. -/
def execGaugeStatusPublish (s : State) : Host.Outcome State Fault Refusal :=
  s.onDie (fun d =>
    let d := d.onGauge (fun g =>
      let g := g.reach (g.publishedAt + 1000000)
      { g with publishedAt := g.ns })
    d.clocked (fun d =>
      if d.ready then (if d.gauge.mirrorComplete then d.onGauge Gauge.mirror else d).publish else d))

/-- GAUGE_MIRROR_CYCLE_END (R374): a full cycle of the ring and log has been mirrored. -/
def execGaugeMirrorCycleEnd (s : State) : Host.Outcome State Fault Refusal :=
  s.on (fun d =>
    if d.ready ∧ d.gauge.powered then
      (d.onGauge (fun g => { g with mirrorComplete := true }.mirror)).wrBit E.GAUGE_STATUS 5 true
    else d)

end Sys2Proof.Machine
end

