-- ==== Sys2Proof/Machine/Slot.lean ====
section
/-! DEFINITION. The slot clock: counted slots and skip slots, the memory faults that a slot meets, and the flush of the
queues in Safe-Hold (R16 to R23, R193, R252, R406, R410, R457, R467). -/

namespace Sys2Proof.Machine

open Sys2Proof

/-! ### Uncorrectable errors in the Cask (R252) -/

/-- Every uncorrectable error is counted, and strikes the bank that it lies in. -/
def Device.caskError (d : Device) (bank : Nat) : Device :=
  let d := d.bump64 E.CASK_UNCORRECTABLE 1
  if d.caskBankIn bank then d.strike 8 (d.physical 8 bank) else d

/-- A frame loses a cell: its copies are discarded at their queue heads, or stomped once their first byte has left. -/
def Device.cellLost (d : Device) (frame : Nat) : Device :=
  let d := d.modFrame frame (fun f => { f with cellError := true })
  (d.dec.tx.filter (fun t => t.copy.frame = frame && t.started && t.stomp.isNone)).foldl (fun (d : Device) t =>
    d.modTx t.copy.id (fun x => { x with stomp := some Reason.CELL_ERROR })) d

/-- An error in the data of a cell: a free cell's word is rewritten. -/
def Device.cellDataError (d : Device) (h : Nat) : Device :=
  let d := d.caskError (bankOf h)
  match d.cells.find? (fun c => c.handle = h && c.state = 1) with
  | some c => d.cellLost c.frame
  | none => d

/-- An error in a cell's header: the cell is lost. A free cell that is lost is charged to no port and belongs to no frame: no
frame has the number 2^64. -/
def Device.cellHeaderError (d : Device) (h : Nat) : Device :=
  let d := d.caskError (bankOf h)
  match d.cells.find? (fun c => c.handle = h) with
  | some c =>
    if c.state = 2 then d
    else
      let d : Device := { d with cells := modFirst d.cells (fun x => x.handle = h) (fun x => { x with state := 2 }) }
      (d.bumpSat E.CELLS_LOST 1).cellLost c.frame
  | none =>
    let lost : Cell := { handle := h, state := 2, owner := 0, lastOwner := 0, fill := 0, last := false, charge := 1
                         inPort := 0x3FF, inClass := 0, next := 0, frame := 2 ^ 64 }
    ({ d with cells := insCell lost d.cells } : Device).bumpSat E.CELLS_LOST 1

/-- An error in a frame record or a copy descriptor: no copy of it passes, which is fatal with cause 6 (Table 18.7). -/
def Device.recordError (d : Device) (n : Nat) : Device := (d.bump64 E.CASK_UNCORRECTABLE 1).safeHold 6 n

/-- An error in a bitmap word: the Cellarhand rebuilds it from the headers, and its cells take no allocation in the slot in
which it does (log entry 175). -/
def Device.bitmapError (d : Device) (w : BitmapWord) : Device :=
  let d := d.caskError w.bank
  { d with rebuilding := d.rebuilding ++ [w] }

/-- An error in a bitmap level that the headers cannot rebuild: fatal with cause 6, with the handle of its first cell. -/
def Device.bitmapLost (d : Device) (h : Nat) : Device := (d.caskError (bankOf h)).safeHold 6 h

/-- One memory fault of a slot; a store word strikes where it is fetched (R193), and a word of the Cellarhand aborts its
routine (R216). -/
def Device.slotFault (d : Device) (x : SlotFault) : Device :=
  match x with
  | .caskCorrected => d.bump64 E.CASK_CORRECTED 1
  | .handRead => d
  | .handFetch => d
  | .storeWord _ _ => d
  | .cellData h => d.cellDataError h
  | .cellHeader h => d.cellHeaderError h
  | .cellBitmap w => d.bitmapError w
  | .bitmapLost h => d.bitmapLost h
  | .frameRecord n => d.recordError n
  | .copyDescriptor n => d.recordError n

/-- The store words of a slot's faults: (slice, address). -/
def badWords (xs : List SlotFault) : List (Nat × Nat) :=
  xs.filterMap (fun x => match x with
    | .storeWord s a => some (s, a)
    | _ => none)

/-! ### Time -/

/-- One clock period passes, for the Core and on the Gauge's own clock. -/
def Device.passPeriod (d : Device) : Device :=
  let ps := d.rd E.SLOT_PERIOD_PS
  let d : Device := { d with clk := { d.clk with nowPs := d.clk.nowPs + ps }
                             pow := { d.pow with epochPs := d.pow.epochPs + ps }, gauge := d.gauge.pass ps }
  d.passTime ps

/-! ### Skip slots (R23, R406, R410, R432) -/

/-- The planned skip slots of the round: power's and pace's. -/
def Device.plannedSkips (d : Device) : Nat := d.rd E.POWER_SKIPS + d.join.paceSkips + d.join.markSkips

/-- How many of `k` planned skip slots have fallen due after `c` counted slots of the round: one after every
⌊1,024 ÷ k⌋, the first of them included. More than 1,024 spread in the same proportion. -/
def skipQuota (k c : Nat) : Nat :=
  if k = 0 then 0
  else if k ≤ 1024 then min k (ceilDiv c (1024 / k))
  else k * c / 1024

/-- A planned skip slot is due. -/
def Device.skipDue (d : Device) : Bool := decide (d.clk.planned < skipQuota d.plannedSkips d.clk.slot)

/-- A planned skip slot is taken: power's share of the round counts in CAP_SKIPS. -/
def Device.takePlanned (d : Device) : Device :=
  let k := d.rd E.POWER_SKIPS
  let all := d.plannedSkips
  let i := d.clk.planned
  let d : Device := { d with clk := { d.clk with planned := i + 1 } }
  if i * k / all < (i + 1) * k / all then d.bump64 E.CAP_SKIPS 1 else d

/-- A droop skip slot is taken; the round's first one beyond the limit raises DROOP_STORM, which slows the evaluations to
come. -/
def Device.takeDroop (d : Device) : Device :=
  let n := d.pow.droopRound + 1
  let d : Device := { d with pow := { d.pow with droopLeft := d.pow.droopLeft - 1, droopRound := n } }
  let d := d.bump64 E.DROOP_SKIPS 1
  if Config.droopStormLimit < n ∧ !d.pow.stormed then
    ({ d with pow := { d.pow with stormed := true, stormLeft := 16 } } : Device).raise Src.DROOP_STORM 0
  else d

/-- A skip slot: nothing advances but time. It is one skip slot, whatever its causes; one of the partner's droop bursts is a
pace skip slot, and counts in no droop counter (R414, R432). -/
def Device.skip (d : Device) : Device :=
  let droop := decide (0 < d.pow.droopLeft)
  let burst := decide (0 < d.join.burstLeft)
  let planned := d.skipDue
  if !d.alive || !(droop || burst || planned) then d
  else
    let d := if planned then d.takePlanned else d
    let d := if droop then d.takeDroop else d
    let d : Device := { d with join := { d.join with burstLeft := d.join.burstLeft - 1 } }
    let d : Device := { d with clk := { d.clk with skips := d.clk.skips + 1 }
                               pow := { d.pow with skips := d.pow.skips + 1 } }
    (d.bump64 E.SKIP_COUNT 1).passPeriod

/-- The skip slots due now: those still to come of droop and of the partner's bursts, and the planned ones that have fallen
due. One slot serves every cause (R406). -/
def Device.skipsDue (d : Device) : Nat :=
  max (max d.pow.droopLeft d.join.burstLeft) (skipQuota d.plannedSkips d.clk.slot - d.clk.planned)

/-- `n` skip slots pass. -/
def Device.skips (d : Device) : Nat → Device
  | 0 => d
  | n + 1 => d.skip.skips n

/-- The skip slots due pass before whatever the slot clock does next (R406, R410, R432). -/
def Device.passSkips (d : Device) : Device := d.skips d.skipsDue

/-- DROOP_BURST_END (R410): the clock periods of the burst that are still to come pass, as skip slots. -/
def execDroopBurstEnd (s : State) : Host.Outcome State Fault Refusal :=
  s.on (fun d => d.skips d.pow.droopLeft)

/-! ### Counted slots -/

/-- Round work that overran its boundary is completed: the late refills are credited with the amounts of the round they
belong to (R268, R279), the late lattice evaluations end (R275). -/
def Device.finishLate (d : Device) : Device :=
  let d := match d.dec.lateRefill with
    | some l =>
      let d : Device := { d with dec := { d.dec with lateRefill := none } }
      (l.rates.foldl (fun (d : Device) x => d.refillShaper l.ps x) d).refillPolicers l.ps l.policers
    | none => d
  if d.dec.gates.any (·.late) then
    { d with dec := { d.dec with gates := d.dec.gates.map (fun g => { g with late := false }) } }
  else d

/-- Copies selected 272 slots ago may leave from this slot on (R261). -/
def Device.dueTxs (d : Device) (n : Nat) : Device :=
  if d.dec.tx.any (fun t => t.selected + 272 = n) then
    { d with dec := { d.dec with tx := d.dec.tx.map (fun t =>
        if t.selected + 272 = n then { t with start := 2 * d.clk.nowPs } else t) } }
  else d

/-- The Decanter's work in slot `n`: selections, none in Safe-Hold (R457), and what is inserted between frames. -/
def Device.decantSlot (d : Device) (n : Nat) : Device :=
  let d := if d.mode = .safeHold then d else (d.selectAll n).selectMgmt n
  (d.settleOwns.insertPfcs.insertOwns).gateFragments n

/-- The data path in slot `n`, in the order of log entry 36: queue heads, headers, Cask writes, admissions, cells,
selections, crossing, racking. The cell requests go by the GUARD_UNITS of the slot's start, and find no cell that was freed
in the slot (R228, R229). -/
def Device.dataSlot (d : Device) (n : Nat) (faults : List SlotFault) : Device :=
  let guard := d.guardUnits
  let d := faults.foldl (fun (d : Device) x => d.slotFault x) { d with freedNow := [] }
  let d := ((d.sweepHeads n).watchGates n).testXon.testJoinXon
  let d := ((d.dueTxs n).headersSlot n (badWords faults)).serveJobs n
  let d := d.admitAll.allocateCells guard
  let d : Device := { d with rebuilding := [] }
  (((d.decantSlot n).stripeSlot n).noteStalls).rackVisit

/-- A job's copies that no queue has taken are discarded, and the job ends. -/
def Device.flushJob (d : Device) (j : Job) : Device :=
  let d := j.copies.foldl (fun (d : Device) c => d.refuseCopy c Reason.LINK_DOWN) d
  ((d.land j.frame).endJob j.frame).releaseFrame j.frame

/-- Every copy in every queue is discarded with LINK_DOWN, the cross queues' included. -/
def Device.flushQueues (d : Device) : Device :=
  let d := d.jobs.foldl (fun (d : Device) j => d.flushJob j) d
  d.queued.foldl (fun (d : Device) c => d.dropCopy c Reason.LINK_DOWN true none) d

/-- No copy remains in a queue and no header is in flight (R467), nor is one ahead of a copy that a port has selected. -/
def Device.drained (d : Device) : Bool :=
  decide (d.queued = [] ∧ d.headers = [] ∧ d.jobs = []) && d.dec.tx.all (·.passed)

/-- In Drain, the device is drained once nothing remains; past its limit, what is still queued is discarded (R467). -/
def Device.noteDrained (d : Device) : Device :=
  if d.mode = .drain ∧ d.rd E.DRAIN_STATE ≠ 2 then
    let d := if d.drainOver then d.flushQueues else d
    if d.drained then d.wr E.DRAIN_STATE 2 else d
  else d

/-- The slot is counted, and its period passes. -/
def Device.countSlot (d : Device) : Device :=
  let held := if d.mode = .safeHold then d.safeHoldSlots + 1 else d.safeHoldSlots
  let d : Device := { d with clk := { d.clk with slot := d.clk.slot + 1, slots := d.clk.slots + 1 }, safeHoldSlots := held }
  d.passPeriod

/-- The pipeline's work in a counted slot. The Cellarhand's word comes first, so that a hit of the slot in which TSTHIT
clears HIT leaves it set (R168, R215). -/
def Device.advanceSlot (d : Device) (faults : List SlotFault) : Device :=
  (((d.handSlot faults).dataSlot d.clk.slots faults).finishLate.noteDrained.flushEvents).countSlot

/-- A counted slot (R16 to R18, R32): in every mode in which slots are counted, until the round holds 1,024. The skip slots
that are due pass before it (R23, R406, R410; log entry 69). -/
def Device.countedSlot (d : Device) (faults : List SlotFault) : Device :=
  if !d.alive || 1024 ≤ d.clk.slot then d else d.passSkips.advanceSlot faults

/-! ### Safe-Hold's queues (R457) -/

/-- SAFE_HOLD_QUEUE_FLUSH (R457): once the headers admitted before Safe-Hold have run to their queues, or a round of
counted slots has passed. -/
def execSafeHoldQueueFlush (s : State) : Host.Outcome State Fault Refusal :=
  s.on (fun d =>
    if d.mode = .safeHold ∧ ((d.headers = [] ∧ d.jobs = []) ∨ 1024 ≤ d.safeHoldSlots) then d.flushQueues else d)

end Sys2Proof.Machine
end

