-- ==== Sys2Proof/Machine/Flip.lean ====
section
/-! DEFINITION. What happens to vintages and modes at a round boundary: installation, flip, retirement, and the armed
transitions (R45, R54 to R57, R434, R465). -/

namespace Sys2Proof.Machine

open Sys2Proof

/-! ### What a change of vintage does beside the parity -/

/-- A sampler that the change enables counts its events from the first (R339). -/
def Device.flipSamplers (d : Device) (old : Nat) : Device :=
  let on := (List.range 256).filter (fun k => !bit (d.rdp old (E.SAMPLER_CONTROL k)) 0 && bit (d.cur (E.SAMPLER_CONTROL k)) 0)
  { d with tel := { d.tel with events := d.tel.events.filter (fun e => !on.contains e.1) } }

/-- Everything that starts anew where the vintage changes what describes it, once VINTAGE_CURRENT names the new one:
`old` is the former parity. -/
def Device.flipAll (d : Device) (old : Nat) : Device :=
  let d := ((d.flipTime old).flipStamps old).flipPorts old
  let d := ((d.flipLanes old).flipGates old).flipShapers old
  let d := ((d.flipPolicers old).flipFlows).flipWindows
  ((((d.flipSamplers old).flipHarvest old).flipHand old).flipChannels old).squelch

/-- The next vintage becomes the current one. -/
def Device.passVintage (d : Device) : Device :=
  let d := d.closeIpfix
  let n := d.rd E.VINTAGE_STAGING
  (d.wr E.VINTAGE_CURRENT n).wr E.VINTAGE_STAGING ((n + 1) % 2 ^ 32)

/-! ### Installation (R45) -/

/-- The staging vintage is installed in both parities, with no previous vintage live. -/
def Device.installVintage (d : Device) : Device :=
  let n := d.rd E.VINTAGE_STAGING
  let q := n % 2
  let old := d.parity
  let d := d.resetChains
  let d := (List.range 4).foldl (fun (d : Device) k =>
    let d := d.loadTable k q true
    d.setEntries k (sweepEntries (d.stores.get k) q)) d
  let d := d.writeCopy q
  let digest := d.vintageDigest d.joined q n
  let d : Device := { d with commit := .idle, previous := none, sweeping := false, newDigest := [], installDue := false }
  ((d.passVintage.publishVintage n digest).flipAll old).alignCopies

/-! ### The flip (R54, R55) -/

/-- Nanoseconds from the commit's time to this boundary, at most 0xFF_FFFF; 0 where no time was given. -/
def Device.lateness (d : Device) : Nat :=
  if d.commitTime = 0 then 0 else min (timeDelta (d.rd E.BOUNDARY_TIME) d.commitTime).toNat 0xFFFFFF

/-- The parity flips: the new vintage is current, and the former one retires. -/
def Device.flipVintage (d : Device) : Device :=
  let n := d.rd E.VINTAGE_STAGING
  let was := d.vintage
  let round := d.rd E.ROUND_COUNT
  let digest := d.newDigest
  let j : Join := { d.join with prepared := false, armFlip := none, acked := false, go := false }
  let d : Device := { d with previous := some was, flipRound := round, lateNs := d.lateness, commit := .retiring, newDigest := []
                             join := j }
  let d := (d.passVintage.wr E.COMMIT_ROUND round).publishVintage n digest
  (d.flipAll (was % 2)).restartRecovery

/-- The boundary at which a commit of this time would flip (R55), seen from this boundary and the length of the last
round. -/
def Device.boundaryOf (d : Device) : Nat :=
  let b := d.rd E.ROUND_COUNT
  if d.commitTime = 0 then b
  else b + ceilDiv (1000 * (timeDelta d.commitTime (d.rd E.BOUNDARY_TIME)).toNat) (max 1 d.clk.lastRoundPs)

/-- The primary of a pair that is Armed sends ARM (R434). -/
def Device.sendArm (d : Device) : Device :=
  let b := d.rd E.ROUND_COUNT
  let f := max (b + 20) d.boundaryOf
  ({ d with join := { d.join with armFlip := some f, armAt := b, acked := false, go := false } } : Device).commitMessage 2 f

/-- Step 2 of R27 for an Armed commit: the flip, where it falls due at this boundary. -/
def Device.flipDue (d : Device) : Device :=
  if d.commit ≠ .armed then d
  else if d.joined then
    match d.join.armFlip with
    | some f => if d.join.go && f ≤ d.rd E.ROUND_COUNT then d.flipVintage else d
    | none => if d.member = 0 then d.sendArm else d
  else if d.waitCode = 0 then d.flipVintage
  else d

/-! ### Retirement (R56, R57) -/

/-- The previous vintage retires once nothing of it is in flight, at the latest 64 boundaries after its flip; its VTAG is
marked expired for as long as frames carry it (R59), and the sweep starts. -/
def Device.retireVintage (d : Device) : Device :=
  match d.previous with
  | none => d
  | some v =>
    let done := d.inflightPrevious = 0 && d.egressPrevious = 0
    let round := d.rd E.ROUND_COUNT
    if d.flipRound < round ∧ (done ∨ d.flipRound + 64 ≤ round) then
      let left := d.inflightOf (v % 256) ≠ 0
      { d with previous := none, sweeping := true, expired := if left then d.expired ++ [v % 256] else d.expired }
    else d

/-! ### Transitions (R173, R465, R470, R415) -/

/-- CARE_LOAD_DONE (R173): the Care array holds its shadow, on the way into a mode that powers it. -/
def Device.loadCare (d : Device) : Device :=
  match d.armed with
  | some m =>
    if m.powersCare && !d.careLoaded then { d with careLoaded := true, stores := { d.stores with care := d.shadow.care } } else d
  | none => d

def execCareLoadDone (s : State) : Host.Outcome State Fault Refusal := s.on Device.loadCare

/-- The ports that Rest puts to sleep (R415). -/
def Device.restSleepers (d : Device) : List Nat :=
  d.ports'.filter (fun p => bit (d.cur (E.REST_SLEEP_PORTS (p / 32))) (p % 32))

/-- A port falls asleep on entry to Rest: down as without ADMIN_UP, its lanes asked for deep sleep. -/
def Device.restPort (d : Device) (p : Nat) : Device :=
  (d.portLanes p).foldl (fun (d : Device) l => (d.sleepLane l true 2).sleepLane l false 2) (d.recheckPort p)

/-- A port that slept in Rest: its lanes are asked to wake. -/
def Device.wakePort (d : Device) (p : Nat) : Device :=
  (d.portLanes p).foldl (fun (d : Device) l =>
    (d.askWake l).modLanes (fun s => { s with rxAsked := SMap.set s.rxAsked 0 l 0 })) d

/-- Every lane restarts in the settings now in force, and every port looks at what it needs (R92, R470). -/
def Device.restartLanes (d : Device) : Device :=
  let d := (List.range 512).foldl (fun (d : Device) l => if d.isJoinLane l then d else d.laneRestart l) d
  d.ports'.foldl (fun (d : Device) p => d.recheckPort p) d

/-- What leaving a mode does, once the new mode holds. -/
def Device.afterLeaving (d : Device) (was : Mode) : Device :=
  match was with
  | .rest => d.restPorts.foldl (fun (d : Device) p => d.wakePort p) { d with restPorts := [] }
  | .diagnostic => d.restartLanes
  | .drain => ({ d with drainOver := false } : Device).wr E.DRAIN_STATE 0
  | .recovery => d.wr E.RECOVERY_STATE 0
  | _ => d

/-- What entering a mode does. -/
def Device.afterEntering (d : Device) : Device :=
  match d.mode with
  | .rest =>
    let ps := d.restSleepers
    ps.foldl (fun (d : Device) p => d.restPort p) { d with restPorts := ps }
  | .diagnostic => d.restartLanes
  | .drain =>
    let armed := if d.rd E.MODE_REQUEST = 3 then some Mode.configure else none
    ({ d with armed := armed, armedPair := d.joined, drainOver := false } : Device).wr E.DRAIN_STATE 1
  | .recovery => d.restartRecovery
  | .configure => d.rejoin
  | _ => d

/-- The device passes from one mode to another. -/
def Device.changeMode (d : Device) (m : Mode) : Device :=
  let was := d.mode
  ((((d.disarm.enterMode m).afterLeaving was).afterEntering).squelch).engines

/-- The armed transition may take effect at this boundary: the Care array that its mode powers is loaded, and a Drain is
left for Configure only once it has drained. -/
def Device.transitionReady (d : Device) (m : Mode) : Bool :=
  (!m.powersCare || d.careLoaded) && !(d.mode = .drain && m = .configure && d.rd E.DRAIN_STATE ≠ 2)

/-- The armed transition's target: Run and Joined Run are one (R464). -/
def Device.target (d : Device) : Option Mode := d.armed.map (fun m => if m = .run ∨ m = .joinedRun then d.runMode else m)

/-- The armed transition is one that both members of a pair make (R466). -/
def Device.pairChange (d : Device) : Bool := d.armedPair && d.joined

/-- No boundary has to be agreed, or the one agreed has come. -/
def Device.agreed (d : Device) : Bool := !d.pairChange || d.join.changeAt.elim false (fun b => b ≤ d.rd E.ROUND_COUNT)

/-- The members of a pair agree on the boundary of their change (R466; log entry 219): the secondary tells when it could make
it, and the primary, when both could, names the boundary 20 rounds from this one. -/
def Device.agreeChange (d : Device) : Device :=
  if !d.pairChange || d.join.changeAt.isSome || !d.target.elim false (fun m => m ≠ d.mode && d.transitionReady m) then d
  else if d.member = 1 then
    (if d.join.toldReady then d else ({ d with join := { d.join with toldReady := true } } : Device).bookMessage 4 [])
  else if d.join.partnerReady then
    let b := d.rd E.ROUND_COUNT + 20
    ({ d with join := { d.join with changeAt := some b } } : Device).bookMessage 5 (beBytes 8 b)
  else d

/-- The armed transition between steps 2 and 3 of R27. -/
def Device.takeTransition (d : Device) : Device :=
  match d.target with
  | none => d
  | some m =>
    if m = d.mode then d.disarm
    else if d.transitionReady m && d.agreed then d.changeMode m
    else d

/-- Step 2 of R27, and the transition after it. -/
def Device.boundaryVintage (d : Device) : Device :=
  let d := d.agreeChange
  let d := if d.mode = .check ∧ d.installDue ∧ d.agreed then d.installVintage else d
  (d.retireVintage.flipDue).takeTransition

end Sys2Proof.Machine
end

