-- ==== Sys2Proof/Machine/Power.lean ====
section
/-! DEFINITION. Power, droop and heat: the epoch's measurement, the choice of the operating point, its application,
narrowing, the attribution of energy, droop bursts and the thermal limits (chapter 16). -/

namespace Sys2Proof.Machine

open Sys2Proof

/-! ### Operating points (R400) -/

/-- The slot period in ps of an operating point (Table 16.1). -/
def slotPeriod (op : Nat) : Nat := [625, 675, 725, 800, 875, 1000, 1125, 1250].getD op 1250

/-- The core setpoint in mV (Table 16.1). -/
def coreSetpoint (op : Nat) : Nat := [800, 780, 760, 740, 720, 700, 680, 660].getD op 660

/-- SCALE in 1/10,000 (Table 16.1). -/
def powerScale (op : Nat) : Nat := [10000, 8802, 7780, 6685, 5786, 4785, 4014, 3403].getD op 3403

/-- Fields of POWER_STATE (Table 16.5). -/
def Device.opInForce (d : Device) : Nat := bits (d.rd E.POWER_STATE) 0 3
def Device.thermalLimit (d : Device) : Nat := bits (d.rd E.POWER_STATE) 6 3
def Device.loadBand (d : Device) : Nat := bits (d.rd E.POWER_STATE) 13 3

/-- The operating point, the skip slots per round and the period that follows are in force; CAPPED follows them. -/
def Device.setOp (d : Device) (op skips : Nat) : Device :=
  let d := ((d.wrBits E.POWER_STATE 0 3 op).wr E.POWER_SKIPS skips).wr E.SLOT_PERIOD_PS (slotPeriod op)
  d.wrBit E.POWER_STATE 9 (bits (d.rd E.POWER_STATE) 3 3 < op || 0 < skips)

/-! ### Measurement (R401, R413) -/

/-- What a lane weighs in its Stave's energy: 4 for an active direction, 1 for light sleep (R413). -/
def Device.laneWeight (d : Device) (l : Nat) : Nat :=
  let w (st : Nat) : Nat := if st = 0 then 4 else if st = 1 then 1 else 0
  if d.laneRetired l then 0 else w (d.txState l) + w (d.rxState l)

/-- The lanes' weights of a round join those of the epoch. -/
def Device.weighLanes (d : Device) : Device :=
  let ws := (List.range 512).foldl (fun (m : SMap) l =>
    let w := d.laneWeight l
    if w = 0 then m else SMap.set m 0 l (SMap.get m 0 l + w)) d.pow.weights
  { d with pow := { d.pow with weights := ws } }

/-- Ingress accepted and egress transmitted bytes of a front port in its tap adders (R133). -/
def portBytes (taps : SMap) (p : Nat) : Nat := SMap.get taps 0 (8 * p + 1) + SMap.get taps 0 (8 * p + 5)

/-- The key of the unattributed energy beside those of the ports. -/
def noPort : Nat := 512

/-- The lanes' weights of an epoch, summed for each Stave by the port that holds the lane: key 1,024 times the Stave and
the port (R413). -/
def Device.staveShares (d : Device) (weights : SMap) : SMap :=
  (List.range 512).foldl (fun (m : SMap) l =>
    let w := SMap.get weights 0 l
    let k := 1024 * (l / 64) + (d.portOfLane l).getD noPort
    if w = 0 then m else SMap.set m 0 k (SMap.get m 0 k + w)) []

/-- The snapshot of the epoch that closes at this boundary, without its rails (R27 step 1); the next epoch begins. -/
def Device.closeEpoch (d : Device) : EpochData × Device :=
  let bytes := (List.range 512).foldl (fun (m : SMap) p =>
    SMap.set m 0 p (portBytes d.ports.taps p - portBytes d.pow.tapsAt p)) []
  let e : EpochData := { rails := [], ps := d.pow.epochPs, tjMax := 0, op := d.opInForce, powerSkips := d.rd E.POWER_SKIPS
                         skips := d.pow.skips, headers := d.pow.headers
                         weights := d.staveShares d.pow.weights, bytes := bytes }
  (e, { d with pow := { d.pow with headers := 0, skips := 0, epochPs := 0, weights := [], tapsAt := d.ports.taps } })

/-- Energy in 2^-32 of a microjoule credited to a port, or to ENERGY_UNATTRIBUTED_UJ: whole microjoules are counted, and
the rest is carried (R413). -/
def Device.creditEnergy (d : Device) (key n : Nat) : Device :=
  let t := SMap.get d.pow.rest 0 key + n
  let d : Device := { d with pow := { d.pow with rest := SMap.set d.pow.rest 0 key (t % 2 ^ 32) } }
  d.bump64 (if key = noPort then E.ENERGY_UNATTRIBUTED_UJ else E.PORT_ENERGY_UJ key) (t / 2 ^ 32)

/-- A rail's energy shared in proportion to (port, weight) pairs; what rounding leaves is not attributed. -/
def Device.shareEnergy (d : Device) (uj : Nat) (ws : List (Nat × Nat)) : Device :=
  let total := sumOn ws (·.2)
  let whole := uj * 2 ^ 32
  let part (w : Nat) : Nat := whole * w / total
  let d := ws.foldl (fun (d : Device) e => d.creditEnergy e.1 (part e.2)) d
  d.creditEnergy noPort (whole - sumOn ws (fun e => part e.2))

/-- The weights of a Stave's lanes by the port that holds each of them (R413). -/
def EpochData.staveWeights (e : EpochData) (k : Nat) : List (Nat × Nat) :=
  (e.weights.filter (fun x => x.1 / 1024 = k)).map (fun x => (x.1 % 1024, x.2))

/-- The energy of an epoch attributed (R413). -/
def Device.attribute (d : Device) (e : EpochData) : Device :=
  let rail (i : Nat) : Nat := e.rails.getD i 0
  let d := (List.range 8).foldl (fun (d : Device) k => d.shareEnergy (rail (2 + k)) (e.staveWeights k)) d
  let d := [0, 1, 10].foldl (fun (d : Device) i => d.shareEnergy (rail i) (e.bytes.map (fun x => (x.1, x.2)))) d
  d.creditEnergy noPort (rail 11 * 2 ^ 32)

/-- The entries that report an epoch: the rails, the total, TJ_MAX, and the energy of its ports (R401, R411, R413). -/
def Device.reportEpoch (d : Device) (e : EpochData) : Device :=
  let ps := max 1 e.ps
  let mW (uj : Nat) : Nat := min (uj * 1000000000 / ps) 0xFFFFFFFF
  let all := sumOn (List.range 12) (fun i => e.rails.getD i 0)
  let d := (List.range 12).foldl (fun (d : Device) i =>
    (d.wr (E.RAIL_POWER_MW i) (mW (e.rails.getD i 0))).bump64 (E.RAIL_ENERGY_UJ i) (e.rails.getD i 0)) d
  let d := ((d.wr E.EPOCH_POWER_MW (mW all)).bump64 E.ENERGY_TOTAL_UJ all).wr E.TJ_MAX (ofSigned 32 e.tjMax)
  ({ d with hot := decide (10500 ≤ e.tjMax) } : Device).attribute e

/-! ### The evaluation (R402, R403, R407, R408, R411) -/

/-- An entry of Table 16.3 or 16.4, or MODE_STATE, as it stood at the boundary that closed the epoch (R403). -/
def EpochData.rd (e : EpochData) (a : Addr) : Nat := SMap.get e.book (defaultOf a) a

/-- What an evaluation reads of the Cellar Book (R402, R403, R407, R411): MODE_STATE and RW entries, and RWV ones. -/
def evaluationEntries : List Addr :=
  [E.MODE_STATE, E.POWER_CAP_W, E.CAP_MARGIN_W, E.SKIP_MAX, E.LOW_BAND_HOLD] ++ (List.range 3).map E.BAND_EDGE
def evaluationCopies : List Addr :=
  [E.NARROW_ALLOWED, E.THROTTLE_TJ_C] ++ (List.range 7).map E.PREF_MODE ++ (List.range 4).map E.PREF_RUN
    ++ (List.range 4).map E.PREF_JOINED

/-- The epoch's data with those entries as they stand now. -/
def EpochData.atBoundary (e : EpochData) (d : Device) : EpochData :=
  let put (m : SMap) (a v : Nat) : SMap := SMap.set m (defaultOf a) a v
  let m := evaluationEntries.foldl (fun m a => put m a (d.rd a)) []
  { e with book := evaluationCopies.foldl (fun m a => put m a (d.cur a)) m }

/-- The band that an epoch measured (R402): U in 1/256 of its 67,108,864 openings. -/
def EpochData.band (e : EpochData) : Nat :=
  ((List.range 3).filter (fun i => e.rd (E.BAND_EDGE i) * 262144 ≤ e.headers)).length

/-- The load band after an epoch: a higher one at once, a lower one after LOW_BAND_HOLD epochs in or below it. -/
def Device.updateBand (d : Device) (e : EpochData) : Device :=
  let m := e.band
  let runs := (List.range 3).map (fun b => if m ≤ b then min 1024 (d.pow.lowRuns.getD b 0 + 1) else 0)
  let held := (List.range 3).find? (fun b => e.rd E.LOW_BAND_HOLD ≤ runs.getD b 0)
  let b := match held with
    | some h => min h d.loadBand
    | none => d.loadBand
  ({ d with pow := { d.pow with lowRuns := runs } } : Device).wrBits E.POWER_STATE 13 3 (max m b)

/-- The preferred operating point (R402): the entry of Table 16.4 for MODE_STATE and its load band; OP4 in Boot. -/
def EpochData.preferredOp (e : EpochData) (band : Nat) : Nat :=
  match Mode.ofCode (e.rd E.MODE_STATE) with
  | some .configure => e.rd (E.PREF_MODE 0)
  | some .check => e.rd (E.PREF_MODE 1)
  | some .drain => e.rd (E.PREF_MODE 2)
  | some .rest => e.rd (E.PREF_MODE 3)
  | some .recovery => e.rd (E.PREF_MODE 4)
  | some .diagnostic => e.rd (E.PREF_MODE 5)
  | some .safeHold => e.rd (E.PREF_MODE 6)
  | some .run => e.rd (E.PREF_RUN band)
  | some .joinedRun => e.rd (E.PREF_JOINED band)
  | _ => 4

/-- The thermal limit after an epoch (R411). -/
def Device.updateThermal (d : Device) (e : EpochData) : Device :=
  let t : Int := 100 * (e.rd E.THROTTLE_TJ_C : Nat)
  if t ≤ e.tjMax then
    let d := (d.wrBits E.POWER_STATE 6 3 (min 7 (d.thermalLimit + 1))).wrBit E.POWER_STATE 11 true
    ({ d with pow := { d.pow with coolRun := 0 } } : Device).raise Src.THERMAL_THROTTLE 0
  else if e.tjMax < t - 500 then
    if d.pow.coolRun + 1 < 16 then { d with pow := { d.pow with coolRun := d.pow.coolRun + 1 } }
    else
      let l := d.thermalLimit - 1
      let d := d.wrBits E.POWER_STATE 6 3 l
      let d := if l = 0 then d.wrBit E.POWER_STATE 11 false else d
      { d with pow := { d.pow with coolRun := 0 } }
  else { d with pow := { d.pow with coolRun := 0 } }

/-- The epoch's total power exceeds `w` watts: energies in microjoules over ps. -/
def powerAbove (rails : List Nat) (ps w : Nat) : Bool := decide (w * ps < sumOn rails id * 1000000)

/-- pred(op, k) of R403 is at most `w` watts, by exact products: SCALE in 1/10,000, the measured skips of 1,024 rounds. -/
def predicted (e : EpochData) (op k w : Nat) : Bool :=
  let s := e.rails.getD 0 0 + e.rails.getD 1 0
  let x := sumOn e.rails id - s
  let den := powerScale e.op * 1024 * (1024 + k)
  decide ((x * den + s * powerScale op * (1048576 + e.skips)) * 1000000 ≤ w * e.ps * den)

/-- The candidate states of R403 for the fastest operating point `f`. -/
def candidates (f skipMax : Nat) : List (Nat × Nat) :=
  (List.range (8 - f)).map (fun i => (f + i, 0)) ++ (List.range (skipMax / 64)).map (fun i => (7, 64 * (i + 1)))

/-- The place of a state in the order of R403. -/
def stateRank (x : Nat × Nat) : Nat := x.1 + x.2 / 64

/-- Narrowing and restoring after an epoch (R407, R408): the classes narrowed from the next application on. -/
def Device.updateNarrowing (d : Device) (e : EpochData) : Device :=
  let cap := e.rd E.POWER_CAP_W
  if cap = 0 then
    { d with pow := { d.pow with overRun := 0, underRun := 0, narrowOrder := [] } }.wrBit E.POWER_STATE 10 false
  else
    let beyond := decide (e.op = 7 ∧ e.powerSkips = e.rd E.SKIP_MAX) && powerAbove e.rails e.ps cap
    let overRun := if beyond then d.pow.overRun + 1 else 0
    let under := !powerAbove e.rails e.ps (cap - e.rd E.CAP_MARGIN_W)
    let underRun := if under then d.pow.underRun + 1 else 0
    let order := d.pow.narrowOrder
    let next := (List.range 7).find? (fun t => bit (e.rd E.NARROW_ALLOWED) t && !order.contains t)
    let order' := if beyond ∧ (4 ≤ overRun ∨ d.rdBit E.POWER_STATE 10) then order ++ next.toList
      else if underRun = 4 then order.dropLast
      else order
    let d : Device := { d with pow := { d.pow with overRun := overRun, underRun := underRun % 4, narrowOrder := order' } }
    if overRun = 4 then (d.wrBit E.POWER_STATE 10 true).raise Src.CAP_UNATTAINABLE 0
    else if order' = [] ∧ !beyond then d.wrBit E.POWER_STATE 10 false
    else d

/-- The state that the evaluation of an epoch chooses (R403): the first that meets the cap, with its margin for one before
the state in force; nothing faster than that one while a class is narrowed (R408). -/
def Device.chooseState (d : Device) (e : EpochData) (f : Nat) (narrowed : Bool) : Nat × Nat :=
  let cap := e.rd E.POWER_CAP_W
  if cap = 0 then (f, 0)
  else
    let inForce := (d.opInForce, d.rd E.POWER_SKIPS)
    let all := candidates f (e.rd E.SKIP_MAX)
    let fits (x : Nat × Nat) : Bool :=
      predicted e x.1 x.2 (if stateRank x < stateRank inForce then cap - e.rd E.CAP_MARGIN_W else cap)
    let x := (all.find? fits).getD (all.getLastD (7, 0))
    if narrowed && decide (stateRank x < stateRank inForce) then inForce else x

/-- The preferred operating point, and with it CAPPED (Table 16.5). -/
def Device.setPreferred (d : Device) (op : Nat) : Device :=
  (d.wrBits E.POWER_STATE 3 3 op).wrBit E.POWER_STATE 9 (op < d.opInForce || 0 < d.rd E.POWER_SKIPS)

/-- The running epoch has come to within 16 rounds of its end (R432). -/
def Device.planLate (d : Device) : Bool := decide (1008 * 1024 < d.rd E.ROUND_COUNT % 1024 * 1024 + d.clk.slot)

/-- A joined member sends its plan for the next epoch: the state that its evaluation chose (R432). -/
def Device.sendPlan (d : Device) : Device :=
  match d.pow.choice with
  | some c => if d.joined then d.message 3 (beBytes 8 ((d.rd E.EPOCH_COUNT + 1) % 2 ^ 64) ++ beBytes 1 c.op ++ beBytes 2 c.skips) else d
  | none => d

/-- The evaluation that uses an epoch's measurement (R403), with the entries as they stood at the boundary that opened the
epoch in which it runs. A joined member sends its plan, unless it comes too late for the next epoch (R432). -/
def Device.evaluate (d : Device) (e : EpochData) : Device :=
  let d := (d.updateBand e).updateThermal e
  let wasNarrowed := d.pow.narrowOrder ≠ []
  let d := d.updateNarrowing e
  let pref := e.preferredOp d.loadBand
  let d := d.setPreferred pref
  let f := max pref d.thermalLimit
  let f := if 0 < d.pow.stormLeft then min 7 (f + 1) else f
  let x := d.chooseState e f (decide wasNarrowed || d.pow.narrowOrder ≠ [])
  let mask := sumOn d.pow.narrowOrder (fun t => 2 ^ t)
  let d : Device := { d with pow := { d.pow with stormLeft := d.pow.stormLeft - 1
                                                 choice := some { op := x.1, skips := x.2, narrowed := mask } } }
  if d.planLate then d else d.sendPlan

/-! ### Application (R404, R432) -/

/-- The word of VOUT_COMMAND for a setpoint under a regulator's VOUT_MODE (PRESUMED: the linear format of PMBus, log entry
208): a mantissa to the exponent that the mode holds; of another format, a free value. -/
def voutWord (mode mV free : Nat) : Nat :=
  if mode / 32 % 8 ≠ 0 then free % 2 ^ 16
  else if bit mode 4 then mV * 2 ^ (32 - mode % 32) / 1000 % 2 ^ 16
  else mV / (1000 * 2 ^ (mode % 32)) % 2 ^ 16

/-- The words of VOUT_COMMAND for both core regulators, in the formats that they answered at Boot. -/
def Device.voutWords (d : Device) (mV : Nat) : (Nat × Nat) × Device :=
  let x := d.draw
  let y := x.2.draw
  let m := d.board.voutModes.getD (0x20, 0x20)
  ((voutWord m.1 mV x.1, voutWord m.2 mV y.1), y.2)

/-- A command to both core regulators, VDD_CORE and VDD_SRAM, at the addresses that the straps give (R478). -/
def Device.pmbus (d : Device) (command : Nat) (words : Nat × Nat) : Device :=
  let a := bits d.board.straps 0 2
  (d.send (.pmbus (0x40 + 2 * a) command words.1)).send (.pmbus (0x41 + 2 * a) command words.2)

/-- The setpoint of both core regulators is commanded by VOUT_COMMAND. -/
def Device.commandVout (d : Device) (mV : Nat) : Device := (d.voutWords mV).2.pmbus 0x21 (d.voutWords mV).1

/-- The core setpoint follows a state that needs a lower one. -/
def Device.lowerSetpoint (d : Device) (op : Nat) : Device :=
  let mV := coreSetpoint op
  if mV < d.pow.setpoint then
    ({ d with pow := { d.pow with setpoint := mV, requested := none } } : Device).commandVout mV
  else d

/-- The chosen state is applied at step 3 of the boundary (R404): a faster operating point only with its setpoint reached,
and deferred otherwise; the narrowed classes in any case. -/
def Device.applyChoice (d : Device) : Device :=
  match d.pow.choice with
  | none => d
  | some c =>
    let d := d.wrBits E.POWER_STATE 16 8 c.narrowed
    if c.op < d.opInForce ∧ d.pow.setpoint < coreSetpoint c.op then d
    else
      let changed := c.op ≠ d.opInForce
      let d : Device := { d with pow := { d.pow with choice := none } }
      let d := (d.setOp c.op c.skips).lowerSetpoint c.op
      if changed then (d.bumpSat E.OP_CHANGES 1).raise Src.OP_CHANGED 0 else d

/-- The pace skips of the epoch that begins follow both members' states in it (R432): a member whose evaluation overran
keeps its state, and so its last plan. -/
def Device.applyPace (d : Device) : Device :=
  if !d.joined then d
  else match d.join.partnerPlan with
    | some (_, op, skips) =>
      { d with join := { d.join with
                         paceSkips := paceSkips (slotPeriod d.opInForce, d.rd E.POWER_SKIPS) (slotPeriod op, skips) } }
    | none => d

/-- The next round boundary closes an epoch. -/
def Device.epochCloses (d : Device) : Bool := decide (d.clk.slot = 1024) && (d.rd E.ROUND_COUNT + 1) % 1024 = 0

/-- The measurement completes an epoch's snapshot. -/
def EpochData.measure (e : EpochData) (m : EpochMeasure) : EpochData :=
  { e with rails := (List.range 12).map (fun i => m.rails.getD i 0), tjMax := m.tjMax }

/-- The measurement of the oldest closed epoch that waits for one: it is evaluated now, in the epoch that runs, and nothing
is applied before that epoch closes; or that of the epoch which closes at the boundary due (R27 step 1, R403, R405; log
entry 142). -/
def Device.epochBoundary (d : Device) (m : EpochMeasure) : Device :=
  if !d.alive then d
  else
    match d.pow.unmeasured with
    | e :: rest =>
      let e := e.measure m
      let late := m.overran || (d.joined && d.planLate)
      ((({ d with pow := { d.pow with unmeasured := rest, overran := d.pow.overran || late } } : Device).reportEpoch e).evaluate e)
    | [] =>
      if d.epochCloses ∧ d.pow.measured.isNone then
        let (e, d) := d.weighLanes.closeEpoch
        let e := e.measure m
        ({ d with pow := { d.pow with measured := some e, overran := d.pow.overran || m.overran } } : Device).reportEpoch e
      else d

/-- POWER_EPOCH_BOUNDARY (R404): with what the rails and sensors measured over the epoch. -/
def execPowerEpochBoundary (m : EpochMeasure) (s : State) : Host.Outcome State Fault Refusal :=
  s.on (fun d => d.epochBoundary m)

/-- Step 1 of a round boundary: the round's lane weights, and the snapshot of the epoch that closes there, unless its
measurement has taken it already. -/
def Device.snapEpoch (d : Device) : Device :=
  if !d.epochCloses then d.weighLanes
  else if d.pow.measured.isSome then d
  else
    let (e, d) := d.weighLanes.closeEpoch
    { d with pow := { d.pow with unmeasured := d.pow.unmeasured ++ [e] } }

/-- The evaluation that ran in the epoch that closes has not completed (R26, R405): the measurement that it uses has not
come, or came with the mark that it overran. The epoch's own snapshot, the last, is not counted. -/
def Device.epochOverran (d : Device) : Bool :=
  d.pow.overran || (if d.pow.measured.isSome then decide (d.pow.unmeasured ≠ []) else decide (1 < d.pow.unmeasured.length))

/-- Step 3 of a round boundary that closes an epoch, once ROUND_COUNT has passed it: the state chosen in the epoch is
applied, unless its evaluation overran (R405). The evaluation of the epoch that closed follows where its measurement has
come; else its data keep the entries that it will use. -/
def Device.boundaryPower (d : Device) : Device :=
  if d.rd E.ROUND_COUNT % 1024 ≠ 0 then d
  else
    let late := d.epochOverran
    let d := d.bump64 E.EPOCH_COUNT 1
    let d : Device := { d with pow := { d.pow with overran := false } }
    let d := if late then ((d.bumpSat E.EPOCH_OVERRUNS 1).raise Src.EPOCH_OVERRUN 0).sendPlan else d.applyChoice
    let d := d.applyPace
    match d.pow.measured with
    | some e => ({ d with pow := { d.pow with measured := none } } : Device).evaluate (e.atBoundary d)
    | none => { d with pow := { d.pow with unmeasured := d.pow.unmeasured.dropLast
                                  ++ (d.pow.unmeasured.getLast?.map (fun e => e.atBoundary d)).toList } }

/-! ### The regulators (R404, R478) -/

/-- SETPOINT_REQUEST (R404): the choice that waits needs a higher core setpoint than the regulators hold. -/
def execSetpointRequest (s : State) : Host.Outcome State Fault Refusal :=
  s.on (fun d =>
    match d.pow.choice with
    | some c =>
      if d.alive ∧ c.op < d.opInForce ∧ d.pow.setpoint < coreSetpoint c.op then
        ({ d with pow := { d.pow with requested := some (coreSetpoint c.op) } } : Device).commandVout (coreSetpoint c.op)
      else d
    | none => d)

/-- SETPOINT_REACHED (R478): READ_VOUT of both regulators answers within 1 % of the setpoint requested. -/
def execSetpointReached (s : State) : Host.Outcome State Fault Refusal :=
  s.on (fun d =>
    match d.pow.requested with
    | some mV => ({ d with pow := { d.pow with setpoint := mV, requested := none } } : Device).pmbus 0x8B (0, 0)
    | none => d)

/-! ### Droop and heat (R410 to R412) -/

/-- DROOP_DETECTION (R410): the next DROOP_SKIP_BURST clock periods are skip slots; a burst that runs is extended to as many
from now. A joined member marks the burst on PACE_OUT (R432). -/
def execDroopDetection (s : State) : Host.Outcome State Fault Refusal :=
  s.on (fun d =>
    if !d.alive then d
    else
      let d : Device := { d with pow := { d.pow with droopLeft := max d.pow.droopLeft Config.droopSkipBurst } }
      let d := d.bump64 E.DROOP_EVENTS 1
      if d.joined then d.send (.paceOut 1 Config.droopSkipBurst) else d)

/-- HARDWARE_TRIP (R411): at 125 degrees every Core and Stave clock stops. -/
def execHardwareTrip (s : State) : Host.Outcome State Fault Refusal :=
  s.on (fun d => if d.mode = .off then d else { d with board := { d.board with tripped := true } })

/-- HBM_THROTTLE_ON (R412): a stack reports a temperature at or above HBM_THROTTLE_C. -/
def execHbmThrottleOn (celsius : Nat) (s : State) : Host.Outcome State Fault Refusal :=
  s.on (fun d =>
    if d.alive ∧ d.cur E.HBM_THROTTLE_C ≤ celsius then
      ({ d with pow := { d.pow with hbmCooled := false } } : Device).wrBit E.POWER_STATE 12 true
    else d)

/-- HBM_THROTTLE_OFF (R412): every stack has read below HBM_THROTTLE_C - 5 degrees for 1 ms; the normal refill returns at
the next round boundary. -/
def execHbmThrottleOff (celsius : Nat) (s : State) : Host.Outcome State Fault Refusal :=
  s.on (fun d =>
    if d.rdBit E.POWER_STATE 12 ∧ celsius + 5 < d.cur E.HBM_THROTTLE_C then
      { d with pow := { d.pow with hbmCooled := true } }
    else d)

/-- The stacks' throttle ends at a round boundary. -/
def Device.coolHbm (d : Device) : Device :=
  if d.pow.hbmCooled then
    ({ d with pow := { d.pow with hbmCooled := false } } : Device).wrBit E.POWER_STATE 12 false
  else d

end Sys2Proof.Machine
end

