-- ==== Sys2Proof/Machine/Events.lean ====
section
/-! DEFINITION. Events and repair in service: the event registers, coalesced EVENT frames, requests to retire and restore,
the retirement map in flash, shadow passes, spare copies and the scrubber (R185, R186, R441 to R455). -/

namespace Sys2Proof.Machine

open Sys2Proof

/-! ### The event registers (R441 to R446) -/

/-- The sources of Table 18.1 that are not reserved: bit numbers of each group. -/
def groupSources (g : Nat) : Nat :=
  if 32 ≤ g then 0x03FF
  else [0x3FFF, 0xFFFF, 0x001F, 0x0007, 0x0001, 0xFFFF, 0x0001, 0x000F, 0x0007, 0x0001, 0xFFFF, 0x0003, 0x000F,
    0x0007].getD g 0

/-- A W1C of STATUS bits, met in the same cycle by raises (bit number of the group, DETAIL): their STATUS stays 1, each
counts in OCC and RAISES, and their edges make one message (R441 to R444). -/
def Device.clearStatus (d : Device) (g v : Nat) (raised : List (Nat × Nat)) : Device :=
  let old := d.rd (E.GROUP_STATUS g)
  let d := d.wr (E.GROUP_STATUS g) (old &&& lnot 16 v)
  let met := raised.filter (fun x => bit (groupSources g) x.1)
  if d.ready ∧ met ≠ [] then
    let edge := met.any (fun x => d.raiseEdge (16 * g + x.1) false)
    let d := met.foldl (fun (d : Device) x => d.raiseState (16 * g + x.1) (x.2 % 2 ^ 32)) d
    let d := if edge then d.deliver g else d
    (met.map (·.1)).eraseDups.foldl (fun (d : Device) i => d.eventFrames (16 * g + i)) d
  else d

/-- A write of SOURCE_OCC (R442): the count less v[7:0], and SATURATED cleared by v[8]. -/
def Device.writeOcc (d : Device) (n v : Nat) : Device :=
  let a := E.SOURCE_OCC (n / 16) (n % 16)
  let occ := d.rd a
  d.wr a (occ % 256 - v % 256 + (if bit v 8 then 0 else bits occ 8 1 * 256))

/-- A write of GROUP_ENABLE: a source enabled while its STATUS is 1 makes a delivery edge (R443). -/
def Device.writeEnable (d : Device) (g v : Nat) : Device :=
  let rising := v &&& lnot 16 (d.rd (E.GROUP_ENABLE g)) &&& d.rd (E.GROUP_STATUS g)
  let d := d.wr (E.GROUP_ENABLE g) (v % 2 ^ 16)
  if rising = 0 then d else d.deliver g

/-- The 1 ms of a hold has ended (R445): the coalesced frame leaves with the values of this moment. -/
def Device.sendCoalesced (d : Device) (ctrl n : Nat) : Device :=
  match d.eventHolds.find? (fun h => h.ctrl = ctrl && h.source = n && h.waiting) with
  | none => d
  | some _ =>
    let keep := d.selects ctrl (n / 16)
    let d : Device := { d with eventHolds := modFirst d.eventHolds (fun h => h.ctrl = ctrl && h.source = n)
                                 (fun h => { h with waiting := false, sentPs := if keep then d.clk.nowPs else h.sentPs }) }
    if keep then d.originate ctrl 0x20 (d.eventPayload n true) else d

/-- EVENT_FRAME_COALESCED (R445): 1 ms has passed since the controller's last frame of the source. -/
def execEventFrameCoalesced (controller source : Nat) (s : State) : Host.Outcome State Fault Refusal :=
  s.on (fun d => d.sendCoalesced controller source)

/-! ### Retirement and restoration on request (R450) -/

/-- An accepted write of RETIRE_REQUEST: as the Nth strike, and MANUAL; an instance that is retired, or being replaced, takes
none. -/
def Device.retireRequest (d : Device) (v : Nat) : Nat × Device :=
  let kind := v / 2 ^ 24
  let inst := v % 2 ^ 24
  if !resourceExists kind inst then (Res.VALUE, d)
  else if d.isRetired kind inst then (Res.OK, d)
  else
    let d := (d.raise Src.STRIKE (resourceDetail kind inst)).bump64 (E.STRIKES_TOTAL kind) 1
    (Res.OK, d.retire kind inst true)

/-- A write of UNRETIRE_REQUEST: a retired lane or Siphon channel, in Diagnostic; it returns at the next Reset. -/
def Device.unretireRequest (d : Device) (v : Nat) : Nat × Device :=
  let kind := v / 2 ^ 24
  let inst := v % 2 ^ 24
  if (kind ≠ 1 ∧ kind ≠ 10) ∨ !d.retired.any (fun r => r.kind = kind && r.inst = inst) then (Res.VALUE, d)
  else if d.mode ≠ .diagnostic then (Res.BUSY, d)
  else (Res.OK, { d with retired := d.retired.filter (fun r => !(r.kind = kind && r.inst = inst))
                         unretiring := d.unretiring ++ [v] })

/-! ### The map in flash (R451) -/

/-- RETIREMENT_MAP_WRITE (R451): the write that a change of the map asked for has ended, or failed three times. -/
def execRetirementMapWrite (failed : Bool) (s : State) : Host.Outcome State Fault Refusal :=
  s.on (fun d =>
    if !d.alive ∨ !d.mapPending then d
    else if failed then
      ((d.wr E.MAP_STATE 2).raise Src.RETIREMENT_MAP 0).bumpSat E.MAP_WRITE_FAILS 1
    else
      let d := d.writeMap
      if d.rd E.MAP_STATE = 2 then d.wr E.MAP_STATE 0 else d)

/-! ### The Cellarhand's copies (R185, R186, R253, R254) -/

/-- A difference that persisted (R185). -/
def Device.resolveDifference (d : Device) (x : ShadowDifference) : Device :=
  let d := d.bump64 E.SHADOW_MISMATCHES 1
  if x.diePasses && !x.shadowPasses then d.rewriteShadow x.store x.loc
  else if x.shadowPasses then (d.restoreEntry x.store x.loc).strikeStore x.store x.loc
  else d.loseEntry x.store x.loc

/-- SHADOW_PASS (R185): a pass ends, with the differences that it met; it has rebuilt the shadows of pseudo-channels that
went out of service (R254). -/
def execShadowPass (differences : List ShadowDifference) (s : State) : Host.Outcome State Fault Refusal :=
  s.on (fun d =>
    if !d.alive then d
    else
      let d := d.shadowLost.foldl (fun (d : Device) l => d.rebuildShadows l) { d with shadowLost := [] }
      ((differences.foldl (fun (d : Device) x => d.resolveDifference x) d).bump E.SHADOW_PASSES 32 1).passEnds false)

/-- SPARE_COPY_DONE (R186, R253, R254): the spare holds the retired instance's data; the map switches at the next round
boundary. -/
def execSpareCopyDone (kind inst : Nat) (s : State) : Host.Outcome State Fault Refusal :=
  s.on (fun d => { d with subst := d.subst.map (fun x =>
    if x.kind = kind ∧ x.inst = inst then { x with copied := true } else x) })

/-! ### The scrubber (R454, R455) -/

/-- An uncorrectable word of a table entry (R183): a strike against its bank, and a restore from the shadow. -/
def Device.tableWordError (d : Device) (store loc : Nat) : Device :=
  let d := d.bump64 E.UNCORRECTABLE 1
  (d.askRestore store loc).strikeStore store loc

/-- An uncorrectable microword of a slice's Cooper store (R193). -/
def Device.storeWordError (d : Device) (sl addr : Nat) : Device :=
  (d.bump64 (E.STORE_ERRORS sl) 1).strike 7 (storeBankOf sl d.parity addr)

/-- A Cellar Book word uncorrectable in one copy, or in both (R455). -/
def Device.bookWordError (d : Device) (addr : Nat) (both : Bool) : Device :=
  if both then d.safeHold 2 addr
  else (d.bumpSat E.BOOK_REPAIRS 1).raise Src.BOOK_REPAIRED 0

/-- A find of a pass. A word of the Cellarhand store is rewritten from its image, and is no strike (R453). Area 0 of a
correctable one is the Cask, 1 the Sorting Table; the other areas have no counter of their own. A shadow entry of the system
region is handled as the comparison of R185 handles it; any other word there is only counted and raised. -/
def Device.scrub (d : Device) (x : ScrubFind) : Device :=
  match x with
  | .correctable area =>
    let d := d.bump64 E.SCRUB_CORRECTED 1
    if area = 0 then d.bump64 E.CASK_CORRECTED 1 else if area = 1 then d.bump64 E.CORRECTED 1 else d
  | _ =>
    let d := (d.bump64 E.SCRUB_UNCORRECTABLE 1).raise Src.SCRUB_UNCORRECTABLE 0
    match x with
    | .correctable _ => d
    | .cellData h => d.cellDataError h
    | .cellHeader h => d.cellHeaderError h
    | .cellBitmap w => d.bitmapError w
    | .bitmapLost h => d.bitmapLost h
    | .frameRecord n => d.recordError n
    | .copyDescriptor n => d.recordError n
    | .tableEntry store loc => d.tableWordError store loc
    | .storeWord sl addr => d.storeWordError sl addr
    | .handWord _ => d
    | .bookCopy addr both => d.bookWordError addr both
    | .shadowEntry store loc die => d.resolveDifference ⟨store, loc, false, die⟩
    | .systemWord => d

/-- A pass of the scrubber that ends. SCRUB_PASSES counts the on-die ones; either frees the context that it held. -/
def Device.scrubPass (d : Device) (r : ScrubReport) : Device :=
  let d := r.finds.foldl (fun (d : Device) x => d.scrub x) d
  (if r.systemRegion then d else d.bump E.SCRUB_PASSES 32 1).passEnds true

/-- SCRUB_PASS (R454): a pass ends, on die or of the Cellar system region, with what it found. -/
def execScrubPass (r : ScrubReport) (s : State) : Host.Outcome State Fault Refusal :=
  s.on (fun d => if !d.alive then d else d.scrubPass r)

end Sys2Proof.Machine
end

