-- ==== Sys2Proof/Machine/BringUp.lean ====
section
/-! DEFINITION. Bring-up and mode control: supplies, RESET_N, the phases of Boot, the image slots, and the requests for
modes (chapter 19, R475, R476). -/

namespace Sys2Proof.Machine

open Sys2Proof

/-! ### Reset (R459, R475, R476) -/

/-- What the Core's Reset leaves of the Cellar Book's storage: the fuses, and what the Gauge's publish link keeps. -/
def survivesReset (a : Addr) : Bool :=
  a = E.ROLLBACK_MIN || a = E.ROOT_REVOKED || (0x9000 ≤ indexOf a && indexOf a ≤ 0x90FF)

/-- The block as Reset or Off leaves it: the flash, the fuses, the pins, the Gauge die and, in Reset, what the regulators
hold stay, and all else is as at reset. -/
def Device.cleared (d : Device) (m : Mode) : Device :=
  let fresh : Device :=
    { sent := d.sent, draws := d.draws, bk := d.bk.filter (fun e => survivesReset e.1)
      objs := d.objs.filter (fun e => e.1 = E.IMAGE_SLOT_A || e.1 = E.IMAGE_SLOT_B)
      gauge := { d.gauge with mirrorComplete := false, mirrorRecords := [], mirrorAudits := [] }
      board := { d.board with jobs := [], programming := none, driven := none, retries := 0, runningLevel := 0 }
      pow := { setpoint := if m = .off then 720 else d.pow.setpoint }
      mapA := d.mapA, mapB := d.mapB, flashCause := d.flashCause, flashTotal := d.flashTotal, flashLog := d.flashLog }
  (fresh.setMode m).wrBit E.GAUGE_STATUS 5 false

/-- A powered device enters Reset: a member leaves its join, and every channel is Halted with FLR, all else of it at its
default (R9, R397, R437; log entry 163): a retired one is retired again as Boot reads the map (R450). A map write in progress
ends first, so that a restored instance is back in service after this Reset (R450; DEDUCED, log entry 56). -/
def Device.enterReset (d : Device) : Device :=
  if d.mode = .off ∨ d.mode = .reset then d
  else
    let d := if d.joined then d.sendLeave 4 else d
    let d := if d.alive && d.mapPending && d.rd E.MAP_STATE ≠ 2 then d.writeMap else d
    { d.cleared .reset with channels := (List.range 1024).map (fun c => { c := c, state := 4, cause := 4 }) }

/-- A requested Reset takes effect with the end of the next slot, once no joint write waits any more (R429, R459, Table 19.2;
log entry 52): the device holds itself for 10 µs. -/
def Device.settleReset (d : Device) : Device :=
  if d.resetHold ∧ d.mode ≠ .reset ∧ d.join.waitingBooks = [] then { d.enterReset with resetHold := true } else d

/-- VDD_IO is present: where it was absent, the TAP has been reset by its return (R487). No clock is stopped any more. -/
def Board.ioBack (b : Board) : Board := { b with tripped := false, vddIo := true, ir := if b.vddIo then b.ir else 0x01 }

/-- SUPPLIES_IN_RANGE (R475): the Core rails have held their tolerance for 1 ms; Off is left for Reset. A trip of the
clocks has ended with the loss of the supplies. -/
def execSuppliesInRange (s : State) : Host.Outcome State Fault Refusal :=
  s.onBoard (fun d =>
    if d.mode ≠ .off then d
    else
      let d := d.cleared .reset
      { d with board := d.board.ioBack, gauge := d.gauge.coreSupplyIs true })

/-- CORE_SUPPLY_LOST (R475): a Core rail has been below 70 % for 1 µs; the device enters Off, and the Gauge logs it. Whether
VDD_IO is gone too is a free value (log entry 207). -/
def execCoreSupplyLost (s : State) : Host.Outcome State Fault Refusal :=
  s.onBoard (fun d =>
    if d.mode = .off then d
    else
      let x := (d.cleared .off).draw
      { x.2 with gauge := x.2.gauge.coreSupplyIs false, board := { x.2.board with vddIo := decide (x.1 % 2 = 1) } })

/-- RESET_N_FALL (R459): RESET_N low takes every powered mode to Reset at once. -/
def execResetNFall (s : State) : Host.Outcome State Fault Refusal :=
  s.onBoard (fun d =>
    let d : Device := { d with board := { d.board with resetPin := false } }
    if d.mode = .off then d else d.enterReset)

/-- VOUT_MODE of both core regulators is read at Boot (R478). -/
def Device.readVoutMode (d : Device) : Device := d.pmbus 0x20 (0, 0)

/-- Boot starts (R459): at OP4, slots counted from here, ROUND_COUNT 0, phase 1; regulators that hold a higher setpoint from
before a Reset get that of OP4 (R478). -/
def Device.startBoot (d : Device) : Device :=
  let d := (d.setMode .boot).wrBits E.POWER_STATE 3 3 4
  ({ d.setOp 4 0 with resetHold := false, bootPhase := 1, board := { d.board with driven := none } }.readVoutMode).lowerSetpoint 4

/-- RESET_N_RISE (R476): RESET_N rises, having been low for 10 µs in Reset; the rise ends Reset, and the straps are latched
(R480). During the hold of a requested Reset the device waits for its end. -/
def execResetNRise (straps : Nat) (s : State) : Host.Outcome State Fault Refusal :=
  s.on (fun d =>
    if d.board.resetPin then d
    else
      let d : Device := { d with board := { d.board with resetPin := true } }
      if d.mode = .reset ∧ !d.resetHold then ({ d with board := { d.board with straps := straps % 16 } } : Device).startBoot
      else d)

/-- REQUESTED_RESET_HOLD_END (R459): the 10 µs of a requested Reset have passed. -/
def execRequestedResetHoldEnd (s : State) : Host.Outcome State Fault Refusal :=
  s.on (fun d =>
    if d.mode ≠ .reset ∨ !d.resetHold then d
    else if d.board.resetPin then d.startBoot
    else { d with resetHold := false })

/-! ### Self-test (R460) -/

/-- A fault that self-test retires (R460): its substitution is complete before the resource carries data. -/
def Device.bootRetire (d : Device) (kind inst : Nat) : Device :=
  if resourceExists kind inst then
    let d := d.retire kind inst false
    let d := if kind = 2 then d.shiftGroup (wireGroup inst) else d
    ({ d with subst := d.subst.map (fun x => { x with copied := true }) } : Device).switchMaps
  else d

/-! ### Image selection (R462, R484) -/

/-- A field of an image header. -/
def headerField (bs : List Byte) (i n : Nat) : Nat := beNat (slice bs i n)

/-- Phase 2's verdict: both slots are judged, and the valid one with the higher IMAGE_VERSION boots, slot A when the two
are equal. With neither valid the ROM stays in phase 2. -/
def Device.selectImage (d : Device) : Device :=
  let a := d.obj E.IMAGE_SLOT_A
  let b := d.obj E.IMAGE_SLOT_B
  let fa := if d.board.flashDead then 7 else d.slotFailure a
  let fb := if d.board.flashDead then 7 else d.slotFailure b
  let d : Device := { d with board := { d.board with failA := fa, failB := fb } }
  if fa ≠ 0 ∧ fb ≠ 0 then d
  else
    let useB := decide (fb = 0) && (fa ≠ 0 || headerField a 8 4 < headerField b 8 4)
    let h := if useB then b else a
    let other := if useB then decide (fa ≠ 0) else decide (fb ≠ 0)
    let d := (d.wr E.FIRMWARE_VERSION (headerField h 8 4)).wr E.FIRMWARE_DIGEST (headerField h 52 32)
    let d := d.wr E.BOOT_SLOT (useB.toNat + 2 * other.toNat)
    { d with board := { d.board with runningLevel := headerField h 12 4 }, bootPhase := 3 }

/-- IMAGE_RETRY (R462): 1 s has passed with neither slot valid, and both are tried again; the flash responds as it did when
phase 2 was last reported. -/
def execImageRetry (s : State) : Host.Outcome State Fault Refusal :=
  s.on (fun d =>
    if d.mode = .boot ∧ d.bootPhase = 2 then
      let d : Device := { d with board := { d.board with retries := min 255 (d.board.retries + 1) } }
      d.selectImage
    else d)

/-! ### The phases of Boot (R460, R461) -/

/-- Boot ends (R460): READY, Configure, MODE_CHANGED; the digest of vintage 0 stands. -/
def Device.endBoot (d : Device) (elapsedUs : Nat) : Device :=
  let d := (d.reportLast.wr E.BOOT_TIME_US (min elapsedUs 0xFFFFFFFF)).publishVintage 0 (d.vintageDigest d.joined 0 0)
  ({ d with ready := true } : Device).writeRebuilt.enterMode .configure

/-- A fault that ends Boot (R461). Cause 8 names the phase; where the Cellar Book has lost both its copies, READY stays 0.
The code of a fault that only `bookDead` reports is a free value. -/
def Device.failBoot (d : Device) (b : BootReport) : Device :=
  let (x, d) := match b.fatal with
    | some f => (f, d)
    | none =>
      let (v, d) := d.draw
      ((8, v), d)
  let detail := if x.1 = 8 then d.bootPhase * 2 ^ 24 + x.2 % 2 ^ 24 else x.2 % 2 ^ 32
  let d := (d.safeHold x.1 detail).wr E.BOOT_TIME_US (min b.elapsedUs 0xFFFFFFFF)
  if b.bookDead then { d with ready := false } else d

/-- The end of phases 3 to 8. The map is read as the firmware starts, before what self-test finds is added to it. -/
def Device.endPhase (d : Device) (b : BootReport) : Device :=
  let d := if d.bootPhase = 3 then d.loadMap b.badA b.badB else d
  let d := b.retires.foldl (fun (d : Device) x => d.bootRetire x.1 x.2) d
  if b.fatal.isSome ∨ b.bookDead then d.failBoot b
  else
    let d : Device := if d.bootPhase = 7 then { d with careLoaded := true } else d
    if d.bootPhase = 8 then d.endBoot b.elapsedUs else { d with bootPhase := d.bootPhase + 1 }

/-- BOOT_PHASE_END (R460): the running phase of Boot ends. -/
def execBootPhaseEnd (b : BootReport) (s : State) : Host.Outcome State Fault Refusal :=
  s.on (fun d =>
    if d.mode ≠ .boot then d
    else if d.bootPhase ≤ 1 then { d with bootPhase := 2, board := { d.board with voutModes := some b.voutModes } }
    else if d.bootPhase = 2 then ({ d with board := { d.board with flashDead := b.flashDead } } : Device).selectImage
    else d.endPhase b)

/-! ### MODE_REQUEST (R464, R466, Table 19.2) -/

/-- What Table 19.2 says of a request in a mode: the target, and whether its condition is met. -/
def Device.transition (d : Device) (v : Nat) : Option (Mode × Bool) :=
  let calm := !d.committing
  match d.mode, v with
  | .configure, 10 => some (.diagnostic, true)
  | .diagnostic, 3 => some (.configure, true)
  | .run, 8 | .joinedRun, 8 => some (.rest, true)
  | .rest, 5 | .rest, 6 => some (.run, true)
  | .run, 9 | .joinedRun, 9 | .rest, 9 => some (.recovery, true)
  | .recovery, 5 | .recovery, 6 => some (.run, d.rd E.RECOVERY_STATE = 2)
  | .run, 7 | .joinedRun, 7 | .rest, 7 | .recovery, 7 => some (.drain, calm)
  | .run, 3 | .joinedRun, 3 | .rest, 3 | .recovery, 3 => some (.drain, calm)
  | .drain, 3 => some (.configure, true)
  | .drain, 5 | .drain, 6 => some (.run, true)
  | _, _ => none

/-- The value is that of the current mode; 5 and 6 are one request. -/
def Device.isCurrent (d : Device) (v : Nat) : Bool :=
  v = d.mode.code || ((v = 5 || v = 6) && (d.mode = .run || d.mode = .joinedRun))

/-- No mode takes a request for Off, Boot or Check (Table 19.2, R466): VALUE whatever the state (R491). -/
def neverRequested (v : Nat) : Bool := v = 0 || v = 2 || v = 4 || 11 < v

/-- A write of MODE_REQUEST by a principal: its result. A later accepted request replaces one that waits. Reset waits until the write is answered; Safe-Hold is entered in
the cycle of the decision. -/
def Device.modeRequest (d : Device) (principal v : Nat) : Nat × Device :=
  if v = 1 then
    if d.mode = .safeHold ∧ d.hot ∧ d.rd E.SAFE_HOLD_CAUSE = 1 then (Res.BUSY, d)
    else (Res.OK, { (d.wr E.MODE_REQUEST v).disarm with resetHold := true })
  else if v = 11 then
    if d.mode = .safeHold then (Res.OK, d) else (Res.OK, (d.wr E.MODE_REQUEST v).safeHold 7 principal)
  else if neverRequested v then (Res.VALUE, d)
  else if d.mode = .check then (Res.BUSY, d)
  else if d.isCurrent v then (Res.OK, d)
  else
    match d.transition v with
    | some (m, met) => if met then (Res.OK, { d.wr E.MODE_REQUEST v with armed := some m, armedPair := d.joined, resetHold := false }) else (Res.BUSY, d)
    | none => (Res.VALUE, d)

/-! ### Drain, Recovery, rollback, the Care test (R463, R467, R468, R471) -/

/-- DRAIN_LIMIT_EXPIRY (R467): DRAIN_LIMIT_MS have passed in Drain; every copy that remains is discarded, and every one that
a header still in flight makes. -/
def execDrainLimitExpiry (s : State) : Host.Outcome State Fault Refusal :=
  s.on (fun d => if d.mode = .drain ∧ d.rd E.DRAIN_STATE = 1 then ({ d with drainOver := true } : Device).noteDrained else d)

/-- RECOVERY_COMPARISON_END (R468): the comparison has ended with no entry lost in it. -/
def execRecoveryComparisonEnd (s : State) : Host.Outcome State Fault Refusal :=
  s.on (fun d =>
    if d.mode = .recovery ∧ d.rd E.RECOVERY_STATE = 1 then { d with verify := { d.verify with comparedAt := some d.clk.nowPs } }
    else d)

/-- A write of 1 to ROLLBACK_ADVANCE: its result, VALUE before BUSY (R463, R491). -/
def Device.advanceRollback (d : Device) : Nat × Device :=
  if d.board.runningLevel ≤ d.rd E.ROLLBACK_MIN then (Res.VALUE, d)
  else if d.mode ≠ .configure then (Res.BUSY, d)
  else (Res.OK, d.wr E.ROLLBACK_MIN (min 64 d.board.runningLevel))

/-- A write of 1 to CARE_TEST_GO: its result (R471), in the format of R175 and with the verification of R183. The search is
in the parity of VINTAGE_CURRENT; it has no profile whose MISS_DATA a miss could return, so that DATA is then a free value. -/
def Device.careTest (d : Device) : Nat × Device :=
  if d.mode = .configure ∨ d.mode = .check ∨ d.mode = .diagnostic then
    let degraded := decide (d.banksOut 6 ≠ 0)
    let found := if d.careLoaded then d.findCare d.parity (beBytes 40 (d.rd E.CARE_TEST_KEY)) else none
    match found with
    | some e =>
      if e.check = entryCheck e.bytes then
        (Res.OK, d.wr E.CARE_TEST_RESULT
          (resultWord true false false degraded false (locationField 3 e) 0 (entryData 3 e.bytes)))
      else
        let x := ((d.askRestore 3 e.loc).strikeStore 3 e.loc).draw
        (Res.OK, x.2.wr E.CARE_TEST_RESULT (resultWord false true false degraded false 0 0 x.1))
    | none =>
      let x := d.draw
      (Res.OK, x.2.wr E.CARE_TEST_RESULT (resultWord false false false degraded false 0 0 x.1))
  else (Res.BUSY, d)

end Sys2Proof.Machine
end

