-- ==== Sys2Proof/Machine/Package.lean ====
section
/-! DEFINITION. The module buses and the IEEE 1149.1 port (R485, R487). -/

namespace Sys2Proof.Machine

open Sys2Proof

/-! ### Module buses (R485) -/

/-- An MDIO bus, whose transactions carry 16-bit values. -/
def isMdio (bus : Nat) : Bool := 16 ≤ bus

/-- The steps of an I2C transfer to a target. -/
def i2cSteps (target register length : Nat) (reads : Bool) (data : List Byte) : List BusStep :=
  let head := [.start, .byte (BitVec.ofNat 8 (2 * target)), .byte (BitVec.ofNat 8 register)]
  if reads then head ++ [.start, .byte (BitVec.ofNat 8 (2 * target + 1)), .read length, .stop]
  else head ++ (data.take length).map .byte ++ [.stop]

/-- SETDASA of I3C (PRESUMED: the MIPI I3C Basic form, log entry 206): the dynamic address in BUS_DATA byte 0 for the static
ADDRESS. -/
def setdasaSteps (target : Nat) (data : List Byte) : List BusStep :=
  [.start, .byte 0xFC, .byte 0x87, .start, .byte (BitVec.ofNat 8 (2 * target)),
   .byte (BitVec.ofNat 8 (2 * byteAt data 0)), .stop]

/-- The Clause 45 frames of an MDIO access. -/
def mdioSteps (prtad devad : Nat) (reads : Bool) (data : List Byte) : List BusStep :=
  [.mdio 0 prtad devad (beNat (slice data 0 2)),
   if reads then .mdio 3 prtad devad 0 else .mdio 1 prtad devad (beNat (slice data 2 2))]

/-- The steps of the transaction that a value of BUS_REQUEST asks of a bus, with BUS_DATA. -/
def busSteps (bus v : Nat) (data : List Byte) : List BusStep :=
  if isMdio bus then mdioSteps (bits v 0 5) (bits v 8 5) (bit v 24) data
  else
    [.free 9] ++ (if bits v 25 2 = 1 then setdasaSteps (bits v 0 7) data
                  else i2cSteps (bits v 0 7) (bits v 8 8) (min 32 (bits v 16 6)) (bit v 24) data)

/-- A write of BUS_REQUEST: its result. The transaction starts with the data that stand in BUS_DATA; on a bus that is off
there is none to start (log entry 46). -/
def Device.startBus (d : Device) (bus v : Nat) : Nat × Device :=
  if bit (d.rd (E.BUS_STATUS bus)) 0 then (Res.BUSY, d)
  else
    let d := d.wr (E.BUS_REQUEST bus) v
    if d.rd (E.BUS_MODE bus) = 0 then (Res.OK, d)
    else
      let data := beBytes 32 (d.rd (E.BUS_DATA bus))
      let job : BusJob := { bus := bus, request := v, data := data }
      let d : Device := { d with board := { d.board with jobs := d.board.jobs ++ [job] } }
      (Res.OK, (d.wr (E.BUS_STATUS bus) 1).send (.bus bus (busSteps bus v data)))

/-- The bytes that a read returns: LENGTH of them, or the two of an MDIO register. -/
def BusJob.readLength (j : BusJob) : Nat := if isMdio j.bus then 2 else min 32 (bits j.request 16 6)

/-- The transaction reads: SETDASA never does. -/
def BusJob.reads (j : BusJob) : Bool := bit j.request 24 && (isMdio j.bus || bits j.request 25 2 ≠ 1)

/-- BUS_TRANSACTION_END (R485): the transaction of a bus ends with its RESULT; a read that succeeded leaves its bytes at the
front of BUS_DATA. -/
def execBusTransactionEnd (bus result : Nat) (data : List Byte) (s : State) : Host.Outcome State Fault Refusal :=
  s.on (fun d =>
    match d.board.jobs.find? (fun j => j.bus = bus) with
    | none => d
    | some j =>
      let d : Device := { d with board := { d.board with jobs := d.board.jobs.filter (fun x => x.bus ≠ bus) } }
      let d := d.wr (E.BUS_STATUS bus) (result % 4 * 2)
      if j.reads ∧ result % 4 = 0 then
        let old := beBytes 32 (d.rd (E.BUS_DATA bus))
        let n := j.readLength
        d.wr (E.BUS_DATA bus) (beNat (slice data 0 n ++ old.drop n))
      else d)

/-! ### JTAG (R487) -/

/-- The instruction codes of Table 20.7. -/
def Tap.EXTEST : Nat := 0x00
def Tap.IDCODE : Nat := 0x01
def Tap.SAMPLE_PRELOAD : Nat := 0x02
def Tap.EXTEST_PULSE : Nat := 0x08
def Tap.EXTEST_TRAIN : Nat := 0x09
def Tap.BOOT_STATUS : Nat := 0x21
def Tap.BYPASS : Nat := 0xFF

/-- An instruction's code goes into the 8-bit instruction register, and its data register is scanned. Without VDD_IO there is
no test port, and TDO is high-impedance (R481, R487; log entry 207). -/
def State.onTap (s : State) (code : Nat) (f : Device → Device) : Host.Outcome State Fault Refusal :=
  s.onBoard (fun d => if d.board.vddIo then f { d with board := { d.board with ir := code } } else d)

/-- Instructions that drive the pins, outside Reset, and BYPASS itself: the one bit of the BYPASS register, which captures
0. -/
def Device.bypass (d : Device) : Device :=
  ({ d with board := { d.board with driven := none } } : Device).send (.tdo 1 0)

/-- The boundary register captures the pins and shifts them out, while a value is shifted in and updated. What the pins
hold is a free value. -/
def Device.boundaryScan (d : Device) (shift : Nat) (drive : Bool) : Device :=
  let n := 2 ^ Config.boundaryLength
  let (x, d) := d.draw
  let b : Board := { d.board with boundary := shift % n, driven := if drive then some (shift % n) else none }
  ({ d with board := b } : Device).send (.tdo Config.boundaryLength (x % n))

/-- EXTEST: in Reset, the update latches drive the pins. -/
def execExtest (shift : Nat) (s : State) : Host.Outcome State Fault Refusal :=
  s.onTap Tap.EXTEST (fun d => if d.mode = .reset then d.boundaryScan shift true else d.bypass)

/-- SAMPLE/PRELOAD. -/
def execSamplePreload (shift : Nat) (s : State) : Host.Outcome State Fault Refusal :=
  s.onTap Tap.SAMPLE_PRELOAD (fun d => d.boundaryScan shift false)

/-- The IEEE 1149.6 instructions drive the pins from the latches as they stand. -/
def Device.driveAc (d : Device) : Device := d.boundaryScan d.board.boundary true

/-- EXTEST_PULSE (IEEE 1149.6). -/
def execExtestPulse (s : State) : Host.Outcome State Fault Refusal :=
  s.onTap Tap.EXTEST_PULSE (fun d => if d.mode = .reset then d.driveAc else d.bypass)

/-- EXTEST_TRAIN (IEEE 1149.6). -/
def execExtestTrain (s : State) : Host.Outcome State Fault Refusal :=
  s.onTap Tap.EXTEST_TRAIN (fun d => if d.mode = .reset then d.driveAc else d.bypass)

/-- The IDCODE register (Table 20.7): the stepping letter counted from A, the part, the manufacturer, and 1. -/
def Device.idcode (d : Device) : Nat :=
  (d.rd E.STEPPING / 256 + 256 - 0x41) % 16 * 2 ^ 28 + 0x2048 * 2 ^ 12 + Config.manufacturer % 2 ^ 11 * 2 + 1

/-- A data register that drives no pin is shifted out. -/
def Device.shiftOut (d : Device) (width value : Nat) : Device :=
  ({ d with board := { d.board with driven := none } } : Device).send (.tdo width value)

/-- IDCODE. -/
def execIdcode (s : State) : Host.Outcome State Fault Refusal := s.onTap Tap.IDCODE (fun d => d.shiftOut 32 d.idcode)

/-- The BOOT_STATUS register (Table 20.7). -/
def Device.bootStatus (d : Device) : Nat :=
  d.bootPhase + d.board.failA * 2 ^ 8 + d.board.failB * 2 ^ 16 + d.board.retries * 2 ^ 24

/-- BOOT_STATUS. -/
def execBootStatus (s : State) : Host.Outcome State Fault Refusal :=
  s.onTap Tap.BOOT_STATUS (fun d => d.shiftOut 32 d.bootStatus)

/-- BYPASS. -/
def execBypass (s : State) : Host.Outcome State Fault Refusal := s.onTap Tap.BYPASS Device.bypass

end Sys2Proof.Machine
end

