-- ==== Sys2Proof/Machine/Requests.lean ====
section
/-! DEFINITION. Requests for Cellar Book entries: the tests of R491, what a write of each entry does (R6, R7, R36, R48,
R490 and the rules of the entries' own chapters), reads and descriptors, and the joint entries of a pair (R33 to R43,
R428, R429). -/

namespace Sys2Proof.Machine

open Sys2Proof

/-! ### Values and bytes (R5, R36) -/

/-- Octets have an order of their own; every other value takes the order of its carrier. -/
def Ty.isOctets : Ty → Bool
  | .octets _ => true
  | _ => false

/-- A value's bytes on a carrier: network order, or little-endian. -/
def valueBytes (ty : Ty) (little : Bool) (v : Nat) : List Byte :=
  if little && !ty.isOctets then leBytes ty.size v else beBytes ty.size v

/-- The value of such bytes. -/
def valueOf (ty : Ty) (little : Bool) (bs : List Byte) : Nat := if little && !ty.isOctets then leNat bs else beNat bs

/-! ### Values that an entry's own rule refuses -/

/-- A write of the band edges leaves them ascending (Table 16.3). -/
def Device.edgesAscend (d : Device) (i v : Nat) : Bool :=
  let e (k : Nat) : Nat := if k = i then v else d.rd (E.BAND_EDGE k)
  e 0 < e 1 && e 1 < e 2

/-- The value rules that the range of the catalogue does not hold (R310, R335, R341, R345, R406, R450, R485). -/
def Device.ownValueOk (d : Device) (a v : Nat) : Bool :=
  let i := indexOf a
  let s := subOf a
  if a = E.POWER_CAP_W then v = 0 || (d.rd E.POWER_CAP_FLOOR_W ≤ v && v ≤ 1300)
  else if E.BAND_EDGE 0 ≤ a ∧ a ≤ E.BAND_EDGE 2 then d.edgesAscend (a - E.BAND_EDGE 0) v
  else if 0x2E00 ≤ i ∧ i < 0x2E12 ∧ s = 2 then
    bits v 25 2 ≤ 1 && (isMdio (i - 0x2E00) || (1 ≤ bits v 16 6 && bits v 16 6 ≤ 32))
  else if a = E.CLEAR then v = 0 || !d.clearBad
  else if a = E.HARVEST_CONSUMED then (d.rd E.HARVEST_WRITTEN + 2 ^ 32 - v) % 2 ^ 32 < 2 ^ 31
  else if 0x8800 ≤ i ∧ i < 0x8803 ∧ s = 4 then
    (d.rd (E.RING_WRITTEN (i - 0x8800)) + 2 ^ 32 - v) % 2 ^ 32 ≤ d.cur (E.RING_RECORDS (i - 0x8800))
  else if a = E.RETIRE_REQUEST then resourceExists (v / 2 ^ 24) (v % 2 ^ 24)
  else true

/-- The range rules of R490: judged at the write for RW, WO, W1S and SEAL entries, and for ENUM8 and BOOL of every access
code; and that of R305, for every TIME80. -/
def Row.valueOk (r : Row) (v : Nat) : Bool :=
  let atWrite := match r.acc with
    | .rw | .wo | .w1s | .w1c | .sealed => true
    | _ => r.ty = .enum8 || r.ty = .bool
  (!atWrite || r.allowed.ok v) && (r.ty ≠ .time80 || v % 2 ^ 32 < 1000000000)

/-! ### What a write does -/

/-- A key is replaced (R78): the slot's receive sequence starts again at 0, and the controller's transmit sequence at 1. -/
def Device.writeKey (d : Device) (c : Nat) (slotB : Bool) (v : Nat) : Device :=
  let d := (d.wr (if slotB then E.KEY_B c else E.KEY_A c) v).wr (if slotB then E.RX_SEQ_B c else E.RX_SEQ_A c) 0
  { d with ctrlSeq := modAt d.ctrlSeq c (fun x =>
      if slotB then { x with seenB := 0, tx := 1 } else { x with seenA := 0, tx := 1 }) }

/-- DIAG_LANE_CTRL: a rise of CHECK_ENABLE starts the check and its counts again (Table 19.4). -/
def Device.writeDiag (d : Device) (l v : Nat) : Device :=
  let was := d.rdBit (E.DIAG_LANE_CTRL l) 8
  let d := d.wr (E.DIAG_LANE_CTRL l) v
  if bit v 8 && !was then
    ((({ d with lanes := { d.lanes with checker := SMap.set d.lanes.checker 0 l 0 } } : Device).wr (E.DIAG_ERRORS l) 0).wr
      (E.DIAG_BITS l) 0)
  else d

/-- In Diagnostic the lanes run the staging values (R470): a lane whose settings a write changes restarts. -/
def Device.writeLane (d : Device) (a v : Nat) : Device :=
  let changed := decide (d.rd a ≠ v)
  let d := d.wr a v
  if changed && d.mode = .diagnostic then d.laneRestart (indexOf a - 0x2000) else d

/-- A write of 1 to an entry that starts something; a write of 0 starts nothing. -/
def Device.ifOne (d : Device) (v : Nat) (f : Device → Nat × Device) : Nat × Device := if v = 1 then f d else (Res.OK, d)

/-- Entries whose write is refused as busy by a rule of their own, or is a request (R45, R53, R309, R310, R335, R394, R450,
R463, R464, R471, R485): the result, and the device. -/
def Device.requestEffect (d : Device) (p a v : Nat) : Option (Nat × Device) :=
  let i := indexOf a
  let s := subOf a
  if a = E.MODE_REQUEST then some (d.modeRequest p v)
  else if a = E.ENABLE then some (d.ifOne v Device.startEnable)
  else if a = E.COMMIT then some (d.ifOne v Device.startCommit)
  else if a = E.DISCARD_STAGING then
    some (d.ifOne v (fun d => if d.rwvBusy then (Res.BUSY, d) else (Res.OK, d.discardStaging)))
  else if a = E.CLEAR then
    some (d.ifOne v (fun d =>
      if d.tel.clearArmed.isSome then (Res.BUSY, d)
      else (Res.OK, { d with tel := { d.tel with clearArmed := some (d.rd E.CLEAR_FIRST, d.rd E.CLEAR_COUNT) } })))
  else if a = E.TIME_STEP_NS then
    some (if d.cur E.TIME_SOURCE ≠ 1 ∨ d.timeValid ∨ d.followsTime then (Res.BUSY, d) else (Res.OK, d.askStep v))
  else if a = E.PPS_SECONDS then
    some (if d.cur E.TIME_SOURCE ≠ 2 ∨ d.timeValid ∨ d.followsTime then (Res.BUSY, d) else (Res.OK, d.armPps v))
  else if a = E.TIME_RATE then
    some (if d.cur E.TIME_SOURCE = 2 ∨ d.followsTime then (Res.BUSY, d) else (Res.OK, d.wr a v))
  else if a = E.TIME_RELEASE then some (d.ifOne v (fun d => (Res.OK, d.releaseTime)))
  else if a = E.TIME_CAPTURE then some (d.ifOne v (fun d => (Res.OK, d.captureTime)))
  else if 0xA100 ≤ i ∧ i < 0xA500 ∧ s = 0x0B then some (d.ifOne v (fun d => d.armDomain p (i - 0xA100)))
  else if a = E.RETIRE_REQUEST then some (d.retireRequest v)
  else if a = E.UNRETIRE_REQUEST then some (d.unretireRequest v)
  else if a = E.ROLLBACK_ADVANCE then some (d.ifOne v Device.advanceRollback)
  else if a = E.CARE_TEST_GO then some (d.ifOne v Device.careTest)
  else if 0x2E00 ≤ i ∧ i < 0x2E12 ∧ s = 2 then some (d.startBus (i - 0x2E00) v)
  else if a = E.GAUGE_SEAL then some (if v = 1 then (Res.OK, d.gaugeSeal) else (Res.SEALED, d))
  else none

/-- What a write of every other entry does. -/
def Device.plainEffect (d : Device) (r : Row) (a v : Nat) : Device :=
  let i := indexOf a
  let s := subOf a
  if i = 0x9010 then d.gaugeParam s r.ty.code r.ty.size v
  else if 0x1101 ≤ i ∧ i ≤ 0x1110 ∧ (s = 2 ∨ s = 3) then d.writeKey (i - 0x1101) (s = 3) v
  else if 0x1180 ≤ i ∧ i ≤ 0x11FF then (d.wr a v).raise Src.GRANT_CHANGED 0
  else if a = E.JOIN_ENABLE then (d.wr a v).enableJoin v
  else if a = E.TIME_CLOCK then d.writeTimeClock v
  else if a = E.MGMT_MODE then (d.wr a v).refreshMgmt
  else if 0xC100 ≤ i ∧ i < 0xC140 ∧ s = 1 then d.clearStatus (i - 0xC100) v []
  else if 0xC100 ≤ i ∧ i < 0xC140 ∧ s = 2 then d.writeEnable (i - 0xC100) v
  else if 0xC200 ≤ i ∧ i < 0xC240 then d.writeOcc (16 * (i - 0xC200) + (s - 1)) v
  else if 0xD200 ≤ i ∧ i < 0xD400 ∧ s = 1 then d.writeDiag (i - 0xD200) v
  else if 0x2000 ≤ i ∧ i < 0x2200 ∧ (s = 1 ∨ s = 2) then d.writeLane a v
  else if r.acc = .w1c then d.wr a (d.rd a &&& lnot 64 v)
  else d.wr a v

/-- The mode or phase refuses the write (R48); and so does a Gauge without its supply (R477, log entry 205). -/
def Device.writeBusy (d : Device) (r : Row) : Bool :=
  (r.acc = .rwv && d.rwvBusy) || (r.acc = .rwc && d.mode = .check) || (r.acc = .sealed && !d.gauge.powered)

/-- The write of an entry by a principal, once its access is permitted and its length right: VALUE, then BUSY, then its
effect. Reserved bits are dropped (R6). -/
def Device.bookWrite (d : Device) (p a v : Nat) : Nat × Device :=
  match findRow a with
  | none => (Res.NO_ENTRY, d)
  | some r =>
    let v := if r.kept = 0 then v else v &&& r.kept
    if !r.valueOk v || !d.ownValueOk a v then (Res.VALUE, d)
    else if d.writeBusy r then (Res.BUSY, d)
    else
      match d.requestEffect p a v with
      | some x => x
      | none => (Res.OK, d.plainEffect r a v)

/-! ### The tests of a write (R491) -/

/-- A SEAL entry that the Gauge's procedure does not open for the write now (R7, R367 to R370): of GAUGE_SEAL, a write of
`zero` too. -/
def Device.sealRefuses (d : Device) (a : Addr) (zero : Bool) : Bool :=
  match findRow a with
  | some r => r.acc = .sealed && d.gauge.powered && !(if a = E.GAUGE_SEAL then d.gauge.acceptsSeal && !zero else d.gauge.acceptsParam)
  | none => false

/-- What a WRITE of these bytes is refused with before its value is judged; OK where it is not. -/
def Device.writeCode (d : Device) (p : Nat) (a : Addr) (data : List Byte) : Nat :=
  if d.sealRefuses a (data = [0]) then Res.SEALED
  else
    let c := d.accessCode p a true
    if c ≠ Res.OK then c
    else
      match findRow a with
      | some r => if r.ty = .domain ∨ r.ty.size ≠ data.length then Res.TYPE_LENGTH else Res.OK
      | none => Res.NO_ENTRY

/-- A write that passed those tests, in a pair (R429): a joint entry's goes from the secondary to the primary, and from the
primary, once applied, to the secondary; a member entry's is told (R430). -/
def Device.jointWrite (d : Device) (p : Nat) (a v : Nat) (reply : Reply) : Nat × Device :=
  if d.isJoint a && d.member = 1 then d.forwardJoint p a (entryBytes a v) reply
  else
    let x := d.bookWrite p a v
    if x.1 ≠ Res.OK then x
    else if x.2.isJoint a then x.2.forwardJoint p a (entryBytes a v) reply
    else (x.1, x.2.noticeEntry a)

/-- WRITE (Table 3.7) by a principal: `data` in the order of its carrier. -/
def Device.writeEntry (d : Device) (p : Nat) (a : Addr) (little : Bool) (data : List Byte) (reply : Reply) : Nat × Device :=
  let c := d.writeCode p a data
  if c ≠ Res.OK then (c, d)
  else
    match findRow a with
    | some r => d.jointWrite p a (valueOf r.ty little data) reply
    | none => (Res.NO_ENTRY, d)

/-! ### Reads and descriptors (R38, R43) -/

/-- READ (Table 3.7) by a principal: the result, the type and the bytes. -/
def Device.readEntry (d : Device) (p : Nat) (a : Addr) (current little : Bool) : Nat × Nat × List Byte × Device :=
  let c := d.accessCode p a false
  if c ≠ Res.OK then (c, 0, [], d)
  else
    match findRow a with
    | none => (Res.NO_ENTRY, 0, [], d)
    | some r =>
      if r.ty = .domain then (Res.TYPE_LENGTH, 0, [], d)
      else if isMeasured a then
        let (x, d) := d.draw
        (Res.OK, r.ty.code, valueBytes r.ty little x, d)
      else (Res.OK, r.ty.code, valueBytes r.ty little (d.value a current), d)

/-- The flags of a descriptor: RECORD, DIGEST, HAS_DEFAULT (Table 2.3). -/
def Row.flags (r : Row) (a : Addr) : Nat :=
  let record := subOf a = 0 && (findRow (a + 1)).isSome
  let digest := r.acc = .rwv || r.acc = .rwc
  let dflt := match r.dflt with
    | .none _ => false
    | _ => true
  record.toNat + 2 * digest.toNat + 4 * dflt.toNat

/-- DESCRIBE (R38): any principal may read the descriptor. -/
def Device.describe (d : Device) (a : Addr) (current little : Bool) : Nat × List Byte :=
  match findRow a with
  | none => (Res.NO_ENTRY, [])
  | some r =>
    let n := if r.ty = .domain then (d.object a current).length else r.ty.size
    let word (v : Nat) : List Byte := if little then leBytes 4 v else beBytes 4 v
    (Res.OK, [BitVec.ofNat 8 r.ty.code, BitVec.ofNat 8 r.acc.code, BitVec.ofNat 8 (r.flags a), 0] ++ word n
      ++ word (d.effectiveMask a false) ++ word (d.effectiveMask a true))

end Sys2Proof.Machine
end

