-- ==== Sys2Proof/Machine/Host.lean ====
section
/-! DEFINITION. The host's path: mailboxes, the DOMAIN window, and the requests of mailboxes (R68 to R73, R491). -/

namespace Sys2Proof.Machine

open Sys2Proof

/-! ### Mailbox pages (Table 3.4) -/

/-- A mailbox's number: 0 to 3 kernel, 4 to 19 user. -/
def mailboxNumber (kernel : Bool) (n : Nat) : Nat := if kernel then n else 4 + n

/-- The mailbox exists. -/
def mailboxExists (kernel : Bool) (n : Nat) : Bool := if kernel then n < 4 else n < 16

/-- The BAR0 offset of a mailbox's page (Table 3.2). -/
def mailboxPage (m : Nat) : Nat := if m < 4 then 0x10000 + 0x1000 * m else 0x20000 + 0x1000 * (m - 4)

/-- The principal of a mailbox (R68): 0 host kernel, 1 host user. -/
def mailboxPrincipal (m : Nat) : Nat := if m < 4 then 0 else 1

/-- Bytes stored as little-endian words from a BAR0 offset on. -/
def Device.storeWords (d : Device) (off : Nat) (bs : List Byte) : Device :=
  (List.range ((bs.length + 3) / 4)).foldl (fun (d : Device) k => d.setBar (off + 4 * k) (leNat (slice bs (4 * k) 4))) d

/-- The 256 request bytes of a mailbox. -/
def Device.requestData (d : Device) (m : Nat) : List Byte :=
  (List.range 64).flatMap (fun k => leBytes 4 (d.bar (mailboxPage m + 0x100 + 4 * k)))

/-- What a mailbox's doorbell latches (R69), with the Tendril frames that wait already ahead of it: those that came before it
(R71). -/
def Device.latch (d : Device) (m : Nat) : Doorbell :=
  let at' := mailboxPage m
  { mailbox := m, ahead := d.tendrilQueue.length - d.lateFrames, request := d.bar at', addr := d.bar (at' + 4) % 2 ^ 24
    length := d.bar (at' + 8), offset := d.bar (at' + 12), data := d.requestData m }

/-- TAG of a latched request. -/
def Doorbell.tag (q : Doorbell) : Nat := bits q.request 8 8

/-- BUSY of MB_STATUS. -/
def Device.mailboxBusy (d : Device) (m : Nat) : Bool := bit (d.bar (mailboxPage m + 0x14)) 0

/-- A request of a mailbox completes (R69): response, length, RESULT and TAG, DONE, and MAILBOX_DONE. -/
def Device.completeMailbox (d : Device) (m tag result : Nat) (response : List Byte) : Device :=
  let at' := mailboxPage m
  let d := (d.storeWords (at' + 0x200) response).setBar (at' + 0x18) response.length
  (d.setBar (at' + 0x14) (2 + tag % 256 * 256 + result * 65536)).raise (Src.MAILBOX_DONE m) (if m < 4 then m else m - 4)

/-! ### The DOMAIN window (R73) -/

/-- The window closes, and the write that it carried is discarded. -/
def Device.closeWindow (d : Device) : Device :=
  match d.window with
  | some w =>
    let d := if w.write then d.dropWrite (mailboxPrincipal w.owner) else d
    { d with window := none }
  | none => d

/-- Another mailbox owns the window. -/
def Device.windowTaken (d : Device) (m : Nat) : Bool :=
  match d.window with
  | some w => w.owner ≠ m
  | none => false

/-- The window of a mailbox. -/
def Device.ownWindow (d : Device) (m : Nat) : Option Window :=
  match d.window with
  | some w => if w.owner = m then some w else none
  | none => none

/-- WINDOW_READ. -/
def Device.windowRead (d : Device) (m a offset : Nat) (current : Bool) : Nat × Device :=
  let c := d.domainCode (mailboxPrincipal m) a false
  if c ≠ Res.OK ∧ c ≠ Res.BUSY then (c, d)
  else if offset % 4096 ≠ 0 then (Res.VALUE, d)
  else if c = Res.BUSY ∨ d.windowTaken m then (Res.BUSY, d)
  else
    (Res.OK, { d.closeWindow with window := some { owner := m, write := false, addr := a, current := current, base := offset } })

/-- DOMAIN_BEGIN by a mailbox: only through the window. -/
def Device.windowBegin (d : Device) (m a total : Nat) (asked : Bool) : Nat × Device :=
  let p := mailboxPrincipal m
  let c := d.domainCode p a true
  if c ≠ Res.OK then (c, d)
  else if !asked then (Res.VALUE, d)
  else if d.windowTaken m ∨ d.writeConflict p a then (Res.BUSY, d)
  else
    let d := d.closeWindow.beginWrite p a total true none
    (Res.OK, { d with window := some { owner := m, write := true, addr := a, current := false, base := 0 } })

/-- DOMAIN_SEGMENT by a mailbox: the window moves; in a write not backwards. -/
def Device.windowMove (d : Device) (m offset : Nat) : Nat × Device :=
  if offset % 4096 ≠ 0 then (Res.VALUE, d)
  else
    match d.ownWindow m with
    | none => (Res.DOMAIN_SEQUENCE, d)
    | some w =>
      if w.write ∧ offset < w.base then (Res.DOMAIN_SEQUENCE, d)
      else
        let d := if w.write then d.growWrite (mailboxPrincipal m) id else d
        (Res.OK, { d with window := some { w with base := offset } })

/-- DOMAIN_END by a mailbox, whose access is tested again (R491): the window closes, but after a CRC_MISMATCH. -/
def Device.windowEnd (d : Device) (m crc : Nat) (reply : Reply) : Nat × Device :=
  let p := mailboxPrincipal m
  match d.ownWindow m, d.openWrite p with
  | some w, some o =>
    if w.write ∧ o.window then
      let c := d.domainCode p o.addr true
      if c ≠ Res.OK then (c, d)
      else
        let x := d.endObject p o.addr o.data crc reply
        if x.1 = Res.CRC_MISMATCH then x else (x.1, x.2.closeWindow)
    else (Res.DOMAIN_SEQUENCE, d)
  | _, _ => (Res.DOMAIN_SEQUENCE, d)

/-- WINDOW_CLOSE. -/
def Device.windowClose (d : Device) (m : Nat) : Nat × Device :=
  match d.ownWindow m with
  | some _ => (Res.OK, d.closeWindow)
  | none => (Res.DOMAIN_SEQUENCE, d)

/-! ### Mailbox requests (R69 to R72, R491) -/

/-- A grant of user mailboxes covers the page (R72). -/
def Device.granted (d : Device) (n : Nat) : Bool :=
  (List.range 128).any (fun g => d.rd (E.GRANT_ENABLE g) = 1 && d.rd (E.GRANT_TARGET g) = 1
    && d.rd (E.GRANT_FIRST g) ≤ n && n < d.rd (E.GRANT_FIRST g) + d.rd (E.GRANT_PAGES g))

/-- The operation of a latched request: its result, the response, and the device. -/
def Device.mailboxOperation (d : Device) (q : Doorbell) : Nat × List Byte × Device :=
  let m := q.mailbox
  let a := q.addr
  let p := mailboxPrincipal m
  let reply : Reply := .mailbox (m < 4) (if m < 4 then m else m - 4) q.tag
  let current := bit q.request 16
  let plain (x : Nat × Device) : Nat × List Byte × Device := (x.1, [], x.2)
  match bits q.request 0 8 with
  | 1 =>
    let x := d.readEntry p a current true
    (x.1, x.2.2.1, x.2.2.2)
  | 2 => plain (d.writeEntry p a true (slice q.data 0 (min q.length 256)) reply)
  | 3 =>
    let x := d.describe a current true
    (x.1, x.2, d)
  | 5 => plain (d.windowBegin m a q.length (bit q.request 17))
  | 6 => plain (d.windowMove m q.offset)
  | 7 => plain (d.windowEnd m (leNat (q.data.take 4)) reply)
  | 8 => plain (d.windowRead m a q.offset current)
  | 9 => plain (d.windowClose m)
  | _ => (Res.BAD_OPCODE, [], d)

/-- A mailbox request is executed and completed (R69, R72); one that must wait leaves BUSY set. -/
def Device.runMailbox (d : Device) (q : Doorbell) : Device :=
  if 4 ≤ q.mailbox ∧ !d.granted (q.mailbox - 4) then d.completeMailbox q.mailbox q.tag Res.NOT_GRANTED []
  else
    let x := d.mailboxOperation q
    if x.1 = Res.PENDING then x.2.2 else x.2.2.completeMailbox q.mailbox q.tag x.1 x.2.1

end Sys2Proof.Machine
end

