-- ==== Sys2Proof/Machine/Tendril.lean ====
section
/-! DEFINITION. Tendril: the frame at the head of the Cellarmaster's queue, its tests, the operations over it, and the
responses (R79 to R87, R491); and whom a request that had to wait is answered (R429, R484). -/

namespace Sys2Proof.Machine

open Sys2Proof

/-! ### The frame (R82) -/

/-- The frame has an 802.1Q tag. -/
def isTagged (bs : List Byte) : Bool := slice bs 12 2 = [0x81, 0x00]

/-- What follows the EtherType, padding included. -/
def TendrilFrame.rest (f : TendrilFrame) : List Byte := f.bytes.drop (if isTagged f.bytes then 18 else 14)

/-- The 24-byte header. -/
def TendrilFrame.header (f : TendrilFrame) : List Byte := slice f.rest 0 24

/-- OPCODE. -/
def hdrOp (h : List Byte) : Nat := byteAt h 1

/-- CONTROLLER. -/
def hdrCtrl (h : List Byte) : Nat := byteAt h 2 % 16

/-- KEY_SLOT: B. -/
def hdrSlotB (h : List Byte) : Bool := bit (byteAt h 2) 4

/-- VSEL_CURRENT. -/
def hdrCurrent (h : List Byte) : Bool := bit (byteAt h 3) 0

/-- SEQUENCE. -/
def hdrSeq (h : List Byte) : Nat := beNat (slice h 4 4)

/-- REQUEST_ID. -/
def hdrId (h : List Byte) : Nat := beNat (slice h 8 2)

/-- INDEX and SUBINDEX. -/
def hdrAddr (h : List Byte) : Nat := beNat (slice h 12 3)

/-- OFFSET. -/
def hdrOffset (h : List Byte) : Nat := beNat (slice h 16 4)

/-- LENGTH. -/
def hdrLength (h : List Byte) : Nat := beNat (slice h 20 2)

/-- The bytes of payload: a DOMAIN_READ carries none, its LENGTH being the bytes asked for (log entry 47). -/
def hdrPayload (h : List Byte) : Nat := if hdrOp h = 4 then 0 else hdrLength h

/-- The payload. -/
def TendrilFrame.payload (f : TendrilFrame) : List Byte := slice f.rest 24 (hdrPayload f.header)

/-! ### Tests (R84, R85) -/

/-- The tests of R84 but the replay rule. -/
def Device.authentic (d : Device) (f : TendrilFrame) : Bool :=
  let h := f.header
  let c := hdrCtrl h
  let n := hdrPayload h
  d.rd E.TENDRIL_ENABLE = 1 && byteAt h 0 = 1 && d.rd (E.CTRL_ENABLE c) = 1 && bit (d.rd (E.KEY_SLOTS c)) (hdrSlotB h).toNat
    && 24 + n + 16 ≤ f.rest.length && slice f.rest (24 + n) 16 = d.tendrilMac c (hdrSlotB h) h f.payload

/-- A dropped frame: counted, with TENDRIL_DROP. -/
def Device.dropTendril (d : Device) (counter : Addr) : Device := (d.bumpSat counter 1).raise Src.TENDRIL_DROP 0

/-- The marks of accepted sequences after `k` more: bit i stands for RX_SEQ - i. -/
def shiftSeen (seen k : Nat) : Nat := if 64 ≤ k then 1 else (seen * 2 ^ k + 1) % 2 ^ 64

/-- The replay rule (R85): the device once the sequence is accepted, or none. -/
def Device.acceptSeq (d : Device) (c : Nat) (slotB : Bool) (seq : Nat) : Option Device :=
  let a := if slotB then E.RX_SEQ_B c else E.RX_SEQ_A c
  let rx := d.rd a
  let cs := d.ctrlSeq.getD c {}
  let seen := if slotB then cs.seenB else cs.seenA
  let mark (v : Nat) : Device :=
    { d with ctrlSeq := modAt d.ctrlSeq c (fun x => if slotB then { x with seenB := v } else { x with seenA := v }) }
  if seq = 0 ∨ rx = 0xFFFFFFFF then none
  else if rx < seq then some ((mark (shiftSeen seen (seq - rx))).wr a seq)
  else if seq + 63 < rx ∨ bit seen (rx - seq) then none
  else some (mark (setBit seen (rx - seq) true))

/-! ### Responses (R81, R83, R86) -/

/-- A response leaves on the port of its request, with the controller's next sequence number, while Tendril is enabled. -/
def Device.sendResponse (d : Device) (f : TendrilFrame) (header payload : List Byte) : Device :=
  let c := hdrCtrl header
  let seq := (d.ctrlSeq.getD c {}).tx
  let h := slice header 0 4 ++ beBytes 4 seq ++ slice header 8 16
  let mac := d.tendrilMac c (hdrSlotB header) h payload
  let tag := if isTagged f.bytes then slice f.bytes 12 4 else []
  let frame := closeFrame (slice f.bytes 6 6 ++ beBytes 6 (d.rd E.TENDRIL_MAC) ++ tag ++ beBytes 2 (d.rd E.TENDRIL_ETHERTYPE)
    ++ h ++ payload ++ mac)
  if d.rd E.TENDRIL_ENABLE = 1 ∧ d.canSend f.port then
    { d with ctrlSeq := modAt d.ctrlSeq c (fun x => { x with tx := (x.tx + 1) % 2 ^ 32 }) }.sendFrame f.port frame
  else d

/-- FLAGS and VINTAGE_LOW of a response: of a DOMAIN_READ alone (log entry 48). -/
def Device.readMarks (d : Device) (h : List Byte) (result : Nat) : Nat × Nat :=
  if hdrOp h = 4 ∧ result = Res.OK then
    let a := hdrAddr h
    let more := hdrOffset h + hdrLength h < (d.object a (hdrCurrent h)).length
    let staged := (findRow a).any (fun r => r.acc = .rwv) && !hdrCurrent h
    (if more then 2 else 0, d.rd (if staged then E.VINTAGE_STAGING else E.VINTAGE_CURRENT) % 2 ^ 16)
  else (0, 0)

/-- The last 8 responses to each controller are kept, newest first. -/
def Device.keepResponse (d : Device) (k : Kept) : Device :=
  { d with kept := d.kept.filter (fun x => x.ctrl ≠ k.ctrl) ++ (k :: d.kept.filter (fun x => x.ctrl = k.ctrl)).take 8 }

/-- A request is answered. -/
def Device.answerFrame (d : Device) (f : TendrilFrame) (result ty : Nat) (payload : List Byte) : Device :=
  let h := f.header
  let op := hdrOp h
  let marks := d.readMarks h result
  let offset := if op = 4 ∨ op = 6 then hdrOffset h else 0
  let header := tendrilHeader (op ||| 0x80) (hdrCtrl h) (hdrSlotB h) marks.1 0 (hdrId h) result (hdrAddr h) ty offset payload.length marks.2
  let k : Kept :=
    { ctrl := hdrCtrl h, requestId := hdrId h, opcode := op, addr := hdrAddr h, offset := hdrOffset h
      header := header, payload := payload }
  (d.keepResponse k).sendResponse f header payload

/-! ### Operations (Table 3.7) -/

/-- WRITE: TYPE differs from the descriptor, where no earlier test refuses. -/
def Device.frameWrite (d : Device) (p : Nat) (f : TendrilFrame) : Nat × Device :=
  let h := f.header
  let a := hdrAddr h
  let fits := (findRow a).all (fun r => r.ty.code = byteAt h 15)
  let c := d.writeCode p a f.payload
  if c = Res.OK ∧ !fits then (Res.TYPE_LENGTH, d) else d.writeEntry p a false f.payload (.frame f)

/-- DOMAIN_READ of at most 1,024 bytes. -/
def Device.frameRead (d : Device) (p : Nat) (h : List Byte) : Nat × List Byte :=
  let a := hdrAddr h
  let c := d.domainCode p a false
  if c ≠ Res.OK ∧ c ≠ Res.BUSY then (c, [])
  else if 1024 < hdrLength h then (Res.VALUE, [])
  else if c = Res.BUSY then (c, [])
  else (Res.OK, ((d.object a (hdrCurrent h)).drop (hdrOffset h)).take (hdrLength h))

/-- DOMAIN_BEGIN: 4 bytes of total length. -/
def Device.frameBegin (d : Device) (p : Nat) (f : TendrilFrame) : Nat × Device :=
  let a := hdrAddr f.header
  let c := d.domainCode p a true
  if c ≠ Res.OK then (c, d)
  else if f.payload.length ≠ 4 then (Res.TYPE_LENGTH, d)
  else if d.writeConflict p a then (Res.BUSY, d)
  else (Res.OK, d.beginWrite p a (beNat f.payload) false none)

/-- The controller's open write of the entry. -/
def Device.frameWriteOpen (d : Device) (p a : Nat) : Option OpenWrite := (d.openWrite p).filter (fun w => w.addr = a)

/-- DOMAIN_SEGMENT: at the offset that the bytes so far reach, and not beyond the total (R87). -/
def Device.frameSegment (d : Device) (p : Nat) (f : TendrilFrame) : Nat × Device :=
  let a := hdrAddr f.header
  let c := d.domainCode p a true
  if c ≠ Res.OK then (c, d)
  else if 1024 < f.payload.length then (Res.TYPE_LENGTH, d)
  else
    match d.frameWriteOpen p a with
    | none => (Res.DOMAIN_SEQUENCE, d)
    | some w =>
      if hdrOffset f.header ≠ w.data.length then (Res.DOMAIN_SEQUENCE, d.dropWrite p)
      else if w.total < w.data.length + f.payload.length then (Res.DOMAIN_SEQUENCE, d)
      else (Res.OK, d.growWrite p (· ++ f.payload))

/-- DOMAIN_END without a whole write behind it: BUSY where an end of a write would be refused as busy, else
DOMAIN_SEQUENCE, in the order of R491. -/
def Device.sequenceCode (d : Device) (a : Addr) : Nat := if d.objectBusy a then Res.BUSY else Res.DOMAIN_SEQUENCE

/-- DOMAIN_END: the CRC of the whole object; the write closes, but after a CRC_MISMATCH. -/
def Device.frameEnd (d : Device) (p : Nat) (f : TendrilFrame) : Nat × Device :=
  let a := hdrAddr f.header
  let c := d.domainCode p a true
  if c ≠ Res.OK then (c, d)
  else if f.payload.length ≠ 4 then (Res.TYPE_LENGTH, d)
  else
    match d.frameWriteOpen p a with
    | none => (d.sequenceCode a, d)
    | some w =>
      if w.data.length < w.total then (d.sequenceCode a, d)
      else
        let x := d.endObject p a w.data (beNat f.payload) (.frame f)
        if x.1 = Res.CRC_MISMATCH then x else (x.1, x.2.dropWrite p)

/-- The operation of a request: its result, the TYPE and payload of the response, and the device. -/
def Device.frameOperation (d : Device) (f : TendrilFrame) : Nat × Nat × List Byte × Device :=
  let h := f.header
  let p := 2 + hdrCtrl h
  let a := hdrAddr h
  let plain (x : Nat × Device) : Nat × Nat × List Byte × Device := (x.1, 0, [], x.2)
  match hdrOp h with
  | 1 => d.readEntry p a (hdrCurrent h) false
  | 2 => plain (d.frameWrite p f)
  | 3 =>
    let x := d.describe a (hdrCurrent h) false
    (x.1, 0, x.2, d)
  | 4 =>
    let x := d.frameRead p h
    (x.1, 0, x.2, d)
  | 5 => plain (d.frameBegin p f)
  | 6 => plain (d.frameSegment p f)
  | 7 => plain (d.frameEnd p f)
  | _ => (Res.BAD_OPCODE, 0, [], d)

/-- An accepted request is executed and answered; a repeated one is answered again (R86), and one that must wait is
answered later. -/
def Device.serveFrame (d : Device) (f : TendrilFrame) : Device :=
  let h := f.header
  match d.kept.find? (fun k => k.ctrl = hdrCtrl h ∧ k.requestId = hdrId h ∧ k.opcode = hdrOp h ∧ k.addr = hdrAddr h
      ∧ k.offset = hdrOffset h) with
  | some k => d.sendResponse f k.header k.payload
  | none =>
    if !d.ready then d.answerFrame f Res.NOT_READY 0 []
    else
      let x := d.frameOperation f
      if x.1 = Res.PENDING then x.2.2.2 else x.2.2.2.answerFrame f x.1 x.2.1 x.2.2.1

/-- A frame taken from the queue. -/
def Device.takeFrame (d : Device) (f : TendrilFrame) : Device :=
  if !d.authentic f then d.dropTendril E.AUTH_DROPS
  else
    match d.acceptSeq (hdrCtrl f.header) (hdrSlotB f.header) (hdrSeq f.header) with
    | none => d.dropTendril E.REPLAY_DROPS
    | some d => d.serveFrame f

/-! ### A request that waited is answered (R429, R484) -/

/-- The result of a request that waited reaches its sender. -/
def Device.answer (d : Device) (r : Reply) (result : Nat) : Device :=
  match r with
  | .mailbox kernel n tag =>
    let m := mailboxNumber kernel n
    if d.mailboxBusy m then d.completeMailbox m tag result [] else d
  | .frame f => d.answerFrame f result 0 []
  | .channel c =>
    let ch := d.channel c
    match ch.dom with
    | some t =>
      if ch.phase = 9 ∧ ch.state = 1 then
        d.endTransfer c ch.rxBytes.length (movedCrc ch.rxBytes) 0 0 (t.moved = ch.rxBytes.length) result
      else d
    | none => d
  | .abandoned => d

end Sys2Proof.Machine
end

