-- ==== Sys2Proof/Machine/Queue.lean ====
section
/-! DEFINITION. The Cellarmaster's request queue: mailbox requests and Tendril frames one at a time, in the order in which
they came (R69, R71); and the requests that had to wait (R429, R484). -/

namespace Sys2Proof.Machine

open Sys2Proof

/-! ### The queue (R71) -/

/-- The first frame of the Tendril queue is taken. -/
def Device.serveFrame1 (d : Device) : Device :=
  match d.tendrilQueue with
  | [] => d
  | f :: t => ({ d with tendrilQueue := t, doorbells := d.doorbells.map (fun q => { q with ahead := q.ahead - 1 }) } : Device).takeFrame f

/-- A request of a mailbox or a controller is under way: a joint write that waits for the partner (R429). Until its result
comes no further request is executed. -/
def Device.requestWaits (d : Device) : Bool :=
  d.join.waitingBooks.any (fun w => match w.reply with
    | .channel _ => false
    | _ => true)

/-- At most `n` of the waiting frames are taken, while none has to wait. -/
def Device.serveFrames : Device → Nat → Device
  | d, 0 => d
  | d, n + 1 => if d.requestWaits then d else d.serveFrame1.serveFrames n

/-- The waiting mailbox requests are executed in turn, with the frames that came before each of them; `fuel` bounds their
number. -/
def Device.serveQueue : Nat → Device → Device
  | 0, d => d
  | fuel + 1, d =>
    match d.doorbells with
    | [] => d
    | q :: t =>
      if d.requestWaits then d
      else if 0 < q.ahead ∧ d.tendrilQueue ≠ [] then Device.serveQueue fuel d.serveFrame1
      else Device.serveQueue fuel (({ d with doorbells := t } : Device).runMailbox q)

/-- Everything that waits up to the last mailbox request is executed, as far as it may. -/
def Device.serveRequests (d : Device) : Device := Device.serveQueue (d.tendrilQueue.length + d.doorbells.length) d

/-- A write of 1 to MB_DOORBELL (R69): the request is latched and joins the queue. -/
def Device.doorbellMailbox (d : Device) (m : Nat) : Device :=
  let at' := mailboxPage m
  if d.mailboxBusy m then d.bumpBar MB_IGNORED 1
  else if !d.ready then d.completeMailbox m (d.latch m).tag Res.NOT_READY []
  else
    let d := d.setBar (at' + 0x14) (setBits (d.bar (at' + 0x14)) 0 2 1)
    ({ d with doorbells := d.doorbells ++ [d.latch m] } : Device).serveRequests

/-- The registers of a request are written, and its doorbell (Table 3.4). -/
def Device.submit (d : Device) (m opcode tag : Nat) (current windowWrite : Bool) (addr length offset : Nat) (data : List Byte) :
    Device :=
  let at' := mailboxPage m
  let d := d.setBar at' (opcode + tag % 256 * 256 + current.toNat * 2 ^ 16 + windowWrite.toNat * 2 ^ 17)
  let d := ((d.setBar (at' + 4) (addr % 2 ^ 24)).setBar (at' + 8) (length % 2 ^ 32)).setBar (at' + 12) (offset % 2 ^ 32)
  (d.storeWords (at' + 0x100) (slice data 0 256)).doorbellMailbox m

/-- The frame at the head of the queue is taken by the command whose request it holds (log entry 49), unless a
request before it is under way. -/
def Device.tendril (d : Device) (want : TendrilFrame → Bool) : Device :=
  match d.tendrilQueue with
  | [] => d
  | f :: _ => if d.alive && !d.requestWaits && want f then d.serveFrame1 else d

/-! ### Requests that waited (R429, R484) -/

/-- IMAGE_SLOT_PROGRAMMED (R484): the slot's bytes have been programmed and read back, and the write completes. A slot
that did not read back stays erased. -/
def execImageSlotProgrammed (slotB readBack : Bool) (s : State) : Host.Outcome State Fault Refusal :=
  s.on (fun d =>
    match d.board.programming with
    | none => d
    | some g =>
      if g.slotB ≠ slotB then d
      else
        let d : Device := { d with board := { d.board with programming := none } }
        if readBack then (d.setSlot slotB g.data).answer g.reply Res.OK else d.answer g.reply Res.CRC_MISMATCH)

/-- A joint write that came from the partner is applied (R429). COMMIT runs at the primary alone (R434). -/
def Device.bookRequest (d : Device) (a : Addr) (data : List Byte) (p : Nat) : Nat × Device :=
  if a = E.COMMIT ∧ d.member = 1 then (Res.OK, d)
  else match findRow a with
  | none => (Res.NO_ENTRY, d)
  | some r =>
    if r.ty = .domain then
      if !d.objectFits a data then (Res.VALUE, d)
      else if d.objectBusy a then (Res.BUSY, d)
      else d.install a data (.channel 0)
    else if data.length ≠ r.ty.size then (Res.TYPE_LENGTH, d)
    else d.bookWrite p a (beNat data)

/-- The result of the oldest joint write that waits: the secondary applies now what the primary has applied. -/
def Device.bookResult (d : Device) (code : Nat) : Device :=
  match d.join.waitingBooks with
  | [] => d
  | w :: rest =>
    let d : Device := { d with join := { d.join with waitingBooks := rest } }
    let d := if code = Res.OK ∧ d.member = 1 then (d.bookRequest w.addr w.data w.principal).2 else d
    (d.answer w.reply code).serveRequests

/-- The partner's new value of one of its member entries or image slots. -/
def Device.bookNotice (d : Device) (a : Addr) (data : List Byte) : Device :=
  if !memberEntry a then d
  else if a = E.IMAGE_SLOT_A ∨ a = E.IMAGE_SLOT_B then
    { d with peer := { d.peer with objs := BMap.set d.peer.objs (defaultObject a) a data } }
  else { d with peer := { d.peer with entries := SMap.set d.peer.entries (defaultOf a) a (beNat data) } }

/-- BOOK (R429, R430, R466): a joint write of the partner's, which is applied and answered; the result of one of this
member's own; a value that the partner tells; and the agreement on a change of mode. A forwarded write joins the primary's
request queue behind what waits there (R71). -/
def Device.book (d : Device) (m : BookMsg) : Device :=
  if !d.joined then d
  else
    match m with
    | .request a data p =>
      if !d.isJoint a then d
      else
        let d := if d.member = 0 then d.serveFrames d.tendrilQueue.length else d
        let x := d.bookRequest a data p
        x.2.bookMessage 2 (beBytes 2 x.1)
    | .result code => d.bookResult code
    | .notice a data => d.bookNotice a data
    | .ready => { d with join := { d.join with partnerReady := true } }
    | .change b => { d with join := { d.join with changeAt := some b } }

end Sys2Proof.Machine
end

