-- ==== Sys2Proof/Machine/Registers.lean ====
section
/-! DEFINITION. The registers of the BARs, and Function Level Reset (R65 to R67, R74, R75, R446). -/

namespace Sys2Proof.Machine

open Sys2Proof

/-! ### Function Level Reset (R66) -/

/-- The mailbox pages at their defaults. -/
def Device.clearMailboxes (d : Device) : Device :=
  { d with bar0 := d.bar0.filter (fun e => !(0x10000 ≤ e.1 && e.1 < 0x14000) && !(0x20000 ≤ e.1 && e.1 < 0x30000)) }

/-- The mask bit of every vector is set: what an unwritten mask word reads as. -/
def Device.maskVectors (d : Device) : Device :=
  (List.range 128).foldl (fun (d : Device) v => d.setBar (0x110000 + 16 * v + 12) 1) d

/-- A reply to a mailbox or to a channel is abandoned. -/
def Reply.abandon : Reply → Reply
  | .frame f => .frame f
  | _ => .abandoned

/-- A held access of the host that a Function Level Reset takes with it: a mailbox's, a channel's, and any register write but
one of the event registers. -/
def HeldAccess.hostOwned (h : HeldAccess) : Bool :=
  let mailbox (q : Request) : Bool := match q with
    | .mailbox .. => true
    | .tendril => false
  let host (r : Requester) : Bool := r ≠ .tendril
  match h.access with
  | .read q | .write q | .describe q | .domainRead q | .domainBegin q | .domainSegment q | .domainEnd q | .windowRead q
  | .windowClose q => mailbox q
  | .grantWrite r .. | .keyWrite r .. | .enable r _ | .commit r _ | .discardStaging r _ | .clear r _ | .timeStepNs r _
  | .ppsSeconds r _ | .timeRelease r _ | .timeCapture r _ | .gaugeSeal r _ | .powerCapW r _ | .joinEnable r _
  | .retireRequest r _ | .unretireRequest r _ | .rollbackAdvance r _ | .modeRequest r _ | .careTestGo r _
  | .domainArm r .. | .gaugeParamWrite r .. | .busRequest r .. => host r
  | .groupStatusClear v .. | .sourceOccWrite v .. | .groupEnableWrite v .. => (match v with
    | .bar0 => false
    | .book r => host r)
  | .ring .. | .restart .. | .stop .. | .siphonHeadWrite .. | .siphonConsumedWrite .. => true
  | .registerWrite bar offset _ _ => !(bar = 0 && 0x100000 ≤ offset && offset < 0x110000)
  | _ => false

/-- Every mailbox request that is not yet completed is abandoned: those that wait, those that a boundary holds, and the
answers of those under way. -/
def Device.abandonRequests (d : Device) : Device :=
  let ws := d.join.waitingBooks.map (fun w => { w with reply := w.reply.abandon })
  { d with doorbells := [], held := d.held.filter (fun h => !h.hostOwned), join := { d.join with waitingBooks := ws }
           board := { d.board with programming := d.board.programming.map (fun g => { g with reply := g.reply.abandon }) } }

/-- FUNCTION_LEVEL_RESET (R66). Open writes of the host's principals are aborted. -/
def execFunctionLevelReset (s : State) : Host.Outcome State Fault Refusal :=
  s.on (fun d =>
    if d.mode = .off then d
    else
      let d := (((d.abandonRequests.haltChannels).closeWindow).dropWrite 0).dropWrite 1
      d.clearMailboxes.maskVectors)

/-! ### Register writes (R67) -/

/-- What a write of one aligned word with byte enables finds. -/
def merge (old mask v : Nat) : Nat := (old &&& lnot 32 mask) ||| (v &&& mask)

/-- A word of a mailbox page. -/
def Device.writeMailboxWord (d : Device) (m off mask v : Nat) : Option Device :=
  let at' := mailboxPage m + off
  if off = 0 then some (d.setBar at' (merge (d.bar at') mask v % 2 ^ 18))
  else if off = 4 then some (d.setBar at' (merge (d.bar at') mask v % 2 ^ 24))
  else if off = 8 ∨ off = 12 ∨ (0x100 ≤ off ∧ off < 0x200) then some (d.setBar at' (merge (d.bar at') mask v))
  else if off = 0x10 then some (if bit (v &&& mask) 0 then d.doorbellMailbox m else d)
  else if off = 0x14 then some (if bit (v &&& mask) 1 then d.setBar at' (setBit (d.bar at') 1 false) else d)
  else if off = 0x18 ∨ (0x200 ≤ off ∧ off < 0x300) then some d
  else none

/-- A word of the event registers, with its offset in their region (Table 18.3). -/
def Device.writeEventWord (d : Device) (off mask v : Nat) : Option Device :=
  let g := (off - 0x100) / 16
  let n := off % 0x1000 / 4
  if off = 0 ∨ off = 4 ∨ off = 8 then some d
  else if 0x100 ≤ off ∧ off < 0x500 then
    match off % 16 with
    | 0 => some (d.clearStatus g (v &&& mask % 2 ^ 16) [])
    | 4 => some (d.writeEnable g (merge (d.rd (E.GROUP_ENABLE g)) mask v))
    | 8 => some (d.wr (E.GROUP_ROUTE g) (merge (d.rd (E.GROUP_ROUTE g)) mask v &&& 0x37F))
    | _ => none
  else if 0x1000 ≤ off ∧ off < 0x2000 then some (d.writeOcc n (v &&& mask))
  else if 0x2000 ≤ off ∧ off < 0x4000 then some d
  else none

/-- A word of the MSI-X table: a vector that is unmasked with its pending bit set sends its message. -/
def Device.writeMsixWord (d : Device) (off mask v : Nat) : Device :=
  let was := d.bar off
  let d := d.setBar off (if off % 16 = 12 then merge was mask v % 2 else merge was mask v)
  let n := (off - 0x110000) / 16
  let pba := 0x110800 + 4 * (n / 32)
  if off % 16 = 12 ∧ bit was 0 ∧ !bit (d.bar off) 0 ∧ bit (d.bar pba) (n % 32) then
    (d.setBar pba (setBit (d.bar pba) (n % 32) false)).sendMsix n
  else d

/-- A word of BAR0; none where no register stands there. -/
def Device.writeWord0 (d : Device) (off mask v : Nat) : Option Device :=
  if off < 0x14 then some d
  else if 0x10000 ≤ off ∧ off < 0x14000 then d.writeMailboxWord ((off - 0x10000) / 0x1000) (off % 0x1000) mask v
  else if 0x20000 ≤ off ∧ off < 0x30000 then d.writeMailboxWord (4 + (off - 0x20000) / 0x1000) (off % 0x1000) mask v
  else if 0x100000 ≤ off ∧ off < 0x110000 then d.writeEventWord (off - 0x100000) mask v
  else if 0x110000 ≤ off ∧ off < 0x110800 then some (d.writeMsixWord off mask v)
  else if 0x110800 ≤ off ∧ off < 0x110810 then some d
  else none

/-- A word of BAR4 (Table 15.2). SIPHON_HEAD takes 8-byte writes alone. -/
def Device.writeWord4 (d : Device) (off mask v : Nat) : Option Device :=
  let c := off / 0x400
  match off % 0x400 with
  | 0x000 => some (d.doorbell c (v &&& mask))
  | 0x008 | 0x00C => some (d.ignoreDoorbell c)
  | 0x010 => some (d.writeConsumed c (merge (d.channel c).consumed mask v))
  | 0x014 | 0x018 | 0x01C | 0x020 => some (d.ignoreDoorbell c)
  | _ => none

/-- The words that a write of `size` bytes at an offset touches: (offset, byte enables, value). -/
def wordsOf (offset size v : Nat) : List (Nat × Nat × Nat) :=
  let bs := List.replicate (offset % 4) 0 ++ leBytes size v
  let en := List.replicate (offset % 4) 0 ++ List.replicate size 0xFF
  (List.range ((bs.length + 3) / 4)).map (fun k =>
    (offset / 4 * 4 + 4 * k, leNat (slice en (4 * k) 4), leNat (slice bs (4 * k) 4)))

/-- A write's words in ascending order; one that no register takes is discarded, and the write is counted (R67). -/
def Device.writeWords (d : Device) (f : Device → Nat → Nat → Nat → Option Device) (ws : List (Nat × Nat × Nat)) : Device :=
  let x := ws.foldl (fun (x : Device × Bool) w =>
    match f x.1 w.1 w.2.1 w.2.2 with
    | some d => (d, x.2)
    | none => (x.1, true)) (d, false)
  if x.2 then x.1.bumpBar HOST_BAD_WRITES 1 else x.1

/-- A write into the DOMAIN window; a window open for reading is read-only. -/
def Device.writeWindow (d : Device) (offset size v : Nat) : Device :=
  let x := d.windowStore offset (leBytes size v)
  let reading := match d.window with
    | some w => !w.write
    | none => false
  if x.1 || reading then x.2 else x.2.bumpBar HOST_BAD_WRITES 1

/-- The size of a BAR (Table 3.1). -/
def Device.barSize (d : Device) (b : Nat) : Nat := ((d.board.endpoint.bars.find? (fun x => x.1 = b)).map (·.2)).getD 0

/-- The word of MB_STATUS of some mailbox. -/
def isStatusWord (off : Nat) : Bool :=
  off % 0x1000 = 0x14 && ((0x10000 ≤ off && off < 0x14000) || (0x20000 ≤ off && off < 0x30000))

/-- The words of one write of BAR0, an MB_STATUS word before the others: where the write also holds the doorbell, DONE is
cleared in the cycle in which the completion sets it, and stays 1 (R69). -/
def statusFirst (ws : List (Nat × Nat × Nat)) : List (Nat × Nat × Nat) :=
  ws.filter (fun w => isStatusWord w.1) ++ ws.filter (fun w => !isStatusWord w.1)

/-- The words of one write of BAR4, an 8-byte register once. -/
def wholeRegisters (ws : List (Nat × Nat × Nat)) : List (Nat × Nat × Nat) :=
  ws.filter (fun w => !((w.1 % 0x400 = 0x00C || w.1 % 0x400 = 0x01C) && ws.any (fun x => x.1 + 4 = w.1)))

/-- A write of `size` bytes, 1 to 256, at an offset of a BAR; a function in D3hot takes none (log entry 165). -/
def Device.registerWrite (d : Device) (bar offset size v : Nat) : Device :=
  if size = 0 ∨ 256 < size ∨ d.mode = .off ∨ d.board.pci.d3hot then d
  else if bar = 0 ∧ 0x800000 ≤ offset ∧ offset + size ≤ d.barSize 0 then d.writeWindow (offset - 0x800000) size v
  else if bar = 0 ∧ offset + size ≤ 0x800000 then d.writeWords Device.writeWord0 (statusFirst (wordsOf offset size v))
  else if bar = 4 ∧ offset + size ≤ d.barSize 4 then
    if offset % 0x400 = 8 ∧ size = 8 then d.writeHead (offset / 0x400) (v % 2 ^ 64)
    else d.writeWords Device.writeWord4 (wholeRegisters (wordsOf offset size v))
  else d.bumpBar HOST_BAD_WRITES 1

/-- No register stands under a write (R67): BAR2, or words that no region defines. -/
def Device.isBadWrite (d : Device) (bar offset size : Nat) : Bool :=
  if bar = 0 ∧ offset + size ≤ 0x800000 then
    (wordsOf offset size 0).any (fun w => (d.writeWord0 w.1 0 0).isNone)
  else if bar = 0 ∧ offset + size ≤ d.barSize 0 then d.window.isNone
  else if bar = 4 ∧ offset + size ≤ d.barSize 4 then
    !(offset % 0x400 = 8 && size = 8) && (wordsOf offset size 0).any (fun w => (d.writeWord4 w.1 0 0).isNone)
  else true

/-- A write to an undefined address or to BAR2 (R67). One that a register takes is no such write. -/
def Device.badWrite (d : Device) (bar offset size value : Nat) : Device :=
  if d.isBadWrite bar offset size then d.registerWrite bar offset size value else d

/-! ### Register reads (R67, Tables 3.3, 3.4, 15.2, 18.3) -/

/-- HOST_STATUS: the link's codes read 0 until it has trained. -/
def Device.hostStatus (d : Device) : Nat :=
  d.ready.toNat + 2 * (decide (d.mode = .safeHold)).toNat + 16 * (d.board.pci.width % 4) + 256 * (d.board.pci.rate % 16)

/-- PENDING_LO and PENDING_HI. -/
def Device.pendingGroups (d : Device) (hi : Nat) : Nat :=
  sumOn (List.range 32) (fun k => (d.groupPending (32 * hi + k)).toNat * 2 ^ k)

/-- A word of the event registers as a read returns it. -/
def Device.eventWord (d : Device) (off : Nat) : Nat :=
  let g := (off - 0x100) / 16
  let n := off % 0x1000 / 4
  if off = 0 ∨ off = 4 then d.pendingGroups (off / 4)
  else if off = 8 then d.eventPin.toNat
  else if 0x100 ≤ off ∧ off < 0x500 then
    match off % 16 with
    | 0 => d.rd (E.GROUP_STATUS g)
    | 4 => d.rd (E.GROUP_ENABLE g)
    | 8 => d.rd (E.GROUP_ROUTE g)
    | _ => 0
  else if 0x1000 ≤ off ∧ off < 0x2000 then d.rd (E.SOURCE_OCC (n / 16) (n % 16))
  else if 0x2000 ≤ off ∧ off < 0x3000 then d.rd (E.SOURCE_DETAIL (n / 16) (n % 16))
  else if 0x3000 ≤ off ∧ off < 0x4000 then d.rd (E.SOURCE_RAISES (n / 16) (n % 16))
  else 0

/-- What the DOMAIN window presents at an offset: 4 bytes. -/
def Device.windowWord (d : Device) (off : Nat) : Nat :=
  match d.window with
  | none => 0
  | some w =>
    let bs := if w.write then (match d.openWrite (mailboxPrincipal w.owner) with
        | some o => o.data
        | none => []) else d.object w.addr w.current
    leNat (slice bs (w.base + off) 4)

/-- A word of a doorbell page as a read returns it. -/
def Device.doorbellWord (d : Device) (off : Nat) : Nat :=
  let c := off / 0x400
  let ch := d.channel c
  match off % 0x400 with
  | 0x008 => ch.head % 2 ^ 32
  | 0x00C => ch.head / 2 ^ 32
  | 0x010 => ch.consumed
  | 0x014 => d.siphonState c
  | 0x018 => ch.current % 2 ^ 32
  | 0x01C => ch.current / 2 ^ 32
  | 0x020 => ch.completed
  | _ => 0

/-- What a read of an aligned word of a BAR returns; 0 where no register stands. -/
def Device.registerRead (d : Device) (bar off : Nat) : Nat :=
  if bar = 0 then
    if off = 4 then d.hostStatus
    else if off = 8 then d.mode.code
    else if 0x100000 ≤ off ∧ off < 0x110000 then d.eventWord (off - 0x100000)
    else if 0x800000 ≤ off then d.windowWord (off - 0x800000)
    else d.bar off
  else if bar = 2 then
    if off < 0x800000 then d.counter (off / 4)
    else if off < 0x1000000 then
      let k := (off - 0x800000) / 8
      if off % 8 = 0 then d.counter (2 * k) else d.counter (2 * k + 1)
    else 0
  else if bar = 4 then d.doorbellWord off
  else 0

end Sys2Proof.Machine
end

