-- ==== Sys2Proof/Machine/Commands.lean ====
section
/-! DEFINITION. The commands of the request paths: the operations of Table 3.7, the writes of entries that the table of
commands names, the event registers' own path, and beacons; and when an access takes effect (R71, R82, R88, R489). -/

namespace Sys2Proof.Machine

open Sys2Proof

/-! ### The operations -/

/-- A mailbox's registers and its doorbell are written, while the device is not off and its function not in D3hot. -/
def Device.fromMailbox (d : Device) (kernel : Bool) (n opcode tag : Nat) (current windowWrite : Bool)
    (addr length offset : Nat) (data : List Byte) : Device :=
  if mailboxExists kernel n && decide (d.mode ≠ .off) && !d.board.pci.d3hot then
    d.submit (mailboxNumber kernel n) opcode tag current windowWrite addr length offset data
  else d

/-- A request of an operation: of a mailbox, or of the frame at the head of the Tendril queue where it asks for it. -/
def Device.operation (d : Device) (opcode : Nat) (q : Request) : Device :=
  match q with
  | .mailbox kernel n tag current windowWrite addr length offset data =>
    d.fromMailbox kernel n opcode tag current windowWrite addr length offset data
  | .tendril => d.tendril (fun f => hdrOp f.header = opcode)

/-- READ (Table 3.7). From Tendril it also takes a frame whose operation is none of the table's (log entry 49). -/
def Device.doRead (d : Device) (q : Request) : Device :=
    match q with
    | .tendril => d.tendril (fun f => hdrOp f.header = 1 || hdrOp f.header = 0 || 9 < hdrOp f.header)
    | q => d.operation 1 q

/-- WRITE (Table 3.7). -/
def Device.doWrite (d : Device) (q : Request) : Device := d.operation 2 q

/-- DESCRIBE (Table 3.7) (R38). -/
def Device.doDescribe (d : Device) (q : Request) : Device := d.operation 3 q

/-- DOMAIN_READ (Table 3.7) (R82); no operation of a mailbox. -/
def Device.doDomainRead (d : Device) (q : Request) : Device := d.operation 4 q

/-- DOMAIN_BEGIN (Table 3.7) (R73, R87). -/
def Device.doDomainBegin (d : Device) (q : Request) : Device := d.operation 5 q

/-- DOMAIN_SEGMENT (Table 3.7) (R73, R87). -/
def Device.doDomainSegment (d : Device) (q : Request) : Device := d.operation 6 q

/-- DOMAIN_END (Table 3.7) (R73). -/
def Device.doDomainEnd (d : Device) (q : Request) : Device := d.operation 7 q

/-- WINDOW_READ (Table 3.7) (R73); no operation of Tendril. -/
def Device.doWindowRead (d : Device) (q : Request) : Device := d.operation 8 q

/-- WINDOW_CLOSE (Table 3.7) (R73); no operation of Tendril. -/
def Device.doWindowClose (d : Device) (q : Request) : Device := d.operation 9 q

/-! ### Writes of one entry -/

/-- A WRITE of bytes, in the order of its carrier, to an entry: `bytes true` little-endian for a mailbox, `bytes false` in
network order for Tendril, where the frame at the head of the queue must be that write. -/
def Device.writeBytes (d : Device) (r : Requester) (a : Addr) (bytes : Bool → List Byte) : Device :=
  match r with
  | .kernel n tag => d.fromMailbox true n 2 tag false false a (bytes true).length 0 (bytes true)
  | .user n tag => d.fromMailbox false n 2 tag false false a (bytes true).length 0 (bytes true)
  | .tendril => d.tendril (fun f => hdrOp f.header = 2 && hdrAddr f.header = a && f.payload = bytes false)

/-- A WRITE of a value of the entry's type. -/
def Device.writeFrom (d : Device) (r : Requester) (a : Addr) (v : Nat) : Device :=
  match findRow a with
  | some x => d.writeBytes r a (fun little => valueBytes x.ty little v)
  | none => d

/-- GRANT_WRITE (R76): a write to a grant record. -/
def Device.doGrantWrite (d : Device) (r : Requester) (grant sub value : Nat) : Device := if grant < 128 then d.writeFrom r (entry (0x1180 + grant) sub) value else d

/-- KEY_WRITE (R78): a write of KEY_A or KEY_B. -/
def Device.doKeyWrite (d : Device) (r : Requester) (controller : Nat) (slotB : Bool) (key : List Byte) : Device :=
    if controller < 16 then d.writeBytes r (if slotB then E.KEY_B controller else E.KEY_A controller) (fun _ => key) else d

/-- ENABLE: a write of ENABLE (R45). -/
def Device.doEnable (d : Device) (r : Requester) (value : Nat) : Device := d.writeFrom r E.ENABLE value

/-- COMMIT: a write of COMMIT (R53). -/
def Device.doCommit (d : Device) (r : Requester) (value : Nat) : Device := d.writeFrom r E.COMMIT value

/-- DISCARD_STAGING: a write of DISCARD_STAGING (R42). -/
def Device.doDiscardStaging (d : Device) (r : Requester) (value : Nat) : Device := d.writeFrom r E.DISCARD_STAGING value

/-- CLEAR: a write of CLEAR, which arms a clear of counters for the next round boundary (R335). -/
def Device.doClear (d : Device) (r : Requester) (value : Nat) : Device := d.writeFrom r E.CLEAR value

/-- TIME_STEP_NS: a write of TIME_STEP_NS (R309). -/
def Device.doTimeStepNs (d : Device) (r : Requester) (value : Nat) : Device := d.writeFrom r E.TIME_STEP_NS value

/-- PPS_SECONDS: a write of PPS_SECONDS (R310). -/
def Device.doPpsSeconds (d : Device) (r : Requester) (value : Nat) : Device := d.writeFrom r E.PPS_SECONDS value

/-- TIME_RELEASE: a write of TIME_RELEASE (R311). -/
def Device.doTimeRelease (d : Device) (r : Requester) (value : Nat) : Device := d.writeFrom r E.TIME_RELEASE value

/-- TIME_CAPTURE: a write of TIME_CAPTURE (R313). -/
def Device.doTimeCapture (d : Device) (r : Requester) (value : Nat) : Device := d.writeFrom r E.TIME_CAPTURE value

/-- GAUGE_SEAL: a write of GAUGE_SEAL (R367). -/
def Device.doGaugeSeal (d : Device) (r : Requester) (value : Nat) : Device := d.writeFrom r E.GAUGE_SEAL value

/-- POWER_CAP_W: a write of POWER_CAP_W (R406). -/
def Device.doPowerCapW (d : Device) (r : Requester) (value : Nat) : Device := d.writeFrom r E.POWER_CAP_W value

/-- JOIN_ENABLE: a write of JOIN_ENABLE (R435). -/
def Device.doJoinEnable (d : Device) (r : Requester) (value : Nat) : Device := d.writeFrom r E.JOIN_ENABLE value

/-- RETIRE_REQUEST: a write of RETIRE_REQUEST (R450). -/
def Device.doRetireRequest (d : Device) (r : Requester) (value : Nat) : Device := d.writeFrom r E.RETIRE_REQUEST value

/-- UNRETIRE_REQUEST: a write of UNRETIRE_REQUEST (R450). -/
def Device.doUnretireRequest (d : Device) (r : Requester) (value : Nat) : Device := d.writeFrom r E.UNRETIRE_REQUEST value

/-- ROLLBACK_ADVANCE: a write of ROLLBACK_ADVANCE (R463). -/
def Device.doRollbackAdvance (d : Device) (r : Requester) (value : Nat) : Device := d.writeFrom r E.ROLLBACK_ADVANCE value

/-- MODE_REQUEST: a write of MODE_REQUEST (R464). -/
def Device.doModeRequest (d : Device) (r : Requester) (value : Nat) : Device := d.writeFrom r E.MODE_REQUEST value

/-- CARE_TEST_GO: a write of CARE_TEST_GO (R471). -/
def Device.doCareTestGo (d : Device) (r : Requester) (value : Nat) : Device := d.writeFrom r E.CARE_TEST_GO value

/-- DOMAIN_ARM: a write of DOMAIN_ARM of a channel (R394). -/
def Device.doDomainArm (d : Device) (r : Requester) (channel value : Nat) : Device := if channel < 1024 then d.writeFrom r (E.DOMAIN_ARM channel) value else d

/-- GAUGE_PARAM_WRITE: a write of a parameter of the Gauge (R369), its bytes in the order of their carrier. -/
def Device.doGaugeParamWrite (d : Device) (r : Requester) (sub : Nat) (data : List Byte) : Device := d.writeBytes r (entry 0x9010 sub) (fun _ => data)

/-- BUS_REQUEST: a write of a request to a board bus (R485). -/
def Device.doBusRequest (d : Device) (r : Requester) (bus value : Nat) : Device := if bus < 18 then d.writeFrom r (entry (0x2E00 + bus) 2) value else d

/-! ### The event registers (R442, R443, R446) -/

/-- GROUP_STATUS_CLEAR: a W1C of STATUS bits, by either path, met by raises of the sources `raised`. -/
def Device.doGroupStatusClear (d : Device) (v : EventVia) (group value : Nat) (raised : List (Nat × Nat)) : Device :=
    if 64 ≤ group ∨ d.mode = .off then d
    else
      match v with
      | .bar0 => if d.board.pci.d3hot then d else d.clearStatus group (value % 2 ^ 16) raised
      | .book r => (d.writeFrom r (E.GROUP_STATUS group) value).clearStatus group 0 raised

/-- SOURCE_OCC_WRITE: a write of a source's OCC, by either path. -/
def Device.doSourceOccWrite (d : Device) (v : EventVia) (source value : Nat) : Device :=
    if 1024 ≤ source ∨ d.mode = .off then d
    else
      match v with
      | .bar0 => if d.board.pci.d3hot then d else d.writeOcc source value
      | .book r => d.writeFrom r (E.SOURCE_OCC (source / 16) (source % 16)) value

/-- GROUP_ENABLE_WRITE: a write of a group's ENABLE bits, by either path. -/
def Device.doGroupEnableWrite (d : Device) (v : EventVia) (group value : Nat) : Device :=
    if 64 ≤ group ∨ d.mode = .off then d
    else
      match v with
      | .bar0 => if d.board.pci.d3hot then d else d.writeEnable group value
      | .book r => d.writeFrom r (E.GROUP_ENABLE group) value

/-! ### Registers, Siphon's doorbells, and the partner -/

/-- A channel's doorbell page takes a write: the channel exists, and the function is not in D3hot (log entry 165). -/
def Device.barReaches (d : Device) (channel : Nat) : Bool := decide (channel < 1024) && !d.board.pci.d3hot

/-- RING (R384): a write of SIPHON_RING with bit 0 set. -/
def Device.doRing (d : Device) (channel value : Nat) : Device := if d.barReaches channel then d.doorbell channel (value ||| 1) else d

/-- RESTART (R381): a write of SIPHON_RING with bit 1 set. -/
def Device.doRestart (d : Device) (channel value : Nat) : Device := if d.barReaches channel then d.doorbell channel (value ||| 2) else d

/-- STOP (R381): a write of SIPHON_RING with bit 2 set. -/
def Device.doStop (d : Device) (channel value : Nat) : Device := if d.barReaches channel then d.doorbell channel (value ||| 4) else d

/-- SIPHON_HEAD_WRITE (R380). -/
def Device.doSiphonHeadWrite (d : Device) (channel address : Nat) : Device :=
  if d.barReaches channel then d.writeHead channel address else d

/-- SIPHON_CONSUMED_WRITE (R383). -/
def Device.doSiphonConsumedWrite (d : Device) (channel value : Nat) : Device :=
  if d.barReaches channel then d.writeConsumed channel value else d

/-! ### When an access takes effect (R489) -/

/-- What an access does. -/
def Device.runAccess (d : Device) (c : Instr) : Device :=
  match c with
  | .read q => d.doRead q
  | .write q => d.doWrite q
  | .describe q => d.doDescribe q
  | .domainRead q => d.doDomainRead q
  | .domainBegin q => d.doDomainBegin q
  | .domainSegment q => d.doDomainSegment q
  | .domainEnd q => d.doDomainEnd q
  | .windowRead q => d.doWindowRead q
  | .windowClose q => d.doWindowClose q
  | .grantWrite r grant sub value => d.doGrantWrite r grant sub value
  | .keyWrite r controller slotB key => d.doKeyWrite r controller slotB key
  | .enable r value => d.doEnable r value
  | .commit r value => d.doCommit r value
  | .discardStaging r value => d.doDiscardStaging r value
  | .clear r value => d.doClear r value
  | .timeStepNs r value => d.doTimeStepNs r value
  | .ppsSeconds r value => d.doPpsSeconds r value
  | .timeRelease r value => d.doTimeRelease r value
  | .timeCapture r value => d.doTimeCapture r value
  | .gaugeSeal r value => d.doGaugeSeal r value
  | .powerCapW r value => d.doPowerCapW r value
  | .joinEnable r value => d.doJoinEnable r value
  | .retireRequest r value => d.doRetireRequest r value
  | .unretireRequest r value => d.doUnretireRequest r value
  | .rollbackAdvance r value => d.doRollbackAdvance r value
  | .modeRequest r value => d.doModeRequest r value
  | .careTestGo r value => d.doCareTestGo r value
  | .domainArm r channel value => d.doDomainArm r channel value
  | .gaugeParamWrite r sub data => d.doGaugeParamWrite r sub data
  | .busRequest r bus value => d.doBusRequest r bus value
  | .groupStatusClear v group value raised => d.doGroupStatusClear v group value raised
  | .sourceOccWrite v source value => d.doSourceOccWrite v source value
  | .groupEnableWrite v group value => d.doGroupEnableWrite v group value
  | .ring channel value => d.doRing channel value
  | .restart channel value => d.doRestart channel value
  | .stop channel value => d.doStop channel value
  | .siphonHeadWrite channel address => d.doSiphonHeadWrite channel address
  | .siphonConsumedWrite channel value => d.doSiphonConsumedWrite channel value
  | .registerWrite bar offset size value => d.registerWrite bar offset size value
  | .hostBadWrite bar offset size value => d.badWrite bar offset size value
  | .book m => d.book m
  | _ => d

/-- The last counted slot of the round has ended, and its boundary is due. -/
def Device.boundaryDue (d : Device) : Bool := d.alive && decide (d.clk.slot = 1024)

/-- An access takes effect at the end of its slot, and the boundary that closes with a round's last slot still sees the
state before it (R489): an access given once that slot has passed is held until the boundary has. -/
def Device.access (d : Device) (c : Instr) : Device :=
  if d.boundaryDue then { d with held := d.held ++ [{ access := c, frames := d.tendrilQueue.length }] } else d.runAccess c

/-- The accesses that a boundary held take effect, in their order. The Tendril frames that came after each are behind it
(R71). -/
def Device.releaseHeld (d : Device) : Device :=
  let n := d.tendrilQueue.length
  let d := d.held.foldl (fun (d : Device) h => { d with lateFrames := n - h.frames }.runAccess h.access) { d with held := [] }
  { d with lateFrames := 0 }

/-- A command that is an access of the host, of a controller or of the partner. -/
def State.access (s : State) (c : Instr) : Host.Outcome State Fault Refusal := s.on (fun d => d.access c)

/-! ### The commands that are accesses -/

/-- READ (R71). -/
def execRead (q : Request) (s : State) : Host.Outcome State Fault Refusal := s.access (.read q)

/-- WRITE (R71). -/
def execWrite (q : Request) (s : State) : Host.Outcome State Fault Refusal := s.access (.write q)

/-- DESCRIBE (R38). -/
def execDescribe (q : Request) (s : State) : Host.Outcome State Fault Refusal := s.access (.describe q)

/-- DOMAIN_READ (R82). -/
def execDomainRead (q : Request) (s : State) : Host.Outcome State Fault Refusal := s.access (.domainRead q)

/-- DOMAIN_BEGIN (R87). -/
def execDomainBegin (q : Request) (s : State) : Host.Outcome State Fault Refusal := s.access (.domainBegin q)

/-- DOMAIN_SEGMENT (R87). -/
def execDomainSegment (q : Request) (s : State) : Host.Outcome State Fault Refusal := s.access (.domainSegment q)

/-- DOMAIN_END (R73). -/
def execDomainEnd (q : Request) (s : State) : Host.Outcome State Fault Refusal := s.access (.domainEnd q)

/-- WINDOW_READ (R73). -/
def execWindowRead (q : Request) (s : State) : Host.Outcome State Fault Refusal := s.access (.windowRead q)

/-- WINDOW_CLOSE (R73). -/
def execWindowClose (q : Request) (s : State) : Host.Outcome State Fault Refusal := s.access (.windowClose q)

/-- GRANT_WRITE (R76). -/
def execGrantWrite (r : Requester) (grant sub value : Nat) (s : State) : Host.Outcome State Fault Refusal := s.access (.grantWrite r grant sub value)

/-- KEY_WRITE (R78). -/
def execKeyWrite (r : Requester) (controller : Nat) (slotB : Bool) (key : List Byte) (s : State) : Host.Outcome State Fault Refusal := s.access (.keyWrite r controller slotB key)

/-- ENABLE (R45). -/
def execEnable (r : Requester) (value : Nat) (s : State) : Host.Outcome State Fault Refusal := s.access (.enable r value)

/-- COMMIT (R53). -/
def execCommit (r : Requester) (value : Nat) (s : State) : Host.Outcome State Fault Refusal := s.access (.commit r value)

/-- DISCARD_STAGING (R42). -/
def execDiscardStaging (r : Requester) (value : Nat) (s : State) : Host.Outcome State Fault Refusal := s.access (.discardStaging r value)

/-- CLEAR (R335). -/
def execClear (r : Requester) (value : Nat) (s : State) : Host.Outcome State Fault Refusal := s.access (.clear r value)

/-- TIME_STEP_NS (R309). -/
def execTimeStepNs (r : Requester) (value : Nat) (s : State) : Host.Outcome State Fault Refusal := s.access (.timeStepNs r value)

/-- PPS_SECONDS (R310). -/
def execPpsSeconds (r : Requester) (value : Nat) (s : State) : Host.Outcome State Fault Refusal := s.access (.ppsSeconds r value)

/-- TIME_RELEASE (R311). -/
def execTimeRelease (r : Requester) (value : Nat) (s : State) : Host.Outcome State Fault Refusal := s.access (.timeRelease r value)

/-- TIME_CAPTURE (R313). -/
def execTimeCapture (r : Requester) (value : Nat) (s : State) : Host.Outcome State Fault Refusal := s.access (.timeCapture r value)

/-- GAUGE_SEAL (R367). -/
def execGaugeSeal (r : Requester) (value : Nat) (s : State) : Host.Outcome State Fault Refusal := s.access (.gaugeSeal r value)

/-- POWER_CAP_W (R406). -/
def execPowerCapW (r : Requester) (value : Nat) (s : State) : Host.Outcome State Fault Refusal := s.access (.powerCapW r value)

/-- JOIN_ENABLE (R435). -/
def execJoinEnable (r : Requester) (value : Nat) (s : State) : Host.Outcome State Fault Refusal := s.access (.joinEnable r value)

/-- RETIRE_REQUEST (R450). -/
def execRetireRequest (r : Requester) (value : Nat) (s : State) : Host.Outcome State Fault Refusal := s.access (.retireRequest r value)

/-- UNRETIRE_REQUEST (R450). -/
def execUnretireRequest (r : Requester) (value : Nat) (s : State) : Host.Outcome State Fault Refusal := s.access (.unretireRequest r value)

/-- ROLLBACK_ADVANCE (R463). -/
def execRollbackAdvance (r : Requester) (value : Nat) (s : State) : Host.Outcome State Fault Refusal := s.access (.rollbackAdvance r value)

/-- MODE_REQUEST (R464). -/
def execModeRequest (r : Requester) (value : Nat) (s : State) : Host.Outcome State Fault Refusal := s.access (.modeRequest r value)

/-- CARE_TEST_GO (R471). -/
def execCareTestGo (r : Requester) (value : Nat) (s : State) : Host.Outcome State Fault Refusal := s.access (.careTestGo r value)

/-- DOMAIN_ARM (R394). -/
def execDomainArm (r : Requester) (channel value : Nat) (s : State) : Host.Outcome State Fault Refusal := s.access (.domainArm r channel value)

/-- GAUGE_PARAM_WRITE (R369). -/
def execGaugeParamWrite (r : Requester) (sub : Nat) (data : List Byte) (s : State) : Host.Outcome State Fault Refusal := s.access (.gaugeParamWrite r sub data)

/-- BUS_REQUEST (R485). -/
def execBusRequest (r : Requester) (bus value : Nat) (s : State) : Host.Outcome State Fault Refusal := s.access (.busRequest r bus value)

/-- GROUP_STATUS_CLEAR (R442). -/
def execGroupStatusClear (v : EventVia) (group value : Nat) (raised : List (Nat × Nat)) (s : State) : Host.Outcome State Fault Refusal := s.access (.groupStatusClear v group value raised)

/-- SOURCE_OCC_WRITE (R442). -/
def execSourceOccWrite (v : EventVia) (source value : Nat) (s : State) : Host.Outcome State Fault Refusal := s.access (.sourceOccWrite v source value)

/-- GROUP_ENABLE_WRITE (R443). -/
def execGroupEnableWrite (v : EventVia) (group value : Nat) (s : State) : Host.Outcome State Fault Refusal := s.access (.groupEnableWrite v group value)

/-- RING (R384). -/
def execRing (channel value : Nat) (s : State) : Host.Outcome State Fault Refusal := s.access (.ring channel value)

/-- RESTART (R381). -/
def execRestart (channel value : Nat) (s : State) : Host.Outcome State Fault Refusal := s.access (.restart channel value)

/-- STOP (R381). -/
def execStop (channel value : Nat) (s : State) : Host.Outcome State Fault Refusal := s.access (.stop channel value)

/-- SIPHON_HEAD_WRITE (R380). -/
def execSiphonHeadWrite (channel address : Nat) (s : State) : Host.Outcome State Fault Refusal := s.access (.siphonHeadWrite channel address)

/-- SIPHON_CONSUMED_WRITE (R383). -/
def execSiphonConsumedWrite (channel value : Nat) (s : State) : Host.Outcome State Fault Refusal := s.access (.siphonConsumedWrite channel value)

/-- REGISTER_WRITE (R7). -/
def execRegisterWrite (bar offset size value : Nat) (s : State) : Host.Outcome State Fault Refusal := s.access (.registerWrite bar offset size value)

/-- HOST_BAD_WRITE (R67). -/
def execHostBadWrite (bar offset size value : Nat) (s : State) : Host.Outcome State Fault Refusal := s.access (.hostBadWrite bar offset size value)

/-- BOOK (R429). -/
def execBook (m : BookMsg) (s : State) : Host.Outcome State Fault Refusal := s.access (.book m)

/-! ### Beacons (R88) -/

/-- The role in a beacon: 0 none, 1 primary, 2 secondary. -/
def Device.beaconRole (d : Device) : Nat := if d.rd E.JOIN_ENABLE = 1 then d.rd E.JOIN_ROLE + 1 else 0

/-- The 72 bytes of a beacon's payload. -/
def Device.beaconPayload (d : Device) : List Byte :=
  d.serial ++ beBytes 2 (d.rd E.STEPPING) ++ beBytes 1 (d.rd E.MODE_STATE) ++ beBytes 1 (d.rd E.DIGEST_STATE)
    ++ beBytes 4 (d.rd E.VINTAGE_CURRENT) ++ beBytes 4 (d.rd E.DIGEST_VINTAGE)
    ++ (List.range 8).flatMap (fun i => beBytes 4 (d.rd (E.VINTAGE_DIGEST i)))
    ++ beBytes 10 d.now80 ++ beBytes 1 d.timeValid.toNat ++ beBytes 1 d.beaconRole ++ beBytes 8 (d.rd E.ROUND_COUNT)

/-- BEACON (R88): BEACON_PERIOD_MS has passed; a beacon to each enabled controller that has an address. -/
def execBeacon (s : State) : Host.Outcome State Fault Refusal :=
  s.on (fun d =>
    if d.rd E.TENDRIL_ENABLE = 0 ∨ d.rd E.BEACON_PERIOD_MS = 0 ∨ !d.ready then d
    else
      (List.range 16).foldl (fun (d : Device) c =>
        if d.rd (E.CTRL_ENABLE c) = 1 ∧ d.rd (E.CTRL_MAC c) ≠ 0 then d.originate c 0x30 d.beaconPayload else d) d)

end Sys2Proof.Machine
end

