-- ==== Sys2Proof/Machine/Clock.lean ====
section
/-! DEFINITION. The commands of the slot clock, and the boundaries of rounds and of tap periods (R17, R22 to R28, R353 to
R355). -/

namespace Sys2Proof.Machine

open Sys2Proof

/-! ### Slots -/

/-- COUNTED_SLOT (R17), with the memory faults that the slot meets. A requested Reset takes effect as it ends (log entry
52). -/
def execCountedSlot (faults : List SlotFault) (s : State) : Host.Outcome State Fault Refusal :=
  s.on (fun d => (d.countedSlot faults).settleReset)

/-- SKIP_SLOT (R23): where droop, power or pace asks for one. -/
def execSkipSlot (s : State) : Host.Outcome State Fault Refusal := s.on (fun d => d.skip.settleReset)

/-! ### The tap link (R354, R355, Table 14.1) -/

/-- A record with its CRC-32C. -/
def withCrc (bs : List Byte) : List Byte := bs ++ beBytes 4 (crc32c bs)

/-- The deltas of one adder of a port: bytes, frames. -/
def TapLink.deltas (t : TapLink) (p adder : Nat) : List Byte :=
  let k := 8 * p + 2 * adder
  let delta (i : Nat) : Nat := SMap.get t.taken 0 i - SMap.get t.carried 0 i
  beBytes 8 (delta (k + 1)) ++ beBytes 4 (delta k)

/-- The delta record of a port group. -/
def TapLink.record (t : TapLink) (group : Nat) (late : Bool) : List Byte :=
  let ds := (List.range 16).flatMap (fun i => (List.range 4).flatMap (fun a => t.deltas (16 * group + i) a))
  withCrc ([1] ++ beBytes 1 group ++ beBytes 2 (t.first.toNat + 2 * late.toNat) ++ beBytes 4 t.sequence ++ beBytes 8 t.round ++ ds)

/-- The adders' state at the boundary that closes round `r`. -/
def Device.takeTaps (d : Device) (r : Nat) : Device := { d with tapLink := { d.tapLink with taken := d.ports.taps, round := r } }

/-- The 32 records of a period. -/
def Device.sendTaps (d : Device) (late : Bool) : Device :=
  let t := d.tapLink
  let d := (List.range 32).foldl (fun (d : Device) k => d.send (.tapRecord (t.record k late))) d
  { d with tapLink := { t with carried := t.taken, sequence := (t.sequence + 1) % 2 ^ 32, first := false } }

/-- The next round boundary closes a tap period. -/
def Device.tapCloses (d : Device) : Bool := decide (d.clk.slot = 1024) && (d.rd E.ROUND_COUNT + 1) % 16 = 0

/-- The transfer of a tap period: of the one that closed last and is not yet sent, or of the one that closes at the
boundary due. -/
def Device.tapBoundary (d : Device) : Device :=
  if !d.alive then d
  else if d.clk.tapDue then { d.sendTaps false with clk := { d.clk with tapDue := false } }
  else if d.tapCloses && !d.clk.tapTaken then
    { (d.takeTaps (d.rd E.ROUND_COUNT)).sendTaps false with clk := { d.clk with tapTaken := true } }
  else d

/-- TAP_PERIOD_BOUNDARY (R354). -/
def execTapPeriodBoundary (s : State) : Host.Outcome State Fault Refusal := s.on Device.tapBoundary

/-- The adders' part of step 1 of a round boundary (R26, R27): where the records of the former period are still to be
sent, they overran, and are sent first. -/
def Device.snapTaps (d : Device) : Device :=
  if !d.tapCloses then d
  else if d.clk.tapTaken then { d with clk := { d.clk with tapTaken := false } }
  else
    let taps := d.ports.taps
    let d := if d.clk.tapDue then ((d.sendTaps true).bumpSat E.TAP_OVERRUNS 1).raise Src.TAP_OVERRUN 0 else d
    { d with tapLink := { d.tapLink with taken := taps, round := d.rd E.ROUND_COUNT }, clk := { d.clk with tapDue := true } }

/-- The time record that names the next whole second, sent at the first round boundary between 900 ms and 100 ms before it
(R355, log entry 50). -/
def Device.nameSecond (d : Device) : Device :=
  let next := (d.time.ns / 1000000000 + 1) % 2 ^ 48
  let into := d.time.ns % 1000000000
  if d.timeValid && decide (100000000 ≤ into ∧ into ≤ 900000000) && decide (d.tapLink.named ≠ some next) then
    ({ d with tapLink := { d.tapLink with named := some next } } : Device).send
      (.tapRecord (withCrc ([2, 0, 0, 0, 0, 0, 0, 0] ++ beBytes 6 next ++ [0, 0])))
  else d

/-! ### The round boundary (R27) -/

/-- Step 1: the snapshots of the periods that end, and BOUNDARY_TIME (R325). -/
def Device.snapshots (d : Device) : Device :=
  let d := d.snapTaps.wr E.BOUNDARY_TIME d.now80
  (d.harvestSnapshot (d.rd E.ROUND_COUNT) d.time.ns).snapEpoch

/-- ROUND_COUNT passes the boundary, after the snapshots (R28). -/
def Device.passRound (d : Device) : Device :=
  let clk := { d.clk with roundStartPs := d.clk.nowPs, lastRoundPs := d.clk.nowPs - d.clk.roundStartPs }
  ({ d with clk := clk } : Device).wr E.ROUND_COUNT ((d.rd E.ROUND_COUNT + 1) % 2 ^ 64)

/-- The refill of shapers and policers and the lattice evaluation, which an overrun leaves to the new round's first slot
(R26, R268, R275, R279). -/
def Device.roundWork (d : Device) (overran : Bool) : Device :=
  let ps := d.clk.lastRoundPs
  if overran then
      let gates := d.dec.gates.map (fun g => { g with late := true })
      let late : LateRefill := { ps := ps, rates := d.shaperRates, policers := d.policerEntries }
      (({ d with dec := { d.dec with lateRefill := some late, gates := gates } } : Device).bumpSat E.ROUND_OVERRUNS 1).raise
        Src.ROUND_OVERRUN 0
  else (d.refillShapers ps).refillPolicers ps d.policerEntries

/-- The first slot of the new round is next. Pace skips that a boundary mark asked for fall in it (R432). -/
def Device.openRound (d : Device) : Device :=
  let d := if d.joined then d.send (.paceOut 0 0) else d
  { d with clk := { d.clk with slot := 0, skips := 0, planned := 0 }
           pow := { d.pow with droopRound := 0, stormed := false }
           join := { d.join with markSkips := d.join.markNext, markNext := 0 } }

/-- A joint write that waits for the partner once the join is gone completes: at the secondary with BUSY, at the primary,
which has applied it, with OK (log entry 51). -/
def Device.dropForwarded (d : Device) : Device :=
  if d.joined then d
  else
    let ws := d.join.waitingBooks
    (ws.foldl (fun (d : Device) w => d.answer w.reply (if d.member = 0 then Res.OK else Res.BUSY))
      { d with join := { d.join with waitingBooks := [] } }).serveRequests

/-- The round closes, and the next one opens (R27, log entry 36). The skip slots of the round that are still due pass
before it does (R406). -/
def Device.roundBoundary (d : Device) (overran : Bool) : Device :=
  if !d.alive || d.clk.slot ≠ 1024 then d
  else
    let r := d.rd E.ROUND_COUNT
    let d := d.passSkips
    let d := (d.snapshots.passRound).roundWork overran
    let d := (d.closeWindows r d.clk.lastRoundPs).applyClear
    let d := (((d.boundaryVintage.startGates).switchMaps).coolHbm).rackRound
    let d := (d.handBoundary (d.rd E.ROUND_COUNT)).boundaryPower
    d.nameSecond.openRound.dropForwarded.releaseHeld

/-- ROUND_BOUNDARY (R27); `overran` says that the round's periodic work did not complete before it (R26). -/
def execRoundBoundary (overran : Bool) (s : State) : Host.Outcome State Fault Refusal :=
  s.on (fun d => d.roundBoundary overran)

end Sys2Proof.Machine
end

