-- ==== Sys2Proof/Machine/Dispatch.lean ====
section
/-! DEFINITION. The meaning of every command: one arm per constructor of `Instr`, each a direct call of its meaning. -/

namespace Sys2Proof.Machine

open Sys2Proof

/-- A command's effect on everything but the queue of waiting commands. -/
def exec (i : Instr) (s : State) : Host.Outcome State Fault Refusal :=
  match i with
  | .countedSlot faults => Sys2Proof.Machine.execCountedSlot faults s
  | .skipSlot => Sys2Proof.Machine.execSkipSlot s
  | .roundBoundary overran => Sys2Proof.Machine.execRoundBoundary overran s
  | .tapPeriodBoundary => Sys2Proof.Machine.execTapPeriodBoundary s
  | .powerEpochBoundary m => Sys2Proof.Machine.execPowerEpochBoundary m s
  | .setpointRequest => Sys2Proof.Machine.execSetpointRequest s
  | .setpointReached => Sys2Proof.Machine.execSetpointReached s
  | .droopDetection => Sys2Proof.Machine.execDroopDetection s
  | .droopBurstEnd => Sys2Proof.Machine.execDroopBurstEnd s
  | .thermalFatal sensor => Sys2Proof.Machine.execThermalFatal sensor s
  | .hardwareTrip => Sys2Proof.Machine.execHardwareTrip s
  | .hbmThrottleOn celsius => Sys2Proof.Machine.execHbmThrottleOn celsius s
  | .hbmThrottleOff celsius => Sys2Proof.Machine.execHbmThrottleOff celsius s
  | .frameHeadReady port agePs head => Sys2Proof.Machine.execFrameHeadReady port agePs head s
  | .rxFrameEnd port e => Sys2Proof.Machine.execRxFrameEnd port e s
  | .verdictArrival frame => Sys2Proof.Machine.execVerdictArrival frame s
  | .searchLaunch h profile dest => Sys2Proof.Machine.execSearchLaunch h profile dest s
  | .searchResult h reg fault => Sys2Proof.Machine.execSearchResult h reg fault s
  | .aluNop h a => Sys2Proof.Machine.execAluNop h a s
  | .aluMov h a => Sys2Proof.Machine.execAluMov h a s
  | .aluAdd h a => Sys2Proof.Machine.execAluAdd h a s
  | .aluSub h a => Sys2Proof.Machine.execAluSub h a s
  | .aluAnd h a => Sys2Proof.Machine.execAluAnd h a s
  | .aluOr h a => Sys2Proof.Machine.execAluOr h a s
  | .aluXor h a => Sys2Proof.Machine.execAluXor h a s
  | .aluShl h a => Sys2Proof.Machine.execAluShl h a s
  | .aluShr h a => Sys2Proof.Machine.execAluShr h a s
  | .osum h a => Sys2Proof.Machine.execOsum h a s
  | .ceq h a => Sys2Proof.Machine.execCeq h a s
  | .cne h a => Sys2Proof.Machine.execCne h a s
  | .cltu h a => Sys2Proof.Machine.execCltu h a s
  | .cgeu h a => Sys2Proof.Machine.execCgeu h a s
  | .tbit h a => Sys2Proof.Machine.execTbit h a s
  | .actionNone h a => Sys2Proof.Machine.execActionNone h a s
  | .forward h a => Sys2Proof.Machine.execForward h a s
  | .mcast h a => Sys2Proof.Machine.execMcast h a s
  | .trap h a => Sys2Proof.Machine.execTrap h a s
  | .discard h a => Sys2Proof.Machine.execDiscard h a s
  | .recirc h a => Sys2Proof.Machine.execRecirc h a s
  | .count h a => Sys2Proof.Machine.execCount h a s
  | .police h a => Sys2Proof.Machine.execPolice h a s
  | .mirror h a => Sys2Proof.Machine.execMirror h a s
  | .setEgress h a => Sys2Proof.Machine.execSetEgress h a s
  | .setEmit h a => Sys2Proof.Machine.execSetEmit h a s
  | .sample h a => Sys2Proof.Machine.execSample h a s
  | .timestamp h a => Sys2Proof.Machine.execTimestamp h a s
  | .ioam h a => Sys2Proof.Machine.execIoam h a s
  | .flow h a => Sys2Proof.Machine.execFlow h a s
  | .factoryAction h a => Sys2Proof.Machine.execFactoryAction h a s
  | .replicationJobStart slice => Sys2Proof.Machine.execReplicationJobStart slice s
  | .copyTxStart copy => Sys2Proof.Machine.execCopyTxStart copy s
  | .copyTxEnd copy => Sys2Proof.Machine.execCopyTxEnd copy s
  | .gateOverrun queue => Sys2Proof.Machine.execGateOverrun queue s
  | .rackOutComplete copy => Sys2Proof.Machine.execRackOutComplete copy s
  | .rackReturn fault cell => Sys2Proof.Machine.execRackReturn fault cell s
  | .recircIntakeMove slice => Sys2Proof.Machine.execRecircIntakeMove slice s
  | .linkUp port => Sys2Proof.Machine.execLinkUp port s
  | .pfcHoldExpiry port cls => Sys2Proof.Machine.execPfcHoldExpiry port cls s
  | .pfcRefresh port cls => Sys2Proof.Machine.execPfcRefresh port cls s
  | .preemptVerifySend port => Sys2Proof.Machine.execPreemptVerifySend port s
  | .preemptVerifyResponse port => Sys2Proof.Machine.execPreemptVerifyResponse port s
  | .lpiTxEntry port => Sys2Proof.Machine.execLpiTxEntry port s
  | .lpiTxExit port => Sys2Proof.Machine.execLpiTxExit port s
  | .laneSignalDetect lane present => Sys2Proof.Machine.execLaneSignalDetect lane present s
  | .laneLock r => Sys2Proof.Machine.execLaneLock r s
  | .laneLockLost r cdrFell alignFell => Sys2Proof.Machine.execLaneLockLost r cdrFell alignFell s
  | .relockTimeout lane => Sys2Proof.Machine.execRelockTimeout lane s
  | .adaptWindow lane w => Sys2Proof.Machine.execAdaptWindow lane w s
  | .errorMonitorWindow lane corrected uncorrectable => Sys2Proof.Machine.execErrorMonitorWindow lane corrected uncorrectable s
  | .adaptSnapshot lane => Sys2Proof.Machine.execAdaptSnapshot lane s
  | .laneSleep lane tx depth => Sys2Proof.Machine.execLaneSleep lane tx depth s
  | .laneWake lane tx => Sys2Proof.Machine.execLaneWake lane tx s
  | .bridgeCheckWord stave dir group failing => Sys2Proof.Machine.execBridgeCheckWord stave dir group failing s
  | .read q => Sys2Proof.Machine.execRead q s
  | .write q => Sys2Proof.Machine.execWrite q s
  | .describe q => Sys2Proof.Machine.execDescribe q s
  | .domainRead q => Sys2Proof.Machine.execDomainRead q s
  | .domainBegin q => Sys2Proof.Machine.execDomainBegin q s
  | .domainSegment q => Sys2Proof.Machine.execDomainSegment q s
  | .domainEnd q => Sys2Proof.Machine.execDomainEnd q s
  | .windowRead q => Sys2Proof.Machine.execWindowRead q s
  | .windowClose q => Sys2Proof.Machine.execWindowClose q s
  | .domainWriteTimeout controller => Sys2Proof.Machine.execDomainWriteTimeout controller s
  | .functionLevelReset => Sys2Proof.Machine.execFunctionLevelReset s
  | .hostBadWrite bar offset size value => Sys2Proof.Machine.execHostBadWrite bar offset size value s
  | .registerWrite bar offset size value => Sys2Proof.Machine.execRegisterWrite bar offset size value s
  | .grantWrite r grant sub value => Sys2Proof.Machine.execGrantWrite r grant sub value s
  | .keyWrite r controller slotB key => Sys2Proof.Machine.execKeyWrite r controller slotB key s
  | .beacon => Sys2Proof.Machine.execBeacon s
  | .enable r value => Sys2Proof.Machine.execEnable r value s
  | .checkComplete => Sys2Proof.Machine.execCheckComplete s
  | .eventFrameCoalesced controller source => Sys2Proof.Machine.execEventFrameCoalesced controller source s
  | .commit r value => Sys2Proof.Machine.execCommit r value s
  | .commitCheckingEnd => Sys2Proof.Machine.execCommitCheckingEnd s
  | .commitPrepare => Sys2Proof.Machine.execCommitPrepare s
  | .copySweepEnd => Sys2Proof.Machine.execCopySweepEnd s
  | .discardStaging r value => Sys2Proof.Machine.execDiscardStaging r value s
  | .digestVerifyPass => Sys2Proof.Machine.execDigestVerifyPass s
  | .careLoadDone => Sys2Proof.Machine.execCareLoadDone s
  | .shadowPass differences => Sys2Proof.Machine.execShadowPass differences s
  | .spareCopyDone kind inst => Sys2Proof.Machine.execSpareCopyDone kind inst s
  | .agingPass => Sys2Proof.Machine.execAgingPass s
  | .contextPreempt c => Sys2Proof.Machine.execContextPreempt c s
  | .cellarhandNop context w => Sys2Proof.Machine.execCellarhandNop context w s
  | .cellarhandMov context w => Sys2Proof.Machine.execCellarhandMov context w s
  | .cellarhandAdd context w => Sys2Proof.Machine.execCellarhandAdd context w s
  | .cellarhandSub context w => Sys2Proof.Machine.execCellarhandSub context w s
  | .cellarhandAnd context w => Sys2Proof.Machine.execCellarhandAnd context w s
  | .cellarhandOr context w => Sys2Proof.Machine.execCellarhandOr context w s
  | .cellarhandXor context w => Sys2Proof.Machine.execCellarhandXor context w s
  | .cellarhandShl context w => Sys2Proof.Machine.execCellarhandShl context w s
  | .cellarhandShr context w => Sys2Proof.Machine.execCellarhandShr context w s
  | .cmp context w => Sys2Proof.Machine.execCmp context w s
  | .br context w => Sys2Proof.Machine.execBr context w s
  | .rdcnt context w => Sys2Proof.Machine.execRdcnt context w s
  | .rdpair context w => Sys2Proof.Machine.execRdpair context w s
  | .wrcnt context w => Sys2Proof.Machine.execWrcnt context w s
  | .rdent context w => Sys2Proof.Machine.execRdent context w s
  | .tsthit context w => Sys2Proof.Machine.execTsthit context w s
  | .rdbook context w => Sys2Proof.Machine.execRdbook context w s
  | .raiseUser context w => Sys2Proof.Machine.execRaiseUser context w s
  | .wait context w => Sys2Proof.Machine.execWait context w s
  | .endRoutine context w => Sys2Proof.Machine.execEndRoutine context w s
  | .appendRecord context w => Sys2Proof.Machine.execAppendRecord context w s
  | .factoryOperation context op commit => Sys2Proof.Machine.execFactoryOperation context op commit s
  | .journalCommit context => Sys2Proof.Machine.execJournalCommit context s
  | .ring channel value => Sys2Proof.Machine.execRing channel value s
  | .restart channel value => Sys2Proof.Machine.execRestart channel value s
  | .stop channel value => Sys2Proof.Machine.execStop channel value s
  | .siphonHeadWrite channel address => Sys2Proof.Machine.execSiphonHeadWrite channel address s
  | .siphonConsumedWrite channel value => Sys2Proof.Machine.execSiphonConsumedWrite channel value s
  | .domainArm r channel value => Sys2Proof.Machine.execDomainArm r channel value s
  | .descriptorFetch channel bytes => Sys2Proof.Machine.execDescriptorFetch channel bytes s
  | .descriptorCompletion channel bytes staging => Sys2Proof.Machine.execDescriptorCompletion channel bytes staging s
  | .readTimeout r => Sys2Proof.Machine.execReadTimeout r s
  | .cpuRxCopy channel => Sys2Proof.Machine.execCpuRxCopy channel s
  | .injectFrame channel => Sys2Proof.Machine.execInjectFrame channel s
  | .exportItem ring staging => Sys2Proof.Machine.execExportItem ring staging s
  | .harvestWrite staging => Sys2Proof.Machine.execHarvestWrite staging s
  | .busMasterEnableChange c => Sys2Proof.Machine.execBusMasterEnableChange c s
  | .clear r value => Sys2Proof.Machine.execClear r value s
  | .flowScan => Sys2Proof.Machine.execFlowScan s
  | .ipfixMessageSend => Sys2Proof.Machine.execIpfixMessageSend s
  | .timeStepNs r value => Sys2Proof.Machine.execTimeStepNs r value s
  | .ppsSeconds r value => Sys2Proof.Machine.execPpsSeconds r value s
  | .timeRelease r value => Sys2Proof.Machine.execTimeRelease r value s
  | .timeCapture r value => Sys2Proof.Machine.execTimeCapture r value s
  | .ppsInEdge => Sys2Proof.Machine.execPpsInEdge s
  | .ref10mLoss => Sys2Proof.Machine.execRef10mLoss s
  | .ref10mRestore => Sys2Proof.Machine.execRef10mRestore s
  | .ppsInLost => Sys2Proof.Machine.execPpsInLost s
  | .ppsOutPulse => Sys2Proof.Machine.execPpsOutPulse s
  | .rclkResume output => Sys2Proof.Machine.execRclkResume output s
  | .deltaRecord bytes => Sys2Proof.Machine.execDeltaRecord bytes s
  | .timeRecord bytes => Sys2Proof.Machine.execTimeRecord bytes s
  | .gaugePulse => Sys2Proof.Machine.execGaugePulse s
  | .gaugeHoldoverStart => Sys2Proof.Machine.execGaugeHoldoverStart s
  | .holdoverExceeded => Sys2Proof.Machine.execHoldoverExceeded s
  | .tapSilent => Sys2Proof.Machine.execTapSilent s
  | .gaugeIntervalBoundary => Sys2Proof.Machine.execGaugeIntervalBoundary s
  | .gaugeSeal r value => Sys2Proof.Machine.execGaugeSeal r value s
  | .gaugeParamWrite r sub data => Sys2Proof.Machine.execGaugeParamWrite r sub data s
  | .sealBreakAssert asserted => Sys2Proof.Machine.execSealBreakAssert asserted s
  | .gaugeCheckpoint => Sys2Proof.Machine.execGaugeCheckpoint s
  | .gaugeRestart cause sealUnreadable => Sys2Proof.Machine.execGaugeRestart cause sealUnreadable s
  | .gaugeStatusPublish => Sys2Proof.Machine.execGaugeStatusPublish s
  | .gaugeMirrorCycleEnd => Sys2Proof.Machine.execGaugeMirrorCycleEnd s
  | .powerCapW r value => Sys2Proof.Machine.execPowerCapW r value s
  | .joinEnable r value => Sys2Proof.Machine.execJoinEnable r value s
  | .hello m => Sys2Proof.Machine.execHello m s
  | .joinMirroringEnd roundCount entries objects => Sys2Proof.Machine.execJoinMirroringEnd roundCount entries objects s
  | .map m => Sys2Proof.Machine.execMap m s
  | .pacePlan m => Sys2Proof.Machine.execPacePlan m s
  | .book m => Sys2Proof.Machine.execBook m s
  | .prepare vintage => Sys2Proof.Machine.execPrepare vintage s
  | .prepared vintage => Sys2Proof.Machine.execPrepared vintage s
  | .arm vintage boundary => Sys2Proof.Machine.execArm vintage boundary s
  | .ack vintage => Sys2Proof.Machine.execAck vintage s
  | .go vintage => Sys2Proof.Machine.execGo vintage s
  | .abort vintage => Sys2Proof.Machine.execAbort vintage s
  | .ackTimeout => Sys2Proof.Machine.execAckTimeout s
  | .flipWithoutGo => Sys2Proof.Machine.execFlipWithoutGo s
  | .leave => Sys2Proof.Machine.execLeave s
  | .stripeReceived m => Sys2Proof.Machine.execStripeReceived m s
  | .stripeAckTimeout => Sys2Proof.Machine.execStripeAckTimeout s
  | .paceInMark m => Sys2Proof.Machine.execPaceInMark m s
  | .groupStatusClear v group value raised => Sys2Proof.Machine.execGroupStatusClear v group value raised s
  | .sourceOccWrite v source value => Sys2Proof.Machine.execSourceOccWrite v source value s
  | .groupEnableWrite v group value => Sys2Proof.Machine.execGroupEnableWrite v group value s
  | .retireRequest r value => Sys2Proof.Machine.execRetireRequest r value s
  | .unretireRequest r value => Sys2Proof.Machine.execUnretireRequest r value s
  | .retirementMapWrite failed => Sys2Proof.Machine.execRetirementMapWrite failed s
  | .scrubPass r => Sys2Proof.Machine.execScrubPass r s
  | .safeHoldQueueFlush => Sys2Proof.Machine.execSafeHoldQueueFlush s
  | .suppliesInRange => Sys2Proof.Machine.execSuppliesInRange s
  | .coreSupplyLost => Sys2Proof.Machine.execCoreSupplyLost s
  | .resetNFall => Sys2Proof.Machine.execResetNFall s
  | .resetNRise straps => Sys2Proof.Machine.execResetNRise straps s
  | .requestedResetHoldEnd => Sys2Proof.Machine.execRequestedResetHoldEnd s
  | .bootPhaseEnd b => Sys2Proof.Machine.execBootPhaseEnd b s
  | .imageRetry => Sys2Proof.Machine.execImageRetry s
  | .imageSlotProgrammed slotB readBack => Sys2Proof.Machine.execImageSlotProgrammed slotB readBack s
  | .rollbackAdvance r value => Sys2Proof.Machine.execRollbackAdvance r value s
  | .modeRequest r value => Sys2Proof.Machine.execModeRequest r value s
  | .drainLimitExpiry => Sys2Proof.Machine.execDrainLimitExpiry s
  | .recoveryComparisonEnd => Sys2Proof.Machine.execRecoveryComparisonEnd s
  | .careTestGo r value => Sys2Proof.Machine.execCareTestGo r value s
  | .busRequest r bus value => Sys2Proof.Machine.execBusRequest r bus value s
  | .busTransactionEnd bus result data => Sys2Proof.Machine.execBusTransactionEnd bus result data s
  | .extest shift => Sys2Proof.Machine.execExtest shift s
  | .idcode => Sys2Proof.Machine.execIdcode s
  | .samplePreload shift => Sys2Proof.Machine.execSamplePreload shift s
  | .extestPulse => Sys2Proof.Machine.execExtestPulse s
  | .extestTrain => Sys2Proof.Machine.execExtestTrain s
  | .bootStatus => Sys2Proof.Machine.execBootStatus s
  | .bypass => Sys2Proof.Machine.execBypass s
  | .localFault side present => Sys2Proof.Machine.execLocalFault side present s
  | .remoteFault side present => Sys2Proof.Machine.execRemoteFault side present s
  | .mgmtStatus link localFault remoteFault => Sys2Proof.Machine.execMgmtStatus link localFault remoteFault s
  | .corePll => Sys2Proof.Machine.execCorePll s
  | .supplyUndervoltage rail => Sys2Proof.Machine.execSupplyUndervoltage rail s
  | .firmwareSupervisionFault code => Sys2Proof.Machine.execFirmwareSupervisionFault code s

end Sys2Proof.Machine
end

