-- ==== Sys2Proof/WellFormed.lean ====
section
/-! DEFINITION. What makes a command well formed: each operand lies in the range that the spec gives what it names (ports,
lanes, slices, channels, event sources) and each field fits its width. -/

namespace Sys2Proof

/-- A port that frames arrive at: a front port, or the management port 0x840. -/
def portNumber (p : Nat) : Bool := decide (p < 512) || p = 0x840

/-- The mailbox exists: 4 of the kernel, 16 of user mode. -/
def Requester.wf : Requester → Bool
  | .kernel n tag => decide (n < 4) && decide (tag < 256)
  | .user n tag => decide (n < 16) && decide (tag < 256)
  | .tendril => true

/-- The fields of a request fit the mailbox registers of Table 3.4. -/
def Request.wf : Request → Bool
  | .mailbox kernel n tag _ _ addr length offset data =>
    decide (n < if kernel then 4 else 16) && decide (tag < 256) && decide (addr < 2 ^ 24) && decide (length < 2 ^ 32)
      && decide (offset < 2 ^ 32) && decide (data.length ≤ 256)
  | .tendril => true

/-- The path of an event register's write. -/
def EventVia.wf : EventVia → Bool
  | .bar0 => true
  | .book r => r.wf

/-- Twelve rails (Table 16.2). -/
def EpochMeasure.wf (m : EpochMeasure) : Bool := m.rails.length = 12

/-- A received frame holds at least its FCS. -/
def RxEnd.wf (e : RxEnd) : Bool := decide (4 ≤ e.bytes.length)

/-- The fields of an ALU slot fit their widths (R197). -/
def AluArgs.wf (a : AluArgs) : Bool :=
  decide (a.width < 4) && decide (a.dst < 512) && decide (a.srcA < 512) && decide (a.b < if a.bImm then 65536 else 512)

/-- The fields of an action slot fit their widths (R198). -/
def ActArgs.wf (a : ActArgs) : Bool := decide (a.pred < 32) && decide (a.arg < if a.aAddr then 512 else 4194304)

/-- The fields of a Cellarhand word fit their widths (Table 8.5). -/
def HandArgs.wf (w : HandArgs) : Bool :=
  decide (w.dst < 16) && decide (w.sa < 16) && decide (w.sb < 16) && decide (w.cond < 16) && decide (w.target < 8192)
    && decide (w.imm < 2 ^ 64)

/-- A factory operation names a store of Table 7.10. -/
def FactoryOp.wf : FactoryOp → Bool
  | .entryWrite store _ _ _ _ => decide (store < 4)
  | .entryMove store _ _ => decide (store < 4)
  | .restore store _ => decide (store < 4)
  | .bookWrite addr _ => decide (addr < 2 ^ 24)

/-- An adaptation window counts 4,096 symbols (R102). -/
def AdaptWindow.wf (w : AdaptWindow) : Bool := decide (w.received.length ≤ 4096) && w.received.all (· < 4)

/-- The digest of a HELLO has 32 bytes. -/
def HelloMsg.wf (m : HelloMsg) : Bool := m.firmware.length = 32

/-- A link of Table 3.1, with its codes of Table 3.3, and the sizes that its properties allow (R65). -/
def PciControl.wf (c : PciControl) : Bool :=
  decide (c.width < 4) && decide (3 ≤ c.rate) && decide (c.rate ≤ 6) && [128, 256, 512].contains c.payload
    && [128, 256, 512, 1024, 2048, 4096].contains c.readRequest

/-- A map names join lanes. -/
def MapMsg.wf (m : MapMsg) : Bool := m.lanes.all (fun l => decide (l < 256))

/-- A plan names an operating point. -/
def PacePlanMsg.wf (m : PacePlanMsg) : Bool := decide (m.op < 8)

/-- A message of the BOOK operation names an entry. -/
def BookMsg.wf : BookMsg → Bool
  | .request addr _ _ => decide (addr < 2 ^ 24)
  | .result code => decide (code < 65536)
  | .notice addr _ => decide (addr < 2 ^ 24)
  | .ready => true
  | .change _ => true

/-- A stripe's blocks come from lanes of the join, no lane twice, and hold 16 codewords each. -/
def Stripe.wf (m : Stripe) : Bool :=
  decide (m.blocks ≠ [] ∧ (m.blocks.map (·.1)).Nodup)
    && m.blocks.all (fun b => decide (b.1 < 256 ∧ b.2.length = 16) && b.2.all (fun w => w.all (fun v => decide (v < 2 ^ 5140))))

/-- A mark on PACE_IN. -/
def PaceMark.wf : PaceMark → Bool
  | .boundary t => decide (t.rate < 2 ^ 32)
  | .droop _ => true

/-- A Boot phase ends within the time that Boot has taken. -/
def BootReport.wf (b : BootReport) : Bool := b.retires.all (fun r => decide (r.1 < 256))

/-- A command is well formed. -/
def Instr.wf : Instr → Bool
  | .countedSlot _ => true
  | .skipSlot => true
  | .roundBoundary _ => true
  | .tapPeriodBoundary => true
  | .powerEpochBoundary m => m.wf
  | .setpointRequest => true
  | .setpointReached => true
  | .droopDetection => true
  | .droopBurstEnd => true
  | .thermalFatal _ => true
  | .hardwareTrip => true
  | .hbmThrottleOn _ => true
  | .hbmThrottleOff _ => true
  | .frameHeadReady port _ _ => decide (port < 512)
  | .rxFrameEnd port e => portNumber port && e.wf
  | .verdictArrival _ => true
  | .searchLaunch _ profile dest => decide (profile < 256) && decide (dest < 4)
  | .searchResult _ reg _ => decide (reg < 4)
  | .aluNop _ a => a.wf
  | .aluMov _ a => a.wf
  | .aluAdd _ a => a.wf
  | .aluSub _ a => a.wf
  | .aluAnd _ a => a.wf
  | .aluOr _ a => a.wf
  | .aluXor _ a => a.wf
  | .aluShl _ a => a.wf
  | .aluShr _ a => a.wf
  | .osum _ a => a.wf
  | .ceq _ a => a.wf
  | .cne _ a => a.wf
  | .cltu _ a => a.wf
  | .cgeu _ a => a.wf
  | .tbit _ a => a.wf
  | .actionNone _ a => a.wf
  | .forward _ a => a.wf
  | .mcast _ a => a.wf
  | .trap _ a => a.wf
  | .discard _ a => a.wf
  | .recirc _ a => a.wf
  | .count _ a => a.wf
  | .police _ a => a.wf
  | .mirror _ a => a.wf
  | .setEgress _ a => a.wf
  | .setEmit _ a => a.wf
  | .sample _ a => a.wf
  | .timestamp _ a => a.wf
  | .ioam _ a => a.wf
  | .flow _ a => a.wf
  | .factoryAction _ a => a.wf
  | .replicationJobStart slice => decide (slice < 32)
  | .copyTxStart _ => true
  | .copyTxEnd _ => true
  | .gateOverrun queue => decide (queue < 8192)
  | .rackOutComplete _ => true
  | .rackReturn _ cell => decide (cell < 64)
  | .recircIntakeMove slice => decide (slice < 32)
  | .linkUp port => decide (port < 512)
  | .pfcHoldExpiry port cls => decide (port < 512) && decide (cls < 8)
  | .pfcRefresh port cls => decide (port < 512) && decide (cls < 8)
  | .preemptVerifySend port => decide (port < 512)
  | .preemptVerifyResponse port => decide (port < 512)
  | .lpiTxEntry port => decide (port < 512)
  | .lpiTxExit port => decide (port < 512)
  | .laneSignalDetect lane _ => decide (lane < 512)
  | .laneLock r => decide (r.lane < 512)
  | .laneLockLost r _ _ => decide (r.lane < 512)
  | .relockTimeout lane => decide (lane < 512)
  | .adaptWindow lane w => decide (lane < 512) && w.wf
  | .errorMonitorWindow lane _ _ => decide (lane < 512)
  | .adaptSnapshot lane => decide (lane < 512)
  | .laneSleep lane _ depth => decide (lane < 512) && decide (1 ≤ depth ∧ depth ≤ 2)
  | .laneWake lane _ => decide (lane < 512)
  | .bridgeCheckWord stave dir group _ => decide (stave < 8) && decide (dir < 2) && decide (group < 32)
  | .read q => q.wf
  | .write q => q.wf
  | .describe q => q.wf
  | .domainRead q => q.wf
  | .domainBegin q => q.wf
  | .domainSegment q => q.wf
  | .domainEnd q => q.wf
  | .windowRead q => q.wf
  | .windowClose q => q.wf
  | .domainWriteTimeout controller => decide (controller < 16)
  | .functionLevelReset => true
  | .hostBadWrite bar _ size _ => (bar = 0 || bar = 2 || bar = 4) && decide (1 ≤ size ∧ size ≤ 256)
  | .registerWrite bar _ size _ => (bar = 0 || bar = 2 || bar = 4) && decide (1 ≤ size ∧ size ≤ 256)
  | .grantWrite r grant sub _ => r.wf && decide (grant < 128) && decide (sub < 256)
  | .keyWrite r controller _ _ => r.wf && decide (controller < 16)
  | .beacon => true
  | .enable r _ => r.wf
  | .checkComplete => true
  | .eventFrameCoalesced controller source => decide (controller < 16) && decide (source < 1024)
  | .commit r _ => r.wf
  | .commitCheckingEnd => true
  | .commitPrepare => true
  | .copySweepEnd => true
  | .discardStaging r _ => r.wf
  | .digestVerifyPass => true
  | .careLoadDone => true
  | .shadowPass _ => true
  | .spareCopyDone _ _ => true
  | .agingPass => true
  | .contextPreempt c => decide (c.context < 4)
  | .cellarhandNop context w => decide (context < 4) && w.wf
  | .cellarhandMov context w => decide (context < 4) && w.wf
  | .cellarhandAdd context w => decide (context < 4) && w.wf
  | .cellarhandSub context w => decide (context < 4) && w.wf
  | .cellarhandAnd context w => decide (context < 4) && w.wf
  | .cellarhandOr context w => decide (context < 4) && w.wf
  | .cellarhandXor context w => decide (context < 4) && w.wf
  | .cellarhandShl context w => decide (context < 4) && w.wf
  | .cellarhandShr context w => decide (context < 4) && w.wf
  | .cmp context w => decide (context < 4) && w.wf
  | .br context w => decide (context < 4) && w.wf
  | .rdcnt context w => decide (context < 4) && w.wf
  | .rdpair context w => decide (context < 4) && w.wf
  | .wrcnt context w => decide (context < 4) && w.wf
  | .rdent context w => decide (context < 4) && w.wf
  | .tsthit context w => decide (context < 4) && w.wf
  | .rdbook context w => decide (context < 4) && w.wf
  | .raiseUser context w => decide (context < 4) && w.wf
  | .wait context w => decide (context < 4) && w.wf
  | .endRoutine context w => decide (context < 4) && w.wf
  | .appendRecord context w => decide (context < 4) && w.wf
  | .factoryOperation context op _ => decide (context < 4) && op.wf
  | .journalCommit context => decide (context < 4)
  | .ring channel _ => decide (channel < 1024)
  | .restart channel _ => decide (channel < 1024)
  | .stop channel _ => decide (channel < 1024)
  | .siphonHeadWrite channel _ => decide (channel < 1024)
  | .siphonConsumedWrite channel _ => decide (channel < 1024)
  | .domainArm r channel _ => r.wf && decide (channel < 1024)
  | .descriptorFetch channel _ => decide (channel < 1024)
  | .descriptorCompletion channel _ _ => decide (channel < 1024)
  | .readTimeout r => decide (r.channel < 1024)
  | .cpuRxCopy channel => decide (channel < 1024)
  | .injectFrame channel => decide (channel < 1024)
  | .exportItem r _ => decide (r < 3)
  | .harvestWrite _ => true
  | .busMasterEnableChange c => c.wf
  | .clear r _ => r.wf
  | .flowScan => true
  | .ipfixMessageSend => true
  | .timeStepNs r _ => r.wf
  | .ppsSeconds r _ => r.wf
  | .timeRelease r _ => r.wf
  | .timeCapture r _ => r.wf
  | .ppsInEdge => true
  | .ref10mLoss => true
  | .ref10mRestore => true
  | .ppsInLost => true
  | .ppsOutPulse => true
  | .rclkResume output => decide (output < 2)
  | .deltaRecord _ => true
  | .timeRecord _ => true
  | .gaugePulse => true
  | .gaugeHoldoverStart => true
  | .holdoverExceeded => true
  | .tapSilent => true
  | .gaugeIntervalBoundary => true
  | .gaugeSeal r _ => r.wf
  | .gaugeParamWrite r sub _ => r.wf && decide (sub < 256)
  | .sealBreakAssert _ => true
  | .gaugeCheckpoint => true
  | .gaugeRestart _ _ => true
  | .gaugeStatusPublish => true
  | .gaugeMirrorCycleEnd => true
  | .powerCapW r _ => r.wf
  | .joinEnable r _ => r.wf
  | .hello m => m.wf
  | .joinMirroringEnd _ _ _ => true
  | .map m => m.wf
  | .pacePlan m => m.wf
  | .book m => m.wf
  | .prepare _ => true
  | .prepared _ => true
  | .arm _ _ => true
  | .ack _ => true
  | .go _ => true
  | .abort _ => true
  | .ackTimeout => true
  | .flipWithoutGo => true
  | .leave => true
  | .stripeReceived m => m.wf
  | .stripeAckTimeout => true
  | .paceInMark m => m.wf
  | .groupStatusClear v group _ raised => v.wf && decide (group < 64) && raised.all (fun x => x.1 < 16 && decide (x.2 < 2 ^ 32))
  | .sourceOccWrite v source _ => v.wf && decide (source < 1024)
  | .groupEnableWrite v group _ => v.wf && decide (group < 64)
  | .retireRequest r _ => r.wf
  | .unretireRequest r _ => r.wf
  | .retirementMapWrite _ => true
  | .scrubPass _ => true
  | .safeHoldQueueFlush => true
  | .suppliesInRange => true
  | .coreSupplyLost => true
  | .resetNFall => true
  | .resetNRise straps => decide (straps < 16)
  | .requestedResetHoldEnd => true
  | .bootPhaseEnd b => b.wf
  | .imageRetry => true
  | .imageSlotProgrammed _ _ => true
  | .rollbackAdvance r _ => r.wf
  | .modeRequest r _ => r.wf
  | .drainLimitExpiry => true
  | .recoveryComparisonEnd => true
  | .careTestGo r _ => r.wf
  | .busRequest r bus _ => r.wf && decide (bus < 18)
  | .busTransactionEnd bus _ _ => decide (bus < 18)
  | .extest _ => true
  | .idcode => true
  | .samplePreload _ => true
  | .extestPulse => true
  | .extestTrain => true
  | .bootStatus => true
  | .bypass => true
  | .localFault side _ => decide (side.port < 512)
  | .remoteFault side _ => decide (side.port < 512)
  | .mgmtStatus _ _ _ => true
  | .corePll => true
  | .supplyUndervoltage _ => true
  | .firmwareSupervisionFault _ => true

end Sys2Proof
end

