-- ==== Sys2Proof/Safety.lean ====
section
/-! DEFINITION. The terms in which statements about the block are made. -/

namespace Sys2Proof.Machine

open Sys2Proof

/-- The state with its block replaced, at the end of a command's cycle; the queue of waiting commands stays. -/
def State.put (s : State) (d : Device) : State := { s with dev := d.endCycle }

/-- No cycle is under way, as between any two commands (log entry 178). -/
abbrev State.Between (s : State) : Prop := s.dev.cycle = {}

/-- The hardware trip has not stopped the Core and Stave clocks (R411). -/
abbrev State.Runs (s : State) : Prop := s.dev.board.tripped = false ∧ s.Between

/-- No round boundary is due: an access takes effect at once (R489). -/
abbrev State.Accesses (s : State) : Prop := s.Runs ∧ s.dev.boundaryDue = false

/-- No request waits before the next (R71). -/
abbrev Device.Quiet (d : Device) : Prop := d.tendrilQueue = [] ∧ d.doorbells = [] ∧ d.requestWaits = false

/-- The commands that are accesses: of the host, of a controller or of the partner (R489). -/
def accessCommand : Instr → Bool
  | .read _ | .write _ | .describe _ | .domainRead _ | .domainBegin _ | .domainSegment _ | .domainEnd _ | .windowRead _
  | .windowClose _ | .grantWrite .. | .keyWrite .. | .enable .. | .commit .. | .discardStaging .. | .clear .. | .timeStepNs ..
  | .ppsSeconds .. | .timeRelease .. | .timeCapture .. | .gaugeSeal .. | .powerCapW .. | .joinEnable .. | .retireRequest ..
  | .unretireRequest .. | .rollbackAdvance .. | .modeRequest .. | .careTestGo .. | .domainArm .. | .gaugeParamWrite ..
  | .busRequest .. | .groupStatusClear .. | .sourceOccWrite .. | .groupEnableWrite .. | .ring .. | .restart .. | .stop ..
  | .siphonHeadWrite .. | .siphonConsumedWrite .. | .registerWrite .. | .hostBadWrite .. | .book _ => true
  | _ => false

/-- A write of a value of the entry's type, in the order of its carrier; none where no such entry exists. -/
def spell (a : Addr) (v : Nat) : Option (Addr × (Bool → List Byte)) :=
  (findRow a).map (fun r => (a, fun little => valueBytes r.ty little v))

/-- The commands that are a write of one entry: who sends it, the entry, and the bytes in either order. -/
def entryWrite : Instr → Option (Requester × Addr × (Bool → List Byte))
  | .grantWrite r g s v => if g < 128 then (spell (entry (0x1180 + g) s) v).map (r, ·) else none
  | .keyWrite r c b k => if c < 16 then some (r, if b then E.KEY_B c else E.KEY_A c, fun _ => k) else none
  | .enable r v => (spell E.ENABLE v).map (r, ·)
  | .commit r v => (spell E.COMMIT v).map (r, ·)
  | .discardStaging r v => (spell E.DISCARD_STAGING v).map (r, ·)
  | .clear r v => (spell E.CLEAR v).map (r, ·)
  | .timeStepNs r v => (spell E.TIME_STEP_NS v).map (r, ·)
  | .ppsSeconds r v => (spell E.PPS_SECONDS v).map (r, ·)
  | .timeRelease r v => (spell E.TIME_RELEASE v).map (r, ·)
  | .timeCapture r v => (spell E.TIME_CAPTURE v).map (r, ·)
  | .gaugeSeal r v => (spell E.GAUGE_SEAL v).map (r, ·)
  | .gaugeParamWrite r s b => some (r, entry 0x9010 s, fun _ => b)
  | .powerCapW r v => (spell E.POWER_CAP_W v).map (r, ·)
  | .joinEnable r v => (spell E.JOIN_ENABLE v).map (r, ·)
  | .retireRequest r v => (spell E.RETIRE_REQUEST v).map (r, ·)
  | .unretireRequest r v => (spell E.UNRETIRE_REQUEST v).map (r, ·)
  | .rollbackAdvance r v => (spell E.ROLLBACK_ADVANCE v).map (r, ·)
  | .modeRequest r v => (spell E.MODE_REQUEST v).map (r, ·)
  | .careTestGo r v => (spell E.CARE_TEST_GO v).map (r, ·)
  | .domainArm r c v => if c < 1024 then (spell (E.DOMAIN_ARM c) v).map (r, ·) else none
  | .busRequest r b v => if b < 18 then (spell (entry (0x2E00 + b) 2) v).map (r, ·) else none
  | _ => none

/-- A write of a value by a principal passes every test (R491): the entry is no joint one of a pair, no seal refuses it, the
principal may write it, and the value, with no reserved bit set, is one that the entry takes in this phase. -/
def Device.LetsThrough (d : Device) (p : Nat) (a : Addr) (v : Nat) : Prop :=
  d.isJoint a = false ∧ d.sealRefuses a (v = 0) = false ∧ d.accessCode p a true = Res.OK ∧
    ∃ r, findRow a = some r ∧ v < 2 ^ (8 * r.ty.size) ∧ (r.kept = 0 ∨ v &&& r.kept = v) ∧ r.valueOk v = true ∧
      d.ownValueOk a v = true ∧ d.writeBusy r = false

/-- The bytes of a value on a mailbox's page; none where the entry does not exist. -/
def valueSpelled (a : Addr) (v : Nat) : List Byte := ((spell a v).map (fun x => x.2 true)).getD []

/-- A mailbox that takes a doorbell: registers are reachable, no request of it runs, and none waits before it. -/
def Device.takesDoorbell (d : Device) (m : Nat) : Prop :=
  d.mode ≠ .off ∧ d.board.pci.d3hot = false ∧ d.Quiet ∧ d.ready = true ∧ d.mailboxBusy m = false ∧ (4 ≤ m → d.granted (m - 4) = true)

/-- The registers of a mailbox's page as a request leaves them, with the doorbell (Table 3.4, R69). -/
def Device.latched (d : Device) (m opcode tag : Nat) (current windowWrite : Bool) (addr length offset : Nat) (data : List Byte) :
    Device :=
  let d := d.setBar (mailboxPage m) (opcode + tag % 256 * 256 + current.toNat * 2 ^ 16 + windowWrite.toNat * 2 ^ 17)
  let d := ((d.setBar (mailboxPage m + 4) (addr % 2 ^ 24)).setBar (mailboxPage m + 8) (length % 2 ^ 32)).setBar
    (mailboxPage m + 12) (offset % 2 ^ 32)
  d.storeWords (mailboxPage m + 0x100) (slice data 0 256)

/-- The same while its operation runs: BUSY is 1 and DONE 0. -/
def Device.running (d : Device) (m : Nat) : Device := d.setBar (mailboxPage m + 0x14) (setBits (d.bar (mailboxPage m + 0x14)) 0 2 1)

/-- The result, the response and the device of an operation, delivered to its mailbox, unless the request must wait. -/
def deliver (m tag : Nat) (x : Nat × List Byte × Device) : Device :=
  if x.1 = Res.PENDING then x.2.2 else x.2.2.completeMailbox m tag x.1 x.2.1

/-- `n` steps, ending early at a fault or a refusal. -/
def steps : Nat → State → Host.Outcome State Fault Refusal
  | 0, s => .next s
  | n + 1, s =>
    match step s with
    | .next t => steps n t
    | .fault f => .fault f
    | .refused r => .refused r

/-- The commands of the supplies and of RESET_N: they reach a device whose clocks the hardware trip has stopped. -/
def supplyCommand : Instr → Bool
  | .suppliesInRange => true
  | .coreSupplyLost => true
  | .resetNFall => true
  | _ => false

/-- The device is as `r` was, with its clocks stopped (R411), but for the Gauge, the test access port and what has been sent. -/
def Frozen (r d : Device) : Prop :=
  d.board.tripped = true ∧ d.cycle = {} ∧
    d = { r with gauge := d.gauge, sent := d.sent, draws := d.draws
                 board := { r.board with boundary := d.board.boundary, driven := d.board.driven, ir := d.board.ir } }

/-- The clocks are stopped and no command of the supplies or of RESET_N waits. -/
def FrozenRun (r : Device) (s : State) : Prop := Frozen r s.dev ∧ ∀ c ∈ s.pending, supplyCommand c = false

end Sys2Proof.Machine
end

