-- ==== Sys2Proof/Certificates/Slice0/Obligations.lean ====
section
/-! DEFINITION. The statements about the block, one definition each. -/

open Sys2Proof Sys2Proof.Machine


/-- Every step takes the command at the front of the queue and carries it out on the state with the queue's rest. -/
def Obligations.StepRunsFrontCommand : Prop :=
  ∀ (c : Instr) (s : State), step { s with pending := c :: s.pending } = exec c s

/-- A queue without a FACTORY_ACTION drains: after as many steps as it holds commands, each has been carried out, first
in, first out, and the block idles (the model's choice, log entry 1). -/
def Obligations.QueueDrains : Prop :=
  ∀ s : State, (∀ c ∈ s.pending, ∀ h a, c ≠ .factoryAction h a) →
    ∃ t, steps s.pending.length s = .next t ∧ t.pending = [] ∧ ∀ n, steps (s.pending.length + n) s = .next t

/-- Every command completes, but for an action of the factory region that its header takes (R198), which is refused by
name; no command faults, and none touches the queue of those that wait. -/
def Obligations.EveryCommandAnswers : Prop :=
  ∀ (c : Instr) (s : State),
    (∃ d, exec c s = .next (s.put d)) ∨
      (exec c s = .refused .factoryActionUnspecified ∧ ∃ h a x, c = .factoryAction h a ∧ s.dev.header? h = some x ∧
        actTaken x a = true)

/-- The block right after reset (R42, R459): the mode Reset, READY 0, every entry and every object at its default in every
copy, no frame, no open write and no command waiting. An entry for which the Cellar Book gives no default reads the
value that the model names (log entry 4). -/
def Obligations.ResetState : Prop :=
  let s := State.reset
  s.pending = [] ∧ s.Runs ∧ s.dev.mode = .reset ∧ s.dev.ready = false ∧ s.dev.rd E.VINTAGE_CURRENT = 0 ∧ s.dev.parity = 0 ∧
    (∀ a, s.dev.rd a = defaultOf a ∧ s.dev.rdp 0 a = defaultOf a ∧ s.dev.rdp 1 a = defaultOf a) ∧
    (∀ a, s.dev.obj a = defaultObject a) ∧ s.dev.headers = [] ∧ s.dev.frames = [] ∧ s.dev.queued = [] ∧ s.dev.cells = [] ∧
    s.dev.writes = [] ∧ s.dev.tendrilQueue = [] ∧ s.dev.commit = .idle

/-- The hardware trip (R411) stops every Core and Stave clock: whatever commands follow, but those of the supplies and of
RESET_N, every step leaves the device as it was, except the Gauge, whose die is not affected, and the test access
port. -/
def Obligations.TripFreezesTheCore : Prop :=
  ∀ (r : Device) (s t : State), FrozenRun r s → step s = .next t → FrozenRun r t

/-- A hardware trip in any mode but Off starts that freeze, with the device that it met as what is kept. -/
def Obligations.TripStartsFreeze : Prop :=
  ∀ s : State, s.Runs → s.dev.mode ≠ .off → (∀ c ∈ s.pending, supplyCommand c = false) →
    ∃ t, exec .hardwareTrip s = .next t ∧
      FrozenRun { s.dev with board := { s.dev.board with tripped := true } } t ∧ t.dev.bk = s.dev.bk ∧ t.dev.gauge = s.dev.gauge

/-- ALU slots (Table 8.3): every header that stands in a stage takes the result of an operation 0x1 to 0x9 into the bytes
from DST up, and of a compare into the predicate DST, from the operands as they stood at the start of the stage;
nothing else of the block changes. A slot that no word may hold changes nothing (log entry 22). -/
def Obligations.AluSlots : Prop :=
  (∀ (s : State) (h : Nat) (x : Header) (a : AluArgs), s.Runs → s.dev.header? h = some x →
     (∀ (op : Nat) (c : Nat → AluArgs → Instr) (value : Nat → Nat → Nat → Nat),
       (op, c, value) ∈ ([(1, .aluMov, fun _ _ b => b), (2, .aluAdd, fun _ a b => a + b),
         (3, .aluSub, fun w a b => a + 2 ^ (8 * w) - b % 2 ^ (8 * w)), (4, .aluAnd, fun _ a b => a &&& b),
         (5, .aluOr, fun _ a b => a ||| b), (6, .aluXor, fun _ a b => a ^^^ b),
         (7, .aluShl, fun w a b => a * 2 ^ (b % (8 * w))), (8, .aluShr, fun w a b => a / 2 ^ (b % (8 * w))),
         (9, .osum, fun _ a b => if a + b < 65536 then a + b else a + b - 65535)]
           : List (Nat × (Nat → AluArgs → Instr) × (Nat → Nat → Nat → Nat))) →
       exec (c h a) s = .next (if aluOk op a then
         s.put (s.dev.modPass h (fun p => p.setBytes a.dst
           (beBytes (widthOf a.width) (value (widthOf a.width) (aluA x.p a) (aluB x.p a)))))
         else s)) ∧
     exec (.aluNop h a) s = .next s) ∧
  (∀ (s : State) (h : Nat) (x : Header) (a : AluArgs), s.Runs → s.dev.header? h = some x →
     ∀ (op : Nat) (c : Nat → AluArgs → Instr) (holds : Nat → Nat → Bool),
       (op, c, holds) ∈ ([(0xA, .ceq, fun a b => a = b), (0xB, .cne, fun a b => a ≠ b), (0xC, .cltu, fun a b => a < b),
         (0xD, .cgeu, fun a b => b ≤ a), (0xE, .tbit, fun v b => v.testBit (b % (8 * widthOf a.width)))]
           : List (Nat × (Nat → AluArgs → Instr) × (Nat → Nat → Bool))) →
       exec (c h a) s = .next (if aluOk op a then
         s.put (s.dev.modPass h (fun p => { p with preds := setBit p.preds a.dst (holds (aluA x.p a) (aluB x.p a)) }))
         else s))

/-- The bytes that words may not write keep their values, and so do all bytes outside the destination (R195): after an ALU
slot that writes bytes, each of the 512 operand bytes reads the result's byte where it lies in the destination and
words may write it, and what it read before everywhere else. -/
def Obligations.AluWritesOnlyItsDestination : Prop :=
  ∀ (s : State) (h : Nat) (x : Header) (a : AluArgs) (op : Nat) (c : Nat → AluArgs → Instr), s.Runs →
    s.dev.header? h = some x → aluOk op a →
    (op, c) ∈ ([(1, .aluMov), (2, .aluAdd), (3, .aluSub), (4, .aluAnd), (5, .aluOr), (6, .aluXor), (7, .aluShl),
      (8, .aluShr), (9, .osum)] : List (Nat × (Nat → AluArgs → Instr))) →
    ∃ t y, exec (c h a) s = .next t ∧ t.dev.header? h = some y ∧ y.p.preds = x.p.preds ∧
      ∀ k, k < 512 → byteAt y.p.bytes k =
        if a.dst ≤ k ∧ k < a.dst + widthOf a.width ∧ (k < 384 ∨ k = 388 ∨ (390 ≤ k ∧ k ≤ 403) ∨ (426 ≤ k ∧ k ≤ 447)) then
          aluResult op (widthOf a.width) (aluA x.p a) (aluB x.p a) / 256 ^ (a.dst + widthOf a.width - 1 - k) % 256
        else byteAt x.p.bytes k

/-- The actions that set the disposition (Table 8.4), of a slot whose condition holds: FORWARD names a port and a class,
or becomes a discard with BAD_PORT where the number is no target: outside an Assemblage, a front port that exists in the
copies of the frame's parity (R49), or the management port; MCAST names a group and a class; TRAP takes a reason below 16 as 16; DISCARD, of both pipelines,
carries its program code; RECIRC. Nothing else changes. -/
def Obligations.DispositionActions : Prop :=
  (∀ (s : State) (h : Nat) (x : Header) (a : ActArgs), s.Runs → s.dev.header? h = some x → actTaken x a →
     let v := actValue x.p a
     let put (z : Disp) : Host.Outcome State Fault Refusal := .next (s.put (s.dev.modPass h (fun p => { p with disp := z })))
     (x.egress = false →
       exec (.forward h a) s = put (if s.dev.isTarget x.parity (v % 4096) then .forward (v % 4096) (v / 4096 % 8) else .badPort) ∧
       exec (.mcast h a) s = put (.mcast (v % 65536) (v / 65536 % 8)) ∧
       exec (.trap h a) s = put (.trap (if v % 256 < 16 then 16 else v % 256) (v.testBit 8)) ∧
       exec (.recirc h a) s = put .recirc) ∧
     exec (.discard h a) s =
       .next (s.put (s.dev.modPass h (fun p => { p with disp := .discard Reason.PROGRAM_DISCARD, code := v % 256 })))) ∧
  (∀ (d : Device) (q p : Nat), d.joined = false →
     (d.isTarget q p = true ↔ (p < 512 ∧ d.rdp q (E.PORT_WIDTH p) ≠ 0) ∨ p = 0x840))

/-- SET_EGRESS, SET_EMIT, TIMESTAMP and IOAM (Table 8.4), of a slot whose condition holds, and NONE: each sets its own
fields of the pass and nothing else; a SET_EMIT with a value outside its ranges takes no effect (R198). -/
def Obligations.EmissionActions : Prop :=
  ∀ (s : State) (h : Nat) (x : Header) (a : ActArgs), s.Runs → s.dev.header? h = some x → actTaken x a →
    let v := actValue x.p a
    let put (f : Pass → Pass) : Host.Outcome State Fault Refusal := .next (s.put (s.dev.modPass h f))
    exec (.actionNone h a) s = .next s ∧
    (x.egress = false → exec (.setEgress h a) s = put (fun p => { p with eprog := v % 1024 })) ∧
    exec (.setEmit h a) s = (if v % 512 ≤ 384 ∧ v / 512 % 1024 ≤ 512 then
        put (fun p => { p with emitLength := v % 512, bodyOffset := v / 512 % 1024 }) else .next s) ∧
    (x.egress = true → exec (.timestamp h a) s = put (fun p => { p with stamp := some (v % 2 ^ 22) }) ∧
      exec (.ioam h a) s = put (fun p => { p with ioam := some (v % 512) }))

/-- An action whose condition does not hold has no effect (R198). FACTORY_ACTION: the spec reserves the codes to words of
the factory region and gives none an effect, so a slot whose condition holds is refused by name. -/
def Obligations.UntakenAndFactoryActions : Prop :=
  (∀ (s : State) (h : Nat) (x : Header) (a : ActArgs), s.Between → s.dev.header? h = some x → actTaken x a = false →
     ∀ c ∈ ([.actionNone, .forward, .mcast, .trap, .discard, .recirc, .count, .police, .mirror, .setEgress, .setEmit,
         .sample, .timestamp, .ioam, .flow, .factoryAction] : List (Nat → ActArgs → Instr)), exec (c h a) s = .next s) ∧
  (∀ (s : State) (h : Nat) (x : Header) (a : ActArgs), s.Runs → s.dev.header? h = some x →
     exec (.factoryAction h a) s = if actTaken x a then .refused .factoryActionUnspecified else .next s)

/-- COUNT (R198): 1 is added to the unit of counter n; with BYTES, the frame's length to the next unit, at once or when
the frame's end arrives (R333). A unit outside every chain range is one counter of 32 bits, a chained one is a pair's
64-bit value (R330, R331), and a unit beyond the last counter is not updated (R332). POLICE, MIRROR, SAMPLE and FLOW:
what each does with the policer's colour (R199, R200), the limit of four MIRROR actions (R199), the sampler's choice
(R339) and the flow record (R346). -/
def Obligations.CountAndMeteringActions : Prop :=
  ((∀ (s : State) (h : Nat) (x : Header) (f : Frame) (a : ActArgs), s.Runs → s.dev.header? h = some x → actTaken x a →
     s.dev.frame? x.frame = some f →
     let v := actValue x.p a
     let n := v % 2097152
     let d := s.dev.addUnit n 0 1
     exec (.count h a) s = .next (s.put (if v.testBit 21 then
       (if f.ended then d.addAt (s.dev.unitAt n 1) f.len
         else { d with tel := { d.tel with bytesDue := d.tel.bytesDue ++ [(f.id, s.dev.unitAt n 1)] } }) else d))) ∧
   ∀ (d : Device) (u n : Nat),
     (d.chained u = false → u < 2097152 → d.addAt u n = d.setCounter u (d.counter u + n)) ∧
     (d.chained u = true → u % 2 = 0 → u + 1 < 2097152 →
       let v := (d.counter (u + 1) * 2 ^ 32 + d.counter u + n) % 2 ^ 64
       d.addAt u n = (d.setCounter u v).setCounter (u + 1) (v / 2 ^ 32)) ∧
     (2097152 ≤ u → d.addAt u n = d)) ∧
  (∀ (s : State) (h : Nat) (x : Header) (f : Frame) (a : ActArgs), s.Runs → s.dev.header? h = some x → actTaken x a →
     s.dev.frame? x.frame = some f →
     let v := actValue x.p a
     let d := s.dev
     (x.egress = false →
       exec (.police h a) s =
         let bytes := if x.p.known = false ∧ f.chargePort < 512 then d.rdp x.parity (E.PORT_MTU f.chargePort) else f.len
         let r := d.police x.parity (v % 2 ^ 18) f.id bytes x.p.known
         let e := if f.ended then r.1.creditPolicers f.id f.len else r.1
         .next (s.put (e.modPass h (fun p =>
           { p with colour := some r.2, policedRed := p.policedRed || (r.2 = 2 && v.testBit 18),
                    redPolicer := if r.2 = 2 && v.testBit 18 then v % 2 ^ 18 else p.redPolicer })))) ∧
     exec (.mirror h a) s = .next (s.put (d.actMirror x v)) ∧
     (x.p.mirrorCount ≥ 4 → exec (.mirror h a) s = .next (s.put (d.bump64 (E.MIRROR_EXCESS x.slice) 1))) ∧
     (x.p.mirrorCount < 4 → x.p.known = true → f.ended = false →
       d.rdp (x.vtag % 2) (E.MIRROR_POLICER (v % 64)) = 0xFFFFFFFF → (d.rdp (x.vtag % 2) (E.MIRROR_FLAGS (v % 64))).testBit 0 = false →
       exec (.mirror h a) s =
         let e := d.modPass h (fun p => { p with mirrorCount := p.mirrorCount + 1 })
         .next (s.put (if d.rdp (x.vtag % 2) (E.MIRROR_DEST (v % 64)) = 0xFFFF then e
           else (e.bump64 (E.MIRROR_COPIES (v % 64)) 1).modPass h (fun p => { p with mirrors := p.mirrors ++ [v % 64] })))) ∧
     (d.rdp x.parity (E.SAMPLER_CONTROL (v % 256)) / 256 % 256 ≠ 0 → exec (.sample h a) s = .next s) ∧
     (d.rdp x.parity (E.SAMPLER_CONTROL (v % 256)) / 256 % 256 = 0 →
       exec (.sample h a) s =
         let r := d.sampleEvent x.parity (v % 256)
         .next (s.put (if r.2 then r.1.modPass h (fun p => { p with sampled := p.sampled ++ [v % 256] }) else r.1))) ∧
     (d.flowProfile d.parity (v % 2 ^ 18) = none → exec (.flow h a) s = .next (s.put (d.bump64 E.FLOW_IGNORED 1))) ∧
     exec (.flow h a) s = .next (s.put (d.flow (v % 2 ^ 18) x.p.space f)))

/-- A launch within its budget joins the header's searches with the key of the present stage and is due after the
profile's latency (R163, R164); one of a frame whose VTAG has expired is not performed, and discards the frame at this check
point (R58); the result of a search is written into its register (R175, R196): the miss data where
no entry matches, the entry's data where one does and its check agrees; where it does not, the search fails as a miss with
VERIFY_FAIL, and its location is struck and restored (R183). -/
def Obligations.SearchCommands : Prop :=
  ∀ (s : State) (h : Nat) (x : Header), s.Runs → s.dev.header? h = some x →
    let d := s.dev
    let q := x.parity
    (∀ profile dest, profile < 256 → dest < 4 → x.p.vintageExpired = false →
      (x.egress = true ∨ d.expired.contains x.vtag = false) → x.p.searches = [] → x.p.stage + d.latency q profile ≤ (if x.egress then 11 else 23) →
      exec (.searchLaunch h profile dest) s = .next (s.put (d.modPass h (fun p => { p with searches := p.searches ++
        [{ profile := profile, key := d.searchKey q profile x.p.space, parity := q,
           care := d.mode = .recovery && d.rdp q (E.TARGET profile) = 4 && (d.rdp q (E.PROFILE_FLAGS profile)).testBit 1,
           reg := dest, due := x.p.stage + d.latency q profile }] })))) ∧
    (∀ profile dest, profile < 256 → dest < 4 → x.egress = false → x.p.vintageExpired = false →
      d.expired.contains x.vtag = true → exec (.searchLaunch h profile dest) s = .next (s.put (d.expire x))) ∧
    (∀ profile dest, x.p.vintageExpired = true → exec (.searchLaunch h profile dest) s = .next s) ∧
    (∀ reg y store, x.p.searches.find? (fun y => y.reg = reg) = some y → d.find y = (store, none, false, false) →
      exec (.searchResult h reg ⟨.none, 0⟩) s = .next (s.put ((d.bump64 (E.SEARCHES y.profile) 1).modPass h (fun p =>
        { p with res := modAt p.res y.reg (fun _ => resultWord false false false false y.care 0 0
                   (d.rdp y.parity (E.MISS_DATA y.profile))),
                 searches := p.searches.erase y })))) ∧
    (∀ reg y store e, x.p.searches.find? (fun y => y.reg = reg) = some y → d.find y = (store, some e, false, false) →
      e.check = entryCheck e.bytes → store ≠ 0 →
      exec (.searchResult h reg ⟨.none, 0⟩) s = .next (s.put (((d.bump64 (E.SEARCHES y.profile) 1).bump64
        (E.HITS y.profile) 1).modPass h (fun p =>
        { p with res := modAt p.res y.reg (fun _ => resultWord true false false false y.care (locationField store e)
                   (if store = 2 then maskPriority e else 0) (entryData store e.bytes)),
                 searches := p.searches.erase y })))) ∧
    (∀ reg y store e, x.p.searches.find? (fun y => y.reg = reg) = some y → d.find y = (store, some e, false, false) →
      e.check ≠ entryCheck e.bytes →
      exec (.searchResult h reg ⟨.none, 0⟩) s = .next (s.put (((d.bump64 (E.SEARCHES y.profile) 1).verifyFails y store
        e.loc).modPass h (fun p =>
        { p with res := modAt p.res y.reg (fun _ => resultWord false true false false y.care 0 0
                   (d.rdp y.parity (E.MISS_DATA y.profile))),
                 searches := p.searches.erase y }))))

/-- The measuring chain is out of reach of the Coopers' programs (R353): no ALU slot, no action that runs, and no search, at
its launch or its result, changes a tap adder, the tap link or the Gauge die. -/
def Obligations.CoopersLeaveTheMeasuringChain : Prop :=
  ∀ (s t : State) (h : Nat) (x : AluArgs) (a : ActArgs) (profile dest reg : Nat) (f : WordFault) (c : Instr),
    c ∈ [.aluNop h x, .aluMov h x, .aluAdd h x, .aluSub h x, .aluAnd h x, .aluOr h x, .aluXor h x, .aluShl h x, .aluShr h x,
      .osum h x, .ceq h x, .cne h x, .cltu h x, .cgeu h x, .tbit h x, .actionNone h a, .forward h a, .mcast h a, .trap h a,
      .discard h a, .recirc h a, .count h a, .police h a, .mirror h a, .setEgress h a, .setEmit h a, .sample h a,
      .timestamp h a, .ioam h a, .flow h a, .factoryAction h a, .searchLaunch h profile dest, .searchResult h reg f] →
    exec c s = .next t → t.dev.ports.taps = s.dev.ports.taps ∧ t.dev.tapLink = s.dev.tapLink ∧ t.dev.gauge = s.dev.gauge

/-- Words of the Cellarhand's arithmetic (Table 8.6): operations 0x00 to 0x09 write their result into the register DST, or
Z and C, of their context, and nothing else; a word with COMMIT then applies the context's journal (R214). -/
def Obligations.HandArithmetic : Prop :=
  ∀ (s : State) (c : Nat) (w : HandArgs), s.Runs → c < 4 → w.badFetch = false →
    let done (d : Device) : Host.Outcome State Fault Refusal := .next (s.put (if w.commit then d.commitJournal c else d))
    let reg (v : Context → Nat) : Device := s.dev.modContext c (fun x => { x with regs := modAt x.regs w.dst (fun _ => v x) })
    let a (x : Context) : Nat := x.regs.getD w.sa 0
    let b (x : Context) : Nat := if w.useImm then w.imm % 2 ^ 64 else x.regs.getD w.sb 0
    exec (.cellarhandNop c w) s = done s.dev ∧
    exec (.cellarhandMov c w) s = done (reg (fun x => b x % 2 ^ 64)) ∧
    exec (.cellarhandAdd c w) s = done (reg (fun x => (a x + b x) % 2 ^ 64)) ∧
    exec (.cellarhandSub c w) s = done (reg (fun x => (a x + 2 ^ 64 - b x % 2 ^ 64) % 2 ^ 64)) ∧
    exec (.cellarhandAnd c w) s = done (reg (fun x => (a x &&& b x) % 2 ^ 64)) ∧
    exec (.cellarhandOr c w) s = done (reg (fun x => (a x ||| b x) % 2 ^ 64)) ∧
    exec (.cellarhandXor c w) s = done (reg (fun x => (a x ^^^ b x) % 2 ^ 64)) ∧
    exec (.cellarhandShl c w) s = done (reg (fun x => a x * 2 ^ (b x % 64) % 2 ^ 64)) ∧
    exec (.cellarhandShr c w) s = done (reg (fun x => a x / 2 ^ (b x % 64) % 2 ^ 64)) ∧
    exec (.cmp c w) s = done (s.dev.modContext c (fun x => { x with z := a x = b x, c := a x < b x }))

/-- Words of the Cellarhand that read (Table 8.6): counters and pairs as the context's own journal holds them pending
(R213), table entries, HIT, and Cellar Book entries as the host kernel, a measured one at a free value; a read that the
kernel is refused returns 0 and sets Z, a read of an absent counter, location or entry aborts the routine with cause 4, and
one that meets an uncorrectable error with cause 1 (R216), as any word does whose fetch meets one. TSTHIT leaves the location's HIT at 0 in the same step that reads
it (R215). -/
def Obligations.HandReads : Prop :=
  (∀ (s : State) (c : Nat) (w : HandArgs), s.Runs → c < 4 → w.badFetch = true →
     ∀ i ∈ [Instr.cellarhandNop, .cellarhandMov, .cellarhandAdd, .cellarhandSub, .cellarhandAnd, .cellarhandOr, .cellarhandXor,
         .cellarhandShl, .cellarhandShr, .cmp, .br, .rdcnt, .rdpair, .wrcnt, .rdent, .tsthit, .rdbook, .raiseUser, .wait,
         .endRoutine, .appendRecord],
       exec (i c w) s = .next (s.put (s.dev.abortHand c 1))) ∧
  (∀ (s : State) (c : Nat) (w : HandArgs), s.Runs → c < 4 → w.badFetch = false → w.faulty = true →
     ∀ i ∈ [Instr.rdcnt c w, .rdpair c w, .rdent c w, .tsthit c w, .rdbook c w],
       exec i s = .next (s.put (if w.commit then (s.dev.abortHand c 1).commitJournal c else s.dev.abortHand c 1))) ∧
  (∀ (s : State) (c : Nat) (w : HandArgs), s.Runs → c < 4 → w.badFetch = false → w.faulty = false →
     let d := s.dev
     let done (e : Device) : Host.Outcome State Fault Refusal := .next (s.put (if w.commit then e.commitJournal c else e))
     let reg (v : Nat) : Device := d.modContext c (fun x => x.setReg w.dst v)
     let a := handA (d.context c) w
     let b := handB (d.context c) w
     exec (.rdcnt c w) s = done (if b < 2097152 then reg (d.seenCounter c b) else d.abortHand c 4) ∧
     exec (.rdpair c w) s = done (if b < 1048576 then
       reg (d.seenCounter c (2 * b + 1) * 2 ^ 32 + d.seenCounter c (2 * b)) else d.abortHand c 4) ∧
     exec (.rdent c w) s = done (if locationExists (a / 2 ^ 60) (a % 2 ^ 24) ∧ 8 * b < entrySize (a / 2 ^ 60) then
       reg (((d.seenEntries c (a / 2 ^ 60)).find? (fun e => e.loc = a % 2 ^ 24)).elim 0 (fun e => beNat (slice e.bytes (8 * b) 8)))
       else d.abortHand c 4) ∧
     exec (.tsthit c w) s = done (if locationExists 0 (a % 2 ^ 24) then
       (d.setHit (a % 2 ^ 24) false).modContext c (fun x => x.setReg w.dst
         ((d.stores.exact.find? (fun e => e.loc = a % 2 ^ 24)).elim 0 (fun e => e.hit.toNat)))
       else d.abortHand c 4) ∧
     exec (.rdbook c w) s = done (match findRow (b % 2 ^ 24) with
       | none => d.abortHand c 4
       | some r => if r.ty = .domain ∨ d.permits 0 (b % 2 ^ 24) false = false then
           d.modContext c (fun x => { x.setReg w.dst 0 with z := true })
         else if isMeasured (b % 2 ^ 24) then
           ({ d with draws := d.draws + 1 } : Device).modContext c (fun x =>
             x.setReg w.dst (Config.freeValue d.draws % 2 ^ (8 * r.ty.size)))
         else reg (d.seenEntry c (b % 2 ^ 24)))) ∧
  (∀ (s : State) (c : Nat) (w : HandArgs) (e : TableEntry), s.Runs → c < 4 → c < s.dev.ctx.length → w.commit = false →
     w.badFetch = false → w.faulty = false → w.dst < (s.dev.context c).regs.length →
     let loc := handA (s.dev.context c) w % 2 ^ 24
     locationExists 0 loc → s.dev.stores.exact.find? (fun x => x.loc = loc) = some e →
     ∃ t, exec (.tsthit c w) s = .next t ∧ (t.dev.context c).reg w.dst = e.hit.toNat ∧
       (∀ x ∈ t.dev.stores.exact, x.loc = loc → x.hit = false) ∧
       t.dev.stores.exact.map (fun x => (x.loc, x.bytes, x.v0, x.v1)) =
         s.dev.stores.exact.map (fun x => (x.loc, x.bytes, x.v0, x.v1)))

/-- Words whose effect is journaled (Table 8.6): the record joins the context's journal, and a 65th record aborts the
routine with cause 2 (R210, R216). Control words and the events of the contexts: BR, WAIT and END, a journal's commit
(R214), and a factory context that becomes ready and runs from the next word on (R211). -/
def Obligations.HandJournalsAndControl : Prop :=
  (∀ (s : State) (c : Nat) (w : HandArgs) (op : FactoryOp), s.Runs → c < 4 → w.badFetch = false →
     let d := s.dev
     let a := handA (d.context c) w
     let b := handB (d.context c) w
     let add (commit : Bool) (r : JournalRecord) : Host.Outcome State Fault Refusal :=
       let e := if (d.context c).journal.length < 64 then d.modContext c (fun x => { x with journal := x.journal ++ [r] })
         else d.abortHand c 2
       .next (s.put (if commit then e.commitJournal c else e))
     exec (.wrcnt c w) s = add w.commit (.counter a (b % 2 ^ 32)) ∧
     exec (.raiseUser c w) s = add w.commit (.raiseUser (b % 16)) ∧
     exec (.appendRecord c w) s = add w.commit (.append a) ∧
     (∀ commit, exec (.factoryOperation c op commit) s = add commit (factoryRecord op))) ∧
  (∀ (s : State) (c : Nat) (w : HandArgs), s.Runs → c < 4 → w.badFetch = false →
     let d := s.dev
     let done (e : Device) : Host.Outcome State Fault Refusal := .next (s.put (if w.commit then e.commitJournal c else e))
     (∀ taken, branchTaken (d.context c) w.cond = some taken →
       exec (.br c w) s = done (if taken ∧ ((d.context c).busy ∨ (d.context c).pc.isSome) then
         d.modContext c (fun x => { x with pc := some (w.target % 8192) }) else d)) ∧
     (branchTaken (d.context c) w.cond = none ↔ 5 ≤ w.cond) ∧
     (5 ≤ w.cond → exec (.br c w) s = done (d.abortHand c 7)) ∧
     exec (.wait c w) s = done (d.modContext c (fun x => { x with waitRounds := max 1 (handB x w) })) ∧
     exec (.endRoutine c w) s = done ((d.commitJournal c).modContext c Context.ended) ∧
     exec (.journalCommit c) s = .next (s.put (d.commitJournal c)) ∧
     (∀ scrubs, c < 3 → exec (.contextPreempt ⟨c, scrubs⟩) s =
       .next (s.put (d.modContext c (fun x => { x with busy := true, scrubbing := scrubs && c = 2 })))))

/-- A journaled change is seen by its own context alone (R213): with room in its journal and no COMMIT, WRCNT, RAISE,
APPEND and a factory operation change nothing but their context's journal, and the context then reads the counter that
it wrote at its pending value while the counter itself is as it was. -/
def Obligations.JournalHidesChanges : Prop :=
  ∀ (s : State) (c : Nat) (w : HandArgs) (op : FactoryOp), s.Runs → c < 4 → c < s.dev.ctx.length →
    (s.dev.context c).journal.length < 64 → w.commit = false → w.badFetch = false →
    (∀ i ∈ [Instr.wrcnt c w, .raiseUser c w, .appendRecord c w, .factoryOperation c op false],
      ∃ t r, exec i s = .next t ∧ t = s.put { s.dev with ctx := t.dev.ctx } ∧
        (∀ k, k ≠ c → t.dev.context k = s.dev.context k) ∧
        t.dev.context c = { s.dev.context c with journal := (s.dev.context c).journal ++ [r] }) ∧
    ∃ t, exec (.wrcnt c w) s = .next t ∧
      (∀ n, t.dev.counter n = s.dev.counter n) ∧
      t.dev.seenCounter c (handA (s.dev.context c) w) = handB (s.dev.context c) w % 2 ^ 32

/-- A commit makes the journaled counter writes visible in their order, as one step, and leaves the journal empty (R214).
An abort discards the journal, so that every visible entry stands as at the routine's last commit but for the abort's
own record (R216). -/
def Obligations.CommitMakesCountersVisible : Prop :=
  (∀ (s : State) (c m n u v : Nat), s.Runs → c < 4 → c < s.dev.ctx.length → m < 2097152 → n < 2097152 →
     (s.dev.context c).journal = [.counter m u, .counter n v] →
     ∃ t, exec (.journalCommit c) s = .next t ∧ (t.dev.context c).journal = [] ∧ t.dev.counter n = v % 2 ^ 32 ∧
       (m ≠ n → t.dev.counter m = u % 2 ^ 32) ∧
       ∀ k, k ≠ m → k ≠ n → t.dev.counter k = s.dev.counter k) ∧
  (∀ (d : Device) (c cause : Nat), c < d.ctx.length →
     let e := d.abortHand c cause
     (e.context c).journal = [] ∧ (e.context c).pc = none ∧ (e.context c).busy = false ∧
       (e.context c).regs = (d.context c).regs ∧ e.rd E.BG_ABORTS = min (d.rd E.BG_ABORTS + 1) 0xFFFFFFFF ∧
       (c = 3 → cause < 8 → e.rd E.BG_LAST_ABORT = cause + 768 + 1024 * (d.rd E.BG_STATUS / 256 % 8192)) ∧
       (∀ n, e.counter n = d.counter n) ∧ e.stores = d.stores ∧ e.bgOutput = d.bgOutput ∧
       (∀ k, k ≠ c → e.context k = d.context k) ∧
       (d.ready = false → ∀ a, a ≠ E.BG_ABORTS → a ≠ E.BG_LAST_ABORT → e.rd a = d.rd a))

/-- COUNTED_SLOT (R17, R22): while slots are counted and the round holds fewer than 1,024, the skip slots that are due pass
(R23, R406), the slot's work is done, the slot is counted, and one clock period passes for the Core and, on its own clock,
the Gauge; otherwise nothing happens.
A clock period advances the slot clock's time and the Gauge's, and device time by its whole ticks of 1.25 ns, each of
which gains 1.25 ns corrected by TIME_RATE (R307). -/
def Obligations.CountedSlotCounts : Prop :=
  (∀ (s : State) (faults : List SlotFault), s.Runs → s.dev.resetHold = false →
     let b := s.dev.passSkips
     let w := ((b.handSlot faults).dataSlot b.clk.slots faults).finishLate.noteDrained.flushEvents
     let held := if w.mode = .safeHold then w.safeHoldSlots + 1 else w.safeHoldSlots
     let counted : Device := { w with clk := { w.clk with slot := w.clk.slot + 1, slots := w.clk.slots + 1 },
                                      safeHoldSlots := held }
     (s.dev.mode.counts = true → s.dev.clk.slot < 1024 →
       exec (.countedSlot faults) s = .next (s.put counted.passPeriod.settleReset)) ∧
     (s.dev.mode.counts = false ∨ 1024 ≤ s.dev.clk.slot → exec (.countedSlot faults) s = .next s)) ∧
  (∀ d : Device, d.time.stepPending = none →
     let ps := d.rd E.SLOT_PERIOD_PS
     let e := d.passPeriod
     let ticks := (d.time.restPs + ps) / 1250
     e.clk = { d.clk with nowPs := d.clk.nowPs + ps } ∧ e.gauge = d.gauge.pass ps ∧ e.bk = d.bk ∧ e.headers = d.headers ∧
       (ticks = 0 → e.time = { d.time with restPs := d.time.restPs + ps }) ∧
       (ticks ≠ 0 → e.time.restPs = (d.time.restPs + ps) % 1250 ∧
         e.time.ns = (d.time.ns + (d.time.frac + ticks * d.tickGain) / 2 ^ 42) % timeSpan ∧
         e.time.frac = (d.time.frac + ticks * d.tickGain) % 2 ^ 42))

/-- SKIP_SLOT (R23, R406, R410): where power, pace or droop asks for one, the skip slot is counted in SKIP_COUNT and lengthens the
round and the epoch by its period, and nothing in the pipeline advances: no header, frame, cell or queued copy
changes, and the round's counted slots stay as they are. A droop burst of the partner is one of pace, and counts in no droop
counter (R432). Where none is asked for, nothing happens. The skip slots that are due pass before the slot clock does
anything else, and leave none due. -/
def Obligations.SkipSlotStopsThePipeline : Prop :=
  (∀ d : Device, d.mode.counts = true →
    let e := d.passSkips
    e.skipsDue = 0 ∧ e.clk.skips = d.clk.skips + d.skipsDue ∧ e.clk.slot = d.clk.slot ∧ e.clk.slots = d.clk.slots ∧
      e.headers = d.headers ∧ e.frames = d.frames ∧ e.cells = d.cells ∧ e.queued = d.queued) ∧
  (∀ s : State, s.Runs → s.dev.resetHold = false → s.dev.mode.counts = true →
    let d := s.dev
    (d.pow.droopLeft = 0 → d.join.burstLeft = 0 → d.skipDue = false → exec .skipSlot s = .next s) ∧
    (d.pow.droopLeft = 0 → d.join.burstLeft = 0 → d.skipDue = true → d.time.stepPending = none → ∃ t, exec .skipSlot s = .next t ∧
      t.dev.headers = d.headers ∧ t.dev.frames = d.frames ∧ t.dev.cells = d.cells ∧ t.dev.queued = d.queued ∧
      t.dev.clk.slot = d.clk.slot ∧ t.dev.clk.slots = d.clk.slots ∧ t.dev.clk.skips = d.clk.skips + 1 ∧
      t.dev.clk.planned = d.clk.planned + 1 ∧ t.dev.clk.nowPs = d.clk.nowPs + d.rd E.SLOT_PERIOD_PS ∧
      t.dev.pow.epochPs = d.pow.epochPs + d.rd E.SLOT_PERIOD_PS ∧
      t.dev.rd E.SKIP_COUNT = (d.rd E.SKIP_COUNT + 1) % 2 ^ 64) ∧
    (0 < d.pow.droopLeft → d.skipDue = false → d.pow.droopRound + 1 ≤ Config.droopStormLimit ∨ d.pow.stormed = true →
      d.time.stepPending = none →
      ∃ t, exec .skipSlot s = .next t ∧ t.dev.headers = d.headers ∧ t.dev.queued = d.queued ∧ t.dev.clk.slot = d.clk.slot ∧
        t.dev.pow.droopLeft = d.pow.droopLeft - 1 ∧ t.dev.pow.droopRound = d.pow.droopRound + 1 ∧
        t.dev.rd E.DROOP_SKIPS = (d.rd E.DROOP_SKIPS + 1) % 2 ^ 64 ∧
        t.dev.rd E.SKIP_COUNT = (d.rd E.SKIP_COUNT + 1) % 2 ^ 64) ∧
    (d.pow.droopLeft = 0 → 0 < d.join.burstLeft → d.skipDue = false → d.time.stepPending = none →
      ∃ t, exec .skipSlot s = .next t ∧ t.dev.headers = d.headers ∧ t.dev.queued = d.queued ∧ t.dev.clk.slot = d.clk.slot ∧
        t.dev.join.burstLeft = d.join.burstLeft - 1 ∧ t.dev.pow.droopRound = d.pow.droopRound ∧
        t.dev.rd E.DROOP_SKIPS = d.rd E.DROOP_SKIPS ∧ t.dev.rd E.SKIP_COUNT = (d.rd E.SKIP_COUNT + 1) % 2 ^ 64))

/-- ROUND_BOUNDARY (R27): after 1,024 counted slots, and the skip slots of the round still due (R406), the boundary takes the snapshots of what ends first, then counts the
round, then flips, then applies the operating point, and then opens the new round; at no other time does it do
anything. -/
def Obligations.RoundBoundaryOrder : Prop :=
  ∀ (s : State) (overran : Bool), s.Runs →
    (s.dev.mode.counts = true → s.dev.clk.slot = 1024 →
      let taken := s.dev.passSkips.snapshots
      let counted := taken.passRound
      let worked := (counted.roundWork overran)
      let closed := (worked.closeWindows (s.dev.rd E.ROUND_COUNT) worked.clk.lastRoundPs).applyClear
      let flipped := ((closed.boundaryVintage.startGates.switchMaps).coolHbm).rackRound
      let powered := (flipped.handBoundary (flipped.rd E.ROUND_COUNT)).boundaryPower
      let opened := powered.nameSecond.openRound
      exec (.roundBoundary overran) s = .next (s.put opened.dropForwarded.releaseHeld) ∧
        counted.rd E.ROUND_COUNT = (taken.rd E.ROUND_COUNT + 1) % 2 ^ 64 ∧
        counted.clk.lastRoundPs = taken.clk.nowPs - taken.clk.roundStartPs ∧
        opened.clk.slot = 0 ∧ opened.clk.skips = 0 ∧ opened.clk.planned = 0) ∧
    (s.dev.mode.counts = false ∨ s.dev.clk.slot ≠ 1024 → exec (.roundBoundary overran) s = .next s)

/-- An access takes effect at the end of its slot, and the boundary that closes with a round's last slot does not see it
(R489): while a boundary is due, an access is held, behind those that are held already, and nothing else changes; at any
other time it takes effect at once. What was held takes effect in its order once the boundary has closed the round.
The request queue (R71): mailbox requests and Tendril frames are executed one at a time, in the order in which they
came. A frame that waited before a doorbell is executed before its request; one that came after it, while a boundary held it
too, is executed after it;
and while a request of a mailbox or a controller waits for the primary of a pair, no other is executed. -/
def Obligations.AccessesInOrder : Prop :=
  (∀ (s : State) (c : Instr), s.Runs → accessCommand c = true →
     (s.dev.mode.counts = true → s.dev.clk.slot = 1024 → exec c s = .next (s.put { s.dev with
       held := s.dev.held ++ [{ access := c, frames := s.dev.tendrilQueue.length }] })) ∧
     (s.dev.mode.counts = false ∨ s.dev.clk.slot ≠ 1024 → exec c s = .next (s.put (s.dev.runAccess c)))) ∧
  (∀ (d : Device) (c : HeldAccess) (rest : List HeldAccess), d.held = c :: rest →
     let after (h : HeldAccess) : Nat := d.tendrilQueue.length - h.frames
     d.releaseHeld = ({ rest.foldl (fun (e : Device) h => ({ e with lateFrames := after h } : Device).runAccess h.access)
       (({ d with held := [], lateFrames := after c } : Device).runAccess c.access) with lateFrames := 0 } : Device)) ∧
  (∀ (d : Device) (q : Doorbell) (f : TendrilFrame) (t : List Doorbell) (rest : List TendrilFrame) (n : Nat),
      (d.requestWaits = true → d.serveQueue n = d ∧ ∀ want, d.tendril want = d) ∧
      (d.requestWaits = false → d.doorbells = q :: t → d.tendrilQueue = f :: rest →
        (0 < q.ahead → d.serveQueue (n + 1) = 
          let later := (q :: t).map (fun x => { x with ahead := x.ahead - 1 })
          Device.serveQueue n (({ d with tendrilQueue := rest, doorbells := later } : Device).takeFrame f)) ∧
        (q.ahead = 0 → d.serveQueue (n + 1) = Device.serveQueue n (({ d with doorbells := t } : Device).runMailbox q))) ∧
      (∀ m, (d.latch m).ahead = d.tendrilQueue.length - d.lateFrames))

/-- TAP_PERIOD_BOUNDARY (R354): the 32 delta records of the period that closed leave over the tap link, in the order of
their groups. POWER_EPOCH_BOUNDARY (R401, R403, R405): the measurement of the epoch that closes is reported, and kept for
the boundary; that of an epoch which closed without one is reported and evaluated in the epoch that runs, and nothing is
applied before the next epoch boundary (log entry 142); in a joined member's last 16 rounds it comes too late (R432). A
setpoint is commanded to both regulators (R478) only where the chosen state needs a higher one, and is the core's once
READ_VOUT of both shows that they reach it; droop asks for a burst of skip slots and counts in DROOP_EVENTS, and every clock
period of the burst is one; HBM_THROTTLE is set at
HBM_THROTTLE_C, and its end waits for the next boundary (R410, R412). -/
def Obligations.PeriodsAndPower : Prop :=
  (∀ (s : State) (m : EpochMeasure) (e : EpochData), s.Runs → s.dev.mode.counts = true →
     (s.dev.clk.tapDue = true → ∃ t, exec .tapPeriodBoundary s = .next t ∧ t.dev.clk.tapDue = false ∧
       t.dev.sent = s.dev.sent ++ (List.range 32).map (fun k => .tapRecord (s.dev.tapLink.record k false)) ∧
       t.dev.tapLink.carried = s.dev.tapLink.taken ∧ t.dev.tapLink.sequence = (s.dev.tapLink.sequence + 1) % 2 ^ 32 ∧
       t.dev.ports = s.dev.ports) ∧
     (∀ rest, s.dev.pow.unmeasured = e :: rest → exec (.powerEpochBoundary m) s =
       let late := m.overran || (s.dev.joined && s.dev.planLate)
       let d : Device := { s.dev with pow := { s.dev.pow with unmeasured := rest, overran := s.dev.pow.overran || late } }
       .next (s.put ((d.reportEpoch (e.measure m)).evaluate (e.measure m)))) ∧
     (s.dev.pow.unmeasured = [] → s.dev.pow.measured = none → s.dev.epochCloses = true → exec (.powerEpochBoundary m) s =
       let x := s.dev.weighLanes.closeEpoch
       let d : Device := { x.2 with pow := { x.2.pow with measured := some (x.1.measure m),
                                                          overran := x.2.pow.overran || m.overran } }
       .next (s.put (d.reportEpoch (x.1.measure m))))) ∧
  (∀ (s : State) (c : PowerChoice) (mV celsius : Nat), s.Runs → s.dev.mode.counts = true →
     let d := s.dev
     let bus (d : Device) (command : Nat) (w : Nat × Nat) : Device :=
       { d with sent := d.sent ++ [.pmbus (0x40 + 2 * (d.board.straps % 4)) command w.1,
                                   .pmbus (0x41 + 2 * (d.board.straps % 4)) command w.2] }
     (d.pow.choice = some c → c.op < d.opInForce → d.pow.setpoint < coreSetpoint c.op →
       exec .setpointRequest s =
         let e : Device := { d with pow := { d.pow with requested := some (coreSetpoint c.op) } }
         .next (s.put (bus (e.voutWords (coreSetpoint c.op)).2 0x21 (e.voutWords (coreSetpoint c.op)).1))) ∧
     (d.pow.requested = some mV → exec .setpointReached s =
       .next (s.put (bus { d with pow := { d.pow with setpoint := mV, requested := none } } 0x8B (0, 0)))) ∧
     (d.joined = false → exec .droopDetection s = .next (s.put
       (({ d with pow := { d.pow with droopLeft := max d.pow.droopLeft Config.droopSkipBurst } } : Device).wr E.DROOP_EVENTS
         ((d.rd E.DROOP_EVENTS + 1) % 2 ^ 64)))) ∧
     (∃ t, exec .droopBurstEnd s = .next t ∧ t.dev.pow.droopLeft = 0 ∧ t.dev.clk.slot = d.clk.slot ∧
       t.dev.clk.skips = d.clk.skips + d.pow.droopLeft ∧ t.dev.queued = d.queued) ∧
     (d.cur E.HBM_THROTTLE_C ≤ celsius → exec (.hbmThrottleOn celsius) s = .next (s.put
       (({ d with pow := { d.pow with hbmCooled := false } } : Device).wr E.POWER_STATE
         (setBit (d.rd E.POWER_STATE) 12 true)))) ∧
     (celsius < d.cur E.HBM_THROTTLE_C → exec (.hbmThrottleOn celsius) s = .next s) ∧
     ((d.rd E.POWER_STATE).testBit 12 = true → celsius + 5 < d.cur E.HBM_THROTTLE_C →
       exec (.hbmThrottleOff celsius) s = .next (s.put { d with pow := { d.pow with hbmCooled := true } })))

/-- The faults that end service (R411, R456, Table 18.7): each enters Safe-Hold with its cause and its detail; the
hardware trip stops the clocks and does nothing else. Entering Safe-Hold (R456 to R458) from a mode of service, of a
device in its default configuration without a join: it counts the entry in the flash, has no transition armed, no
commit in progress and no Cellarhand routine waiting for a trigger; the frames already stored and the headers in
flight stay. -/
def Obligations.FatalFaultsEnterSafeHold : Prop :=
  (∀ (s : State) (x : Nat), s.Runs →
     (s.dev.mode.counts = true → exec (.thermalFatal x) s = .next (s.put (({ s.dev with hot := true } : Device).safeHold 1 x))) ∧
     exec .corePll s = .next (s.put (s.dev.safeHold 3 0)) ∧
     exec (.supplyUndervoltage x) s = .next (s.put (s.dev.safeHold 4 x)) ∧
     exec (.firmwareSupervisionFault x) s = .next (s.put (s.dev.safeHold 5 (x % 2 ^ 32))) ∧
     (s.dev.mode ≠ .off → exec .hardwareTrip s = .next (s.put { s.dev with board := { s.dev.board with tripped := true } })) ∧
     (∀ cause detail, s.dev.mode = .off ∨ s.dev.mode = .reset ∨ s.dev.mode = .safeHold → s.dev.safeHold cause detail = s.dev)) ∧
  (∀ (d : Device) (cause detail : Nat), d.joined = false → d.p0 = [] → d.p1 = [] →
     d.mode ∈ [Mode.configure, .check, .run, .joinedRun, .drain, .rest, .recovery, .diagnostic] →
     let e := d.safeHold cause detail
     e.mode = .safeHold ∧ e.armed = none ∧ e.resetHold = false ∧ e.commit ≠ .checking ∧ e.commit ≠ .preparing ∧
       e.commit ≠ .armed ∧ e.trigWaiting = [] ∧ e.flashCause = cause ∧ e.flashTotal = min (d.flashTotal + 1) 0xFFFFFFFF ∧
       e.frames = d.frames ∧ e.headers = d.headers ∧ e.cells = d.cells)

/-- The class of a received frame (R122): its conditions in their order, the first that holds naming the discard. -/
def Obligations.FrameClassOrder : Prop :=
  ∀ (e : RxEnd) (mtu : Nat), 4 ≤ e.bytes.length →
    let n := e.bytes.length
    (e.pcsError = true → frameClass e mtu = Reason.PCS_ERROR) ∧
    (e.pcsError = false → mtu < n → frameClass e mtu = Reason.OVERSIZE) ∧
    (e.pcsError = false → n ≤ mtu → n < 64 → frameClass e mtu = Reason.UNDERSIZE) ∧
    (e.pcsError = false → n ≤ mtu → 64 ≤ n → e.bytes.drop (n - 4) ≠ leBytes 4 (crc32eth (e.bytes.take (n - 4))) →
      frameClass e mtu = Reason.FCS_ERROR) ∧
    (e.pcsError = false → n ≤ mtu → 64 ≤ n → e.bytes.drop (n - 4) = leBytes 4 (crc32eth (e.bytes.take (n - 4))) →
      frameClass e mtu = 0)

/-- FRAME_HEAD_READY (R137, R19): in a forwarding mode the first bytes of a frame that no MAC function consumes are
offered to the intake of the port's slice with a fresh frame number, where intake has room for them; a frame for which
it has none is marked, to be discarded at its end. Bytes of a frame whose header was offered join it (log entry 172: the
model's choice). In a mode that does not forward, no frame is offered (R302). The express and the preemptable MAC of a
port take their frames apart (R127, R128).
RX_FRAME_END (R122, R133) of a front port without preemption: a frame that passes and whose header was offered is
counted and tapped as accepted, and its end is known; one that does not pass and was not offered is counted in its
class, tapped as discarded, and discarded with that reason; a port that does not exist takes nothing. Of a 3.2T port the
frame may come as the blocks of its two instances, which interleave (R118). -/
def Obligations.FrameIntake : Prop :=
  (∀ (s : State) (port agePs : Nat) (pre : Bool) (bytes : List Byte), s.Runs →
     let d := s.dev
     let f := d.newFrame port agePs bytes
     let mac := d.macOf port pre
     let a := SMap.get d.ports.arriving 0 mac
     (d.mode.forwards = true → d.portExists port = true → d.adminUp port = true → 64 ≤ bytes.length →
       macControl bytes = false → d.takesTendril port bytes = false → a = 0 →
       (d.intakeUsed f.slice + bytes.length ≤ 65536 → ∃ t, exec (.frameHeadReady port agePs ⟨pre, bytes⟩) s = .next t ∧
         t.dev.waiting = d.waiting ++ [{ slice := d.sliceOf port, requester := port, frame := f }] ∧
         t.dev.nextFrame = d.nextFrame + 1 ∧ SMap.get t.dev.ports.arriving 0 mac = 2 + d.nextFrame ∧
         t = s.put { d with waiting := t.dev.waiting, nextFrame := t.dev.nextFrame,
                            ports := { d.ports with arriving := t.dev.ports.arriving } }) ∧
       (65536 < d.intakeUsed f.slice + bytes.length →
         exec (.frameHeadReady port agePs ⟨pre, bytes⟩) s = .next (s.put (d.setArriving mac 1)))) ∧
     (2 ≤ a → exec (.frameHeadReady port agePs ⟨pre, bytes⟩) s = .next (s.put (d.modAny (a - 2) (fun f => f.grow bytes)))) ∧
     (∀ g : Frame, g.ended = false → g.bytes <+: bytes → g.grow bytes = { g with bytes := bytes }) ∧
     (d.portCtl port 2 = true → port < 512 → d.macOf port true ≠ d.macOf port false) ∧
     (d.mode.forwards = false → a < 2 → exec (.frameHeadReady port agePs ⟨pre, bytes⟩) s = .next s)) ∧
  (∀ (s : State) (port : Nat) (e : RxEnd) (x y : List Nat), s.Runs →
     exec (.rxFrameEnd port { e with blocks := some (x, y) }) s =
       exec (.rxFrameEnd port (if (s.dev.instances port).length = 2
         then { e with blocks := none, bytes := blockBytes (mergeBlocks x y) } else { e with blocks := none })) s) ∧
  (∀ (s : State) (port : Nat) (e : RxEnd), s.Runs → 4 ≤ e.bytes.length → e.blocks = none →
     let d := s.dev
     let n := e.bytes.length
     let a := SMap.get d.ports.arriving 0 port
     let d1 := d.setArriving port 0
     let code := frameClass e (d.cur (E.PORT_MTU port))
     (d.mode.counts = true → d.portExists port = true → d.portCtl port 2 = false →
       (code = 0 → d.adminUp port = true → macControl (e.bytes.take (n - 4)) = false →
         d.takesTendril port (e.bytes.take (n - 4)) = false → 2 ≤ a →
         exec (.rxFrameEnd port e) s = .next (s.put (((((d1.bump64 (E.RX_FRAMES_OK port) 1).bump64 (E.RX_BYTES_OK port) n).tap
           port 0 n)).endOffered (a - 2) 0 e))) ∧
       (code ≠ 0 → a < 2 → e.bytes.drop (n - 4) ≠ fcsOf (e.bytes.take (n - 4)) false →
         exec (.rxFrameEnd port e) s =
           .next (s.put (((d1.bump64 (classCounter port code) 1).tap port 1 n).lostAtMac port code e.agePs n)))) ∧
     (port < 512 → d.portExists port = false → exec (.rxFrameEnd port e) s = .next s))

/-- VERDICT_ARRIVAL (R123): the verdict of a stored frame whose end has arrived is its class, and it is given once; no
frame but its egress mirrors' takes it with it (R298).
COPY_TX_START and COPY_TX_END (R261, R125): a selected copy whose egress pass has ended starts on its port's wire once
272 slots have passed since its selection and the wire is free, behind a PFC frame that is due (R263); one that ends well, its
frame's verdict given, leaves whole and frees the wire, and one that a gate holds or an express frame has cut short does not
end. A copy that is not there does nothing. -/
def Obligations.VerdictsAndTransmission : Prop :=
  (∀ (s : State) (n : Nat) (f : Frame), s.Runs → s.dev.frame? n = some f →
     (∀ t ∈ s.dev.dec.tx, ∀ g, s.dev.frame? t.copy.frame = some g → g.id ≠ n ∧ g.follows ≠ some (n, true)) →
     (∀ o ∈ s.dev.dec.owing, (s.dev.owingFrame o).id ≠ n ∧ (s.dev.owingFrame o).follows ≠ some (n, true)) →
     (f.ended = true → f.verdict = none → ∃ t, exec (.verdictArrival n) s = .next t ∧
       t.dev.frame? n = some { f with verdict := some f.cls, verdictSlot := s.dev.clk.slots } ∧
       (∀ k g, k ≠ n → s.dev.frame? k = some g → t.dev.frame? k = some (if g.follows = some (n, true) ∧ g.verdict = none then
         { g with verdict := some g.cls, verdictSlot := s.dev.clk.slots } else g)) ∧
       t.dev.queued = s.dev.queued ∧ t.dev.bk = s.dev.bk ∧ t.dev.sent = s.dev.sent ∧ t.dev.dec = s.dev.dec) ∧
     (f.ended = false ∨ f.verdict.isSome = true → (∀ g ∈ s.dev.frames, g.follows = some (n, true) → g.verdict ≠ none) →
       exec (.verdictArrival n) s = .next s)) ∧
  (∀ (s : State) (c : Nat) (t : Tx) (f : Frame) (at' : Nat) (cut : Option Tx), s.Runs → s.dev.dec.tx.find? (fun x => x.copy.id = c) = some t →
     s.dev.frame? t.copy.frame = some f →
     let d := s.dev
     (t.started = false → t.passed = true → t.selected + 272 < d.clk.slots → d.txReady t.port = true → f.cellError = false →
       let e := d.insertPfc t.port
       (e.wireSlot t = some (at', cut) → at' ≤ 2 * e.clk.nowPs →
         exec (.copyTxStart c) s = .next (s.put (e.takeWire t f at' cut))) ∧
       (e.wireSlot t = none → exec (.copyTxStart c) s = .next (s.put e))) ∧
     (t.started = false → t.passed = true → t.selected + 272 < d.clk.slots → d.txReady t.port = true → f.cellError = true →
       exec (.copyTxStart c) s = .next (s.put (d.dropCopy t.copy Reason.CELL_ERROR true none))) ∧
     (d.clk.slots ≤ t.selected + 272 → exec (.copyTxStart c) s = .next s) ∧
     (t.started = true → d.offWire t = false → t.stomp = none → f.ended = true → f.verdict.isSome = true →
       d.badEnd t f (txBytes f t) = none →
       exec (.copyTxEnd c) s = .next (s.put ((d.deliverTx t f (txBytes f t)).freeWire t.port (d.txEnd t)))) ∧
     (d.offWire t = true → exec (.copyTxEnd c) s = .next s) ∧
     (t.started = false → exec (.copyTxEnd c) s = .next s))

/-- The racker and the queues' own events: REPLICATION_JOB_START (R242), RACK_OUT_COMPLETE and RACK_RETURN (R247, R250),
GATE_OVERRUN (R274) and RECIRC_INTAKE_MOVE (R293), each with its conditions met. -/
def Obligations.QueueEvents : Prop :=
  ∀ (s : State) (c : Copy) (f : Frame) (q slice : Nat), s.Runs →
    let d := s.dev
    (∀ j, d.jobs.any (fun j => j.slice = slice && j.started) = false →
      d.jobs.find? (fun j => j.slice = slice && j.multi && j.due ≤ d.clk.slots) = some j →
      exec (.replicationJobStart slice) s = .next (s.put (d.setJob j.frame (fun x =>
        { x with started := true, startSlot := max j.due (d.clk.slots - 1) })))) ∧
    (∀ r, d.racking.find? (fun r => r.1 = c.id) = some r → d.queued.find? (fun x => x.id = c.id) = some c →
      let e := ((d.handOver c.frame rackerToken).cellsOf c.frame).foldl (fun (d : Device) x => d.freeCell x.handle rackerToken)
        (d.handOver c.frame rackerToken)
      exec (.rackOutComplete c.id) s = .next (s.put (({ e with
        racking := e.racking.filter (fun x => x.1 ≠ c.id),
        queued := modFirst e.queued (fun x => x.id = c.id) (fun x => { x with place := .cellar, spill := r.2, racked := true }) }
          : Device).bump64 (E.RACKED_OUT (portOf c.queue)) 1))) ∧
    (∀ cell, nextRequester (d.busyQueues.filter d.asksReturn) d.rackInNext = some q →
      (d.waitingIn q).find? (fun c => c.place = .cellar) = some c → c.spill.length ≤ d.rackInTokens →
      let e : Device := { d with rackInNext := q, rackInTokens := d.rackInTokens - c.spill.length }
      (c.spill.any (fun k => !d.pcIn (channelOf k)) = false →
        exec (.rackReturn .none cell) s = .next (s.put { e with returning := d.returning ++ [c.id] }) ∧
        exec (.rackReturn .correctable cell) s = .next (s.put { e with returning := d.returning ++ [c.id] }) ∧
        exec (.rackReturn .mismatch cell) s = .next (s.put ((e.strikeSpill (c.spill.headD 0)).loseRecord c)) ∧
        (cell < c.spill.length → exec (.rackReturn .uncorrectable cell) s =
          .next (s.put ((e.strikeSpill (c.spill.getD cell 0)).loseRecord c)))) ∧
      (c.spill.any (fun k => !d.pcIn (channelOf k)) = true → ∀ fault,
        exec (.rackReturn fault cell) s = .next (s.put (e.loseRecord c)))) ∧
    (∀ g gate, d.dec.gateStuck.find? (fun g => g.1 = q) = some g → d.headOf q = some c → d.gate? (portOf q) = some gate →
      g.2.1 = c.id → g.2.2 + cycleOf gate.entries ≤ d.clk.slots → c.place = .cask →
      (d.headReason c d.clk.slots = none →
        exec (.gateOverrun q) s = .next (s.put (d.dropCopy c Reason.GATE_OVERRUN true none))) ∧
      (∀ reason, d.headReason c d.clk.slots = some reason →
        exec (.gateOverrun q) s = .next (s.put (d.dropCopy c reason true none)))) ∧
    (slice < 32 → d.mode.counts = true → d.headOf (recircQueue slice) = some c → d.frame? c.frame = some f →
      d.recircMoving.find? (fun r => r.1 = slice && r.2.1 = c.id) = none → f.verdict = some 0 →
      d.expired.contains f.vtag = false →
      exec (.recircIntakeMove slice) s = .next (s.put { d with
        recircMoving := d.recircMoving.filter (fun r => r.1 ≠ slice) ++ [(slice, c.id, 0, d.clk.slots + 64)] }))

/-- The link of a front port (R119, R127): LINK_UP raises PORT_UP and starts preemption as PORT_CONTROL asks; a fault of
the Reconciliation Sublayer, local or remote, is kept and takes a port down that no longer has what it needs;
MGMT_STATUS reports the management port (R136). -/
def Obligations.LinkEvents : Prop :=
  ∀ (s : State) (p : Nat), s.Runs →
    let d := s.dev
    (d.mode.counts = true → d.linkOk p = true → d.linkUp p = false → exec (.linkUp p) s = .next (s.put
      (((d.wr (E.PORT_STATUS p) (setBit (d.rd (E.PORT_STATUS p)) 0 true)).raise
        (512 + 16 * d.sliceOf p) p).startPreempt p))) ∧
    (d.linkUp p = true ∨ d.linkOk p = false → exec (.linkUp p) s = .next s) ∧
    (∀ second present k, d.portExists p = true → d.instanceKey p second = some k →
      exec (.localFault ⟨p, second⟩ present) s = .next (s.put
        (({ d with ports := { d.ports with rsLocal := SMap.set d.ports.rsLocal 0 k present.toNat } } : Device).recheckPort p)) ∧
      exec (.remoteFault ⟨p, second⟩ present) s = .next (s.put
        (({ d with ports := { d.ports with rsRemote := SMap.set d.ports.rsRemote 0 k present.toNat } } : Device).recheckPort p))) ∧
    d.instanceKey p false = some p ∧
    (∀ e : Device, e.portExists p = true → e.adminUp p = true → e.portLocalFault p = true →
      e.lineSignal p = .remoteFault) ∧
    (∀ e : Device, e.linkOk p = true → e.recheckPort p = e) ∧
    (∀ e : Device, e.portExists p = true → SMap.get e.ports.rsLocal 0 p = 1 → e.linkOk p = false) ∧
    (∀ link lf rf, d.mode.counts = true → d.rd E.MGMT_MODE = 2 → exec (.mgmtStatus link lf rf) s = .next (s.put
      (({ d with ports := { d.ports with mgmtLink := link, mgmtLocal := lf, mgmtRemote := rf } } : Device).wr E.MGMT_STATUS
        ((link && !lf && !rf).toNat + 2 * (!link || lf).toNat + 4 * rf.toNat))))

/-- Priority-based flow control and preemption between ports (R127, R129, R130): a hold's end clears the class's bit of
PORT_STATUS; a class at XOFF asks again with the quanta that it sent last; verify sends at most three mPackets, then
fails, and the first response makes preemption active. Low power idle (R132): an idle port that may enter it does,
counted, with its lanes asked for light sleep; it leaves it, with its lanes asked to wake, once a frame is ready. -/
def Obligations.PfcPreemptionAndLpi : Prop :=
  (∀ (s : State) (p k : Nat), s.Runs →
     let d := s.dev
     let status := d.rd (E.PORT_STATUS p)
     (p < 512 → k < 7 → status.testBit (8 + k) = true →
       exec (.pfcHoldExpiry p k) s = .next (s.put (d.wr (E.PORT_STATUS p) (setBit status (8 + k) false)))) ∧
     (d.sendsPfc p k = true → (d.rd (E.XOFF_CLASSES p)).testBit k = true → SMap.get d.pfcSent 0 (8 * p + k) ≠ 0 →
       exec (.pfcRefresh p k) s = .next (s.put { d with dec := { d.dec with
         pfcDue := d.dec.pfcDue.filter (fun x => !(x.1 = p && x.2.1 = k))
           ++ [(p, k, SMap.get d.pfcSent 0 (8 * p + k), d.clk.slots)] } })) ∧
     (d.portExists p = true → d.linkUp p = true → status / 16 % 4 = 1 →
       (SMap.get d.ports.verifySends 0 p < 3 → exec (.preemptVerifySend p) s = .next (s.put { d with
         ports := { d.ports with verifySends := SMap.set d.ports.verifySends 0 p (SMap.get d.ports.verifySends 0 p + 1) },
         sent := d.sent ++ [.verify p] })) ∧
       (3 ≤ SMap.get d.ports.verifySends 0 p → exec (.preemptVerifySend p) s = .next (s.put (d.setPreempt p false 3))) ∧
       (SMap.get d.ports.verifySends 0 p ≠ 0 → exec (.preemptVerifyResponse p) s = .next (s.put (d.setPreempt p true 2))))) ∧
  (∀ (s : State) (p : Nat), s.Runs → s.dev.portExists p = true →
     let d := s.dev
     (d.linkUp p = true → d.portCtl p 6 = true → d.txLpi p = false → d.portIdle p = true →
       let e := (d.wrBit (E.PORT_STATUS p) 6 true).bump64 (E.LPI_TX_ENTRIES p) 1
       exec (.lpiTxEntry p) s = .next (s.put ((e.portLanes p).foldl (fun d l => d.sleepLane l true 1) e))) ∧
     (d.portIdle p = false → exec (.lpiTxEntry p) s = .next s) ∧
     (d.portIdle p = false → d.txLpi p = true →
       exec (.lpiTxExit p) s = .next (s.put
         ((d.portLanes p).foldl (fun d l => d.askWake l) (d.wrBit (E.PORT_STATUS p) 6 false)))) ∧
     (d.portIdle p = true → exec (.lpiTxExit p) s = .next s))

/-- Lock of a lane (R104 to R106): a lane is locked while SIGNAL_DETECT, CDR_LOCK and ALIGN_LOCK are all 1; it locks only
while it has a signal; a lane that is not locked has no lock to lose. A receiver that fails to relock from its
snapshot retrains without it, and one that fails to lock after sleep has lost its lock.
What a receiver reads is what the lane at the other end sent: the Gray map, precoding, polarity and the scrambler each give
their input back (R94 to R96, R99), the precoder and its decoder from one state; and the comma word of a LANE_ID, of
either polarity, is known as that lane's (R98). -/
def Obligations.LaneLocks : Prop :=
  (∀ (s : State) (l : Nat), s.Runs →
      let d := s.dev
      let status := d.rd (E.LANE_STATUS l)
      (d.laneLocked l = true ↔ status.testBit 0 = true ∧ status.testBit 1 = true ∧ status.testBit 2 = true) ∧
      (d.laneRuns l = true → exec (.laneSignalDetect l true) s = .next (s.put (d.setLaneBit l 0 true))) ∧
      (∀ ws k, d.laneRuns l = true → d.signal l = true → d.laneLocked l = false → d.rxAsleep l = false → d.aligns l ws = true →
        let r := d.reportLane l ws
        let e := (((r.setLaneBit l 1 true).setLaneBit l 2 true).resumeAdapt l).modLanes (fun x =>
          { x with lockedAt := SMap.set x.lockedAt 0 l (d.clk.nowPs + 1), skew := SMap.set x.skew 0 l k,
                   relock := SMap.set x.relock 0 l 0, crossed := SMap.set x.crossed 0 l 0 })
        exec (.laneLock ⟨l, ws, k⟩) s = .next (s.put ((e.honourSleep l).joinProgress.widen l))) ∧
      (∀ ws k, d.laneRuns l = true → d.signal l = false ∨ d.laneLocked l = true ∨ d.aligns l ws = false →
        exec (.laneLock ⟨l, ws, k⟩) s = .next (s.put (d.reportLane l ws))) ∧
      (d.laneMode l = 6 → ∀ ws, d.aligns l ws = true ↔ ws.length = 4 ∧ ∀ w ∈ ws, ∃ id, d.commaAt l w = some id) ∧
      (∀ cdr align ws k, d.laneLocked l = false → exec (.laneLockLost ⟨l, ws, k⟩ cdr align) s = .next s) ∧
      (∀ cdr align ws k, d.laneRuns l = true → d.laneLocked l = true → d.rxAsleep l = false → (d.laneMode l = 6 → align = false) →
        cdr || align → exec (.laneLockLost ⟨l, ws, k⟩ cdr align) s = .next (s.put (d.loseLock l cdr align))) ∧
      (∀ ws k, d.laneRuns l = true → d.laneLocked l = true → d.rxAsleep l = false → d.misaligns l ws = true →
        exec (.laneLockLost ⟨l, ws, k⟩ false true) s = .next (s.put (d.loseLock l false true))) ∧
      (d.laneRuns l = true → d.rxAsleep l = true →
        exec (.relockTimeout l) s = .next (s.put ((d.setRxState l 0).loseLock l true true))) ∧
      (d.laneRuns l = true → d.rxAsleep l = false → SMap.get d.lanes.relock 0 l = 1 → d.laneLocked l = false →
        exec (.relockTimeout l) s = .next (s.put (((d.setLaneBit l 5 false).setLaneBit l 3 false).modLanes (fun x =>
          { x with relock := SMap.set x.relock 0 l 2 }))))) ∧
  (∀ (bs : List Bool) (gs : List Nat) (p q v : Nat), (∀ g ∈ gs, g < 4) → v < 4 →
     (bs.length % 2 = 0 → grayBits (graySymbols bs) = bs) ∧ decodeSymbols p (precode p gs) = gs ∧
     (∀ i, invertSymbol i (invertSymbol i v) = v) ∧ symbolOf (levelOf v) = some v ∧ descramble q (scramble q bs) = bs) ∧
  (∀ (d : Device) (l p id : Nat) (bs : List Bool),
     (bs.length % 2 = 0 → d.precodes l true = d.precodes l false → d.inverts l true = d.inverts l false →
       d.receiveSymbols l p (d.sendSymbols l p bs) = bs) ∧
     (id < 256 → (commaWord id).length = 32 ∧
       d.commaAt l (if d.inverts l false then (commaWord id).map (fun x => -x) else commaWord id) = some id))

/-- Adaptation and its windows (R102, R103): four failing windows in succession freeze a lane's adaptation, four passing
ones let it run on, by what the receiver sees of the line or of its own transmitter's loopback (R470); a monitor window adds its corrected symbols to SYMBOL_ERRORS; a clean snapshot period makes the
snapshot valid, and a period that crossed the limit does not. Sleep of a lane (R108, R110): a locked lane's direction
takes the depth asked, as far as LANE_CONTROL and its mode allow; a lane that is not locked keeps the request until it
locks; a direction that wakes is active again. BRIDGE_CHECK_WORD (R112) counts and strikes each failing wire that is
in use. -/
def Obligations.LaneAdaptationAndSleep : Prop :=
  (∀ (s : State) (l : Nat) (w : AdaptWindow), s.Runs → s.dev.laneRuns l = true → s.dev.rxAsleep l = false →
     let d := s.dev
     let x := d.sendWindow l w
     let y := x.1.laneInput l x.2 w.received
     let r := y.1.checkPattern l y.2
     let seen := if d.loopback l = 1 then x.2 else w.received
     let runs (f p : Nat) : Device := r.modLanes (fun x => { x with failRun := SMap.set x.failRun 0 l (min f 4),
                                                                     passRun := SMap.set x.passRun 0 l (min p 4) })
     ((d.laneCtl l).testBit 3 = true → (d.laneCtl l).testBit 4 = true → SMap.get d.lanes.relock 0 l ≠ 1 →
       (d.windowPasses l seen = false → d.frozen l = false →
         exec (.adaptWindow l w) s = .next (s.put (if 4 ≤ SMap.get d.lanes.failRun 0 l + 1 then
           (runs (SMap.get d.lanes.failRun 0 l + 1) 0).freeze l else runs (SMap.get d.lanes.failRun 0 l + 1) 0))) ∧
       (d.windowPasses l seen = true → d.frozen l = true →
         exec (.adaptWindow l w) s = .next (s.put (if 4 ≤ SMap.get d.lanes.passRun 0 l + 1 then
           (runs 0 (SMap.get d.lanes.passRun 0 l + 1)).resumeAdapt l else runs 0 (SMap.get d.lanes.passRun 0 l + 1))))) ∧
     (∀ n, n ≤ d.rd (E.ADAPT_ERR_LIMIT l) → exec (.errorMonitorWindow l n false) s = .next (s.put
       (d.wr (E.SYMBOL_ERRORS l) ((d.rd (E.SYMBOL_ERRORS l) + n) % 2 ^ 64)))) ∧
     (d.laneLocked l = true → d.frozen l = false → (d.laneCtl l).testBit 3 = true →
       exec (.adaptSnapshot l) s =
         let e := d.modLanes (fun x => { x with crossed := SMap.set x.crossed 0 l 0 })
         .next (s.put (if SMap.get d.lanes.crossed 0 l = 0 then e.setLaneBit l 5 true else e)))) ∧
  (∀ (s : State) (l depth stave dir group : Nat) (w : Nat), s.Runs →
     let d := s.dev
     let most (lo : Nat) : Nat := min (min depth (min 2 (d.laneCtl l / 2 ^ lo % 4))) (if d.laneMode l = 6 then 1 else 2)
     (d.laneRuns l = true → 0 < most 8 →
       exec (.laneSleep l true depth) s = .next (s.put (if d.laneLocked l then d.setTxState l (most 8)
         else d.modLanes (fun x => { x with txAsked := SMap.set x.txAsked 0 l (most 8 + 1) })))) ∧
     (d.laneRuns l = true → 0 < most 10 → d.maySleep l false depth = true →
       exec (.laneSleep l false depth) s = .next (s.put (if d.laneLocked l then ((d.setRxState l (most 10)).freeze l).squelch
         else d.modLanes (fun x => { x with rxAsked := SMap.set x.rxAsked 0 l (most 10 + 1) })))) ∧
     (∀ q, d.portOfLane l = some q → d.portCtl q 7 = false → exec (.laneSleep l false 1) s = .next s) ∧
     (d.laneRuns l = true → SMap.get d.lanes.txWaking 0 l = 1 ∨
         (d.txState l = 1 ∨ d.txState l = 2) ∧ d.keptAsleep l = false →
       exec (.laneWake l true) s = .next (s.put ((d.setTxState l 0).modLanes (fun x =>
         { x with txWaking := SMap.set x.txWaking 0 l 0 })))) ∧
     (d.laneRuns l = true → d.rxAsleep l = true →
       exec (.laneWake l false) s = .next (s.put ((d.setRxState l 0).resumeAdapt l))) ∧
     (d.mode.counts = true → stave < 8 → dir < 2 → group < 32 →
       let e := d.shiftGroup (stave * 64 + dir * 32 + group)
       exec (.bridgeCheckWord stave dir group []) s = .next (s.put e) ∧
       (e.wireChecked stave dir group w = true → exec (.bridgeCheckWord stave dir group [w]) s = .next (s.put
         ((e.bumpSat (E.CHECK_FAILS stave) 1).strike 2 (stave * 2 ^ 21 + dir * 2 ^ 20 + group * 2 ^ 6 + w)))) ∧
       (e.wireChecked stave dir group w = false → exec (.bridgeCheckWord stave dir group [w]) s = .next (s.put e)) ∧
       (d.lanes.wiresDue = [] → e = d)))

/-- Records that reach the Gauge (R355, R356, R360): a delta record whose CRC holds counts in TAP_TOTAL and is the newest
of its group; one whose CRC fails adds nothing to any sum, flags its group's 64 points, and counts in TAP_CRC_ERRORS.
A valid time record names the second of the next pulse (R357); a pulse that none named is ignored. Every audit entry
(R365) advances NEXT_AUDIT by one and fills one slot of the 4,096, and leaves the interval, the records and the seal
as they are. -/
def Obligations.GaugeTakesRecords : Prop :=
  (∀ (s : State) (bytes : List Byte), s.dev.gauge.powered = true →
     let g := s.dev.gauge
     let k := byteAt bytes 1 % 32
     (tapCrcOk bytes 784 = true → byteAt bytes 0 = 1 → ∃ t, exec (.deltaRecord bytes) s = .next t ∧
       t.dev.gauge.total = (g.total + 1) % 2 ^ 64 ∧ t.dev.gauge.tapActive = true ∧
       SMap.get t.dev.gauge.lastSeq 0 k = beNat (slice bytes 4 4) + 1 ∧ t.dev.bk = s.dev.bk ∧ t.dev.clk = s.dev.clk) ∧
     (tapCrcOk bytes 784 = false → ∃ t, exec (.deltaRecord bytes) s = .next t ∧
       t.dev.gauge.crcErrors = min (g.crcErrors + 1) 0xFFFFFFFF ∧ t.dev.gauge.interval.bytes = g.interval.bytes ∧
       t.dev.gauge.interval.frames = g.interval.frames ∧ t.dev.gauge.interval.gaps = g.interval.gaps ||| groupGaps k ∧
       t.dev.gauge.total = g.total) ∧
     (tapCrcOk bytes 16 = true → byteAt bytes 0 = 2 →
       exec (.timeRecord bytes) s = .next (s.put { s.dev with gauge := { g with named := some (beNat (slice bytes 8 6)) } })) ∧
     (∀ sec, g.named = some sec → exec .gaugePulse s =
       .next (s.put ((({ s.dev with gauge := { g with named := none } } : Device).gaugePulse sec).onGauge
         (fun x => { x with pulseAt := x.ns })))) ∧
     (g.named = none → s.Between → exec .gaugePulse s = .next s)) ∧
  (∀ (g : Gauge) (kind : Nat) (data : List Byte),
     (g.audit kind data).nextAudit = g.nextAudit + 1 ∧
     (∀ n, n ≠ g.nextAudit % 4096 → BMap.get (g.audit kind data).audits [] n = BMap.get g.audits [] n) ∧
     (g.audit kind data).interval = g.interval ∧ (g.audit kind data).records = g.records ∧
     (g.audit kind data).sealState = g.sealState)

/-- The Gauge's own events (R356, R358, R359, R360, R367, R368, R374, R376): Gauge time reaches what the event names
(`reach`: log entry 37, the model's choice), whatever the Core does; each that is met writes its audit entry, its record
or its copies, and one whose condition is not met changes nothing. A sealing in the Gauge clock cycle of a boundary closes
no record beside the boundary's. While VDD_GAUGE is absent nothing reaches the die (R477). -/
def Obligations.GaugeEvents : Prop :=
  (∀ s : State, s.Between → s.dev.gauge.powered = false →
    (∀ c ∈ [Instr.tapSilent, .gaugePulse, .gaugeHoldoverStart, .holdoverExceeded, .gaugeIntervalBoundary, .gaugeCheckpoint,
        .gaugeStatusPublish, .gaugeMirrorCycleEnd], exec c s = .next s) ∧
    (∀ bytes, exec (.deltaRecord bytes) s = .next s ∧ exec (.timeRecord bytes) s = .next s) ∧
    (∀ asserted, exec (.sealBreakAssert asserted) s = .next s) ∧
    (∀ unreadable, exec (.gaugeRestart .resetPin unreadable) s = .next s ∧
      exec (.gaugeRestart .supplyBack unreadable) s = .next (s.put
        (({ s.dev with gauge := (({ s.dev.gauge with powered := true, pin := false } : Gauge).restart s.dev.serial true
            unreadable).coreSupplyIs (s.dev.mode ≠ Mode.off) } : Device).raise Src.GAUGE_RECORD_READY 0)))) ∧
  (∀ (s : State) (asserted unreadable : Bool), s.dev.gauge.powered = true →
    let d := s.dev
    let g := d.gauge
    let put := fun x => s.put { d with gauge := x }
    exec (.gaugeRestart .supplyGone unreadable) s = .next (put { g with powered := false }) ∧
    (g.tapActive = true → exec .tapSilent s = .next (put
      (({ g.reach (g.recordAt + 1000000) with tapActive := false, interval := { g.interval with gaps := allGaps, silent := true } } : Gauge).audit 15
        (beBytes 4 g.lastAny)))) ∧
    (g.timeSet = true → g.holdover = none → exec .gaugeHoldoverStart s = .next (put
      (({ g.reach (g.pulseAt + 1500000000) with holdover := some (g.reach (g.pulseAt + 1500000000)).ns, interval := { g.interval with holdover := true } } : Gauge).audit 7 []))) ∧
    (g.timeSet = false → s.Between → exec .gaugeHoldoverStart s = .next s) ∧
    (g.holdover.isSome = true → g.exceeded = false → exec .holdoverExceeded s = .next (put
      (({ g.reach (g.holdover.getD 0 + ((1000000000 * g.params.holdoverS : Nat) : Int)).toNat with exceeded := true, interval := { g.interval with exceeded := true } } : Gauge).audit 9 []))) ∧
    (g.holdover = none → s.Between → exec .holdoverExceeded s = .next s) ∧
    (g.oldMinutes = none → exec .gaugeIntervalBoundary s = .next (s.put
      (({ d with gauge := { g.reach g.nextBoundary with oldMinutes := none, boundaryAt := some g.nextBoundary } } : Device).gaugeClose
        g.nextBoundary g.nextBoundary 0))) ∧
    (∀ old, g.oldMinutes = some old → exec .gaugeIntervalBoundary s = .next (s.put
      ((({ d with gauge := { g.reach g.nextBoundary with oldMinutes := none, boundaryAt := some g.nextBoundary } } : Device).gaugeClose
        g.nextBoundary g.nextBoundary 512).onGauge (fun x => x.audit 18 (beBytes 1 old ++ beBytes 1 g.params.minutes))))) ∧
    (g.nextBoundary ≤ g.ns → d.gaugeBoundary.gauge.atBoundary = true → d.sealClose = d.gaugeBoundary) ∧
    (g.ns < g.nextBoundary → g.atBoundary = true → d.sealClose = d) ∧
    (g.ns < g.nextBoundary → g.atBoundary = false → d.sealClose = d.gaugeClose g.ns g.ns 512) ∧
    (g.sealState = 1 → exec (.sealBreakAssert true) s = .next (put
      (({ g with pin := true, sealState := 2 } : Gauge).audit 2 (beBytes 4 g.reseals)))) ∧
    (g.sealState ≠ 1 ∨ asserted = false → exec (.sealBreakAssert asserted) s = .next (put { g with pin := asserted })) ∧
    exec .gaugeCheckpoint s = .next (put { g.reach (g.savedAt + 60000000000) with
      saved := g.interval, savedAt := (g.reach (g.savedAt + 60000000000)).ns }) ∧
    exec (.gaugeRestart .resetPin unreadable) s = .next (s.put
      (({ d with gauge := g.restart d.serial false unreadable } : Device).raise Src.GAUGE_RECORD_READY 0)) ∧
    (s.Between → exec (.gaugeRestart .supplyBack unreadable) s = .next s) ∧
    (∀ lost, (g.restart d.serial lost unreadable).timeSet = false) ∧
    (s.Runs → d.ready = true → exec .gaugeMirrorCycleEnd s = .next (s.put
      (({ d with gauge := { g with mirrorComplete := true, mirrorRecords := g.records, mirrorAudits := g.audits } }
        : Device).wrBit E.GAUGE_STATUS 5 true))) ∧
    (s.Runs → d.ready = true → g.mirrorComplete = false → exec .gaugeStatusPublish s = .next (s.put
      (d.onGauge (fun g => { g.reach (g.publishedAt + 1000000) with
                             publishedAt := (g.reach (g.publishedAt + 1000000)).ns })).publish)))

/-- The supplies and RESET_N (R458, R475, R476): Off is left for Reset with the supplies, and the loss of one enters Off;
RESET_N low enters Reset; the rise that ends Reset latches the straps and starts Boot, and no other rise latches them (R480). What survives a Reset is what the non-volatile
memories and the Gauge hold. Boot, image selection and the timed ends of the other modes (R459 to R462, R464, R468,
R484, R485). -/
def Obligations.SuppliesResetAndBoot : Prop :=
  (∀ (s : State) (straps : Nat),
     let d := s.dev
     let low : Device := { d with board := { d.board with resetPin := false } }
     (d.mode = .off → ∃ t, exec .suppliesInRange s = .next t ∧ t.dev.mode = .reset ∧ t.dev.board.tripped = false ∧
       (d.gauge.powered = true → t.dev.gauge.coreSupply = true) ∧ t.dev.board.vddIo = true ∧ t.dev.flashTotal = d.flashTotal ∧ t.dev.mapA = d.mapA ∧ t.dev.mapB = d.mapB ∧
       t.dev.headers = [] ∧ t.dev.frames = [] ∧ t.dev.queued = [] ∧ t.dev.objs =
         d.objs.filter (fun e => e.1 = E.IMAGE_SLOT_A || e.1 = E.IMAGE_SLOT_B)) ∧
     (d.mode ≠ .off → s.Between → exec .suppliesInRange s = .next s) ∧
     (d.mode ≠ .off → ∃ t, exec .coreSupplyLost s = .next t ∧ t.dev.mode = .off ∧
       (d.gauge.powered = true → t.dev.gauge.coreSupply = false) ∧
       t.dev.headers = [] ∧ t.dev.frames = [] ∧ t.dev.flashTotal = d.flashTotal) ∧
     (d.mode ≠ .off → exec .resetNFall s = .next (s.put low.enterReset)) ∧
     (d.mode ≠ .off → low.enterReset.mode = .reset) ∧
     (d.mode = .off → exec .resetNFall s = .next (s.put low)) ∧
     (s.Runs → d.board.resetPin = false → d.mode = .reset → d.resetHold = false → ∃ t,
       exec (.resetNRise straps) s = .next t ∧ t.dev.mode = .boot ∧ t.dev.bootPhase = 1 ∧
         t.dev.board.straps = straps % 16 ∧ t.dev.board.resetPin = true) ∧
     (s.Runs → d.board.resetPin = false → d.mode ≠ .reset ∨ d.resetHold = true →
       exec (.resetNRise straps) s = .next (s.put { d with board := { d.board with resetPin := true } })) ∧
     (s.Runs → d.board.resetPin = true → exec (.resetNRise straps) s = .next s)) ∧
  (∀ (s : State) (b : BootReport) (bus result : Nat) (data : List Byte) (slotB ok : Bool), s.Runs →
     let d := s.dev
     let tried : Device := { d with board := { d.board with retries := min 255 (d.board.retries + 1) } }
     (d.mode = .reset → d.resetHold = true → d.board.resetPin = true →
       exec .requestedResetHoldEnd s = .next (s.put d.startBoot)) ∧
     (d.mode = .boot → d.bootPhase ≤ 1 → exec (.bootPhaseEnd b) s = .next (s.put { d with
       bootPhase := 2, board := { d.board with voutModes := some b.voutModes } })) ∧
     (d.mode = .boot → d.bootPhase = 2 → exec (.bootPhaseEnd b) s =
       .next (s.put (({ d with board := { d.board with flashDead := b.flashDead } } : Device).selectImage))) ∧
     (d.mode = .boot → 2 < d.bootPhase → exec (.bootPhaseEnd b) s = .next (s.put (d.endPhase b))) ∧
     (d.mode ≠ .boot → exec (.bootPhaseEnd b) s = .next s) ∧
     (d.mode = .boot → d.bootPhase = 2 → exec .imageRetry s = .next (s.put tried.selectImage)) ∧
     (let fa := if d.board.flashDead then 7 else d.slotFailure (d.obj E.IMAGE_SLOT_A)
       let fb := if d.board.flashDead then 7 else d.slotFailure (d.obj E.IMAGE_SLOT_B)
       d.selectImage.board.failA = fa ∧ d.selectImage.board.failB = fb ∧
         d.selectImage.bootPhase = if fa ≠ 0 ∧ fb ≠ 0 then d.bootPhase else 3) ∧
     (d.mode = .drain → d.rd E.DRAIN_STATE = 1 →
       let e := ({ d with drainOver := true } : Device).flushQueues
       exec .drainLimitExpiry s = .next (s.put (if e.drained then e.wr E.DRAIN_STATE 2 else e))) ∧
     (d.mode ≠ .drain → exec .drainLimitExpiry s = .next s) ∧
     (d.mode = .recovery → d.rd E.RECOVERY_STATE = 1 → exec .recoveryComparisonEnd s =
       .next (s.put { d with verify := { d.verify with comparedAt := some d.clk.nowPs } })) ∧
     (d.board.jobs.find? (fun j => j.bus = bus) = none → exec (.busTransactionEnd bus result data) s = .next s) ∧
     (∀ j, d.board.jobs.find? (fun j => j.bus = bus) = some j →
       let e := ({ d with board := { d.board with jobs := d.board.jobs.filter (fun x => x.bus ≠ bus) } } : Device).wr
         (E.BUS_STATUS bus) (result % 4 * 2)
       (j.reads = false ∨ result % 4 ≠ 0 → exec (.busTransactionEnd bus result data) s = .next (s.put e)) ∧
       (j.reads = true → result % 4 = 0 → exec (.busTransactionEnd bus result data) s = .next (s.put
         (e.wr (E.BUS_DATA bus) (beNat (slice data 0 j.readLength ++ (beBytes 32 (e.rd (E.BUS_DATA bus))).drop j.readLength)))))) ∧
     (∀ g, d.board.programming = some g → g.slotB = slotB →
       let e : Device := { d with board := { d.board with programming := none } }
       exec (.imageSlotProgrammed slotB ok) s = .next (s.put
         (if ok then (e.setSlot slotB g.data).answer g.reply Res.OK else e.answer g.reply Res.CRC_MISMATCH))))

/-- The test access port (Table 20.7, R487): each instruction's code stands in the instruction register; EXTEST and its two AC
forms drive the pins in Reset only; IDCODE and BOOT_STATUS shift their registers out, BYPASS its one bit, and no instruction
touches the block's registers. Without VDD_IO there is no test port (R481). -/
def Obligations.TestAccessPort : Prop :=
  (∀ (s : State) (shift : Nat), s.Between → s.dev.board.vddIo = false →
    ∀ c ∈ [Instr.extest shift, .extestPulse, .extestTrain, .samplePreload shift, .idcode, .bootStatus, .bypass],
      exec c s = .next s) ∧
  (∀ (s : State) (shift : Nat), s.dev.board.vddIo = true →
    let d := s.dev
    let n := 2 ^ Config.boundaryLength
    let out := fun (code b drive : Nat) (on : Bool) => s.put { d with
      draws := d.draws + 1, board := { d.board with ir := code, boundary := b % n, driven := if on then some (drive % n) else none },
      sent := d.sent ++ [.tdo Config.boundaryLength (Config.freeValue d.draws % n)] }
    let shifted := fun code width value => s.put { d with
      board := { d.board with ir := code, driven := none }, sent := d.sent ++ [.tdo width value] }
    (d.mode = .reset → exec (.extest shift) s = .next (out 0x00 shift shift true) ∧
      exec .extestPulse s = .next (out 0x08 d.board.boundary d.board.boundary true) ∧
      exec .extestTrain s = .next (out 0x09 d.board.boundary d.board.boundary true)) ∧
    (d.mode ≠ .reset → exec (.extest shift) s = .next (shifted 0x00 1 0) ∧ exec .extestPulse s = .next (shifted 0x08 1 0) ∧
      exec .extestTrain s = .next (shifted 0x09 1 0)) ∧
    exec (.samplePreload shift) s = .next (out 0x02 shift shift false) ∧
    exec .idcode s = .next (shifted 0x01 32 d.idcode) ∧ d.idcode % 2 = 1 ∧ d.idcode / 2 ^ 12 % 2 ^ 16 = 0x2048 ∧
    exec .bootStatus s = .next (shifted 0x21 32 d.bootStatus) ∧
    exec .bypass s = .next (shifted 0xFF 1 0))

/-- The time inputs (R312, R322, R324), while registers are reachable: the loss of the 10 MHz reference that
the clock follows enters holdover and its return leaves it; the loss of the pulse per second that time follows does
the same, but at a secondary, which follows its primary's time (R433); PPS_OUT pulses only while time is valid; a recovered clock is squelched while its port is down. -/
def Obligations.TimeInputs : Prop :=
  ∀ (s : State) (o : Nat), s.Runs → s.dev.alive = true →
    let d := s.dev
    let lost := d.wrBit E.TIME_STATUS 3 false
    let back := d.wrBit E.TIME_STATUS 3 true
    exec .ppsInEdge s = .next (s.put d.ppsEdge) ∧
    (lost.rd E.TIME_CLOCK = 1 → d.time.refLost = false → exec .ref10mLoss s = .next (s.put
      ((({ lost with time := { d.time with refLost := true } } : Device).wrBit E.TIME_STATUS 1 true).raise
        Src.TIME_HOLDOVER 0))) ∧
    exec .ref10mRestore s = .next (s.put (({ back with time := { d.time with refLost := false } } : Device).wrBit
      E.TIME_STATUS 1 d.time.ppsLost)) ∧
    (d.followsTime = false → d.cur E.TIME_SOURCE = 2 → d.time.lastPps.isSome = true → d.time.ppsLost = false →
      let e := ({ d.wrBit E.TIME_STATUS 2 false with time := { d.time with ppsLost := true } }
        : Device).wrBit E.TIME_STATUS 1 true
      exec .ppsInLost s = .next (s.put ((e.raise Src.TIME_HOLDOVER 0).raise Src.PPS_IN_LOST 0))) ∧
    (∀ sec, d.time.pulseDue = some sec → d.timeValid = true → exec .ppsOutPulse s = .next (s.put
      { d with time := { d.time with pulseDue := none },
               sent := d.sent ++ (if d.cur E.PPS_OUT_PIN = 0xFF then []
                 else [.ppsPin (d.cur E.PPS_OUT_PIN) (d.cur E.PPS_OUT_WIDTH_US)]) ++ [.pulse sec] })) ∧
    (∀ sec, d.time.pulseDue = some sec → d.timeValid = false →
      exec .ppsOutPulse s = .next (s.put { d with time := { d.time with pulseDue := none } })) ∧
    (o < 2 → d.rclkSquelched o = false → exec (.rclkResume o) s = .next (s.put (d.wrBit E.RCLK_STATUS o false))) ∧
    (d.rclkSquelched o = true → exec (.rclkResume o) s = .next s)

/-- A mailbox's request (R69, Tables 3.4 and 3.7), while it takes a doorbell: the page holds what the request spells, and
each operation runs on those words as its principal and is answered in the page. DOMAIN_READ is no operation of a
mailbox. A doorbell rung while BUSY is 1 is ignored and counted in MB_IGNORED; one while READY is 0 completes at once
with NOT_READY. -/
def Obligations.MailboxRequestsRun : Prop :=
  (∀ (s : State) (kernel current asked : Bool) (n tag a length offset : Nat) (data : List Byte), s.Accesses →
     let m := mailboxNumber kernel n
     let p := mailboxPrincipal m
     let q : Request := .mailbox kernel n tag current asked a length offset data
     let reply : Reply := .mailbox kernel n (tag % 256)
     let at' := fun (op : Nat) => (s.dev.latched m op tag current asked a length offset data).running m
     let index := a % 2 ^ 24
     let out := fun (x : Nat × List Byte × Device) => Host.Outcome.next (s.put (deliver m tag x))
     mailboxExists kernel n = true → s.dev.takesDoorbell m → data.length ≤ 256 → length < 2 ^ 32 → offset < 2 ^ 32 →
     (exec (.read q) s = let x := (at' 1).readEntry p index current true; out (x.1, x.2.2.1, x.2.2.2)) ∧
     (length = data.length → exec (.write q) s =
       let x := (at' 2).writeEntry p index true data reply; out (x.1, [], x.2)) ∧
     (exec (.describe q) s = let x := (at' 3).describe index current true; out (x.1, x.2, at' 3)) ∧
     (exec (.domainRead q) s = out (Res.BAD_OPCODE, [], at' 4)) ∧
     (exec (.domainBegin q) s = let x := (at' 5).windowBegin m index length asked; out (x.1, [], x.2)) ∧
     (exec (.domainSegment q) s = let x := (at' 6).windowMove m offset; out (x.1, [], x.2)) ∧
     (4 ≤ data.length → exec (.domainEnd q) s =
       let x := (at' 7).windowEnd m (leNat (data.take 4)) reply; out (x.1, [], x.2)) ∧
     (exec (.windowRead q) s = let x := (at' 8).windowRead m index offset current; out (x.1, [], x.2)) ∧
     (exec (.windowClose q) s = let x := (at' 9).windowClose m; out (x.1, [], x.2))) ∧
  (∀ (s : State) (kernel current asked : Bool) (n tag a length offset : Nat) (data : List Byte), s.Accesses →
     let m := mailboxNumber kernel n
     let e := s.dev.latched m 2 tag current asked a length offset data
     let q : Request := .mailbox kernel n tag current asked a length offset data
     mailboxExists kernel n = true → s.dev.mode ≠ .off → s.dev.board.pci.d3hot = false →
     (s.dev.mailboxBusy m = true → exec (.write q) s = .next (s.put (e.bumpBar MB_IGNORED 1))) ∧
     (s.dev.mailboxBusy m = false → s.dev.ready = false →
       exec (.write q) s = .next (s.put (e.completeMailbox m tag Res.NOT_READY []))))

/-- A user mailbox executes a request only while an enabled grant with target 1 covers its page; otherwise the request
completes with NOT_GRANTED. A kernel mailbox needs no grant (R72). -/
def Obligations.UserMailboxesNeedAGrant : Prop :=
  ∀ (s : State) (kernel : Bool) (n tag a : Nat), s.Accesses →
    let d := s.dev
    let m := mailboxNumber kernel n
    let q : Request := .mailbox kernel n tag false false a 0 0 []
    let covered := ∃ g, g < 128 ∧ d.rd (E.GRANT_ENABLE g) = 1 ∧ d.rd (E.GRANT_TARGET g) = 1 ∧ d.rd (E.GRANT_FIRST g) ≤ n ∧
      n < d.rd (E.GRANT_FIRST g) + d.rd (E.GRANT_PAGES g)
    let e := d.latched m 1 tag false false a 0 0 []
    mailboxExists kernel n = true → d.mode ≠ .off → d.board.pci.d3hot = false → d.Quiet → d.ready = true →
    d.mailboxBusy m = false →
    (kernel = true ∨ covered → exec (.read q) s =
      let x := (e.running m).readEntry (mailboxPrincipal m) (a % 2 ^ 24) false true
      .next (s.put (deliver m tag (x.1, x.2.2.1, x.2.2.2)))) ∧
    (kernel = false → ¬ covered → exec (.read q) s = .next (s.put ((e.running m).completeMailbox m tag Res.NOT_GRANTED [])))

/-- The commands that are a write of one entry: GRANT_WRITE, KEY_WRITE, ENABLE, COMMIT, DISCARD_STAGING, CLEAR,
TIME_STEP_NS, PPS_SECONDS, TIME_RELEASE, TIME_CAPTURE, GAUGE_SEAL, GAUGE_PARAM_WRITE, POWER_CAP_W, JOIN_ENABLE,
RETIRE_REQUEST, UNRETIRE_REQUEST, ROLLBACK_ADVANCE, MODE_REQUEST, CARE_TEST_GO, DOMAIN_ARM and BUS_REQUEST. From a
mailbox each is the WRITE of that entry, run and answered as such; from Tendril it takes the frame at the head of the
queue that holds that write. -/
def Obligations.EntryCommandsAreWrites : Prop :=
  ∀ (s : State) (c : Instr) (a : Addr) (f : Bool → List Byte) (n tag : Nat), s.Accesses →
    let data := f true
    let written := fun (kernel : Bool) =>
      let m := mailboxNumber kernel n
      let x := ((s.dev.latched m 2 tag false false a data.length 0 data).running m).writeEntry (mailboxPrincipal m)
        (a % 2 ^ 24) true data (.mailbox kernel n (tag % 256))
      s.put (deliver m tag (x.1, [], x.2))
    (data.length ≤ 256 → entryWrite c = some (.kernel n tag, a, f) → n < 4 → s.dev.takesDoorbell n →
      exec c s = .next (written true)) ∧
    (data.length ≤ 256 → entryWrite c = some (.user n tag, a, f) → n < 16 → s.dev.takesDoorbell (4 + n) →
      exec c s = .next (written false)) ∧
    (entryWrite c = some (.tendril, a, f) → exec c s = .next (s.put
      (s.dev.tendril (fun x => hdrOp x.header = 2 && hdrAddr x.header = a && x.payload = f false))))

/-- The frame at the head of the Tendril queue (R82 to R86): a request takes it where it spells that request; one that is
not authentic is dropped and counted in AUTH_DROPS, one whose sequence is not accepted in REPLAY_DROPS; a repeated
request is answered again and not executed; every other is executed and answered. An empty queue holds no request. -/
def Obligations.TendrilRequestsRun : Prop :=
  ∀ (s : State) (f : TendrilFrame) (rest : List TendrilFrame), s.Accesses → s.dev.doorbells = [] →
    s.dev.requestWaits = false →
    let d := s.dev
    let e : Device := { d with tendrilQueue := rest }
    let h := f.header
    let command := fun (op : Nat) => match op with
      | 2 => Instr.write .tendril
      | 3 => .describe .tendril
      | 4 => .domainRead .tendril
      | 5 => .domainBegin .tendril
      | 6 => .domainSegment .tendril
      | 7 => .domainEnd .tendril
      | 8 => .windowRead .tendril
      | 9 => .windowClose .tendril
      | _ => .read .tendril
    (d.tendrilQueue = f :: rest → d.alive = true → exec (command (hdrOp h)) s = .next (s.put (e.takeFrame f))) ∧
    (d.tendrilQueue = [] → ∀ op, exec (command op) s = .next s) ∧
    (d.tendrilQueue = f :: rest → hdrOp h = 2 → exec (.describe .tendril) s = .next s) ∧
    (e.authentic f = false → e.takeFrame f = e.dropTendril E.AUTH_DROPS) ∧
    (e.authentic f = true → e.acceptSeq (hdrCtrl h) (hdrSlotB h) (hdrSeq h) = none →
      e.takeFrame f = e.dropTendril E.REPLAY_DROPS) ∧
    (∀ g, e.authentic f = true → e.acceptSeq (hdrCtrl h) (hdrSlotB h) (hdrSeq h) = some g →
      let kept := g.kept.find? (fun k => k.ctrl = hdrCtrl h ∧ k.requestId = hdrId h ∧ k.opcode = hdrOp h ∧ k.addr = hdrAddr h
        ∧ k.offset = hdrOffset h)
      (∀ k, kept = some k → e.takeFrame f = g.sendResponse f k.header k.payload) ∧
      (kept = none → g.ready = true → (g.frameOperation f).1 ≠ Res.PENDING →
        let x := g.frameOperation f
        e.takeFrame f = x.2.2.2.answerFrame f x.1 x.2.1 x.2.2.1) ∧
      (kept = none → g.ready = false → e.takeFrame f = g.answerFrame f Res.NOT_READY 0 []))

/-- No sequence is accepted twice (R85): 0 never, a greater one than RX_SEQ once, which it then is, and one in the window
of 64 only where it has not been accepted before. -/
def Obligations.SequencesAcceptedOnce : Prop :=
  ∀ (d e : Device) (c seq : Nat) (slotB : Bool), c < d.ctrlSeq.length → seq < 2 ^ 32 →
    let rx := fun (d : Device) => d.rd (if slotB then E.RX_SEQ_B c else E.RX_SEQ_A c)
    d.acceptSeq c slotB 0 = none ∧
    (rx d < seq → rx d ≠ 0xFFFFFFFF → seq ≠ 0 → ∃ g, d.acceptSeq c slotB seq = some g ∧ rx g = seq) ∧
    (seq + 63 < rx d → d.acceptSeq c slotB seq = none) ∧
    (rx d = 0xFFFFFFFF → d.acceptSeq c slotB seq = none) ∧
    (d.acceptSeq c slotB seq = some e → e.acceptSeq c slotB seq = none ∧ rx e = max (rx d) seq ∧
      (∀ x, x ≠ (if slotB then E.RX_SEQ_B c else E.RX_SEQ_A c) → e.rd x = d.rd x))

/-- A write of KEY_A or KEY_B (R78): the key is kept, the slot's receive sequence starts again at 0, and the controller's
transmit sequence at 1; the other slot and every other controller keep theirs. -/
def Obligations.KeyWriteRestartsSequences : Prop :=
  ∀ (d : Device) (c v : Nat) (slotB : Bool), c < 16 → c < d.ctrlSeq.length →
    let e := d.writeKey c slotB v
    (∀ p, d.bookWrite p (if slotB then E.KEY_B c else E.KEY_A c) v = (Res.OK, e)) ∧
      e.rd (if slotB then E.KEY_B c else E.KEY_A c) = v ∧ e.rd (if slotB then E.RX_SEQ_B c else E.RX_SEQ_A c) = 0 ∧
      (e.ctrlSeq.getD c {}).tx = 1 ∧ e.rd (if slotB then E.RX_SEQ_A c else E.RX_SEQ_B c) =
        d.rd (if slotB then E.RX_SEQ_A c else E.RX_SEQ_B c) ∧
      (∀ k, k ≠ c → e.ctrlSeq.getD k {} = d.ctrlSeq.getD k {}) ∧ e.frames = d.frames ∧ e.p0 = d.p0 ∧ e.p1 = d.p1

/-- The order of refusals (R491) of a write of an entry that exists: SEALED, then ACCESS, PRINCIPAL and TYPE_LENGTH, then
VALUE, then BUSY; a refused write changes nothing. What passes them all takes the effect of its entry; in a pair, a member
entry's new value is then told (R430). -/
def Obligations.WriteRefusals : Prop :=
  ∀ (d : Device) (p a : Nat) (r : Row) (data : List Byte) (reply : Reply) (little : Bool), findRow a = some r →
    d.isJoint a = false →
    let w := d.writeEntry p a little data reply
    let n := valueOf r.ty little data
    let v := if r.kept = 0 then n else n &&& r.kept
    let acc := d.accessCode p a true
    (d.sealRefuses a (data = [0]) = true → w = (Res.SEALED, d)) ∧
    (d.sealRefuses a (data = [0]) = false → acc ≠ Res.OK → w = (acc, d)) ∧
    (r.acc = .ro → acc = Res.ACCESS) ∧
    (r.acc = .rwc → d.mode ≠ .configure → d.mode ≠ .check → acc = Res.ACCESS) ∧
    (acc ≠ Res.ACCESS → d.permits p a true = false → acc = Res.PRINCIPAL) ∧
    (d.sealRefuses a (data = [0]) = false → acc = Res.OK → (r.ty = .domain ∨ r.ty.size ≠ data.length) → w = (Res.TYPE_LENGTH, d)) ∧
    (d.sealRefuses a (data = [0]) = false → acc = Res.OK → r.ty ≠ .domain → r.ty.size = data.length →
      ((r.valueOk v = false ∨ d.ownValueOk a v = false) → w = (Res.VALUE, d)) ∧
      (r.valueOk v = true → d.ownValueOk a v = true → d.writeBusy r = true → w = (Res.BUSY, d)) ∧
      (r.valueOk v = true → d.ownValueOk a v = true → d.writeBusy r = false →
        let x := d.bookWrite p a n
        (∀ y, d.requestEffect p a v = some y → x = y) ∧
        (d.requestEffect p a v = none → x = (Res.OK, d.plainEffect r a v)) ∧
        (x.1 ≠ Res.OK ∨ x.2.joined = false → w = x) ∧
        (x.1 = Res.OK → x.2.isJoint a = false → w = (Res.OK, x.2.noticeEntry a))))

/-- What a write of an entry of its own effect does once it is let through: each of the entries that a command names. -/
def Obligations.EntryWriteEffects : Prop :=
  ∀ (d : Device) (p v : Nat),
    d.requestEffect p E.ENABLE 1 = some d.startEnable ∧ d.requestEffect p E.COMMIT 1 = some d.startCommit ∧
    d.requestEffect p E.MODE_REQUEST v = some (d.modeRequest p v) ∧
    (d.rwvBusy = false → d.requestEffect p E.DISCARD_STAGING 1 = some (Res.OK, d.discardStaging)) ∧
    (d.tel.clearArmed = none → d.requestEffect p E.CLEAR 1 =
      some (Res.OK, { d with tel := { d.tel with clearArmed := some (d.rd E.CLEAR_FIRST, d.rd E.CLEAR_COUNT) } })) ∧
    (d.tel.clearArmed.isSome = true → d.requestEffect p E.CLEAR 1 = some (Res.BUSY, d)) ∧
    ((d.joined = true → d.member ≠ 1) → d.timeValid = false → d.cur E.TIME_SOURCE = 1 → d.requestEffect p E.TIME_STEP_NS v =
      some (Res.OK, { d with time := { d.time with stepPending := some v } })) ∧
    (d.timeValid = true → d.requestEffect p E.TIME_STEP_NS v = some (Res.BUSY, d)) ∧
    ((d.joined = true → d.member ≠ 1) → d.timeValid = false → d.cur E.TIME_SOURCE = 2 → d.requestEffect p E.PPS_SECONDS v =
      some (Res.OK, { d with time := { d.time with ppsArmed := some v } })) ∧
    d.requestEffect p E.TIME_RELEASE 1 = some (Res.OK, d.releaseTime) ∧ d.releaseTime.timeValid = false ∧
    d.requestEffect p E.TIME_CAPTURE 1 = some (Res.OK,
      ((d.wr E.CAPTURED_TIME d.now80).wr E.CAPTURED_FRAC d.frac16).wr E.CAPTURED_ROUND (d.rd E.ROUND_COUNT)) ∧
    d.requestEffect p E.GAUGE_SEAL 1 = some (Res.OK, d.gaugeSeal) ∧
    d.requestEffect p E.RETIRE_REQUEST v = some (d.retireRequest v) ∧
    d.requestEffect p E.UNRETIRE_REQUEST v = some (d.unretireRequest v) ∧
    d.requestEffect p E.ROLLBACK_ADVANCE 1 = some d.advanceRollback ∧
    d.requestEffect p E.CARE_TEST_GO 1 = some d.careTest ∧
    (∀ c, c < 1024 → d.requestEffect p (E.DOMAIN_ARM c) 1 = some (d.armDomain p c)) ∧
    (∀ b, b < 18 → d.requestEffect p (entry (0x2E00 + b) 2) v = some (d.startBus b v)) ∧
    (∀ r, d.plainEffect r E.POWER_CAP_W v = if r.acc = .w1c then d.wr E.POWER_CAP_W (d.rd E.POWER_CAP_W &&& lnot 64 v)
      else d.wr E.POWER_CAP_W v) ∧
    (∀ r, d.plainEffect r E.JOIN_ENABLE v = (d.wr E.JOIN_ENABLE v).enableJoin v) ∧
    (∀ r g k, g < 128 → k < 256 → d.plainEffect r (entry (0x1180 + g) k) v =
      (d.wr (entry (0x1180 + g) k) v).raise Src.GRANT_CHANGED 0) ∧
    (∀ r k, k < 256 → d.plainEffect r (entry 0x9010 k) v = d.gaugeParam k r.ty.code r.ty.size v) ∧
    (∀ r c, c < 16 → d.plainEffect r (E.KEY_A c) v = d.writeKey c false v ∧ d.plainEffect r (E.KEY_B c) v = d.writeKey c true v)

/-- A raise of a source (R441): while READY is 1 its STATUS becomes 1, OCC and RAISES each gain 1 (OCC saturating at 255
with SATURATED), no other source of the group changes, and the raise is stamped with the round. DETAIL is written, but where
the source was raised in the same cycle for a lower instance, the number that its low 24 bits hold. Edges to one vector in
one cycle make one message (R444). A command is a cycle (log entry 178). -/
def Obligations.RaiseCounts : Prop :=
  ∀ (d : Device) (n detail : Nat), n < 1024 → detail < 2 ^ 32 →
    let e := d.raiseState n detail
    let g := n / 16
    let i := n % 16
    (e.rd (E.GROUP_STATUS g)).testBit i = true ∧
    (∀ j, j < 16 → j ≠ i → (e.rd (E.GROUP_STATUS g)).testBit j = (d.rd (E.GROUP_STATUS g)).testBit j) ∧
    (d.rd (E.SOURCE_OCC g i) % 256 ≠ 255 → e.rd (E.SOURCE_OCC g i) = d.rd (E.SOURCE_OCC g i) + 1) ∧
    (d.rd (E.SOURCE_OCC g i) % 256 = 255 → e.rd (E.SOURCE_OCC g i) % 256 = 255 ∧
      (e.rd (E.SOURCE_OCC g i)).testBit 8 = true) ∧
    e.rd (E.SOURCE_RAISES g i) = (d.rd (E.SOURCE_RAISES g i) + 1) % 2 ^ 32 ∧
    (d.raisedLow n = none → e.rd (E.SOURCE_DETAIL g i) = detail ∧ e.raisedLow n = some (detail % 2 ^ 24)) ∧
    (∀ low, d.raisedLow n = some low → detail % 2 ^ 24 < low →
      e.rd (E.SOURCE_DETAIL g i) = detail ∧ e.raisedLow n = some (detail % 2 ^ 24)) ∧
    (∀ low, d.raisedLow n = some low → low ≤ detail % 2 ^ 24 →
      e.rd (E.SOURCE_DETAIL g i) = d.rd (E.SOURCE_DETAIL g i) ∧ e.raisedLow n = some low) ∧
    SMap.get e.raiseRound 0 n = d.rd E.ROUND_COUNT ∧
    (∀ k, k < 1024 → k ≠ n → e.rd (E.SOURCE_OCC (k / 16) (k % 16)) = d.rd (E.SOURCE_OCC (k / 16) (k % 16)) ∧
      e.rd (E.SOURCE_RAISES (k / 16) (k % 16)) = d.rd (E.SOURCE_RAISES (k / 16) (k % 16))) ∧
    (d.ready = false → d.raise n detail = d) ∧
    (∀ k l, (d.rd (E.GROUP_ROUTE k)).testBit 8 = true → d.rd (E.GROUP_ROUTE k) % 128 = d.rd (E.GROUP_ROUTE l) % 128 →
      (d.deliver k).deliver l = d.deliver k)

/-- A source has a delivery edge where its ENABLE is 1 and its STATUS goes from 0 to 1, or a raise meets a clear; a group
is pending while any of its sources has STATUS and ENABLE both 1 (R443); and a source enabled while its STATUS is 1
has an edge too, which makes the group's message. -/
def Obligations.DeliveryEdges : Prop :=
  ∀ (d : Device) (n g v : Nat) (met : Bool),
    (d.raiseEdge n met = true ↔ (d.rd (E.GROUP_ENABLE (n / 16))).testBit (n % 16) = true ∧
      (met = true ∨ (d.rd (E.GROUP_STATUS (n / 16))).testBit (n % 16) = false)) ∧
    (d.groupPending g = true ↔ ∃ i, (d.rd (E.GROUP_STATUS g)).testBit i = true ∧ (d.rd (E.GROUP_ENABLE g)).testBit i = true) ∧
    (∀ i, i < 16 → v.testBit i = true → (d.rd (E.GROUP_ENABLE g)).testBit i = false →
      (d.rd (E.GROUP_STATUS g)).testBit i = true → d.writeEnable g v = (d.wr (E.GROUP_ENABLE g) (v % 2 ^ 16)).deliver g) ∧
    ((∀ i, i < 16 → v.testBit i = true → (d.rd (E.GROUP_ENABLE g)).testBit i = true) →
      d.writeEnable g v = d.wr (E.GROUP_ENABLE g) (v % 2 ^ 16))

/-- Writes of the event registers (R442, R446): a W1C clears STATUS and changes no OCC, unless a raise meets it, which
leaves STATUS at 1, counts and writes DETAIL; a write of OCC subtracts, stopping at 0, and changes no STATUS; ENABLE is written, with
the edges that it makes. By the other path each is the write of the same entry. A coalesced EVENT frame leaves when
its hold ends, with the values of that moment and COALESCED set (R445); a beacon goes to each enabled controller that
has an address (R88), and none where beacons are off. -/
def Obligations.EventRegisterWrites : Prop :=
  (∀ (s : State) (r : Requester) (g v n : Nat), s.Accesses → s.dev.mode ≠ .off → s.dev.board.pci.d3hot = false →
     let d := s.dev
     let a := E.SOURCE_OCC (n / 16) (n % 16)
     (g < 64 → ∃ t, exec (.groupStatusClear .bar0 g v []) s = .next t ∧
       (∀ i, i < 16 → (t.dev.rd (E.GROUP_STATUS g)).testBit i = ((d.rd (E.GROUP_STATUS g)).testBit i && !v.testBit i)) ∧
       (∀ x, x ≠ E.GROUP_STATUS g → t.dev.rd x = d.rd x) ∧ t.dev.sent = d.sent) ∧
     (n < 1024 → (groupSources (n / 16)).testBit (n % 16) = true → d.ready = true →
       ∀ x, ∃ t, exec (.groupStatusClear .bar0 (n / 16) v [(n % 16, x)]) s = .next t ∧
         (t.dev.rd (E.GROUP_STATUS (n / 16))).testBit (n % 16) = true ∧ t.dev.rd a = occNext (d.rd a) ∧
         t.dev.rd (E.SOURCE_DETAIL (n / 16) (n % 16)) = x % 2 ^ 32) ∧
     (n < 1024 → ∃ t, exec (.sourceOccWrite .bar0 n v) s = .next t ∧
       t.dev.rd a % 256 = d.rd a % 256 - v % 256 ∧ (t.dev.rd a).testBit 8 = ((d.rd a).testBit 8 && !v.testBit 8) ∧
       (∀ x, x ≠ a → t.dev.rd x = d.rd x) ∧ t.dev.sent = d.sent) ∧
     (g < 64 → exec (.groupEnableWrite .bar0 g v) s = .next (s.put (d.writeEnable g v))) ∧
     (g < 64 → exec (.groupEnableWrite (.book r) g v) s = .next (s.put (d.writeFrom r (E.GROUP_ENABLE g) v))) ∧
     (g < 64 → exec (.groupStatusClear (.book r) g v []) s =
       .next (s.put ((d.writeFrom r (E.GROUP_STATUS g) v).clearStatus g 0 []))) ∧
     (n < 1024 → exec (.sourceOccWrite (.book r) n v) s = .next (s.put (d.writeFrom r a v)))) ∧
  (∀ (s : State) (c n : Nat), s.Runs →
     let d := s.dev
     (∀ h, d.eventHolds.find? (fun h => h.ctrl = c && h.source = n && h.waiting) = some h → d.selects c (n / 16) = true →
       exec (.eventFrameCoalesced c n) s = .next (s.put
         (let held := modFirst d.eventHolds (fun h => h.ctrl = c && h.source = n)
           (fun h => { h with waiting := false, sentPs := d.clk.nowPs })
         ({ d with eventHolds := held } : Device).originate c 0x20 (d.eventPayload n true)))) ∧
     (d.eventHolds.find? (fun h => h.ctrl = c && h.source = n && h.waiting) = none →
       exec (.eventFrameCoalesced c n) s = .next s) ∧
     (d.rd E.TENDRIL_ENABLE = 0 ∨ d.rd E.BEACON_PERIOD_MS = 0 ∨ d.ready = false → exec .beacon s = .next s) ∧
     (d.rd E.TENDRIL_ENABLE ≠ 0 → d.rd E.BEACON_PERIOD_MS ≠ 0 → d.ready = true →
       (∀ k, k < 16 → d.rd (E.CTRL_ENABLE k) = 0) → exec .beacon s = .next s) ∧
     (d.rd E.TENDRIL_ENABLE ≠ 0 → d.rd E.BEACON_PERIOD_MS ≠ 0 → d.ready = true → c < 16 → d.rd (E.CTRL_ENABLE c) = 1 →
       d.rd (E.CTRL_MAC c) ≠ 0 → (∀ k, k < 16 → k ≠ c → d.rd (E.CTRL_ENABLE k) = 0) →
       exec .beacon s = .next (s.put (d.originate c 0x30 d.beaconPayload))))

/-- Writes into the BARs (R67): one into BAR2, or where no register stands, is discarded and counted; one to a read-only
word is ignored and not counted; a mailbox's words are kept, and where one write holds both the doorbell and the clear of DONE, the completion wins (R69).
FUNCTION_LEVEL_RESET (R66): every channel that is not
retired halts, every mailbox is cleared, the window closes, the host's open writes are aborted and the vectors masked;
MODE_STATE, the vintages, the objects and the data path stay. DOMAIN_WRITE_TIMEOUT (R87): the write that the
controller left open is aborted, and no other. -/
def Obligations.RegisterWritesAndFunctionReset : Prop :=
  (∀ (s : State) (bar k m value : Nat), s.Accesses → s.dev.mode ≠ .off → s.dev.board.pci.d3hot = false → value < 2 ^ 32 →
     let d := s.dev
     let page := mailboxPage m
     (∀ offset size, 0 < size → size ≤ 256 → bar ≠ 0 → bar ≠ 4 →
       exec (.registerWrite bar offset size value) s = .next (s.put (d.bumpBar HOST_BAD_WRITES 1)) ∧
       exec (.hostBadWrite bar offset size value) s = .next (s.put (d.bumpBar HOST_BAD_WRITES 1))) ∧
     (k < 5 → exec (.registerWrite 0 (4 * k) 4 value) s = .next s) ∧
     (5 ≤ k → k < 0x4000 → exec (.hostBadWrite 0 (4 * k) 4 value) s = .next (s.put (d.bumpBar HOST_BAD_WRITES 1))) ∧
     (m < 20 → exec (.registerWrite 0 (page + 4) 4 value) s = .next (s.put (d.setBar (page + 4) (value % 2 ^ 24)))) ∧
     (m < 20 → 0x40 ≤ k → k < 0x80 →
       exec (.registerWrite 0 (page + 4 * k) 4 value) s = .next (s.put (d.setBar (page + 4 * k) value))) ∧
     (m < 20 → exec (.registerWrite 0 (page + 0x10) 4 1) s = .next (s.put (d.doorbellMailbox m))) ∧
     (m < 20 → exec (.registerWrite 0 (page + 0x10) 8 (2 ^ 33 + 1)) s =
       .next (s.put ((d.setBar (page + 0x14) (setBit (d.bar (page + 0x14)) 1 false)).doorbellMailbox m)))) ∧
  (∀ (s : State) (c : Nat), s.Runs →
     let d := s.dev
     (d.mode ≠ .off → ∃ t, exec .functionLevelReset s = .next t ∧ t.dev.window = none ∧ t.dev.mode = d.mode ∧ t.dev.bk = d.bk ∧
       t.dev.p0 = d.p0 ∧ t.dev.p1 = d.p1 ∧ t.dev.objs = d.objs ∧ t.dev.headers = d.headers ∧ t.dev.frames = d.frames ∧
       t.dev.queued = d.queued ∧ t.dev.cells = d.cells ∧ (∀ w ∈ t.dev.writes, w.principal ≠ 0 ∧ w.principal ≠ 1) ∧
       (∀ k, k < 1024 → (d.channel k).state ≠ 5 → (t.dev.channel k).state = 4 ∧ (t.dev.channel k).cause = 4) ∧
       (∀ m, m < 20 → t.dev.mailboxBusy m = false) ∧ (∀ v, v < 128 → (t.dev.bar (0x110000 + 16 * v + 12)) = 1)) ∧
     exec (.domainWriteTimeout c) s = .next (s.put { d with writes := d.writes.filter (fun w => w.principal ≠ 2 + c) }))

/-- A write of 1 to COMMIT (R53) is accepted in the modes that forward while no commit is in progress; it latches
COMMIT_TIME and enters Checking with the verdict of the configuration of that moment. One in progress is left alone;
in any other mode STATE becomes Refused with reason 0x0101. A write of 1 to ENABLE (R45) moves a device in Configure
to Check. A failing check returns to Configure, a passing one installs at the next boundary; a failing commit is
Refused; a passing one prepares, is armed once the copies are written and the digest computed, and each waits for what
its phase waits for. A pair's check runs over both members, and the lowest code is reported, the primary's where both have it (R431). -/
def Obligations.ChecksAndCommitPhases : Prop :=
  (∀ d : Device,
     (d.mode.forwards = true → d.committing = false → d.startCommit.1 = Res.OK ∧ d.startCommit.2.commit = .checking ∧
       d.startCommit.2.commitTime = d.rd E.COMMIT_TIME ∧ d.startCommit.2.bk = d.bk ∧ d.startCommit.2.mode = d.mode ∧
       d.startCommit.2.previous = d.previous ∧ d.startCommit.2.sweeping = d.sweeping) ∧
     (d.mode.forwards = true → d.committing = true → d.startCommit = (Res.BUSY, d)) ∧
     (d.mode.forwards = false → d.startCommit.1 = Res.OK ∧ d.startCommit.2.commit = .refused ∧
       d.startCommit.2.rd E.CHECK_REASON = 0x0101 ∧ d.startCommit.2.rd E.CHECK_DETAIL = d.mode.code) ∧
     (d.mode = .configure → d.startEnable.1 = Res.OK ∧ d.startEnable.2.mode = .check ∧
       d.startEnable.2.checkFound = (d.pairCheck false).map (·.2) ∧
       d.startEnable.2.checkMember = (d.pairCheck false).elim d.member (·.1)) ∧
     (d.mode = .check → d.startEnable = (Res.BUSY, d)) ∧
     (∀ commit, d.joined = false → d.pairCheck commit = (d.enableCheck commit).map (fun f => (d.member, f))) ∧
     (∀ commit f g, d.joined = true → d.enableCheck commit = some f → d.partnerView.enableCheck commit = some g →
       d.member < 2 → d.pairCheck commit = some (if f.1 < g.1 ∨ (f.1 = g.1 ∧ d.member = 0) then (d.member, f)
         else (1 - d.member, g)))) ∧
  (∀ s : State, s.Runs →
     let d := s.dev
     (∀ f, d.mode = .check → d.installDue = false → d.checkFound = some f → ∃ t, exec .checkComplete s = .next t ∧
       t.dev.mode = .configure ∧ t.dev.rd E.CHECK_REASON = f.1) ∧
     (d.mode = .check → d.installDue = false → d.checkFound = none → ∃ t, exec .checkComplete s = .next t ∧
       t.dev.installDue = true ∧ t.dev.armed = some d.runMode ∧ t.dev.rd E.CHECK_REASON = 0 ∧ t.dev.mode = .check) ∧
     (d.mode ≠ .check → exec .checkComplete s = .next s) ∧
     (∀ f, d.commit = .checking → d.checkFound = some f → ∃ t, exec .commitCheckingEnd s = .next t ∧ t.dev.commit = .refused ∧
       t.dev.rd E.CHECK_REASON = f.1 ∧ t.dev.mode = d.mode ∧ t.dev.p0 = d.p0 ∧ t.dev.p1 = d.p1) ∧
     (d.commit = .checking → d.checkFound = none → d.joined = false → ∃ t, exec .commitCheckingEnd s = .next t ∧
       t.dev.commit = .preparing ∧ t.dev.rd E.CHECK_REASON = 0) ∧
     (d.commit ≠ .checking → exec .commitCheckingEnd s = .next s) ∧
     (∀ es, d.commit = .preparing → d.waitCode = 0 → d.joined = false →
       d.loadStore 0 (d.rd E.VINTAGE_STAGING % 2) false d.stores.exact (d.stagedEntries 0) = .ok es →
       ∃ t, exec .commitPrepare s = .next t ∧ t.dev.commit = .armed ∧ t.dev.mode = d.mode) ∧
     (d.commit = .preparing → d.waitCode ≠ 0 → exec .commitPrepare s = .next s) ∧
     (d.sweeping = true → ∃ t, exec .copySweepEnd s = .next t ∧ t.dev.sweeping = false ∧
       t.dev.commit = (if d.commit = .retiring then .idle else d.commit)) ∧
     (d.sweeping = false → exec .copySweepEnd s = .next s) ∧
     (d.ready = true → d.vintageDigest d.pairDigest d.parity d.vintage = d.partDigest → d.mode ≠ .recovery → exec .digestVerifyPass s =
       let e := d.wr E.DIGEST_STATE 1
       .next (s.put { e.bumpSat E.VERIFY_PASSES 1 with digestPassStart := d.clk.nowPs })) ∧
     (d.ready = true → d.vintageDigest d.pairDigest d.parity d.vintage ≠ d.partDigest → exec .digestVerifyPass s =
       let e := ((d.wr E.DIGEST_STATE 2).bumpSat E.DIGEST_MISMATCHES 1).raise Src.DIGEST_MISMATCH 0
       .next (s.put { e with digestPassStart := e.clk.nowPs })))

/-- The copy sweep (R57): when it ends, every register pair and every object holds in both parities what the current
parity holds, and every lookup table's entries are valid in both or in neither. -/
def Obligations.SweepEqualsCopies : Prop :=
  ∀ (s t : State), s.Runs → s.dev.sweeping = true → exec .copySweepEnd s = .next t →
    (∀ a, t.dev.rdp 0 a = s.dev.cur a ∧ t.dev.rdp 1 a = s.dev.cur a) ∧
    (∀ a, t.dev.objp 0 a = s.dev.curObj a ∧ t.dev.objp 1 a = s.dev.curObj a) ∧
    (∀ k e, k < 4 → e ∈ t.dev.stores.get k → e.v0 = e.v1) ∧ t.dev.parity = s.dev.parity

/-- DISCARD_STAGING (R42's staging copies): every RWV entry's staging value becomes its current value, and every other
entry stays; afterwards a read of an RWV entry gives the same value through either selector (R43). -/
def Obligations.DiscardTakesCurrent : Prop :=
  ∀ (d : Device) (a : Addr), SMap.sorted d.p0 = true → SMap.sorted d.p1 = true →
    let e := d.discardStaging
    (isRwv a = true → e.rd a = d.cur a ∧ e.value a true = e.value a false) ∧
    (isRwv a = false → e.rd a = d.rd a) ∧ e.p0 = d.p0 ∧ e.p1 = d.p1

/-- A read of an RWV entry returns its staging value unless the request selects the current vintage (R43); a WO entry
reads 0; every other entry reads the value that it has, whichever is selected. -/
def Obligations.ReadsSelectAVintage : Prop :=
  ∀ (d : Device) (a : Addr) (r : Row) (current : Bool), findRow a = some r →
    (r.acc = .rwv → d.value a false = d.rd a ∧ d.value a true = d.cur a) ∧
    (r.acc = .wo → d.value a current = 0) ∧
    (r.acc ≠ .rwv → r.acc ≠ .wo → d.value a current = (d.live a).getD (d.rd a)) ∧
    (∀ p little, d.permits p a false = true → r.ty ≠ .domain → isMeasured a = false →
      d.readEntry p a current little = (Res.OK, r.ty.code, valueBytes r.ty little (d.value a current), d)) ∧
    (∀ f, hdrOp f.header = 1 → d.frameOperation f =
      d.readEntry (2 + hdrCtrl f.header) (hdrAddr f.header) (hdrCurrent f.header) false) ∧
    (∀ q : Doorbell, q.request % 256 = 1 → d.mailboxOperation q =
      let x := d.readEntry (mailboxPrincipal q.mailbox) q.addr (q.request.testBit 16) true
      (x.1, x.2.2.1, x.2.2.2)) ∧
    (∀ p little, d.permits p a false = false → d.readEntry p a current little = (Res.PRINCIPAL, 0, [], d))

/-- The doorbell page of a channel (R380, R381, R384, Table 15.2): RING wakes a parked channel and is latched by a walking
one; RESTART starts an idle or halted one whose head is written; STOP stops one that walks or is parked, and not one that is
held; SIPHON_HEAD is written in Idle and Halted; a write that the state does not permit is counted in IGNORED_WRITES. What a
channel may read then, it reads. -/
def Obligations.ChannelDoorbells : Prop :=
  ∀ (s : State) (c v : Nat), s.Accesses → s.dev.board.pci.d3hot = false → c < 1024 →
    let d := s.dev
    let ch := d.channel c
    let budget := d.cur (E.WALK_BUDGET c)
    let ignored := s.put (d.ignoreDoorbell c)
    (ch.state = 2 → v.testBit 2 = false → exec (.ring c v) s =
      .next (s.put (d.withChannel { ch with budget := budget, state := 1, phase := 3 }).engines)) ∧
    (ch.state = 1 → v.testBit 2 = false →
      exec (.ring c v) s = .next (s.put (d.withChannel { ch with budget := budget, latched := true }))) ∧
    (ch.state = 0 ∨ ch.state = 4 → v.testBit 1 = false → v.testBit 2 = false → exec (.ring c v) s = .next ignored) ∧
    (ch.state = 0 ∨ ch.state = 4 → ch.headWritten = true → d.channelUse c = 1 ∨ d.channelUse c = 2 → v.testBit 2 = false →
      exec (.restart c v) s = .next (s.put (d.startChannel c (d.channelUse c) none).engines)) ∧
    (d.channelUse c = 4 → ch.state ≠ 1 → ch.state ≠ 2 → v.testBit 2 = false → exec (.restart c v) s = .next ignored) ∧
    (ch.state = 1 ∨ ch.state = 2 → d.channelHeld ch = false → exec (.stop c v) s = .next (s.put (d.stopChannel c).engines)) ∧
    (ch.state ≠ 1 → ch.state ≠ 2 → exec (.stop c v) s = .next ignored) ∧
    (d.channelHeld ch = true → exec (.stop c v) s = .next ignored) ∧
    (ch.state = 0 ∨ ch.state = 4 → d.deaf c = false → v % 32 = 0 → exec (.siphonHeadWrite c v) s =
      .next (s.put (d.withChannel { ch with head := v % 2 ^ 64, headWritten := true }))) ∧
    (ch.state = 1 ∨ ch.state = 2 ∨ v % 32 ≠ 0 → exec (.siphonHeadWrite c v) s = .next ignored) ∧
    (d.deaf c = false → (v % 2 ^ 32 + 2 ^ 32 - ch.consumed) % 2 ^ 32 ≤ (ch.completed + 2 ^ 32 - ch.consumed) % 2 ^ 32 →
      exec (.siphonConsumedWrite c v) s = .next (s.put (d.withChannel { ch with consumed := v % 2 ^ 32 }).engines)) ∧
    (ch.state = 1 → d.channelHeld ch = false →
      (ch.phase = 1 → ch.budget ≠ 0 → d.engine c =
        (d.withChannel { ch with budget := ch.budget - 1, phase := 2, desc := [] }).send (.hostRead ch.current 32)) ∧
      (ch.phase = 1 → ch.budget = 0 → d.engine c =
        ((d.haltChannel c 1).bumpSat (E.CHAIN_LOOPS c) 1).raise Src.SIPHON_HALTED c) ∧
      (ch.phase = 3 → d.engine c = (d.withChannel { ch with phase := 4 }).send (.hostRead ch.current 16)) ∧
      (ch.phase = 10 → d.engine c =
        (d.withChannel { ch with phase := 5 }).readBuffer c (descBuffer ch.desc) ch.wanted)) ∧
    (ch.state ≠ 1 ∨ d.channelHeld ch = true → d.engine c = d) ∧
    (∀ x : PciControl, exec (.busMasterEnableChange x) s = .next (s.put
      (({ d with busMaster := x.busMaster && !x.d3hot, board := { d.board with
        pci := x, aer := d.board.aer &&& lnot 32 x.aerClear } } : Device).engines)))

/-- The transfers of a channel that walks (R382 to R384, R387, R389, R391 to R393): a descriptor read whole is processed; a
read that fails or misses its time leads to the record of a failed read; a re-read of a parked descriptor goes on or parks
again; a buffer read whole completes its descriptor; a CPU copy goes out part by part; a frame read whole is offered
to intake; an item of a ring is written where it has room, and lost where it has none; a Harvest with a staging error
is skipped. Where no other channel has write beats ready its own go at once; the lowest Priority channel that has some goes
before. -/
def Obligations.ChannelTransfers : Prop :=
  ∀ (s : State) (c x : Nat) (bytes : List Byte) (staging : Bool), s.Runs →
    let d := s.dev
    let ch := d.channel c
    let next (e : Device) : Host.Outcome State Fault Refusal := .next (s.put e.engines)
    let alone (c : Nat) : Prop := d.writersDue.filter (· ≠ c) = []
    let turn (c : Nat) : Device := if 64 ≤ c then { d with writeServed := c } else d
    (alone c → d.toWrite c = turn c) ∧
    (∀ p n, p < 64 → p < c → p ∈ d.writersDue → (∀ k ∈ d.writersDue, p ≤ k) → Device.serveUntil c (n + 1) d =
      Device.serveUntil c n ((d.bump64 E.PRIORITY_PREEMPTS (d.dueBeats p)).serveWrite p)) ∧
    (ch.state = 1 → ch.phase = 2 → bytes.length = 32 → ch.changing = false → ch.stopping = false →
      exec (.descriptorFetch c bytes) s = next ((d.withChannel { ch with desc := bytes }).process c)) ∧
    (ch.state = 1 → ch.phase = 2 → bytes.length < 32 →
      exec (.descriptorFetch c bytes) s = next (d.withChannel { ch with phase := 8 })) ∧
    (ch.state = 1 → ch.phase = 4 → bytes.length = 16 → ch.changing = false → ch.stopping = false →
      let e := d.withChannel { ch with desc := bytes ++ ch.desc.drop 16 }
      exec (.descriptorFetch c bytes) s = next (if (descControl bytes).testBit 0 then e.park c else e.follow c)) ∧
    (ch.state = 1 → ch.phase = 2 ∨ ch.phase = 4 →
      exec (.readTimeout ⟨c, bytes⟩) s = next (d.noteTimeout.withChannel { ch with phase := 8 })) ∧
    (ch.state = 1 → ch.phase = 8 → d.channelHeld ch = false → d.engine c = d.failRead c) ∧
    (ch.state = 1 → ch.phase = 5 → ch.use = 2 → ch.dom = none → ch.badRun = false → d.descMalformed ch = false →
      (exec (.readTimeout ⟨c, bytes⟩) s = next (d.noteTimeout.withChannel { ch with phase := 11, came := bytes })) ∧
      (d.recordsOpen ch = true → alone c → descLength ch.desc ≤ bytes.length →
        exec (.descriptorCompletion c bytes false) s = next ((turn c).readRun c (bytes.take (descLength ch.desc))))) ∧
    (ch.state = 1 → ch.phase = 11 → d.channelHeld ch = false → ch.dom = none → d.engine c =
      let got := ch.came.take (descLength ch.desc)
      d.failRun c got.length (movedCrc got) 1 1) ∧
    (ch.state = 1 → ch.phase = 6 → d.recordsOpen ch = true → alone c →
      exec (.descriptorCompletion c bytes staging) s = next ((turn c).endChunk c staging)) ∧
    (∀ id, ch.state = 1 → ch.use = 1 → ch.phase = 5 → d.recordsOpen ch = true → d.descMalformed ch = false → ch.rxCopy = some id →
      alone c → exec (.cpuRxCopy c) s =
        let part := (ch.rxBytes.drop ch.rxSent).take (descLength ch.desc)
        next (((turn c).writeBuffer c (descBuffer ch.desc) part).withChannel
          { ch with phase := 6, moved := part.length, rxSent := ch.rxSent + part.length })) ∧
    (ch.state = 1 → ch.phase = 7 → d.mode.forwards = true → let f := d.injected ch
      f.fcs = fcsOf f.bytes true ∧
      (d.intakeUsed f.slice + f.len ≤ 65536 → d.sliceGated f.slice = false → exec (.injectFrame c) s =
        next (((d.offerHeader f 0xFFF).withChannel { ch with phase := 5, run := [] }).proceed c))) ∧
    (ch.state ≠ 1 → exec (.injectFrame c) s = next d ∧ exec (.cpuRxCopy c) s = .next s ∧
      exec (.descriptorFetch c bytes) s = next d ∧ exec (.descriptorCompletion c bytes staging) s = .next s ∧
      exec (.readTimeout ⟨c, bytes⟩) s = next d) ∧
    (∀ item rest, x < 3 → d.tel.fifos.getD x [] = item :: rest → d.busMaster = true → d.cur (E.RING_CHANNEL x) ≠ 0xFFFF →
      (d.channel (d.cur (E.RING_CHANNEL x))).state ≠ 5 → alone (d.cur (E.RING_CHANNEL x)) →
      let e : Device := { turn (d.cur (E.RING_CHANNEL x)) with tel := { d.tel with fifos := modAt d.tel.fifos x (fun _ => rest) } }
      let k := d.rd (E.RING_WRITTEN x)
      let used := (k + 2 ^ 32 - d.rd (E.RING_CONSUMED x)) % 2 ^ 32
      (used = d.cur (E.RING_RECORDS x) → exec (.exportItem x false) s = next (e.bump64 (E.RING_LOST x) 1)) ∧
      (used ≠ d.cur (E.RING_RECORDS x) → exec (.exportItem x false) s = next
        (((e.send (.hostWrite (d.cur (E.RING_BASE x) + itemSize x * (k % max 1 (d.cur (E.RING_RECORDS x)))) item)).bump64
          (E.BYTES_MOVED (d.cur (E.RING_CHANNEL x))) item.length).bump (E.RING_WRITTEN x) 32 1))) ∧
    (∀ h, d.tel.harvest = some h → d.busMaster = true → (d.channel (d.cur E.HARVEST_CHANNEL)).state ≠ 5 →
      alone (d.cur E.HARVEST_CHANNEL) →
      let e := (turn (d.cur E.HARVEST_CHANNEL)).engines
      exec (.harvestWrite true) s = .next (s.put
        ((({ e with tel := { e.tel with harvest := none } } : Device).skipHarvests 1).strikeChannel (d.cur E.HARVEST_CHANNEL))) ∧
      exec (.harvestWrite false) s = .next (s.put (e.writeHarvest h (d.cur E.HARVEST_CHANNEL)))) ∧
    (∀ (e : Device) (h : Harvest) (k : Nat), let w := e.writeHarvest h k
      w.tel.harvest = none ∧ w.tel.harvestSkips = 0 ∧ w.rd E.HARVEST_WRITTEN = (e.rd E.HARVEST_WRITTEN + 1) % 2 ^ 32)

/-- Forming and keeping a join (R419 to R421, R424, R432, R433, R435 to R437, Table 17.2): HELLO names the partner, in Training
already, and one that fits takes the join from Identifying to Mirroring; the end of Mirroring forms the join; MAP gives the
partner's map its epoch; a stripe in its turn is taken, another is answered with one NAK; a codeword gives back its STREAM,
SIDE and DATA; a boundary mark acts on pace, and at the secondary on its time, and a droop burst on pace; LEAVE splits, and
a split names its cause. -/
def Obligations.JoinFormedAndKept : Prop :=
  ∀ s : State, s.Runs →
    let d := s.dev
    (∀ m, d.rd E.JOIN_ENABLE = 0 → exec (.hello m) s = .next s) ∧
    (∀ m, d.rd E.JOIN_ENABLE = 1 → d.rd E.JOIN_STATE = 1 → ∃ t, exec (.hello m) s = .next t ∧ t.dev.join.hello = some m) ∧
    (∀ m, d.rd E.JOIN_ENABLE = 1 → d.rd E.JOIN_STATE = 2 → d.partnerFits m = true → ∃ t, exec (.hello m) s = .next t ∧
      t.dev.rd E.JOIN_STATE = 3 ∧ t.dev.rd E.PARTNER_SERIAL = m.serial ∧ t.dev.rd E.PARTNER_STEPPING = m.stepping) ∧
    (∀ m, d.rd E.JOIN_ENABLE = 1 → d.rd E.JOIN_STATE = 2 → d.partnerFits m = false → ∃ t, exec (.hello m) s = .next t ∧
      t.dev.rd E.JOIN_STATE = 2 ∧ t.dev.rd E.PARTNER_SERIAL = m.serial ∧ t.dev.join.outbox = d.join.outbox) ∧
    (∀ (m : MirrorReport) es os, d.rd E.JOIN_STATE = 3 → ∃ t, exec (.joinMirroringEnd m es os) s = .next t ∧
      t.dev.rd E.JOIN_STATE = 4 ∧ t.dev.rd E.PACE_OFFSET_MAX = 0 ∧ t.dev.rd E.JOIN_DELAY_PS = m.flightPs % 2 ^ 32 ∧
      t.dev.join.pinDelayPs = m.roundTripPs / 2 ∧
      t.dev.rd E.ROUND_COUNT = if d.member = 1 then m.roundCount % 2 ^ 64 else d.rd E.ROUND_COUNT) ∧
    (∀ n es os, d.rd E.JOIN_STATE ≠ 3 → exec (.joinMirroringEnd n es os) s = .next s) ∧
    (∀ m, d.stripesRun = true → d.joined = false → ∃ t, exec (.map m) s = .next t ∧ t.dev.join.naks = 0 ∧
      t.dev.join.txEpoch = m.epoch % 256 ∧ t.dev.join.mapOutstanding = true) ∧
    (∀ m, d.stripesRun = false → exec (.map m) s = .next s) ∧
    (∀ m : PacePlanMsg, d.joined = true →
      exec (.pacePlan m) s = .next (s.put { d with join := { d.join with partnerPlan := some (m.epoch, m.op, m.skips) } })) ∧
    (∀ t, d.joined = true → d.member = 0 → exec (.paceInMark (.boundary t)) s = .next (s.put d.paceMark)) ∧
    (∀ t, d.joined = true → d.member = 1 → exec (.paceInMark (.boundary t)) s = .next (s.put (d.followTime t).paceMark) ∧
      (d.followTime t).rd E.TIME_RATE = t.rate ∧ (d.followTime t).rdBit E.TIME_STATUS 0 = t.valid) ∧
    (∀ n, d.joined = true →
      exec (.paceInMark (.droop n)) s = .next (s.put { d with join := { d.join with burstLeft := max d.join.burstLeft n } })) ∧
    (∀ x : Stripe, d.stripesRun = true → d.join.sentStripes = [] →
      let lanes := d.stripeLanes x
      stripeDecoded x lanes = true → stripeSide x lanes 0 = some ((d.join.rxSeq + 1) % 65536) →
      (∀ w ∈ stripeWords x lanes, 8 ≤ wordStream w) →
      ∃ t, exec (.stripeReceived x) s = .next t ∧ t.dev.join.rxSeq = (d.join.rxSeq + 1) % 65536 ∧ t.dev.join.nak = false ∧
        (∀ h, stripeSide x lanes 3 = some h → t.dev.rd (E.HOLD_ACTIVE 0) = h % 128) ∧
        t.dev.frames = d.frames ∧ t.dev.queued = d.queued) ∧
    (∀ x : Stripe, d.stripesRun = true → d.join.sentStripes = [] → d.join.nak = false →
      let lanes := d.stripeLanes x
      stripeDecoded x lanes = false ∨ stripeSide x lanes 0 ≠ some ((d.join.rxSeq + 1) % 65536) →
      ∃ t, exec (.stripeReceived x) s = .next t ∧ t.dev.join.nak = true ∧ t.dev.join.rxSeq = d.join.rxSeq ∧
        t.dev.frames = d.frames) ∧
    (∀ stream side data, stream < 16 → side < 65536 → data.length = 640 →
      let w := joinWord stream side data
      wordStream w = stream ∧ wordSide w = side ∧ wordData w = data) ∧
    (∀ x : Stripe, d.stripesRun = false → exec (.stripeReceived x) s = .next s) ∧
    (8 ≤ d.join.naks ∨ 64 ≤ d.join.sentStripes.length → exec .stripeAckTimeout s = .next (s.put (d.split 2))) ∧
    (d.joined = true → exec .leave s = .next (s.put (d.split 4))) ∧
    (d.joined = false → exec .leave s = .next s) ∧
    (∀ cause, d.joined = true → d.queued = [] → d.mode ≠ .joinedRun → (d.split cause).rd E.JOIN_STATE = 5 ∧
      (d.split cause).rd E.SPLIT_CAUSE = cause ∧ (d.split cause).join.sentStripes = [] ∧ (d.split cause).mode = d.mode)

/-- A pair's commit (R434): PREPARE starts the secondary's preparing; PREPARED lets the primary be armed; ARM is noted and
answered with ACK; ACK within 16 rounds makes GO; GO arms the secondary; ABORT, and an ACK that did not come, end the
commit as Aborted with reason 0x0C05; a flip boundary reached without GO splits the join. A BOOK write of the
secondary is applied by the primary and answered (R429); what the partner tells of its own entries is held (R430), and so
is what the members agree of a change of mode (R466). -/
def Obligations.PairCommit : Prop :=
  ∀ (s : State) (v f : Nat), s.Accesses → s.dev.Quiet → s.dev.joined = true → v = s.dev.rd E.VINTAGE_STAGING →
    let d := s.dev
    let j := d.join
    let told := fun (d : Device) (step flip : Nat) => { d with join := { d.join with outbox :=
      d.join.outbox ++ [beBytes 1 5 ++ [0, 0, 0] ++ (beBytes 1 step ++ beBytes 4 v ++ beBytes 8 flip)] } }
    (d.member = 1 → d.committing = false → exec (.prepare v) s = .next (s.put { d with
      commit := .preparing, commitTime := d.rd E.COMMIT_TIME, newDigest := [],
      join := { j with prepared := false, armFlip := none, acked := false, go := false } })) ∧
    (d.member = 0 → d.commit = .preparing → d.newDigest ≠ [] →
      exec (.prepared v) s = .next (s.put { d with commit := .armed, join := { j with prepared := true } })) ∧
    (d.member = 1 → d.commit = .preparing → d.newDigest ≠ [] →
      exec (.arm v f) s = .next (s.put (told { d with join := { j with armFlip := some f, acked := true } } 3 f))) ∧
    (d.member = 0 → d.commit = .armed → j.armFlip = some f → d.rd E.ROUND_COUNT ≤ j.armAt + 16 →
      exec (.ack v) s = .next (s.put (told { d with join := { j with acked := true, go := true } } 4 f))) ∧
    (d.member = 1 → d.commit = .preparing → j.armFlip = some f →
      exec (.go v) s = .next (s.put { d with commit := .armed, join := { j with go := true } })) ∧
    (d.committing = true → exec (.abort v) s = .next (s.put (d.abortCommit 0x0C05 1)) ∧
      (d.abortCommit 0x0C05 1).commit = .aborted ∧ (d.abortCommit 0x0C05 1).rd E.CHECK_REASON = 0x0C05) ∧
    (d.committing = false → exec (.abort v) s = .next s) ∧
    (d.member = 0 → d.commit = .armed → j.armFlip.isSome = true → j.acked = false → j.armAt + 16 ≤ d.rd E.ROUND_COUNT →
      exec .ackTimeout s = .next (s.put ((told d 5 0).abortCommit 0x0C05 1))) ∧
    (j.acked = true → exec .ackTimeout s = .next s) ∧
    (d.member = 1 → d.committing = true → j.armFlip = some f → j.go = false → f ≤ d.rd E.ROUND_COUNT →
      exec .flipWithoutGo s = .next (s.put (d.split 5))) ∧
    (j.go = true → exec .flipWithoutGo s = .next s) ∧
    (∀ a data p, d.isJoint a = true → exec (.book (.request a data p)) s =
      let x := d.bookRequest a data p
      .next (s.put (x.2.bookMessage 2 (beBytes 2 x.1)))) ∧
    (∀ code w rest, j.waitingBooks = w :: rest → code ≠ Res.OK → exec (.book (.result code)) s =
      .next (s.put ((({ d with join := { j with waitingBooks := rest } } : Device).answer w.reply code).serveRequests))) ∧
    (∀ a data, memberEntry a = true → a ≠ E.IMAGE_SLOT_A → a ≠ E.IMAGE_SLOT_B → exec (.book (.notice a data)) s =
      .next (s.put { d with peer := { d.peer with entries := SMap.set d.peer.entries (defaultOf a) a (beNat data) } })) ∧
    exec (.book .ready) s = .next (s.put { d with join := { j with partnerReady := true } }) ∧
    (∀ b, exec (.book (.change b)) s = .next (s.put { d with join := { j with changeAt := some b } }))

/-- Repair in service (R185, R186, R253, R451, R454, R457): a write of the retirement map keeps the whole map in the copy
with the lower sequence, or fails, with MAP_STATE 2; a shadow pass and a scrub pass resolve what they found, in order,
and count themselves; a spare that holds its instance's data is marked so; in Safe-Hold the queues are flushed once
the headers have run. Flow telemetry (R346 to R348): a scan visits each flow in use once, exports the idle and the
active, and the waiting records leave as one message. Aging (R218) and the Care load (R173). -/
def Obligations.RepairsInService : Prop :=
  (∀ s : State, s.Runs → s.dev.alive = true →
     let d := s.dev
     let rs := d.retired.take 4000
     (d.mapPending = true → ∃ t, exec (.retirementMapWrite true) s = .next t ∧ t.dev.rd E.MAP_STATE = 2 ∧
       t.dev.mapA = d.mapA ∧ t.dev.mapB = d.mapB ∧ t.dev.retired = d.retired ∧
       t.dev.rd E.MAP_WRITE_FAILS = min (d.rd E.MAP_WRITE_FAILS + 1) 0xFFFFFFFF) ∧
     (d.mapPending = true → d.newestMap.1 + 1 < 2 ^ 32 → ∃ t, exec (.retirementMapWrite false) s = .next t ∧
       t.dev.newestMap = (d.newestMap.1 + 1, rs) ∧ t.dev.rd E.MAP_SEQUENCE = d.newestMap.1 + 1 ∧
       t.dev.rd E.MAP_STATE ≠ 2 ∧ ((t.dev.mapA = d.mapA ∧ t.dev.mapB = (d.newestMap.1 + 1, rs) ∧ d.mapB.1 ≤ d.mapA.1 ∧
           t.dev.sent = d.sent ++ [.flash 0x02210000 (mapImage (d.newestMap.1 + 1) rs)]) ∨
         (t.dev.mapB = d.mapB ∧ t.dev.mapA = (d.newestMap.1 + 1, rs) ∧ d.mapA.1 < d.mapB.1 ∧
           t.dev.sent = d.sent ++ [.flash 0x02200000 (mapImage (d.newestMap.1 + 1) rs)]))) ∧
     (d.mapPending = false → ∀ failed, exec (.retirementMapWrite failed) s = .next s) ∧
     (d.shadowLost = [] → exec (.shadowPass []) s =
       .next (s.put ((d.wr E.SHADOW_PASSES ((d.rd E.SHADOW_PASSES + 1) % 2 ^ 32)).passEnds false))) ∧
     (d.shadowLost = [] → ∀ x rest, exec (.shadowPass (x :: rest)) s = .next (s.put
       (((rest.foldl (fun (d : Device) y => d.resolveDifference y) (d.resolveDifference x)).bump E.SHADOW_PASSES 32 1).passEnds
         false))) ∧
     (∀ x : ShadowDifference, let e := d.bump64 E.SHADOW_MISMATCHES 1
       (x.diePasses = true → x.shadowPasses = false → d.resolveDifference x = e.rewriteShadow x.store x.loc) ∧
       (x.shadowPasses = true → d.resolveDifference x = (e.restoreEntry x.store x.loc).strikeStore x.store x.loc) ∧
       (x.diePasses = false → x.shadowPasses = false → d.resolveDifference x = e.loseEntry x.store x.loc)) ∧
     exec (.scrubPass ⟨false, []⟩) s =
       .next (s.put ((d.wr E.SCRUB_PASSES ((d.rd E.SCRUB_PASSES + 1) % 2 ^ 32)).passEnds true)) ∧
     exec (.scrubPass ⟨true, []⟩) s = .next (s.put (d.passEnds true)) ∧
     (∀ system x rest, exec (.scrubPass ⟨system, x :: rest⟩) s =
       let e := rest.foldl (fun (d : Device) y => d.scrub y) (d.scrub x)
       .next (s.put ((if system then e else e.bump E.SCRUB_PASSES 32 1).passEnds true))) ∧
     (∀ store loc die, d.scrub (.shadowEntry store loc die) =
       ((d.bump64 E.SCRUB_UNCORRECTABLE 1).raise Src.SCRUB_UNCORRECTABLE 0).resolveDifference ⟨store, loc, false, die⟩) ∧
     (∀ e : Device, ∀ scrub, (e.passEnds scrub).stores = e.stores ∧ (e.passEnds scrub).frames = e.frames ∧
       ∀ a, (e.passEnds scrub).rd a = e.rd a) ∧
     (∀ addr, d.scrub (.bookCopy addr true) =
       ((d.bump64 E.SCRUB_UNCORRECTABLE 1).raise Src.SCRUB_UNCORRECTABLE 0).safeHold 2 addr) ∧
     (∀ kind inst, ∃ t, exec (.spareCopyDone kind inst) s = .next t ∧ t.dev = { d with subst := t.dev.subst } ∧
       t.dev.subst.length = d.subst.length ∧ ∀ x ∈ t.dev.subst, x.kind = kind → x.inst = inst → x.copied = true) ∧
     (d.mode = .safeHold → d.headers = [] → d.jobs = [] → exec .safeHoldQueueFlush s = .next (s.put d.flushQueues)) ∧
     (d.mode ≠ .safeHold → exec .safeHoldQueueFlush s = .next s)) ∧
  (∀ s : State, s.Runs →
     let d := s.dev
     (d.tel.flows = [] → exec .flowScan s = .next s) ∧
     (∀ f, d.tel.flows = [f] → exec .flowScan s = .next (s.put (d.visitFlow f))) ∧
     (∀ f t, d.flowProfile d.parity f.record = some t →
       (d.cur (E.IDLE_TIMEOUT_S t) * 1000000000 : Int) ≤ timeDelta d.now80 f.stop →
       (d.visitFlow f).tel.flows = (d.exportFlow t f 1).tel.flows.filter (fun x => x.record ≠ f.record)) ∧
     (∀ f t, d.flowProfile d.parity f.record = some t →
       timeDelta d.now80 f.stop < (d.cur (E.IDLE_TIMEOUT_S t) * 1000000000 : Int) →
       timeDelta d.now80 f.start < (d.cur (E.ACTIVE_TIMEOUT_S t) * 1000000000 : Int) → d.visitFlow f = d) ∧
     (d.tel.ipfixRecords = [] → exec .ipfixMessageSend s = .next s) ∧
     (d.tel.ipfixRecords ≠ [] → ∃ t, exec .ipfixMessageSend s = .next t ∧ t.dev.tel.ipfixRecords = [] ∧
       t.dev.tel.ipfixSequence = (d.tel.ipfixSequence + d.tel.ipfixRecords.length) % 2 ^ 32 ∧
       t.dev.tel.ipfixMessages = d.tel.ipfixMessages + 1 ∧ t.dev.tel.flows = d.tel.flows ∧ t.dev.frames = d.frames)) ∧
  (∀ s : State, s.Runs →
     let d := s.dev
     (d.rd E.AGE_ENABLE = 0 → exec .agingPass s = .next s) ∧
     (d.rd E.AGE_ENABLE ≠ 0 → ∃ t, exec .agingPass s = .next t ∧
       t.dev.obj E.AGED_LIST = ((((d.stores.exact.filter (fun e => e.valid d.parity)).filter (fun e => !e.hit)).foldl
         (fun xs e => putEntry 32 e.bytes xs) []).take 65536).flatten ∧
       (∀ e ∈ t.dev.stores.exact, e.valid d.parity → e.hit = false) ∧
       t.dev.stores.exact.map (fun e => (e.loc, e.bytes, e.v0, e.v1)) = d.stores.exact.map (fun e => (e.loc, e.bytes, e.v0, e.v1)) ∧
       t.dev.rd E.AGED_PASSES = min (d.rd E.AGED_PASSES + 1) 0xFFFFFFFF) ∧
     (∀ m, d.armed = some m → m.powersCare → d.careLoaded = false →
       exec .careLoadDone s = .next (s.put { d with careLoaded := true, stores := { d.stores with care := d.shadow.care } })))

/-- Commands that complete with their own effect. A write of one entry from a mailbox, as the commands of Table 3.7's WRITE
name it, that passes every test (R491) is answered OK with its entry's effect: GRANT_WRITE (R76), KEY_WRITE (R78), ENABLE
(R45), COMMIT (R53), DISCARD_STAGING, CLEAR (R335), TIME_STEP_NS, PPS_SECONDS, TIME_RELEASE, TIME_CAPTURE (R309 to R313),
GAUGE_SEAL, GAUGE_PARAM_WRITE (R367, R369), POWER_CAP_W (R406), JOIN_ENABLE (R435), RETIRE_REQUEST, UNRETIRE_REQUEST (R450),
ROLLBACK_ADVANCE (R463), MODE_REQUEST (R464), CARE_TEST_GO (R471), DOMAIN_ARM (R394) and BUS_REQUEST (R485). The work in the
background: a fatal temperature enters Safe-Hold (R411), a shadow pass resolves what it met (R185, R254), aging (R218), a
flow scan (R347), the Care load (R173) and a spare's copy (R186). -/
def Obligations.CommandsTakeEffect : Prop :=
  (∀ (s : State) (r : Requester) (m n tag v : Nat), s.Accesses → s.dev.takesDoorbell m →
     (r = .kernel n tag ∧ n < 4 ∧ m = n) ∨ (r = .user n tag ∧ n < 16 ∧ m = 4 + n) →
     let d := s.dev
     let p := mailboxPrincipal m
     let ok := fun (a : Addr) (w : Nat) => d.LetsThrough p a w
     let answer := fun (a : Addr) (data : List Byte) (f : Device → Device) =>
       (.next (s.put (((f ((d.latched m 2 tag false false a data.length 0 data).running m)).noticeEntry a).completeMailbox m tag Res.OK []))
         : Host.Outcome State Fault Refusal)
     let done := fun (a : Addr) (w : Nat) (f : Device → Device) => answer a (valueSpelled a w) f
     (∀ g k, g < 128 → k < 256 → ok (entry (0x1180 + g) k) v → exec (.grantWrite r g k v) s =
       done (entry (0x1180 + g) k) v (fun e => (e.wr (entry (0x1180 + g) k) v).raise Src.GRANT_CHANGED 0)) ∧
     (∀ c key, c < 16 → key.length = 32 →
       (ok (E.KEY_A c) (beNat key) → exec (.keyWrite r c false key) s =
         answer (E.KEY_A c) key (fun e => e.writeKey c false (beNat key))) ∧
       (ok (E.KEY_B c) (beNat key) → exec (.keyWrite r c true key) s =
         answer (E.KEY_B c) key (fun e => e.writeKey c true (beNat key)))) ∧
     (ok E.ENABLE 1 → d.mode = .configure → exec (.enable r 1) s = done E.ENABLE 1 (fun e => e.startEnable.2)) ∧
     (ok E.COMMIT 1 → d.mode.forwards = true → d.committing = false →
       exec (.commit r 1) s = done E.COMMIT 1 (fun e => e.startCommit.2)) ∧
     (ok E.DISCARD_STAGING 1 → d.rwvBusy = false →
       exec (.discardStaging r 1) s = done E.DISCARD_STAGING 1 (fun e => e.discardStaging)) ∧
     (ok E.CLEAR 1 → d.tel.clearArmed = none → exec (.clear r 1) s = done E.CLEAR 1 (fun e =>
       { e with tel := { e.tel with clearArmed := some (d.rd E.CLEAR_FIRST, d.rd E.CLEAR_COUNT) } })) ∧
     (d.timeValid = false → (d.joined = true → d.member ≠ 1) →
       (ok E.TIME_STEP_NS v → d.cur E.TIME_SOURCE = 1 → exec (.timeStepNs r v) s = done E.TIME_STEP_NS v (fun e =>
         { e with time := { e.time with stepPending := some v } })) ∧
       (ok E.PPS_SECONDS v → d.cur E.TIME_SOURCE = 2 → exec (.ppsSeconds r v) s = done E.PPS_SECONDS v (fun e =>
         { e with time := { e.time with ppsArmed := some v } }))) ∧
     (ok E.TIME_RELEASE 1 →
       exec (.timeRelease r 1) s = done E.TIME_RELEASE 1 (fun e => e.releaseTime)) ∧
     (ok E.TIME_CAPTURE 1 → exec (.timeCapture r 1) s = done E.TIME_CAPTURE 1 (fun e =>
       ((e.wr E.CAPTURED_TIME d.now80).wr E.CAPTURED_FRAC d.frac16).wr E.CAPTURED_ROUND (d.rd E.ROUND_COUNT))) ∧
     (ok E.GAUGE_SEAL 1 → exec (.gaugeSeal r 1) s = done E.GAUGE_SEAL 1 (fun e => e.gaugeSeal)) ∧
     (∀ k row data, k < 256 → findRow (entry 0x9010 k) = some row → data.length = row.ty.size → data.length ≤ 256 →
       ok (entry 0x9010 k) (valueOf row.ty true data) → exec (.gaugeParamWrite r k data) s = answer (entry 0x9010 k) data
         (fun e => e.gaugeParam k row.ty.code row.ty.size (valueOf row.ty true data))) ∧
     (ok E.POWER_CAP_W v → exec (.powerCapW r v) s = done E.POWER_CAP_W v (fun e => e.wr E.POWER_CAP_W v)) ∧
     (ok E.JOIN_ENABLE v →
       exec (.joinEnable r v) s = done E.JOIN_ENABLE v (fun e => (e.wr E.JOIN_ENABLE v).enableJoin v)) ∧
     (∀ kind inst, kind < 256 → inst < 2 ^ 24 → v = kind * 2 ^ 24 + inst →
       (ok E.RETIRE_REQUEST v → resourceExists kind inst = true → d.isRetired kind inst = false →
         exec (.retireRequest r v) s = done E.RETIRE_REQUEST v (fun e =>
           ((e.raise Src.STRIKE (resourceDetail kind inst)).bump64 (E.STRIKES_TOTAL kind) 1).retire kind inst true)) ∧
       (ok E.UNRETIRE_REQUEST v → kind = 1 ∨ kind = 10 → d.retired.any (fun x => x.kind = kind && x.inst = inst) = true →
         d.mode = .diagnostic → exec (.unretireRequest r v) s = done E.UNRETIRE_REQUEST v (fun e =>
           { e with retired := e.retired.filter (fun x => !(x.kind = kind && x.inst = inst))
                    unretiring := e.unretiring ++ [v] }))) ∧
     (ok E.ROLLBACK_ADVANCE 1 → d.mode = .configure → d.rd E.ROLLBACK_MIN < d.board.runningLevel →
       exec (.rollbackAdvance r 1) s =
         done E.ROLLBACK_ADVANCE 1 (fun e => e.wr E.ROLLBACK_MIN (min 64 d.board.runningLevel))) ∧
     (ok E.MODE_REQUEST 11 → d.mode ≠ .safeHold → exec (.modeRequest r 11) s =
       done E.MODE_REQUEST 11 (fun e => (e.wr E.MODE_REQUEST 11).safeHold 7 p)) ∧
     (∀ t, ok E.MODE_REQUEST v → v ≠ 1 → v ≠ 11 → neverRequested v = false → d.mode ≠ .check → d.isCurrent v = false →
       d.transition v = some (t, true) → exec (.modeRequest r v) s =
         done E.MODE_REQUEST v (fun e =>
           { e.wr E.MODE_REQUEST v with armed := some t, armedPair := d.joined, resetHold := false })) ∧
     (ok E.CARE_TEST_GO 1 → d.mode = .configure ∨ d.mode = .check ∨ d.mode = .diagnostic →
       exec (.careTestGo r 1) s = done E.CARE_TEST_GO 1 (fun e => e.careTest.2)) ∧
     (∀ c, c < 1024 → ok (E.DOMAIN_ARM c) 1 → (d.armDomain p c).1 = Res.OK → exec (.domainArm r c 1) s =
       done (E.DOMAIN_ARM c) 1 (fun e => (e.armDomain p c).2)) ∧
     (∀ b, b < 18 → ok (entry (0x2E00 + b) 2) v → (d.rd (E.BUS_STATUS b)).testBit 0 = false →
       exec (.busRequest r b v) s = done (entry (0x2E00 + b) 2) v (fun e => (e.startBus b v).2))) ∧
  (∀ (s : State) (sensor kind inst : Nat) (xs : List ShadowDifference), s.Runs →
     let d := s.dev
     (d.mode.counts = true → exec (.thermalFatal sensor) s = .next (s.put (({ d with hot := true } : Device).safeHold 1 sensor))) ∧
     (d.mode.counts = true → exec (.shadowPass xs) s = .next (s.put
       (((xs.foldl (fun (e : Device) x => e.resolveDifference x)
         (d.shadowLost.foldl (fun (e : Device) l => e.rebuildShadows l) { d with shadowLost := [] })).bump E.SHADOW_PASSES 32 1).passEnds false))) ∧
     (d.rd E.AGE_ENABLE ≠ 0 → ∃ t, exec .agingPass s = .next t ∧
       t.dev.rd E.AGED_PASSES = min (d.rd E.AGED_PASSES + 1) 0xFFFFFFFF ∧
       (∀ e ∈ t.dev.stores.exact, e.valid d.parity → e.hit = false) ∧ t.dev.frames = d.frames ∧ t.dev.queued = d.queued) ∧
     exec .flowScan s = .next (s.put (d.tel.flows.foldl (fun (e : Device) f => e.visitFlow f) d)) ∧
     (∀ m, d.armed = some m → m.powersCare → d.careLoaded = false →
       exec .careLoadDone s = .next (s.put { d with careLoaded := true, stores := { d.stores with care := d.shadow.care } })) ∧
     exec (.spareCopyDone kind inst) s = .next (s.put { d with subst := d.subst.map (fun x =>
       if x.kind = kind ∧ x.inst = inst then { x with copied := true } else x) }))
end

