-- ==== Sys2Proof/Laws/Maps.lean ====
section
/-! SUPPORT. Lemmas about sparse maps and tables: what a read gives after a write, and that a write keeps the canonical form. -/

namespace Sys2Proof.Machine

open Sys2Proof

theorem modFirst_eq_self {α} (xs : List α) (p : α → Bool) (f : α → α) (hf : ∀ x, f x = x) : modFirst xs p f = xs := by
  induction xs with
  | nil => rfl
  | cons x t ih => simp only [modFirst]; split <;> simp [hf, ih]

theorem SMap.get_del (m : SMap) (d k j : Nat) : SMap.get (SMap.del m k) d j = if j = k then d else SMap.get m d j := by
  induction m with
  | nil => simp [SMap.del, SMap.get]
  | cons e t ih =>
    obtain ⟨a, v⟩ := e
    by_cases ha : a = k
    · have : SMap.del ((a, v) :: t) k = SMap.del t k := by simp [SMap.del, ha]
      rw [this, ih]; subst ha
      by_cases hj : j = a
      · simp [hj]
      · simp [SMap.get, hj, Ne.symm hj]
    · have : SMap.del ((a, v) :: t) k = (a, v) :: SMap.del t k := by simp [SMap.del, ha]
      rw [this]; simp only [SMap.get, ih]
      by_cases hj : a = j
      · subst hj; simp [ha]
      · simp [hj]

theorem SMap.get_ins (m : SMap) (d k v j : Nat) : SMap.get (SMap.ins m k v) d j = if j = k then v else SMap.get m d j := by
  induction m with
  | nil => simp [SMap.ins, SMap.get, eq_comm]
  | cons e t ih =>
    obtain ⟨a, w⟩ := e
    simp only [SMap.ins]
    split
    · simp [SMap.get, eq_comm]
    · split
      · rename_i h; subst h; simp only [SMap.get]; by_cases hj : a = j
        · simp [hj]
        · simp [hj, Ne.symm hj]
      · simp only [SMap.get, ih]; by_cases hj : a = j
        · subst hj; simp_all
        · simp [hj]

theorem SMap.get_set (m : SMap) (d k v j : Nat) : SMap.get (SMap.set m d k v) d j = if j = k then v else SMap.get m d j := by
  unfold SMap.set; split
  · subst_vars; exact SMap.get_del _ _ _ _
  · exact SMap.get_ins _ _ _ _ _

/-- Reading under another default than the one written with, at another key. -/
theorem SMap.get_set_ne (m : SMap) (d e k v j : Nat) (h : j ≠ k) : SMap.get (SMap.set m d k v) e j = SMap.get m e j := by
  unfold SMap.set; split
  · rw [SMap.get_del]; simp [h]
  · rw [SMap.get_ins]; simp [h]

theorem modAt_length {α} (xs : List α) (i : Nat) (f : α → α) : (modAt xs i f).length = xs.length := by
  induction xs generalizing i with
  | nil => rfl
  | cons x t ih => cases i <;> simp [modAt, ih]

theorem modAt_getD_same {α} (xs : List α) (i : Nat) (f : α → α) (y : α) (h : i < xs.length) : (modAt xs i f).getD i y = f (xs.getD i y) := by
  induction xs generalizing i with
  | nil => simp at h
  | cons x t ih => cases i with
    | zero => rfl
    | succ i => simpa [modAt] using ih i (by simpa using h)

theorem modAt_getD_ne {α} (xs : List α) (i j : Nat) (f : α → α) (y : α) (h : j ≠ i) : (modAt xs i f).getD j y = xs.getD j y := by
  induction xs generalizing i j with
  | nil => rfl
  | cons x t ih =>
    cases i with
    | zero => cases j with
      | zero => exact absurd rfl h
      | succ j => rfl
    | succ i => cases j with
      | zero => rfl
      | succ j => simpa [modAt] using ih i j (by omega)

/-- Every key of the map lies above `k`. -/
theorem SMap.sorted_cons (k v : Nat) (t : SMap) : SMap.sorted ((k, v) :: t) = true ↔ (∀ e ∈ t, k < e.1) ∧ SMap.sorted t = true := by
  induction t generalizing k v with
  | nil => simp [SMap.sorted]
  | cons e t ih =>
    obtain ⟨a, w⟩ := e
    simp only [SMap.sorted, Bool.and_eq_true, decide_eq_true_eq, List.mem_cons, forall_eq_or_imp]
    rw [ih]
    constructor
    · rintro ⟨h1, h2, h3⟩
      exact ⟨⟨h1, fun e he => Nat.lt_trans h1 (h2 e he)⟩, h2, h3⟩
    · rintro ⟨⟨h1, _⟩, h2, h3⟩
      exact ⟨h1, h2, h3⟩

theorem SMap.mem_ins (m : SMap) (k v : Nat) (e : Nat × Nat) (h : e ∈ SMap.ins m k v) : e = (k, v) ∨ e ∈ m := by
  induction m with
  | nil => simpa [SMap.ins] using h
  | cons x t ih =>
    obtain ⟨a, w⟩ := x
    simp only [SMap.ins] at h
    split at h
    · simpa using h
    · split at h
      · simp only [List.mem_cons] at h ⊢; rcases h with h | h <;> simp [h]
      · simp only [List.mem_cons] at h ⊢
        rcases h with h | h
        · simp [h]
        · rcases ih h with h | h <;> simp [h]

theorem SMap.sorted_ins (m : SMap) (k v : Nat) (h : SMap.sorted m = true) : SMap.sorted (SMap.ins m k v) = true := by
  induction m with
  | nil => rfl
  | cons x t ih =>
    obtain ⟨a, w⟩ := x
    have ht := (SMap.sorted_cons a w t).mp h
    simp only [SMap.ins]
    split
    · rename_i hk; rw [SMap.sorted_cons]; refine ⟨fun e he => ?_, h⟩
      simp only [List.mem_cons] at he
      rcases he with he | he
      · subst he; exact hk
      · exact Nat.lt_trans hk (ht.1 e he)
    · split
      · rename_i hk; subst hk; rw [SMap.sorted_cons]; exact ht
      · rename_i h1 h2; rw [SMap.sorted_cons]; refine ⟨fun e he => ?_, ih ht.2⟩
        rcases SMap.mem_ins _ _ _ _ he with he | he
        · subst he; show a < k; omega
        · exact ht.1 e he

theorem SMap.sorted_filter (m : SMap) (p : Nat × Nat → Bool) (h : SMap.sorted m = true) : SMap.sorted (m.filter p) = true := by
  induction m with
  | nil => rfl
  | cons x t ih =>
    obtain ⟨a, w⟩ := x
    have ht := (SMap.sorted_cons a w t).mp h
    rw [List.filter_cons]
    split
    · rw [SMap.sorted_cons]; exact ⟨fun e he => ht.1 e (List.mem_filter.mp he).1, ih ht.2⟩
    · exact ih ht.2

/-- A write keeps the canonical form of a map whose unlisted keys read as `dflt`. -/
theorem SMap.wf_set (dflt : Nat → Nat) (m : SMap) (k v : Nat) (h : SMap.wf dflt m = true) : SMap.wf dflt (SMap.set m (dflt k) k v) = true := by
  simp only [SMap.wf, Bool.and_eq_true, List.all_eq_true, decide_eq_true_eq] at h ⊢
  unfold SMap.set
  split
  · exact ⟨SMap.sorted_filter _ _ h.1, fun e he => h.2 e (List.mem_filter.mp he).1⟩
  · refine ⟨SMap.sorted_ins _ _ _ h.1, fun e he => ?_⟩
    rcases SMap.mem_ins _ _ _ _ he with he | he
    · subst he; simpa using by assumption
    · exact h.2 e he

/-- Dropping entries keeps the canonical form. -/
theorem SMap.wf_filter (dflt : Nat → Nat) (m : SMap) (p : Nat × Nat → Bool) (h : SMap.wf dflt m = true) : SMap.wf dflt (m.filter p) = true := by
  simp only [SMap.wf, Bool.and_eq_true, List.all_eq_true, decide_eq_true_eq] at h ⊢
  exact ⟨SMap.sorted_filter _ _ h.1, fun e he => h.2 e (List.mem_filter.mp he).1⟩

theorem BMap.get_filter (m : BMap) (d : List Byte) (k j : Nat) : BMap.get (m.filter (fun e => e.1 ≠ k)) d j = if j = k then d else BMap.get m d j := by
  induction m with
  | nil => simp [BMap.get]
  | cons e t ih =>
    obtain ⟨a, v⟩ := e
    by_cases ha : a = k
    · have : List.filter (fun e : Nat × List Byte => decide (e.1 ≠ k)) ((a, v) :: t) = t.filter (fun e => e.1 ≠ k) := by simp [ha]
      rw [this, ih]; subst ha
      by_cases hj : j = a
      · simp [hj]
      · simp [BMap.get, hj, Ne.symm hj]
    · have : List.filter (fun e : Nat × List Byte => decide (e.1 ≠ k)) ((a, v) :: t) = (a, v) :: t.filter (fun e => e.1 ≠ k) := by simp [ha]
      rw [this]; simp only [BMap.get, ih]
      by_cases hj : a = j
      · subst hj; simp [ha]
      · simp [hj]

theorem BMap.get_ins (m : BMap) (d : List Byte) (k : Nat) (v : List Byte) (j : Nat) : BMap.get (BMap.ins m k v) d j = if j = k then v else BMap.get m d j := by
  induction m with
  | nil => simp [BMap.ins, BMap.get, eq_comm]
  | cons e t ih =>
    obtain ⟨a, w⟩ := e
    simp only [BMap.ins]
    split
    · simp [BMap.get, eq_comm]
    · split
      · rename_i h; subst h; simp only [BMap.get]; by_cases hj : a = j
        · simp [hj]
        · simp [hj, Ne.symm hj]
      · simp only [BMap.get, ih]; by_cases hj : a = j
        · subst hj; simp_all
        · simp [hj]

theorem BMap.get_set (m : BMap) (d : List Byte) (k : Nat) (v : List Byte) (j : Nat) : BMap.get (BMap.set m d k v) d j = if j = k then v else BMap.get m d j := by
  unfold BMap.set; split
  · subst_vars; exact BMap.get_filter _ _ _ _
  · exact BMap.get_ins _ _ _ _ _

end Sys2Proof.Machine
end

