-- ==== Sys2Proof/Laws/Ops.lean ====
section
/-! SUPPORT. Lemmas about the shared operations: commands under the clocks, entries, and what raising an event may touch. -/

namespace Sys2Proof.Machine

open Sys2Proof

theorem put_dev (s : State) (h : s.Between) : s.put s.dev = s := by
  cases s with
  | mk d q =>
    cases d
    simp only [State.Between] at h
    subst h
    rfl

theorem on_runs (s : State) (f : Device → Device) (hr : s.Runs) : s.on f = .next (s.put (f s.dev)) := by
  simp [State.on, State.onBoard, Device.clocked, State.put, hr.1]

@[simp] theorem Device.rd_wr_same (d : Device) (a v : Nat) : (d.wr a v).rd a = v := by
  simp [Device.rd, Device.wr, SMap.get_set]

theorem Device.rd_wr_ne (d : Device) (a b v : Nat) (h : b ≠ a) : (d.wr a v).rd b = d.rd b := by
  simp [Device.rd, Device.wr, SMap.get_set_ne, h]

theorem Device.rd_wr (d : Device) (a b v : Nat) : (d.wr a v).rd b = if b = a then v else d.rd b := by
  by_cases h : b = a
  · subst h; simp
  · simp [h, Device.rd_wr_ne]

/-- Everything that raising events, delivering them and sending device frames may touch. -/
def Device.EventOnly (d e : Device) : Prop :=
  e = { d with cycle := e.cycle, sent := e.sent, bk := e.bk, bar0 := e.bar0, raiseTime := e.raiseTime, raiseValid := e.raiseValid,
               raiseRound := e.raiseRound, eventHolds := e.eventHolds, eventQueue := e.eventQueue, ctrlSeq := e.ctrlSeq,
               dec := { d.dec with tx := e.dec.tx, wireEnd := e.dec.wireEnd, own := e.dec.own,
                                       ownWire := e.dec.ownWire },
               ports := { d.ports with taps := e.ports.taps }, tel := { d.tel with window := e.tel.window } }

theorem Device.EventOnly.refl (d : Device) : d.EventOnly d := rfl

theorem Device.EventOnly.trans {a b c : Device} (h : a.EventOnly b) (g : b.EventOnly c) : a.EventOnly c := by
  unfold Device.EventOnly at h g ⊢
  rw [g, h]

theorem Device.eventOnly_wr (d : Device) (a v) : d.EventOnly (d.wr a v) := rfl

theorem Device.eventOnly_send (d : Device) (a) : d.EventOnly (d.send a) := rfl

theorem Device.eventOnly_sendMsix (d : Device) (v) : d.EventOnly (d.sendMsix v) := by
  unfold Device.sendMsix; dsimp only; split <;> rfl

theorem Device.eventOnly_markVector (d : Device) (v) : d.EventOnly (d.markVector v) := rfl

theorem Device.eventOnly_deliver (d : Device) (g) : d.EventOnly (d.deliver g) := by
  unfold Device.deliver; dsimp only; split
  · exact (Device.eventOnly_markVector _ _).trans (Device.eventOnly_sendMsix _ _)
  · rfl

theorem Device.eventOnly_tap (d : Device) (p a n) : d.EventOnly (d.tap p a n) := by
  unfold Device.tap; dsimp only; split
  · split <;> rfl
  · rfl

theorem Device.eventOnly_own (d : Device) (o w e) :
    d.EventOnly { d with dec := { d.dec with own := o, ownWire := w, wireEnd := e } } := rfl

theorem Device.eventOnly_ownOnto (d : Device) (p bs b n) : d.EventOnly (d.ownOnto p bs b n) := rfl

theorem Device.eventOnly_insertOwn (d : Device) (p) : d.EventOnly (d.insertOwn p) := by
  unfold Device.insertOwn
  split
  · rfl
  · split
    · rfl
    · exact (Device.eventOnly_own d _ _ _).trans (Device.eventOnly_ownOnto _ _ _ _ _)

theorem Device.eventOnly_sendFrame (d : Device) (p bs) : d.EventOnly (d.sendFrame p bs) :=
  (Device.eventOnly_own d _ _ _).trans (Device.eventOnly_insertOwn _ _)

theorem Device.eventOnly_originate (d : Device) (c o p) : d.EventOnly (d.originate c o p) := by
  unfold Device.originate; dsimp only; split
  · rfl
  · split
    · exact Device.EventOnly.trans (b := { d with ctrlSeq := _ }) rfl (Device.eventOnly_sendFrame _ _ _)
    · split <;> rfl

theorem Device.eventOnly_eventTo (d : Device) (n c) : d.EventOnly (d.eventTo n c) := by
  unfold Device.eventTo; split
  · split
    · split
      · rfl
      · exact Device.EventOnly.trans (b := { d with eventHolds := _ }) rfl (Device.eventOnly_originate _ _ _ _)
    · exact Device.EventOnly.trans (b := { d with eventHolds := _ }) rfl (Device.eventOnly_originate _ _ _ _)
  · rfl

theorem Device.eventOnly_foldl {α} (xs : List α) (f : Device → α → Device) (hf : ∀ d a, Device.EventOnly d (f d a)) (d : Device) :
    d.EventOnly (xs.foldl f d) := by
  induction xs generalizing d with
  | nil => rfl
  | cons x t ih => exact (hf d x).trans (ih _)

theorem Device.eventOnly_marks (d : Device) (a b c) :
    d.EventOnly { d with raiseTime := a, raiseValid := b, raiseRound := c } := rfl

theorem Device.eventOnly_writeDetail (d : Device) (n v) : d.EventOnly (d.writeDetail n v) := by
  unfold Device.writeDetail; split <;> rfl

theorem Device.eventOnly_raiseState (d : Device) (n v) : d.EventOnly (d.raiseState n v) := by
  unfold Device.raiseState Device.bump
  dsimp only
  exact ((((Device.eventOnly_wr _ _ _).trans (Device.eventOnly_wr _ _ _)).trans (Device.eventOnly_wr _ _ _)).trans
    (Device.eventOnly_writeDetail _ _ _)).trans (Device.eventOnly_marks _ _ _ _)

theorem Device.eventOnly_raise (d : Device) (n v) : d.EventOnly (d.raise n v) := by
  unfold Device.raise; split
  · dsimp only
    refine Device.EventOnly.trans ?_ (Device.eventOnly_foldl _ _ (fun d c => Device.eventOnly_eventTo d n c) _)
    split
    · exact (Device.eventOnly_raiseState d n v).trans (Device.eventOnly_deliver _ _)
    · exact Device.eventOnly_raiseState d n v
  · rfl

theorem Device.raise_quiet (d : Device) (n v) (h : d.ready = false) : d.raise n v = d := by simp [Device.raise, h]

theorem Device.raise_tripped (d : Device) (n v) (h : d.board.tripped = true) : d.raise n v = d := by simp [Device.raise, h]

end Sys2Proof.Machine
end

