-- ==== Sys2Proof/Laws/Cellarhand.lean ====
section
/-! SUPPORT. Lemmas about Cellarhand words: results, contexts, and what a word of an operation answers. -/

namespace Sys2Proof.Machine

open Sys2Proof

theorem handResult_add (a b : Nat) : handResult 0x02 a b = (a + b) % 2 ^ 64 := by simp [handResult]
theorem handResult_sub (a b : Nat) : handResult 0x03 a b = (a + 2 ^ 64 - b % 2 ^ 64) % 2 ^ 64 := by simp [handResult]
theorem handResult_and (a b : Nat) : handResult 0x04 a b = a &&& b := by simp [handResult]
theorem handResult_or (a b : Nat) : handResult 0x05 a b = a ||| b := by simp [handResult]
theorem handResult_xor (a b : Nat) : handResult 0x06 a b = a ^^^ b := by simp [handResult]
theorem handResult_shl (a b : Nat) : handResult 0x07 a b = a * 2 ^ (b % 64) % 2 ^ 64 := by simp [handResult]
theorem handResult_shr (a b : Nat) : handResult 0x08 a b = a / 2 ^ (b % 64) := by simp [handResult]

/-- A register written: the value's low 64 bits. -/
theorem Context.setReg_eq (c : Context) (i v : Nat) :
    c.setReg i v = { c with regs := modAt c.regs i (fun _ => v % 2 ^ 64) } := rfl

theorem context_mod_same (d : Device) (c : Nat) (f : Context → Context) (h : c < d.ctx.length) :
    (d.modContext c f).context c = f (d.context c) := modAt_getD_same _ _ _ _ h

theorem context_mod_ne (d : Device) (c k : Nat) (f : Context → Context) (h : k ≠ c) :
    (d.modContext c f).context k = d.context k := modAt_getD_ne _ _ _ _ _ h

/-- A word of an operation while the clocks run: one fetched in error aborts its routine; any other has its effect, and then
the commit that it asks for. -/
theorem hand_eq (s : State) (c op : Nat) (w : HandArgs) (hr : s.Runs) (hc : c < 4) :
    s.hand c op w =
      .next (s.put (if w.badFetch then s.dev.abortHand c 1
        else if w.commit then (s.dev.handEffect c op w).commitJournal c else s.dev.handEffect c op w)) := by
  rw [State.hand, on_runs _ _ hr]; simp [Device.handWord, Nat.not_le.mpr hc]

end Sys2Proof.Machine
end

