-- ==== Sys2Proof/Laws/Cooper.lean ====
section
/-! SUPPORT. Lemmas about Cooper slots: the bytes an ALU slot writes, and the action of a slot whose condition holds. -/

namespace Sys2Proof.Machine

open Sys2Proof

theorem Device.counter_setCounter (d : Device) (n v m : Nat) : (d.setCounter n v).counter m = if m = n then v % 2 ^ 32 else d.counter m := by
  simp [Device.counter, Device.setCounter, SMap.get_set]

theorem chained_setCounter (d : Device) (u n v : Nat) : (d.setCounter n v).chained u = d.chained u := by
  have h : ∀ a, (d.setCounter n v).rd a = d.rd a := fun _ => rfl
  simp only [Device.chained, h]

theorem chained_addAt (d : Device) (u n v : Nat) : (d.addAt n v).chained u = d.chained u := by
  unfold Device.addAt; split <;> split <;> simp only [chained_setCounter]

theorem frame_setCounter (d : Device) (u n v : Nat) : (d.setCounter n v).frame? u = d.frame? u := by
  simp only [Device.frame?, Device.setCounter]

theorem frame_addAt (d : Device) (u n v : Nat) : (d.addAt n v).frame? u = d.frame? u := by
  unfold Device.addAt; split <;> split <;> simp only [frame_setCounter]

theorem Device.modPass_id (d : Device) (h : Nat) (f : Pass → Pass) (hf : ∀ p, f p = p) : d.modPass h f = d := by
  simp [Device.modPass, Device.modHeader, modFirst_eq_self, hf]

theorem header_id {d : Device} {h : Nat} {x : Header} (hx : d.header? h = some x) : x.id = h := by
  have := List.find?_some hx
  simpa using this

theorem alu_eq (s : State) (h op : Nat) (x : Header) (a : AluArgs) (hr : s.Runs) (hx : s.dev.header? h = some x) :
    s.alu h op a = .next (s.put (s.dev.modPass h (fun p => p.applyAlu (aluEffect op a x.p)))) := by
  rw [State.alu, on_runs _ _ hr, hx, Option.elim, Device.aluSlot, header_id hx]

theorem act_eq (s : State) (h code : Nat) (x : Header) (a : ActArgs) (hr : s.Runs) (hx : s.dev.header? h = some x) :
    s.act h code a = .next (s.put (s.dev.action x code a)) := by
  rw [State.act, on_runs _ _ hr, hx, Option.elim]

theorem action_taken (d : Device) (x : Header) (code : Nat) (a : ActArgs) (ht : actTaken x a = true) :
  d.action x code a = (match code with
    | 0x01 => d.actForward x (actValue x.p a)
    | 0x02 => d.actMcast x (actValue x.p a)
    | 0x03 => d.actTrap x (actValue x.p a)
    | 0x04 => d.actDiscard x (actValue x.p a)
    | 0x05 => d.actRecirc x
    | 0x06 => d.actCount x (actValue x.p a)
    | 0x07 => d.actPolice x (actValue x.p a)
    | 0x08 => d.actMirror x (actValue x.p a)
    | 0x09 => d.actSetEgress x (actValue x.p a)
    | 0x0A => d.actSetEmit x (actValue x.p a)
    | 0x0B => d.actSample x (actValue x.p a)
    | 0x0C => d.actTimestamp x (actValue x.p a)
    | 0x0D => d.actIoam x (actValue x.p a)
    | 0x0E => d.actFlow x (actValue x.p a)
    | _ => d) := by simp only [Device.action, ht]; rfl

theorem slice_length (bs : List Byte) (i n : Nat) : (slice bs i n).length = n := by
  simp [slice] <;> omega

theorem overlay_one (bs : List Byte) (i : Nat) (b : Byte) (hi : i < bs.length) : overlay bs i [b] = bs.set i b := by
  simp only [overlay, List.length_singleton]
  have : bs.take i ++ [b] ++ bs.drop (i + 1) = bs.set i b := by
    rw [List.set_eq_take_append_cons_drop, if_pos hi]; simp
  rw [this, List.take_of_length_le]; simp

theorem slice_self (bs : List Byte) (n : Nat) (h : bs.length = n) : slice bs 0 n = bs := by
  subst h; simp [slice]

theorem writable_lt {a : Nat} (h : writable a = true) : a < 448 := by
  simp [writable] at h; omega

theorem setByte_bytes (p : Pass) (a : Nat) (b : Byte) :
    (p.setByte a b).bytes = if writable a then p.bytes.set a b else p.bytes := by
  unfold Pass.setByte
  by_cases hw : writable a
  · have := writable_lt hw
    simp only [hw, Bool.not_true, Bool.false_eq_true, if_false, if_true]
    split
    · rename_i h
      simp only [Pass.bytes, Pass.space]
      rw [overlay_one _ _ _ (by simp [slice_length, h]), slice_self (List.set _ _ _) 384 (by simp [slice_length]),
        List.append_assoc, List.append_assoc, List.set_append_left _ _ (by simp [slice_length, h])]
    · rename_i h
      simp only [Pass.bytes, Pass.space]
      rw [overlay_one _ _ _ (by simp [slice_length]; omega), slice_self (List.set _ _ _) 64 (by simp [slice_length]),
        List.append_assoc, List.append_assoc, List.set_append_right _ _ (by simp [slice_length]; omega), slice_length,
        List.set_append_left _ _ (by simp [slice_length]; omega)]
  · simp [hw]

theorem byteAt_set (bs : List Byte) (a k : Nat) (b : Byte) (h : a < bs.length) :
    byteAt (bs.set a b) k = if k = a then b.toNat else byteAt bs k := by
  simp only [byteAt, List.getD_eq_getElem?_getD, List.getElem?_set]
  by_cases hk : a = k
  · subst hk; simp [h]
  · simp [hk, Ne.symm hk]

theorem space_length (p : Pass) : p.bytes.length = 448 + (p.res.flatMap (beBytes 16)).length := by
  simp [Pass.bytes, Pass.space, slice_length]; omega

theorem setBytes_byte (bs : List Byte) (p : Pass) (a k : Nat) :
    byteAt (p.setBytes a bs).bytes k = if a ≤ k ∧ k < a + bs.length ∧ writable k = true then byteAt bs (k - a) else byteAt p.bytes k := by
  induction bs generalizing p a with
  | nil => simp [Pass.setBytes]; omega
  | cons b t ih =>
    rw [Pass.setBytes, ih, setByte_bytes]
    have hb : byteAt (if writable a then p.bytes.set a b else p.bytes) k = if k = a ∧ writable a then b.toNat else byteAt p.bytes k := by
      by_cases hw : writable a
      · simp only [hw, if_true, and_true]
        rw [byteAt_set]; have := writable_lt hw; rw [space_length]; omega
      · simp [hw]
    rw [hb]
    by_cases h1 : k = a
    · subst h1
      simp [byteAt] <;> (intro h; omega)
    · by_cases h2 : a < k
      · have : k - a = (k - (a+1)) + 1 := by omega
        simp only [h1, false_and, if_false, this, byteAt, List.getD_cons_succ, List.length_cons, show a + (t.length+1) = a + 1 + t.length by omega]
        simp [show a + 1 ≤ k by omega, show a ≤ k by omega]
      · simp [h1, show ¬ a + 1 ≤ k by omega, show ¬ a ≤ k by omega]

theorem leBytes_length (n v : Nat) : (leBytes n v).length = n := by
  induction n generalizing v with
  | zero => rfl
  | succ n ih => simp [leBytes, ih]

theorem leBytes_get (n v i : Nat) (h : i < n) : byteAt (leBytes n v) i = v / 256 ^ i % 256 := by
  induction n generalizing v i with
  | zero => omega
  | succ n ih =>
    cases i with
    | zero => simp [leBytes, byteAt]
    | succ i =>
      have := ih (v / 256) i (by omega)
      simp only [byteAt, leBytes, List.getD_cons_succ] at this ⊢
      rw [this, Nat.div_div_eq_div_mul, Nat.pow_succ, Nat.mul_comm]

theorem beBytes_get (n v i : Nat) (h : i < n) : byteAt (beBytes n v) i = v / 256 ^ (n - 1 - i) % 256 := by
  rw [← leBytes_get n v _ (by omega)]
  simp only [byteAt, beBytes, List.getD_eq_getElem?_getD]
  rw [List.getElem?_reverse (by simp [leBytes_length, h]), leBytes_length]

theorem writable_iff (k : Nat) : writable k = true ↔ (k < 384 ∨ k = 388 ∨ (390 ≤ k ∧ k ≤ 403) ∨ (426 ≤ k ∧ k ≤ 447)) := by
  simp [writable]; omega

theorem find_modFirst (xs : List Header) (h : Nat) (f : Header → Header) (hf : ∀ x, (f x).id = x.id) (x : Header)
    (hx : xs.find? (fun x => x.id = h) = some x) : (modFirst xs (fun x => x.id = h) f).find? (fun x => x.id = h) = some (f x) := by
  induction xs with
  | nil => simp at hx
  | cons y t ih =>
    simp only [modFirst]
    by_cases hy : y.id = h
    · simp [hy] at hx; subst hx; simp [hy, hf]
    · simp [hy] at hx; simp [hy]; simpa using ih (by simpa using hx)

theorem preds_setBytes (bs : List Byte) (p : Pass) (a : Nat) : (p.setBytes a bs).preds = p.preds := by
  induction bs generalizing p a with
  | nil => rfl
  | cons b t ih => rw [Pass.setBytes, ih]; unfold Pass.setByte; split; rfl; split <;> rfl

end Sys2Proof.Machine
end

