-- ==== Sys2Proof/Laws/State.lean ====
section
/-! SUPPORT. What each update of the block leaves alone: one lemma per field per update. -/

namespace Sys2Proof.Machine

open Sys2Proof

@[simp] theorem State.put_dev (s : State) (d : Device) : (s.put d).dev = d.endCycle := rfl
@[simp] theorem State.put_pending (s : State) (d : Device) : (s.put d).pending = s.pending := rfl
@[simp] theorem State.put_put (s : State) (d e : Device) : (s.put d).put e = s.put e := rfl
@[simp] theorem Device.endCycle_endCycle (d : Device) : d.endCycle.endCycle = d.endCycle := rfl
@[simp] theorem Device.cycle_endCycle (d : Device) : d.endCycle.cycle = {} := rfl

/-! A cycle ends. -/

@[simp] theorem Device.sent_endCycle (d : Device) : d.endCycle.sent = d.sent := rfl
@[simp] theorem Device.draws_endCycle (d : Device) : d.endCycle.draws = d.draws := rfl
@[simp] theorem Device.bk_endCycle (d : Device) : d.endCycle.bk = d.bk := rfl
@[simp] theorem Device.p0_endCycle (d : Device) : d.endCycle.p0 = d.p0 := rfl
@[simp] theorem Device.p1_endCycle (d : Device) : d.endCycle.p1 = d.p1 := rfl
@[simp] theorem Device.objs_endCycle (d : Device) : d.endCycle.objs = d.objs := rfl
@[simp] theorem Device.objs0_endCycle (d : Device) : d.endCycle.objs0 = d.objs0 := rfl
@[simp] theorem Device.objs1_endCycle (d : Device) : d.endCycle.objs1 = d.objs1 := rfl
@[simp] theorem Device.bar0_endCycle (d : Device) : d.endCycle.bar0 = d.bar0 := rfl
@[simp] theorem Device.mode_endCycle (d : Device) : d.endCycle.mode = d.mode := rfl
@[simp] theorem Device.ready_endCycle (d : Device) : d.endCycle.ready = d.ready := rfl
@[simp] theorem Device.clk_endCycle (d : Device) : d.endCycle.clk = d.clk := rfl
@[simp] theorem Device.time_endCycle (d : Device) : d.endCycle.time = d.time := rfl
@[simp] theorem Device.commit_endCycle (d : Device) : d.endCycle.commit = d.commit := rfl
@[simp] theorem Device.commitTime_endCycle (d : Device) : d.endCycle.commitTime = d.commitTime := rfl
@[simp] theorem Device.lateNs_endCycle (d : Device) : d.endCycle.lateNs = d.lateNs := rfl
@[simp] theorem Device.previous_endCycle (d : Device) : d.endCycle.previous = d.previous := rfl
@[simp] theorem Device.flipRound_endCycle (d : Device) : d.endCycle.flipRound = d.flipRound := rfl
@[simp] theorem Device.sweeping_endCycle (d : Device) : d.endCycle.sweeping = d.sweeping := rfl
@[simp] theorem Device.expired_endCycle (d : Device) : d.endCycle.expired = d.expired := rfl
@[simp] theorem Device.inflight_endCycle (d : Device) : d.endCycle.inflight = d.inflight := rfl
@[simp] theorem Device.egressCount_endCycle (d : Device) : d.endCycle.egressCount = d.egressCount := rfl
@[simp] theorem Device.newDigest_endCycle (d : Device) : d.endCycle.newDigest = d.newDigest := rfl
@[simp] theorem Device.installDue_endCycle (d : Device) : d.endCycle.installDue = d.installDue := rfl
@[simp] theorem Device.checkFound_endCycle (d : Device) : d.endCycle.checkFound = d.checkFound := rfl
@[simp] theorem Device.checkMember_endCycle (d : Device) : d.endCycle.checkMember = d.checkMember := rfl
@[simp] theorem Device.partDigest_endCycle (d : Device) : d.endCycle.partDigest = d.partDigest := rfl
@[simp] theorem Device.pairDigest_endCycle (d : Device) : d.endCycle.pairDigest = d.pairDigest := rfl
@[simp] theorem Device.digestPassStart_endCycle (d : Device) : d.endCycle.digestPassStart = d.digestPassStart := rfl
@[simp] theorem Device.tendrilQueue_endCycle (d : Device) : d.endCycle.tendrilQueue = d.tendrilQueue := rfl
@[simp] theorem Device.doorbells_endCycle (d : Device) : d.endCycle.doorbells = d.doorbells := rfl
@[simp] theorem Device.held_endCycle (d : Device) : d.endCycle.held = d.held := rfl
@[simp] theorem Device.lateFrames_endCycle (d : Device) : d.endCycle.lateFrames = d.lateFrames := rfl
@[simp] theorem Device.ctrlSeq_endCycle (d : Device) : d.endCycle.ctrlSeq = d.ctrlSeq := rfl
@[simp] theorem Device.kept_endCycle (d : Device) : d.endCycle.kept = d.kept := rfl
@[simp] theorem Device.writes_endCycle (d : Device) : d.endCycle.writes = d.writes := rfl
@[simp] theorem Device.window_endCycle (d : Device) : d.endCycle.window = d.window := rfl
@[simp] theorem Device.eventQueue_endCycle (d : Device) : d.endCycle.eventQueue = d.eventQueue := rfl
@[simp] theorem Device.eventHolds_endCycle (d : Device) : d.endCycle.eventHolds = d.eventHolds := rfl
@[simp] theorem Device.raiseTime_endCycle (d : Device) : d.endCycle.raiseTime = d.raiseTime := rfl
@[simp] theorem Device.raiseValid_endCycle (d : Device) : d.endCycle.raiseValid = d.raiseValid := rfl
@[simp] theorem Device.raiseRound_endCycle (d : Device) : d.endCycle.raiseRound = d.raiseRound := rfl
@[simp] theorem Device.strikes_endCycle (d : Device) : d.endCycle.strikes = d.strikes := rfl
@[simp] theorem Device.retired_endCycle (d : Device) : d.endCycle.retired = d.retired := rfl
@[simp] theorem Device.subst_endCycle (d : Device) : d.endCycle.subst = d.subst := rfl
@[simp] theorem Device.unretiring_endCycle (d : Device) : d.endCycle.unretiring = d.unretiring := rfl
@[simp] theorem Device.mapA_endCycle (d : Device) : d.endCycle.mapA = d.mapA := rfl
@[simp] theorem Device.mapB_endCycle (d : Device) : d.endCycle.mapB = d.mapB := rfl
@[simp] theorem Device.mapRead_endCycle (d : Device) : d.endCycle.mapRead = d.mapRead := rfl
@[simp] theorem Device.flashCause_endCycle (d : Device) : d.endCycle.flashCause = d.flashCause := rfl
@[simp] theorem Device.flashTotal_endCycle (d : Device) : d.endCycle.flashTotal = d.flashTotal := rfl
@[simp] theorem Device.flashLog_endCycle (d : Device) : d.endCycle.flashLog = d.flashLog := rfl
@[simp] theorem Device.safeHoldSlots_endCycle (d : Device) : d.endCycle.safeHoldSlots = d.safeHoldSlots := rfl
@[simp] theorem Device.hot_endCycle (d : Device) : d.endCycle.hot = d.hot := rfl
@[simp] theorem Device.armed_endCycle (d : Device) : d.endCycle.armed = d.armed := rfl
@[simp] theorem Device.armedPair_endCycle (d : Device) : d.endCycle.armedPair = d.armedPair := rfl
@[simp] theorem Device.resetHold_endCycle (d : Device) : d.endCycle.resetHold = d.resetHold := rfl
@[simp] theorem Device.bootPhase_endCycle (d : Device) : d.endCycle.bootPhase = d.bootPhase := rfl
@[simp] theorem Device.lanes_endCycle (d : Device) : d.endCycle.lanes = d.lanes := rfl
@[simp] theorem Device.ports_endCycle (d : Device) : d.endCycle.ports = d.ports := rfl
@[simp] theorem Device.stores_endCycle (d : Device) : d.endCycle.stores = d.stores := rfl
@[simp] theorem Device.shadow_endCycle (d : Device) : d.endCycle.shadow = d.shadow := rfl
@[simp] theorem Device.filters_endCycle (d : Device) : d.endCycle.filters = d.filters := rfl
@[simp] theorem Device.shadowLost_endCycle (d : Device) : d.endCycle.shadowLost = d.shadowLost := rfl
@[simp] theorem Device.bankMap_endCycle (d : Device) : d.endCycle.bankMap = d.bankMap := rfl
@[simp] theorem Device.careLoaded_endCycle (d : Device) : d.endCycle.careLoaded = d.careLoaded := rfl
@[simp] theorem Device.restores_endCycle (d : Device) : d.endCycle.restores = d.restores := rfl
@[simp] theorem Device.refits_endCycle (d : Device) : d.endCycle.refits = d.refits := rfl
@[simp] theorem Device.headers_endCycle (d : Device) : d.endCycle.headers = d.headers := rfl
@[simp] theorem Device.nextHeader_endCycle (d : Device) : d.endCycle.nextHeader = d.nextHeader := rfl
@[simp] theorem Device.ctx_endCycle (d : Device) : d.endCycle.ctx = d.ctx := rfl
@[simp] theorem Device.trigWaiting_endCycle (d : Device) : d.endCycle.trigWaiting = d.trigWaiting := rfl
@[simp] theorem Device.bgOutput_endCycle (d : Device) : d.endCycle.bgOutput = d.bgOutput := rfl
@[simp] theorem Device.bgWritten_endCycle (d : Device) : d.endCycle.bgWritten = d.bgWritten := rfl
@[simp] theorem Device.cells_endCycle (d : Device) : d.endCycle.cells = d.cells := rfl
@[simp] theorem Device.freedNow_endCycle (d : Device) : d.endCycle.freedNow = d.freedNow := rfl
@[simp] theorem Device.rebuilding_endCycle (d : Device) : d.endCycle.rebuilding = d.rebuilding := rfl
@[simp] theorem Device.lastBank_endCycle (d : Device) : d.endCycle.lastBank = d.lastBank := rfl
@[simp] theorem Device.frames_endCycle (d : Device) : d.endCycle.frames = d.frames := rfl
@[simp] theorem Device.nextFrame_endCycle (d : Device) : d.endCycle.nextFrame = d.nextFrame := rfl
@[simp] theorem Device.queued_endCycle (d : Device) : d.endCycle.queued = d.queued := rfl
@[simp] theorem Device.nextCopy_endCycle (d : Device) : d.endCycle.nextCopy = d.nextCopy := rfl
@[simp] theorem Device.jobs_endCycle (d : Device) : d.endCycle.jobs = d.jobs := rfl
@[simp] theorem Device.waiting_endCycle (d : Device) : d.endCycle.waiting = d.waiting := rfl
@[simp] theorem Device.lastServed_endCycle (d : Device) : d.endCycle.lastServed = d.lastServed := rfl
@[simp] theorem Device.pfcSent_endCycle (d : Device) : d.endCycle.pfcSent = d.pfcSent := rfl
@[simp] theorem Device.spillUsed_endCycle (d : Device) : d.endCycle.spillUsed = d.spillUsed := rfl
@[simp] theorem Device.rackOutTokens_endCycle (d : Device) : d.endCycle.rackOutTokens = d.rackOutTokens := rfl
@[simp] theorem Device.rackInTokens_endCycle (d : Device) : d.endCycle.rackInTokens = d.rackInTokens := rfl
@[simp] theorem Device.rackNext_endCycle (d : Device) : d.endCycle.rackNext = d.rackNext := rfl
@[simp] theorem Device.rackInNext_endCycle (d : Device) : d.endCycle.rackInNext = d.rackInNext := rfl
@[simp] theorem Device.returning_endCycle (d : Device) : d.endCycle.returning = d.returning := rfl
@[simp] theorem Device.returnLost_endCycle (d : Device) : d.endCycle.returnLost = d.returnLost := rfl
@[simp] theorem Device.racking_endCycle (d : Device) : d.endCycle.racking = d.racking := rfl
@[simp] theorem Device.stalled_endCycle (d : Device) : d.endCycle.stalled = d.stalled := rfl
@[simp] theorem Device.recircMoving_endCycle (d : Device) : d.endCycle.recircMoving = d.recircMoving := rfl
@[simp] theorem Device.dec_endCycle (d : Device) : d.endCycle.dec = d.dec := rfl
@[simp] theorem Device.tel_endCycle (d : Device) : d.endCycle.tel = d.tel := rfl
@[simp] theorem Device.gauge_endCycle (d : Device) : d.endCycle.gauge = d.gauge := rfl
@[simp] theorem Device.tapLink_endCycle (d : Device) : d.endCycle.tapLink = d.tapLink := rfl
@[simp] theorem Device.readServed_endCycle (d : Device) : d.endCycle.readServed = d.readServed := rfl
@[simp] theorem Device.writeServed_endCycle (d : Device) : d.endCycle.writeServed = d.writeServed := rfl
@[simp] theorem Device.channels_endCycle (d : Device) : d.endCycle.channels = d.channels := rfl
@[simp] theorem Device.busMaster_endCycle (d : Device) : d.endCycle.busMaster = d.busMaster := rfl
@[simp] theorem Device.pow_endCycle (d : Device) : d.endCycle.pow = d.pow := rfl
@[simp] theorem Device.join_endCycle (d : Device) : d.endCycle.join = d.join := rfl
@[simp] theorem Device.peer_endCycle (d : Device) : d.endCycle.peer = d.peer := rfl
@[simp] theorem Device.board_endCycle (d : Device) : d.endCycle.board = d.board := rfl
@[simp] theorem Device.verify_endCycle (d : Device) : d.endCycle.verify = d.verify := rfl
@[simp] theorem Device.restPorts_endCycle (d : Device) : d.endCycle.restPorts = d.restPorts := rfl
@[simp] theorem Device.drainOver_endCycle (d : Device) : d.endCycle.drainOver = d.drainOver := rfl

/-! An entry is written. -/

@[simp] theorem Device.cycle_wr (d : Device) (a v : Nat) : (d.wr a v).cycle = d.cycle := rfl
@[simp] theorem Device.sent_wr (d : Device) (a v : Nat) : (d.wr a v).sent = d.sent := rfl
@[simp] theorem Device.draws_wr (d : Device) (a v : Nat) : (d.wr a v).draws = d.draws := rfl
@[simp] theorem Device.p0_wr (d : Device) (a v : Nat) : (d.wr a v).p0 = d.p0 := rfl
@[simp] theorem Device.p1_wr (d : Device) (a v : Nat) : (d.wr a v).p1 = d.p1 := rfl
@[simp] theorem Device.objs_wr (d : Device) (a v : Nat) : (d.wr a v).objs = d.objs := rfl
@[simp] theorem Device.objs0_wr (d : Device) (a v : Nat) : (d.wr a v).objs0 = d.objs0 := rfl
@[simp] theorem Device.objs1_wr (d : Device) (a v : Nat) : (d.wr a v).objs1 = d.objs1 := rfl
@[simp] theorem Device.bar0_wr (d : Device) (a v : Nat) : (d.wr a v).bar0 = d.bar0 := rfl
@[simp] theorem Device.mode_wr (d : Device) (a v : Nat) : (d.wr a v).mode = d.mode := rfl
@[simp] theorem Device.ready_wr (d : Device) (a v : Nat) : (d.wr a v).ready = d.ready := rfl
@[simp] theorem Device.clk_wr (d : Device) (a v : Nat) : (d.wr a v).clk = d.clk := rfl
@[simp] theorem Device.time_wr (d : Device) (a v : Nat) : (d.wr a v).time = d.time := rfl
@[simp] theorem Device.commit_wr (d : Device) (a v : Nat) : (d.wr a v).commit = d.commit := rfl
@[simp] theorem Device.commitTime_wr (d : Device) (a v : Nat) : (d.wr a v).commitTime = d.commitTime := rfl
@[simp] theorem Device.lateNs_wr (d : Device) (a v : Nat) : (d.wr a v).lateNs = d.lateNs := rfl
@[simp] theorem Device.previous_wr (d : Device) (a v : Nat) : (d.wr a v).previous = d.previous := rfl
@[simp] theorem Device.flipRound_wr (d : Device) (a v : Nat) : (d.wr a v).flipRound = d.flipRound := rfl
@[simp] theorem Device.sweeping_wr (d : Device) (a v : Nat) : (d.wr a v).sweeping = d.sweeping := rfl
@[simp] theorem Device.expired_wr (d : Device) (a v : Nat) : (d.wr a v).expired = d.expired := rfl
@[simp] theorem Device.inflight_wr (d : Device) (a v : Nat) : (d.wr a v).inflight = d.inflight := rfl
@[simp] theorem Device.egressCount_wr (d : Device) (a v : Nat) : (d.wr a v).egressCount = d.egressCount := rfl
@[simp] theorem Device.newDigest_wr (d : Device) (a v : Nat) : (d.wr a v).newDigest = d.newDigest := rfl
@[simp] theorem Device.installDue_wr (d : Device) (a v : Nat) : (d.wr a v).installDue = d.installDue := rfl
@[simp] theorem Device.checkFound_wr (d : Device) (a v : Nat) : (d.wr a v).checkFound = d.checkFound := rfl
@[simp] theorem Device.checkMember_wr (d : Device) (a v : Nat) : (d.wr a v).checkMember = d.checkMember := rfl
@[simp] theorem Device.partDigest_wr (d : Device) (a v : Nat) : (d.wr a v).partDigest = d.partDigest := rfl
@[simp] theorem Device.pairDigest_wr (d : Device) (a v : Nat) : (d.wr a v).pairDigest = d.pairDigest := rfl
@[simp] theorem Device.digestPassStart_wr (d : Device) (a v : Nat) : (d.wr a v).digestPassStart = d.digestPassStart := rfl
@[simp] theorem Device.tendrilQueue_wr (d : Device) (a v : Nat) : (d.wr a v).tendrilQueue = d.tendrilQueue := rfl
@[simp] theorem Device.doorbells_wr (d : Device) (a v : Nat) : (d.wr a v).doorbells = d.doorbells := rfl
@[simp] theorem Device.held_wr (d : Device) (a v : Nat) : (d.wr a v).held = d.held := rfl
@[simp] theorem Device.lateFrames_wr (d : Device) (a v : Nat) : (d.wr a v).lateFrames = d.lateFrames := rfl
@[simp] theorem Device.ctrlSeq_wr (d : Device) (a v : Nat) : (d.wr a v).ctrlSeq = d.ctrlSeq := rfl
@[simp] theorem Device.kept_wr (d : Device) (a v : Nat) : (d.wr a v).kept = d.kept := rfl
@[simp] theorem Device.writes_wr (d : Device) (a v : Nat) : (d.wr a v).writes = d.writes := rfl
@[simp] theorem Device.window_wr (d : Device) (a v : Nat) : (d.wr a v).window = d.window := rfl
@[simp] theorem Device.eventQueue_wr (d : Device) (a v : Nat) : (d.wr a v).eventQueue = d.eventQueue := rfl
@[simp] theorem Device.eventHolds_wr (d : Device) (a v : Nat) : (d.wr a v).eventHolds = d.eventHolds := rfl
@[simp] theorem Device.raiseTime_wr (d : Device) (a v : Nat) : (d.wr a v).raiseTime = d.raiseTime := rfl
@[simp] theorem Device.raiseValid_wr (d : Device) (a v : Nat) : (d.wr a v).raiseValid = d.raiseValid := rfl
@[simp] theorem Device.raiseRound_wr (d : Device) (a v : Nat) : (d.wr a v).raiseRound = d.raiseRound := rfl
@[simp] theorem Device.strikes_wr (d : Device) (a v : Nat) : (d.wr a v).strikes = d.strikes := rfl
@[simp] theorem Device.retired_wr (d : Device) (a v : Nat) : (d.wr a v).retired = d.retired := rfl
@[simp] theorem Device.subst_wr (d : Device) (a v : Nat) : (d.wr a v).subst = d.subst := rfl
@[simp] theorem Device.unretiring_wr (d : Device) (a v : Nat) : (d.wr a v).unretiring = d.unretiring := rfl
@[simp] theorem Device.mapA_wr (d : Device) (a v : Nat) : (d.wr a v).mapA = d.mapA := rfl
@[simp] theorem Device.mapB_wr (d : Device) (a v : Nat) : (d.wr a v).mapB = d.mapB := rfl
@[simp] theorem Device.mapRead_wr (d : Device) (a v : Nat) : (d.wr a v).mapRead = d.mapRead := rfl
@[simp] theorem Device.flashCause_wr (d : Device) (a v : Nat) : (d.wr a v).flashCause = d.flashCause := rfl
@[simp] theorem Device.flashTotal_wr (d : Device) (a v : Nat) : (d.wr a v).flashTotal = d.flashTotal := rfl
@[simp] theorem Device.flashLog_wr (d : Device) (a v : Nat) : (d.wr a v).flashLog = d.flashLog := rfl
@[simp] theorem Device.safeHoldSlots_wr (d : Device) (a v : Nat) : (d.wr a v).safeHoldSlots = d.safeHoldSlots := rfl
@[simp] theorem Device.hot_wr (d : Device) (a v : Nat) : (d.wr a v).hot = d.hot := rfl
@[simp] theorem Device.armed_wr (d : Device) (a v : Nat) : (d.wr a v).armed = d.armed := rfl
@[simp] theorem Device.armedPair_wr (d : Device) (a v : Nat) : (d.wr a v).armedPair = d.armedPair := rfl
@[simp] theorem Device.resetHold_wr (d : Device) (a v : Nat) : (d.wr a v).resetHold = d.resetHold := rfl
@[simp] theorem Device.bootPhase_wr (d : Device) (a v : Nat) : (d.wr a v).bootPhase = d.bootPhase := rfl
@[simp] theorem Device.lanes_wr (d : Device) (a v : Nat) : (d.wr a v).lanes = d.lanes := rfl
@[simp] theorem Device.ports_wr (d : Device) (a v : Nat) : (d.wr a v).ports = d.ports := rfl
@[simp] theorem Device.stores_wr (d : Device) (a v : Nat) : (d.wr a v).stores = d.stores := rfl
@[simp] theorem Device.shadow_wr (d : Device) (a v : Nat) : (d.wr a v).shadow = d.shadow := rfl
@[simp] theorem Device.filters_wr (d : Device) (a v : Nat) : (d.wr a v).filters = d.filters := rfl
@[simp] theorem Device.shadowLost_wr (d : Device) (a v : Nat) : (d.wr a v).shadowLost = d.shadowLost := rfl
@[simp] theorem Device.bankMap_wr (d : Device) (a v : Nat) : (d.wr a v).bankMap = d.bankMap := rfl
@[simp] theorem Device.careLoaded_wr (d : Device) (a v : Nat) : (d.wr a v).careLoaded = d.careLoaded := rfl
@[simp] theorem Device.restores_wr (d : Device) (a v : Nat) : (d.wr a v).restores = d.restores := rfl
@[simp] theorem Device.refits_wr (d : Device) (a v : Nat) : (d.wr a v).refits = d.refits := rfl
@[simp] theorem Device.headers_wr (d : Device) (a v : Nat) : (d.wr a v).headers = d.headers := rfl
@[simp] theorem Device.nextHeader_wr (d : Device) (a v : Nat) : (d.wr a v).nextHeader = d.nextHeader := rfl
@[simp] theorem Device.ctx_wr (d : Device) (a v : Nat) : (d.wr a v).ctx = d.ctx := rfl
@[simp] theorem Device.trigWaiting_wr (d : Device) (a v : Nat) : (d.wr a v).trigWaiting = d.trigWaiting := rfl
@[simp] theorem Device.bgOutput_wr (d : Device) (a v : Nat) : (d.wr a v).bgOutput = d.bgOutput := rfl
@[simp] theorem Device.bgWritten_wr (d : Device) (a v : Nat) : (d.wr a v).bgWritten = d.bgWritten := rfl
@[simp] theorem Device.cells_wr (d : Device) (a v : Nat) : (d.wr a v).cells = d.cells := rfl
@[simp] theorem Device.freedNow_wr (d : Device) (a v : Nat) : (d.wr a v).freedNow = d.freedNow := rfl
@[simp] theorem Device.rebuilding_wr (d : Device) (a v : Nat) : (d.wr a v).rebuilding = d.rebuilding := rfl
@[simp] theorem Device.lastBank_wr (d : Device) (a v : Nat) : (d.wr a v).lastBank = d.lastBank := rfl
@[simp] theorem Device.frames_wr (d : Device) (a v : Nat) : (d.wr a v).frames = d.frames := rfl
@[simp] theorem Device.nextFrame_wr (d : Device) (a v : Nat) : (d.wr a v).nextFrame = d.nextFrame := rfl
@[simp] theorem Device.queued_wr (d : Device) (a v : Nat) : (d.wr a v).queued = d.queued := rfl
@[simp] theorem Device.nextCopy_wr (d : Device) (a v : Nat) : (d.wr a v).nextCopy = d.nextCopy := rfl
@[simp] theorem Device.jobs_wr (d : Device) (a v : Nat) : (d.wr a v).jobs = d.jobs := rfl
@[simp] theorem Device.waiting_wr (d : Device) (a v : Nat) : (d.wr a v).waiting = d.waiting := rfl
@[simp] theorem Device.lastServed_wr (d : Device) (a v : Nat) : (d.wr a v).lastServed = d.lastServed := rfl
@[simp] theorem Device.pfcSent_wr (d : Device) (a v : Nat) : (d.wr a v).pfcSent = d.pfcSent := rfl
@[simp] theorem Device.spillUsed_wr (d : Device) (a v : Nat) : (d.wr a v).spillUsed = d.spillUsed := rfl
@[simp] theorem Device.rackOutTokens_wr (d : Device) (a v : Nat) : (d.wr a v).rackOutTokens = d.rackOutTokens := rfl
@[simp] theorem Device.rackInTokens_wr (d : Device) (a v : Nat) : (d.wr a v).rackInTokens = d.rackInTokens := rfl
@[simp] theorem Device.rackNext_wr (d : Device) (a v : Nat) : (d.wr a v).rackNext = d.rackNext := rfl
@[simp] theorem Device.rackInNext_wr (d : Device) (a v : Nat) : (d.wr a v).rackInNext = d.rackInNext := rfl
@[simp] theorem Device.returning_wr (d : Device) (a v : Nat) : (d.wr a v).returning = d.returning := rfl
@[simp] theorem Device.returnLost_wr (d : Device) (a v : Nat) : (d.wr a v).returnLost = d.returnLost := rfl
@[simp] theorem Device.racking_wr (d : Device) (a v : Nat) : (d.wr a v).racking = d.racking := rfl
@[simp] theorem Device.stalled_wr (d : Device) (a v : Nat) : (d.wr a v).stalled = d.stalled := rfl
@[simp] theorem Device.recircMoving_wr (d : Device) (a v : Nat) : (d.wr a v).recircMoving = d.recircMoving := rfl
@[simp] theorem Device.dec_wr (d : Device) (a v : Nat) : (d.wr a v).dec = d.dec := rfl
@[simp] theorem Device.tel_wr (d : Device) (a v : Nat) : (d.wr a v).tel = d.tel := rfl
@[simp] theorem Device.gauge_wr (d : Device) (a v : Nat) : (d.wr a v).gauge = d.gauge := rfl
@[simp] theorem Device.tapLink_wr (d : Device) (a v : Nat) : (d.wr a v).tapLink = d.tapLink := rfl
@[simp] theorem Device.readServed_wr (d : Device) (a v : Nat) : (d.wr a v).readServed = d.readServed := rfl
@[simp] theorem Device.writeServed_wr (d : Device) (a v : Nat) : (d.wr a v).writeServed = d.writeServed := rfl
@[simp] theorem Device.channels_wr (d : Device) (a v : Nat) : (d.wr a v).channels = d.channels := rfl
@[simp] theorem Device.busMaster_wr (d : Device) (a v : Nat) : (d.wr a v).busMaster = d.busMaster := rfl
@[simp] theorem Device.pow_wr (d : Device) (a v : Nat) : (d.wr a v).pow = d.pow := rfl
@[simp] theorem Device.join_wr (d : Device) (a v : Nat) : (d.wr a v).join = d.join := rfl
@[simp] theorem Device.peer_wr (d : Device) (a v : Nat) : (d.wr a v).peer = d.peer := rfl
@[simp] theorem Device.board_wr (d : Device) (a v : Nat) : (d.wr a v).board = d.board := rfl
@[simp] theorem Device.verify_wr (d : Device) (a v : Nat) : (d.wr a v).verify = d.verify := rfl
@[simp] theorem Device.restPorts_wr (d : Device) (a v : Nat) : (d.wr a v).restPorts = d.restPorts := rfl
@[simp] theorem Device.drainOver_wr (d : Device) (a v : Nat) : (d.wr a v).drainOver = d.drainOver := rfl

/-! Something is sent. -/

@[simp] theorem Device.cycle_send (d : Device) (x : Sent) : (d.send x).cycle = d.cycle := rfl
@[simp] theorem Device.draws_send (d : Device) (x : Sent) : (d.send x).draws = d.draws := rfl
@[simp] theorem Device.bk_send (d : Device) (x : Sent) : (d.send x).bk = d.bk := rfl
@[simp] theorem Device.p0_send (d : Device) (x : Sent) : (d.send x).p0 = d.p0 := rfl
@[simp] theorem Device.p1_send (d : Device) (x : Sent) : (d.send x).p1 = d.p1 := rfl
@[simp] theorem Device.objs_send (d : Device) (x : Sent) : (d.send x).objs = d.objs := rfl
@[simp] theorem Device.objs0_send (d : Device) (x : Sent) : (d.send x).objs0 = d.objs0 := rfl
@[simp] theorem Device.objs1_send (d : Device) (x : Sent) : (d.send x).objs1 = d.objs1 := rfl
@[simp] theorem Device.bar0_send (d : Device) (x : Sent) : (d.send x).bar0 = d.bar0 := rfl
@[simp] theorem Device.mode_send (d : Device) (x : Sent) : (d.send x).mode = d.mode := rfl
@[simp] theorem Device.ready_send (d : Device) (x : Sent) : (d.send x).ready = d.ready := rfl
@[simp] theorem Device.clk_send (d : Device) (x : Sent) : (d.send x).clk = d.clk := rfl
@[simp] theorem Device.time_send (d : Device) (x : Sent) : (d.send x).time = d.time := rfl
@[simp] theorem Device.commit_send (d : Device) (x : Sent) : (d.send x).commit = d.commit := rfl
@[simp] theorem Device.commitTime_send (d : Device) (x : Sent) : (d.send x).commitTime = d.commitTime := rfl
@[simp] theorem Device.lateNs_send (d : Device) (x : Sent) : (d.send x).lateNs = d.lateNs := rfl
@[simp] theorem Device.previous_send (d : Device) (x : Sent) : (d.send x).previous = d.previous := rfl
@[simp] theorem Device.flipRound_send (d : Device) (x : Sent) : (d.send x).flipRound = d.flipRound := rfl
@[simp] theorem Device.sweeping_send (d : Device) (x : Sent) : (d.send x).sweeping = d.sweeping := rfl
@[simp] theorem Device.expired_send (d : Device) (x : Sent) : (d.send x).expired = d.expired := rfl
@[simp] theorem Device.inflight_send (d : Device) (x : Sent) : (d.send x).inflight = d.inflight := rfl
@[simp] theorem Device.egressCount_send (d : Device) (x : Sent) : (d.send x).egressCount = d.egressCount := rfl
@[simp] theorem Device.newDigest_send (d : Device) (x : Sent) : (d.send x).newDigest = d.newDigest := rfl
@[simp] theorem Device.installDue_send (d : Device) (x : Sent) : (d.send x).installDue = d.installDue := rfl
@[simp] theorem Device.checkFound_send (d : Device) (x : Sent) : (d.send x).checkFound = d.checkFound := rfl
@[simp] theorem Device.checkMember_send (d : Device) (x : Sent) : (d.send x).checkMember = d.checkMember := rfl
@[simp] theorem Device.partDigest_send (d : Device) (x : Sent) : (d.send x).partDigest = d.partDigest := rfl
@[simp] theorem Device.pairDigest_send (d : Device) (x : Sent) : (d.send x).pairDigest = d.pairDigest := rfl
@[simp] theorem Device.digestPassStart_send (d : Device) (x : Sent) : (d.send x).digestPassStart = d.digestPassStart := rfl
@[simp] theorem Device.tendrilQueue_send (d : Device) (x : Sent) : (d.send x).tendrilQueue = d.tendrilQueue := rfl
@[simp] theorem Device.doorbells_send (d : Device) (x : Sent) : (d.send x).doorbells = d.doorbells := rfl
@[simp] theorem Device.held_send (d : Device) (x : Sent) : (d.send x).held = d.held := rfl
@[simp] theorem Device.lateFrames_send (d : Device) (x : Sent) : (d.send x).lateFrames = d.lateFrames := rfl
@[simp] theorem Device.ctrlSeq_send (d : Device) (x : Sent) : (d.send x).ctrlSeq = d.ctrlSeq := rfl
@[simp] theorem Device.kept_send (d : Device) (x : Sent) : (d.send x).kept = d.kept := rfl
@[simp] theorem Device.writes_send (d : Device) (x : Sent) : (d.send x).writes = d.writes := rfl
@[simp] theorem Device.window_send (d : Device) (x : Sent) : (d.send x).window = d.window := rfl
@[simp] theorem Device.eventQueue_send (d : Device) (x : Sent) : (d.send x).eventQueue = d.eventQueue := rfl
@[simp] theorem Device.eventHolds_send (d : Device) (x : Sent) : (d.send x).eventHolds = d.eventHolds := rfl
@[simp] theorem Device.raiseTime_send (d : Device) (x : Sent) : (d.send x).raiseTime = d.raiseTime := rfl
@[simp] theorem Device.raiseValid_send (d : Device) (x : Sent) : (d.send x).raiseValid = d.raiseValid := rfl
@[simp] theorem Device.raiseRound_send (d : Device) (x : Sent) : (d.send x).raiseRound = d.raiseRound := rfl
@[simp] theorem Device.strikes_send (d : Device) (x : Sent) : (d.send x).strikes = d.strikes := rfl
@[simp] theorem Device.retired_send (d : Device) (x : Sent) : (d.send x).retired = d.retired := rfl
@[simp] theorem Device.subst_send (d : Device) (x : Sent) : (d.send x).subst = d.subst := rfl
@[simp] theorem Device.unretiring_send (d : Device) (x : Sent) : (d.send x).unretiring = d.unretiring := rfl
@[simp] theorem Device.mapA_send (d : Device) (x : Sent) : (d.send x).mapA = d.mapA := rfl
@[simp] theorem Device.mapB_send (d : Device) (x : Sent) : (d.send x).mapB = d.mapB := rfl
@[simp] theorem Device.mapRead_send (d : Device) (x : Sent) : (d.send x).mapRead = d.mapRead := rfl
@[simp] theorem Device.flashCause_send (d : Device) (x : Sent) : (d.send x).flashCause = d.flashCause := rfl
@[simp] theorem Device.flashTotal_send (d : Device) (x : Sent) : (d.send x).flashTotal = d.flashTotal := rfl
@[simp] theorem Device.flashLog_send (d : Device) (x : Sent) : (d.send x).flashLog = d.flashLog := rfl
@[simp] theorem Device.safeHoldSlots_send (d : Device) (x : Sent) : (d.send x).safeHoldSlots = d.safeHoldSlots := rfl
@[simp] theorem Device.hot_send (d : Device) (x : Sent) : (d.send x).hot = d.hot := rfl
@[simp] theorem Device.armed_send (d : Device) (x : Sent) : (d.send x).armed = d.armed := rfl
@[simp] theorem Device.armedPair_send (d : Device) (x : Sent) : (d.send x).armedPair = d.armedPair := rfl
@[simp] theorem Device.resetHold_send (d : Device) (x : Sent) : (d.send x).resetHold = d.resetHold := rfl
@[simp] theorem Device.bootPhase_send (d : Device) (x : Sent) : (d.send x).bootPhase = d.bootPhase := rfl
@[simp] theorem Device.lanes_send (d : Device) (x : Sent) : (d.send x).lanes = d.lanes := rfl
@[simp] theorem Device.ports_send (d : Device) (x : Sent) : (d.send x).ports = d.ports := rfl
@[simp] theorem Device.stores_send (d : Device) (x : Sent) : (d.send x).stores = d.stores := rfl
@[simp] theorem Device.shadow_send (d : Device) (x : Sent) : (d.send x).shadow = d.shadow := rfl
@[simp] theorem Device.filters_send (d : Device) (x : Sent) : (d.send x).filters = d.filters := rfl
@[simp] theorem Device.shadowLost_send (d : Device) (x : Sent) : (d.send x).shadowLost = d.shadowLost := rfl
@[simp] theorem Device.bankMap_send (d : Device) (x : Sent) : (d.send x).bankMap = d.bankMap := rfl
@[simp] theorem Device.careLoaded_send (d : Device) (x : Sent) : (d.send x).careLoaded = d.careLoaded := rfl
@[simp] theorem Device.restores_send (d : Device) (x : Sent) : (d.send x).restores = d.restores := rfl
@[simp] theorem Device.refits_send (d : Device) (x : Sent) : (d.send x).refits = d.refits := rfl
@[simp] theorem Device.headers_send (d : Device) (x : Sent) : (d.send x).headers = d.headers := rfl
@[simp] theorem Device.nextHeader_send (d : Device) (x : Sent) : (d.send x).nextHeader = d.nextHeader := rfl
@[simp] theorem Device.ctx_send (d : Device) (x : Sent) : (d.send x).ctx = d.ctx := rfl
@[simp] theorem Device.trigWaiting_send (d : Device) (x : Sent) : (d.send x).trigWaiting = d.trigWaiting := rfl
@[simp] theorem Device.bgOutput_send (d : Device) (x : Sent) : (d.send x).bgOutput = d.bgOutput := rfl
@[simp] theorem Device.bgWritten_send (d : Device) (x : Sent) : (d.send x).bgWritten = d.bgWritten := rfl
@[simp] theorem Device.cells_send (d : Device) (x : Sent) : (d.send x).cells = d.cells := rfl
@[simp] theorem Device.freedNow_send (d : Device) (x : Sent) : (d.send x).freedNow = d.freedNow := rfl
@[simp] theorem Device.rebuilding_send (d : Device) (x : Sent) : (d.send x).rebuilding = d.rebuilding := rfl
@[simp] theorem Device.lastBank_send (d : Device) (x : Sent) : (d.send x).lastBank = d.lastBank := rfl
@[simp] theorem Device.frames_send (d : Device) (x : Sent) : (d.send x).frames = d.frames := rfl
@[simp] theorem Device.nextFrame_send (d : Device) (x : Sent) : (d.send x).nextFrame = d.nextFrame := rfl
@[simp] theorem Device.queued_send (d : Device) (x : Sent) : (d.send x).queued = d.queued := rfl
@[simp] theorem Device.nextCopy_send (d : Device) (x : Sent) : (d.send x).nextCopy = d.nextCopy := rfl
@[simp] theorem Device.jobs_send (d : Device) (x : Sent) : (d.send x).jobs = d.jobs := rfl
@[simp] theorem Device.waiting_send (d : Device) (x : Sent) : (d.send x).waiting = d.waiting := rfl
@[simp] theorem Device.lastServed_send (d : Device) (x : Sent) : (d.send x).lastServed = d.lastServed := rfl
@[simp] theorem Device.pfcSent_send (d : Device) (x : Sent) : (d.send x).pfcSent = d.pfcSent := rfl
@[simp] theorem Device.spillUsed_send (d : Device) (x : Sent) : (d.send x).spillUsed = d.spillUsed := rfl
@[simp] theorem Device.rackOutTokens_send (d : Device) (x : Sent) : (d.send x).rackOutTokens = d.rackOutTokens := rfl
@[simp] theorem Device.rackInTokens_send (d : Device) (x : Sent) : (d.send x).rackInTokens = d.rackInTokens := rfl
@[simp] theorem Device.rackNext_send (d : Device) (x : Sent) : (d.send x).rackNext = d.rackNext := rfl
@[simp] theorem Device.rackInNext_send (d : Device) (x : Sent) : (d.send x).rackInNext = d.rackInNext := rfl
@[simp] theorem Device.returning_send (d : Device) (x : Sent) : (d.send x).returning = d.returning := rfl
@[simp] theorem Device.returnLost_send (d : Device) (x : Sent) : (d.send x).returnLost = d.returnLost := rfl
@[simp] theorem Device.racking_send (d : Device) (x : Sent) : (d.send x).racking = d.racking := rfl
@[simp] theorem Device.stalled_send (d : Device) (x : Sent) : (d.send x).stalled = d.stalled := rfl
@[simp] theorem Device.recircMoving_send (d : Device) (x : Sent) : (d.send x).recircMoving = d.recircMoving := rfl
@[simp] theorem Device.dec_send (d : Device) (x : Sent) : (d.send x).dec = d.dec := rfl
@[simp] theorem Device.tel_send (d : Device) (x : Sent) : (d.send x).tel = d.tel := rfl
@[simp] theorem Device.gauge_send (d : Device) (x : Sent) : (d.send x).gauge = d.gauge := rfl
@[simp] theorem Device.tapLink_send (d : Device) (x : Sent) : (d.send x).tapLink = d.tapLink := rfl
@[simp] theorem Device.readServed_send (d : Device) (x : Sent) : (d.send x).readServed = d.readServed := rfl
@[simp] theorem Device.writeServed_send (d : Device) (x : Sent) : (d.send x).writeServed = d.writeServed := rfl
@[simp] theorem Device.channels_send (d : Device) (x : Sent) : (d.send x).channels = d.channels := rfl
@[simp] theorem Device.busMaster_send (d : Device) (x : Sent) : (d.send x).busMaster = d.busMaster := rfl
@[simp] theorem Device.pow_send (d : Device) (x : Sent) : (d.send x).pow = d.pow := rfl
@[simp] theorem Device.join_send (d : Device) (x : Sent) : (d.send x).join = d.join := rfl
@[simp] theorem Device.peer_send (d : Device) (x : Sent) : (d.send x).peer = d.peer := rfl
@[simp] theorem Device.board_send (d : Device) (x : Sent) : (d.send x).board = d.board := rfl
@[simp] theorem Device.verify_send (d : Device) (x : Sent) : (d.send x).verify = d.verify := rfl
@[simp] theorem Device.restPorts_send (d : Device) (x : Sent) : (d.send x).restPorts = d.restPorts := rfl
@[simp] theorem Device.drainOver_send (d : Device) (x : Sent) : (d.send x).drainOver = d.drainOver := rfl

/-! A word of BAR0 is written. -/

@[simp] theorem Device.cycle_setBar (d : Device) (a v : Nat) : (d.setBar a v).cycle = d.cycle := rfl
@[simp] theorem Device.sent_setBar (d : Device) (a v : Nat) : (d.setBar a v).sent = d.sent := rfl
@[simp] theorem Device.draws_setBar (d : Device) (a v : Nat) : (d.setBar a v).draws = d.draws := rfl
@[simp] theorem Device.bk_setBar (d : Device) (a v : Nat) : (d.setBar a v).bk = d.bk := rfl
@[simp] theorem Device.p0_setBar (d : Device) (a v : Nat) : (d.setBar a v).p0 = d.p0 := rfl
@[simp] theorem Device.p1_setBar (d : Device) (a v : Nat) : (d.setBar a v).p1 = d.p1 := rfl
@[simp] theorem Device.objs_setBar (d : Device) (a v : Nat) : (d.setBar a v).objs = d.objs := rfl
@[simp] theorem Device.objs0_setBar (d : Device) (a v : Nat) : (d.setBar a v).objs0 = d.objs0 := rfl
@[simp] theorem Device.objs1_setBar (d : Device) (a v : Nat) : (d.setBar a v).objs1 = d.objs1 := rfl
@[simp] theorem Device.mode_setBar (d : Device) (a v : Nat) : (d.setBar a v).mode = d.mode := rfl
@[simp] theorem Device.ready_setBar (d : Device) (a v : Nat) : (d.setBar a v).ready = d.ready := rfl
@[simp] theorem Device.clk_setBar (d : Device) (a v : Nat) : (d.setBar a v).clk = d.clk := rfl
@[simp] theorem Device.time_setBar (d : Device) (a v : Nat) : (d.setBar a v).time = d.time := rfl
@[simp] theorem Device.commit_setBar (d : Device) (a v : Nat) : (d.setBar a v).commit = d.commit := rfl
@[simp] theorem Device.commitTime_setBar (d : Device) (a v : Nat) : (d.setBar a v).commitTime = d.commitTime := rfl
@[simp] theorem Device.lateNs_setBar (d : Device) (a v : Nat) : (d.setBar a v).lateNs = d.lateNs := rfl
@[simp] theorem Device.previous_setBar (d : Device) (a v : Nat) : (d.setBar a v).previous = d.previous := rfl
@[simp] theorem Device.flipRound_setBar (d : Device) (a v : Nat) : (d.setBar a v).flipRound = d.flipRound := rfl
@[simp] theorem Device.sweeping_setBar (d : Device) (a v : Nat) : (d.setBar a v).sweeping = d.sweeping := rfl
@[simp] theorem Device.expired_setBar (d : Device) (a v : Nat) : (d.setBar a v).expired = d.expired := rfl
@[simp] theorem Device.inflight_setBar (d : Device) (a v : Nat) : (d.setBar a v).inflight = d.inflight := rfl
@[simp] theorem Device.egressCount_setBar (d : Device) (a v : Nat) : (d.setBar a v).egressCount = d.egressCount := rfl
@[simp] theorem Device.newDigest_setBar (d : Device) (a v : Nat) : (d.setBar a v).newDigest = d.newDigest := rfl
@[simp] theorem Device.installDue_setBar (d : Device) (a v : Nat) : (d.setBar a v).installDue = d.installDue := rfl
@[simp] theorem Device.checkFound_setBar (d : Device) (a v : Nat) : (d.setBar a v).checkFound = d.checkFound := rfl
@[simp] theorem Device.checkMember_setBar (d : Device) (a v : Nat) : (d.setBar a v).checkMember = d.checkMember := rfl
@[simp] theorem Device.partDigest_setBar (d : Device) (a v : Nat) : (d.setBar a v).partDigest = d.partDigest := rfl
@[simp] theorem Device.pairDigest_setBar (d : Device) (a v : Nat) : (d.setBar a v).pairDigest = d.pairDigest := rfl
@[simp] theorem Device.digestPassStart_setBar (d : Device) (a v : Nat) : (d.setBar a v).digestPassStart = d.digestPassStart := rfl
@[simp] theorem Device.tendrilQueue_setBar (d : Device) (a v : Nat) : (d.setBar a v).tendrilQueue = d.tendrilQueue := rfl
@[simp] theorem Device.doorbells_setBar (d : Device) (a v : Nat) : (d.setBar a v).doorbells = d.doorbells := rfl
@[simp] theorem Device.held_setBar (d : Device) (a v : Nat) : (d.setBar a v).held = d.held := rfl
@[simp] theorem Device.lateFrames_setBar (d : Device) (a v : Nat) : (d.setBar a v).lateFrames = d.lateFrames := rfl
@[simp] theorem Device.ctrlSeq_setBar (d : Device) (a v : Nat) : (d.setBar a v).ctrlSeq = d.ctrlSeq := rfl
@[simp] theorem Device.kept_setBar (d : Device) (a v : Nat) : (d.setBar a v).kept = d.kept := rfl
@[simp] theorem Device.writes_setBar (d : Device) (a v : Nat) : (d.setBar a v).writes = d.writes := rfl
@[simp] theorem Device.window_setBar (d : Device) (a v : Nat) : (d.setBar a v).window = d.window := rfl
@[simp] theorem Device.eventQueue_setBar (d : Device) (a v : Nat) : (d.setBar a v).eventQueue = d.eventQueue := rfl
@[simp] theorem Device.eventHolds_setBar (d : Device) (a v : Nat) : (d.setBar a v).eventHolds = d.eventHolds := rfl
@[simp] theorem Device.raiseTime_setBar (d : Device) (a v : Nat) : (d.setBar a v).raiseTime = d.raiseTime := rfl
@[simp] theorem Device.raiseValid_setBar (d : Device) (a v : Nat) : (d.setBar a v).raiseValid = d.raiseValid := rfl
@[simp] theorem Device.raiseRound_setBar (d : Device) (a v : Nat) : (d.setBar a v).raiseRound = d.raiseRound := rfl
@[simp] theorem Device.strikes_setBar (d : Device) (a v : Nat) : (d.setBar a v).strikes = d.strikes := rfl
@[simp] theorem Device.retired_setBar (d : Device) (a v : Nat) : (d.setBar a v).retired = d.retired := rfl
@[simp] theorem Device.subst_setBar (d : Device) (a v : Nat) : (d.setBar a v).subst = d.subst := rfl
@[simp] theorem Device.unretiring_setBar (d : Device) (a v : Nat) : (d.setBar a v).unretiring = d.unretiring := rfl
@[simp] theorem Device.mapA_setBar (d : Device) (a v : Nat) : (d.setBar a v).mapA = d.mapA := rfl
@[simp] theorem Device.mapB_setBar (d : Device) (a v : Nat) : (d.setBar a v).mapB = d.mapB := rfl
@[simp] theorem Device.mapRead_setBar (d : Device) (a v : Nat) : (d.setBar a v).mapRead = d.mapRead := rfl
@[simp] theorem Device.flashCause_setBar (d : Device) (a v : Nat) : (d.setBar a v).flashCause = d.flashCause := rfl
@[simp] theorem Device.flashTotal_setBar (d : Device) (a v : Nat) : (d.setBar a v).flashTotal = d.flashTotal := rfl
@[simp] theorem Device.flashLog_setBar (d : Device) (a v : Nat) : (d.setBar a v).flashLog = d.flashLog := rfl
@[simp] theorem Device.safeHoldSlots_setBar (d : Device) (a v : Nat) : (d.setBar a v).safeHoldSlots = d.safeHoldSlots := rfl
@[simp] theorem Device.hot_setBar (d : Device) (a v : Nat) : (d.setBar a v).hot = d.hot := rfl
@[simp] theorem Device.armed_setBar (d : Device) (a v : Nat) : (d.setBar a v).armed = d.armed := rfl
@[simp] theorem Device.armedPair_setBar (d : Device) (a v : Nat) : (d.setBar a v).armedPair = d.armedPair := rfl
@[simp] theorem Device.resetHold_setBar (d : Device) (a v : Nat) : (d.setBar a v).resetHold = d.resetHold := rfl
@[simp] theorem Device.bootPhase_setBar (d : Device) (a v : Nat) : (d.setBar a v).bootPhase = d.bootPhase := rfl
@[simp] theorem Device.lanes_setBar (d : Device) (a v : Nat) : (d.setBar a v).lanes = d.lanes := rfl
@[simp] theorem Device.ports_setBar (d : Device) (a v : Nat) : (d.setBar a v).ports = d.ports := rfl
@[simp] theorem Device.stores_setBar (d : Device) (a v : Nat) : (d.setBar a v).stores = d.stores := rfl
@[simp] theorem Device.shadow_setBar (d : Device) (a v : Nat) : (d.setBar a v).shadow = d.shadow := rfl
@[simp] theorem Device.filters_setBar (d : Device) (a v : Nat) : (d.setBar a v).filters = d.filters := rfl
@[simp] theorem Device.shadowLost_setBar (d : Device) (a v : Nat) : (d.setBar a v).shadowLost = d.shadowLost := rfl
@[simp] theorem Device.bankMap_setBar (d : Device) (a v : Nat) : (d.setBar a v).bankMap = d.bankMap := rfl
@[simp] theorem Device.careLoaded_setBar (d : Device) (a v : Nat) : (d.setBar a v).careLoaded = d.careLoaded := rfl
@[simp] theorem Device.restores_setBar (d : Device) (a v : Nat) : (d.setBar a v).restores = d.restores := rfl
@[simp] theorem Device.refits_setBar (d : Device) (a v : Nat) : (d.setBar a v).refits = d.refits := rfl
@[simp] theorem Device.headers_setBar (d : Device) (a v : Nat) : (d.setBar a v).headers = d.headers := rfl
@[simp] theorem Device.nextHeader_setBar (d : Device) (a v : Nat) : (d.setBar a v).nextHeader = d.nextHeader := rfl
@[simp] theorem Device.ctx_setBar (d : Device) (a v : Nat) : (d.setBar a v).ctx = d.ctx := rfl
@[simp] theorem Device.trigWaiting_setBar (d : Device) (a v : Nat) : (d.setBar a v).trigWaiting = d.trigWaiting := rfl
@[simp] theorem Device.bgOutput_setBar (d : Device) (a v : Nat) : (d.setBar a v).bgOutput = d.bgOutput := rfl
@[simp] theorem Device.bgWritten_setBar (d : Device) (a v : Nat) : (d.setBar a v).bgWritten = d.bgWritten := rfl
@[simp] theorem Device.cells_setBar (d : Device) (a v : Nat) : (d.setBar a v).cells = d.cells := rfl
@[simp] theorem Device.freedNow_setBar (d : Device) (a v : Nat) : (d.setBar a v).freedNow = d.freedNow := rfl
@[simp] theorem Device.rebuilding_setBar (d : Device) (a v : Nat) : (d.setBar a v).rebuilding = d.rebuilding := rfl
@[simp] theorem Device.lastBank_setBar (d : Device) (a v : Nat) : (d.setBar a v).lastBank = d.lastBank := rfl
@[simp] theorem Device.frames_setBar (d : Device) (a v : Nat) : (d.setBar a v).frames = d.frames := rfl
@[simp] theorem Device.nextFrame_setBar (d : Device) (a v : Nat) : (d.setBar a v).nextFrame = d.nextFrame := rfl
@[simp] theorem Device.queued_setBar (d : Device) (a v : Nat) : (d.setBar a v).queued = d.queued := rfl
@[simp] theorem Device.nextCopy_setBar (d : Device) (a v : Nat) : (d.setBar a v).nextCopy = d.nextCopy := rfl
@[simp] theorem Device.jobs_setBar (d : Device) (a v : Nat) : (d.setBar a v).jobs = d.jobs := rfl
@[simp] theorem Device.waiting_setBar (d : Device) (a v : Nat) : (d.setBar a v).waiting = d.waiting := rfl
@[simp] theorem Device.lastServed_setBar (d : Device) (a v : Nat) : (d.setBar a v).lastServed = d.lastServed := rfl
@[simp] theorem Device.pfcSent_setBar (d : Device) (a v : Nat) : (d.setBar a v).pfcSent = d.pfcSent := rfl
@[simp] theorem Device.spillUsed_setBar (d : Device) (a v : Nat) : (d.setBar a v).spillUsed = d.spillUsed := rfl
@[simp] theorem Device.rackOutTokens_setBar (d : Device) (a v : Nat) : (d.setBar a v).rackOutTokens = d.rackOutTokens := rfl
@[simp] theorem Device.rackInTokens_setBar (d : Device) (a v : Nat) : (d.setBar a v).rackInTokens = d.rackInTokens := rfl
@[simp] theorem Device.rackNext_setBar (d : Device) (a v : Nat) : (d.setBar a v).rackNext = d.rackNext := rfl
@[simp] theorem Device.rackInNext_setBar (d : Device) (a v : Nat) : (d.setBar a v).rackInNext = d.rackInNext := rfl
@[simp] theorem Device.returning_setBar (d : Device) (a v : Nat) : (d.setBar a v).returning = d.returning := rfl
@[simp] theorem Device.returnLost_setBar (d : Device) (a v : Nat) : (d.setBar a v).returnLost = d.returnLost := rfl
@[simp] theorem Device.racking_setBar (d : Device) (a v : Nat) : (d.setBar a v).racking = d.racking := rfl
@[simp] theorem Device.stalled_setBar (d : Device) (a v : Nat) : (d.setBar a v).stalled = d.stalled := rfl
@[simp] theorem Device.recircMoving_setBar (d : Device) (a v : Nat) : (d.setBar a v).recircMoving = d.recircMoving := rfl
@[simp] theorem Device.dec_setBar (d : Device) (a v : Nat) : (d.setBar a v).dec = d.dec := rfl
@[simp] theorem Device.tel_setBar (d : Device) (a v : Nat) : (d.setBar a v).tel = d.tel := rfl
@[simp] theorem Device.gauge_setBar (d : Device) (a v : Nat) : (d.setBar a v).gauge = d.gauge := rfl
@[simp] theorem Device.tapLink_setBar (d : Device) (a v : Nat) : (d.setBar a v).tapLink = d.tapLink := rfl
@[simp] theorem Device.readServed_setBar (d : Device) (a v : Nat) : (d.setBar a v).readServed = d.readServed := rfl
@[simp] theorem Device.writeServed_setBar (d : Device) (a v : Nat) : (d.setBar a v).writeServed = d.writeServed := rfl
@[simp] theorem Device.channels_setBar (d : Device) (a v : Nat) : (d.setBar a v).channels = d.channels := rfl
@[simp] theorem Device.busMaster_setBar (d : Device) (a v : Nat) : (d.setBar a v).busMaster = d.busMaster := rfl
@[simp] theorem Device.pow_setBar (d : Device) (a v : Nat) : (d.setBar a v).pow = d.pow := rfl
@[simp] theorem Device.join_setBar (d : Device) (a v : Nat) : (d.setBar a v).join = d.join := rfl
@[simp] theorem Device.peer_setBar (d : Device) (a v : Nat) : (d.setBar a v).peer = d.peer := rfl
@[simp] theorem Device.board_setBar (d : Device) (a v : Nat) : (d.setBar a v).board = d.board := rfl
@[simp] theorem Device.verify_setBar (d : Device) (a v : Nat) : (d.setBar a v).verify = d.verify := rfl
@[simp] theorem Device.restPorts_setBar (d : Device) (a v : Nat) : (d.setBar a v).restPorts = d.restPorts := rfl
@[simp] theorem Device.drainOver_setBar (d : Device) (a v : Nat) : (d.setBar a v).drainOver = d.drainOver := rfl

/-! An object is written. -/

@[simp] theorem Device.cycle_setObj (d : Device) (a : Addr) (bs : List Byte) : (d.setObj a bs).cycle = d.cycle := rfl
@[simp] theorem Device.sent_setObj (d : Device) (a : Addr) (bs : List Byte) : (d.setObj a bs).sent = d.sent := rfl
@[simp] theorem Device.draws_setObj (d : Device) (a : Addr) (bs : List Byte) : (d.setObj a bs).draws = d.draws := rfl
@[simp] theorem Device.bk_setObj (d : Device) (a : Addr) (bs : List Byte) : (d.setObj a bs).bk = d.bk := rfl
@[simp] theorem Device.p0_setObj (d : Device) (a : Addr) (bs : List Byte) : (d.setObj a bs).p0 = d.p0 := rfl
@[simp] theorem Device.p1_setObj (d : Device) (a : Addr) (bs : List Byte) : (d.setObj a bs).p1 = d.p1 := rfl
@[simp] theorem Device.objs0_setObj (d : Device) (a : Addr) (bs : List Byte) : (d.setObj a bs).objs0 = d.objs0 := rfl
@[simp] theorem Device.objs1_setObj (d : Device) (a : Addr) (bs : List Byte) : (d.setObj a bs).objs1 = d.objs1 := rfl
@[simp] theorem Device.bar0_setObj (d : Device) (a : Addr) (bs : List Byte) : (d.setObj a bs).bar0 = d.bar0 := rfl
@[simp] theorem Device.mode_setObj (d : Device) (a : Addr) (bs : List Byte) : (d.setObj a bs).mode = d.mode := rfl
@[simp] theorem Device.ready_setObj (d : Device) (a : Addr) (bs : List Byte) : (d.setObj a bs).ready = d.ready := rfl
@[simp] theorem Device.clk_setObj (d : Device) (a : Addr) (bs : List Byte) : (d.setObj a bs).clk = d.clk := rfl
@[simp] theorem Device.time_setObj (d : Device) (a : Addr) (bs : List Byte) : (d.setObj a bs).time = d.time := rfl
@[simp] theorem Device.commit_setObj (d : Device) (a : Addr) (bs : List Byte) : (d.setObj a bs).commit = d.commit := rfl
@[simp] theorem Device.commitTime_setObj (d : Device) (a : Addr) (bs : List Byte) : (d.setObj a bs).commitTime = d.commitTime := rfl
@[simp] theorem Device.lateNs_setObj (d : Device) (a : Addr) (bs : List Byte) : (d.setObj a bs).lateNs = d.lateNs := rfl
@[simp] theorem Device.previous_setObj (d : Device) (a : Addr) (bs : List Byte) : (d.setObj a bs).previous = d.previous := rfl
@[simp] theorem Device.flipRound_setObj (d : Device) (a : Addr) (bs : List Byte) : (d.setObj a bs).flipRound = d.flipRound := rfl
@[simp] theorem Device.sweeping_setObj (d : Device) (a : Addr) (bs : List Byte) : (d.setObj a bs).sweeping = d.sweeping := rfl
@[simp] theorem Device.expired_setObj (d : Device) (a : Addr) (bs : List Byte) : (d.setObj a bs).expired = d.expired := rfl
@[simp] theorem Device.inflight_setObj (d : Device) (a : Addr) (bs : List Byte) : (d.setObj a bs).inflight = d.inflight := rfl
@[simp] theorem Device.egressCount_setObj (d : Device) (a : Addr) (bs : List Byte) : (d.setObj a bs).egressCount = d.egressCount := rfl
@[simp] theorem Device.newDigest_setObj (d : Device) (a : Addr) (bs : List Byte) : (d.setObj a bs).newDigest = d.newDigest := rfl
@[simp] theorem Device.installDue_setObj (d : Device) (a : Addr) (bs : List Byte) : (d.setObj a bs).installDue = d.installDue := rfl
@[simp] theorem Device.checkFound_setObj (d : Device) (a : Addr) (bs : List Byte) : (d.setObj a bs).checkFound = d.checkFound := rfl
@[simp] theorem Device.checkMember_setObj (d : Device) (a : Addr) (bs : List Byte) : (d.setObj a bs).checkMember = d.checkMember := rfl
@[simp] theorem Device.partDigest_setObj (d : Device) (a : Addr) (bs : List Byte) : (d.setObj a bs).partDigest = d.partDigest := rfl
@[simp] theorem Device.pairDigest_setObj (d : Device) (a : Addr) (bs : List Byte) : (d.setObj a bs).pairDigest = d.pairDigest := rfl
@[simp] theorem Device.digestPassStart_setObj (d : Device) (a : Addr) (bs : List Byte) : (d.setObj a bs).digestPassStart = d.digestPassStart := rfl
@[simp] theorem Device.tendrilQueue_setObj (d : Device) (a : Addr) (bs : List Byte) : (d.setObj a bs).tendrilQueue = d.tendrilQueue := rfl
@[simp] theorem Device.doorbells_setObj (d : Device) (a : Addr) (bs : List Byte) : (d.setObj a bs).doorbells = d.doorbells := rfl
@[simp] theorem Device.held_setObj (d : Device) (a : Addr) (bs : List Byte) : (d.setObj a bs).held = d.held := rfl
@[simp] theorem Device.lateFrames_setObj (d : Device) (a : Addr) (bs : List Byte) : (d.setObj a bs).lateFrames = d.lateFrames := rfl
@[simp] theorem Device.ctrlSeq_setObj (d : Device) (a : Addr) (bs : List Byte) : (d.setObj a bs).ctrlSeq = d.ctrlSeq := rfl
@[simp] theorem Device.kept_setObj (d : Device) (a : Addr) (bs : List Byte) : (d.setObj a bs).kept = d.kept := rfl
@[simp] theorem Device.writes_setObj (d : Device) (a : Addr) (bs : List Byte) : (d.setObj a bs).writes = d.writes := rfl
@[simp] theorem Device.window_setObj (d : Device) (a : Addr) (bs : List Byte) : (d.setObj a bs).window = d.window := rfl
@[simp] theorem Device.eventQueue_setObj (d : Device) (a : Addr) (bs : List Byte) : (d.setObj a bs).eventQueue = d.eventQueue := rfl
@[simp] theorem Device.eventHolds_setObj (d : Device) (a : Addr) (bs : List Byte) : (d.setObj a bs).eventHolds = d.eventHolds := rfl
@[simp] theorem Device.raiseTime_setObj (d : Device) (a : Addr) (bs : List Byte) : (d.setObj a bs).raiseTime = d.raiseTime := rfl
@[simp] theorem Device.raiseValid_setObj (d : Device) (a : Addr) (bs : List Byte) : (d.setObj a bs).raiseValid = d.raiseValid := rfl
@[simp] theorem Device.raiseRound_setObj (d : Device) (a : Addr) (bs : List Byte) : (d.setObj a bs).raiseRound = d.raiseRound := rfl
@[simp] theorem Device.strikes_setObj (d : Device) (a : Addr) (bs : List Byte) : (d.setObj a bs).strikes = d.strikes := rfl
@[simp] theorem Device.retired_setObj (d : Device) (a : Addr) (bs : List Byte) : (d.setObj a bs).retired = d.retired := rfl
@[simp] theorem Device.subst_setObj (d : Device) (a : Addr) (bs : List Byte) : (d.setObj a bs).subst = d.subst := rfl
@[simp] theorem Device.unretiring_setObj (d : Device) (a : Addr) (bs : List Byte) : (d.setObj a bs).unretiring = d.unretiring := rfl
@[simp] theorem Device.mapA_setObj (d : Device) (a : Addr) (bs : List Byte) : (d.setObj a bs).mapA = d.mapA := rfl
@[simp] theorem Device.mapB_setObj (d : Device) (a : Addr) (bs : List Byte) : (d.setObj a bs).mapB = d.mapB := rfl
@[simp] theorem Device.mapRead_setObj (d : Device) (a : Addr) (bs : List Byte) : (d.setObj a bs).mapRead = d.mapRead := rfl
@[simp] theorem Device.flashCause_setObj (d : Device) (a : Addr) (bs : List Byte) : (d.setObj a bs).flashCause = d.flashCause := rfl
@[simp] theorem Device.flashTotal_setObj (d : Device) (a : Addr) (bs : List Byte) : (d.setObj a bs).flashTotal = d.flashTotal := rfl
@[simp] theorem Device.flashLog_setObj (d : Device) (a : Addr) (bs : List Byte) : (d.setObj a bs).flashLog = d.flashLog := rfl
@[simp] theorem Device.safeHoldSlots_setObj (d : Device) (a : Addr) (bs : List Byte) : (d.setObj a bs).safeHoldSlots = d.safeHoldSlots := rfl
@[simp] theorem Device.hot_setObj (d : Device) (a : Addr) (bs : List Byte) : (d.setObj a bs).hot = d.hot := rfl
@[simp] theorem Device.armed_setObj (d : Device) (a : Addr) (bs : List Byte) : (d.setObj a bs).armed = d.armed := rfl
@[simp] theorem Device.armedPair_setObj (d : Device) (a : Addr) (bs : List Byte) : (d.setObj a bs).armedPair = d.armedPair := rfl
@[simp] theorem Device.resetHold_setObj (d : Device) (a : Addr) (bs : List Byte) : (d.setObj a bs).resetHold = d.resetHold := rfl
@[simp] theorem Device.bootPhase_setObj (d : Device) (a : Addr) (bs : List Byte) : (d.setObj a bs).bootPhase = d.bootPhase := rfl
@[simp] theorem Device.lanes_setObj (d : Device) (a : Addr) (bs : List Byte) : (d.setObj a bs).lanes = d.lanes := rfl
@[simp] theorem Device.ports_setObj (d : Device) (a : Addr) (bs : List Byte) : (d.setObj a bs).ports = d.ports := rfl
@[simp] theorem Device.stores_setObj (d : Device) (a : Addr) (bs : List Byte) : (d.setObj a bs).stores = d.stores := rfl
@[simp] theorem Device.shadow_setObj (d : Device) (a : Addr) (bs : List Byte) : (d.setObj a bs).shadow = d.shadow := rfl
@[simp] theorem Device.filters_setObj (d : Device) (a : Addr) (bs : List Byte) : (d.setObj a bs).filters = d.filters := rfl
@[simp] theorem Device.shadowLost_setObj (d : Device) (a : Addr) (bs : List Byte) : (d.setObj a bs).shadowLost = d.shadowLost := rfl
@[simp] theorem Device.bankMap_setObj (d : Device) (a : Addr) (bs : List Byte) : (d.setObj a bs).bankMap = d.bankMap := rfl
@[simp] theorem Device.careLoaded_setObj (d : Device) (a : Addr) (bs : List Byte) : (d.setObj a bs).careLoaded = d.careLoaded := rfl
@[simp] theorem Device.restores_setObj (d : Device) (a : Addr) (bs : List Byte) : (d.setObj a bs).restores = d.restores := rfl
@[simp] theorem Device.refits_setObj (d : Device) (a : Addr) (bs : List Byte) : (d.setObj a bs).refits = d.refits := rfl
@[simp] theorem Device.headers_setObj (d : Device) (a : Addr) (bs : List Byte) : (d.setObj a bs).headers = d.headers := rfl
@[simp] theorem Device.nextHeader_setObj (d : Device) (a : Addr) (bs : List Byte) : (d.setObj a bs).nextHeader = d.nextHeader := rfl
@[simp] theorem Device.ctx_setObj (d : Device) (a : Addr) (bs : List Byte) : (d.setObj a bs).ctx = d.ctx := rfl
@[simp] theorem Device.trigWaiting_setObj (d : Device) (a : Addr) (bs : List Byte) : (d.setObj a bs).trigWaiting = d.trigWaiting := rfl
@[simp] theorem Device.bgOutput_setObj (d : Device) (a : Addr) (bs : List Byte) : (d.setObj a bs).bgOutput = d.bgOutput := rfl
@[simp] theorem Device.bgWritten_setObj (d : Device) (a : Addr) (bs : List Byte) : (d.setObj a bs).bgWritten = d.bgWritten := rfl
@[simp] theorem Device.cells_setObj (d : Device) (a : Addr) (bs : List Byte) : (d.setObj a bs).cells = d.cells := rfl
@[simp] theorem Device.freedNow_setObj (d : Device) (a : Addr) (bs : List Byte) : (d.setObj a bs).freedNow = d.freedNow := rfl
@[simp] theorem Device.rebuilding_setObj (d : Device) (a : Addr) (bs : List Byte) : (d.setObj a bs).rebuilding = d.rebuilding := rfl
@[simp] theorem Device.lastBank_setObj (d : Device) (a : Addr) (bs : List Byte) : (d.setObj a bs).lastBank = d.lastBank := rfl
@[simp] theorem Device.frames_setObj (d : Device) (a : Addr) (bs : List Byte) : (d.setObj a bs).frames = d.frames := rfl
@[simp] theorem Device.nextFrame_setObj (d : Device) (a : Addr) (bs : List Byte) : (d.setObj a bs).nextFrame = d.nextFrame := rfl
@[simp] theorem Device.queued_setObj (d : Device) (a : Addr) (bs : List Byte) : (d.setObj a bs).queued = d.queued := rfl
@[simp] theorem Device.nextCopy_setObj (d : Device) (a : Addr) (bs : List Byte) : (d.setObj a bs).nextCopy = d.nextCopy := rfl
@[simp] theorem Device.jobs_setObj (d : Device) (a : Addr) (bs : List Byte) : (d.setObj a bs).jobs = d.jobs := rfl
@[simp] theorem Device.waiting_setObj (d : Device) (a : Addr) (bs : List Byte) : (d.setObj a bs).waiting = d.waiting := rfl
@[simp] theorem Device.lastServed_setObj (d : Device) (a : Addr) (bs : List Byte) : (d.setObj a bs).lastServed = d.lastServed := rfl
@[simp] theorem Device.pfcSent_setObj (d : Device) (a : Addr) (bs : List Byte) : (d.setObj a bs).pfcSent = d.pfcSent := rfl
@[simp] theorem Device.spillUsed_setObj (d : Device) (a : Addr) (bs : List Byte) : (d.setObj a bs).spillUsed = d.spillUsed := rfl
@[simp] theorem Device.rackOutTokens_setObj (d : Device) (a : Addr) (bs : List Byte) : (d.setObj a bs).rackOutTokens = d.rackOutTokens := rfl
@[simp] theorem Device.rackInTokens_setObj (d : Device) (a : Addr) (bs : List Byte) : (d.setObj a bs).rackInTokens = d.rackInTokens := rfl
@[simp] theorem Device.rackNext_setObj (d : Device) (a : Addr) (bs : List Byte) : (d.setObj a bs).rackNext = d.rackNext := rfl
@[simp] theorem Device.rackInNext_setObj (d : Device) (a : Addr) (bs : List Byte) : (d.setObj a bs).rackInNext = d.rackInNext := rfl
@[simp] theorem Device.returning_setObj (d : Device) (a : Addr) (bs : List Byte) : (d.setObj a bs).returning = d.returning := rfl
@[simp] theorem Device.returnLost_setObj (d : Device) (a : Addr) (bs : List Byte) : (d.setObj a bs).returnLost = d.returnLost := rfl
@[simp] theorem Device.racking_setObj (d : Device) (a : Addr) (bs : List Byte) : (d.setObj a bs).racking = d.racking := rfl
@[simp] theorem Device.stalled_setObj (d : Device) (a : Addr) (bs : List Byte) : (d.setObj a bs).stalled = d.stalled := rfl
@[simp] theorem Device.recircMoving_setObj (d : Device) (a : Addr) (bs : List Byte) : (d.setObj a bs).recircMoving = d.recircMoving := rfl
@[simp] theorem Device.dec_setObj (d : Device) (a : Addr) (bs : List Byte) : (d.setObj a bs).dec = d.dec := rfl
@[simp] theorem Device.tel_setObj (d : Device) (a : Addr) (bs : List Byte) : (d.setObj a bs).tel = d.tel := rfl
@[simp] theorem Device.gauge_setObj (d : Device) (a : Addr) (bs : List Byte) : (d.setObj a bs).gauge = d.gauge := rfl
@[simp] theorem Device.tapLink_setObj (d : Device) (a : Addr) (bs : List Byte) : (d.setObj a bs).tapLink = d.tapLink := rfl
@[simp] theorem Device.readServed_setObj (d : Device) (a : Addr) (bs : List Byte) : (d.setObj a bs).readServed = d.readServed := rfl
@[simp] theorem Device.writeServed_setObj (d : Device) (a : Addr) (bs : List Byte) : (d.setObj a bs).writeServed = d.writeServed := rfl
@[simp] theorem Device.channels_setObj (d : Device) (a : Addr) (bs : List Byte) : (d.setObj a bs).channels = d.channels := rfl
@[simp] theorem Device.busMaster_setObj (d : Device) (a : Addr) (bs : List Byte) : (d.setObj a bs).busMaster = d.busMaster := rfl
@[simp] theorem Device.pow_setObj (d : Device) (a : Addr) (bs : List Byte) : (d.setObj a bs).pow = d.pow := rfl
@[simp] theorem Device.join_setObj (d : Device) (a : Addr) (bs : List Byte) : (d.setObj a bs).join = d.join := rfl
@[simp] theorem Device.peer_setObj (d : Device) (a : Addr) (bs : List Byte) : (d.setObj a bs).peer = d.peer := rfl
@[simp] theorem Device.board_setObj (d : Device) (a : Addr) (bs : List Byte) : (d.setObj a bs).board = d.board := rfl
@[simp] theorem Device.verify_setObj (d : Device) (a : Addr) (bs : List Byte) : (d.setObj a bs).verify = d.verify := rfl
@[simp] theorem Device.restPorts_setObj (d : Device) (a : Addr) (bs : List Byte) : (d.setObj a bs).restPorts = d.restPorts := rfl
@[simp] theorem Device.drainOver_setObj (d : Device) (a : Addr) (bs : List Byte) : (d.setObj a bs).drainOver = d.drainOver := rfl

/-! What is changed. -/

@[simp] theorem Device.sent_send (d : Device) (x : Sent) : (d.send x).sent = d.sent ++ [x] := rfl

end Sys2Proof.Machine
end

