-- ==== Sys2Proof/Laws/Entries.lean ====
section
/-! SUPPORT. Reads after writes of entries, objects and BAR0 words; the canonical form of what holds them; what raising an event
leaves alone. -/

namespace Sys2Proof.Machine

open Sys2Proof

theorem Device.bar_setBar (d : Device) (a b v : Nat) : (d.setBar a v).bar b = if b = a then v else d.bar b := by
  by_cases h : b = a
  · subst h; simp [Device.bar, Device.setBar, SMap.get_set]
  · simp [Device.bar, Device.setBar, SMap.get_set_ne, h]

theorem Device.obj_setObj (d : Device) (a b : Addr) (bs : List Byte) : (d.setObj a bs).obj b = if b = a then bs else d.obj b := by
  by_cases h : b = a
  · subst h; simp [Device.obj, Device.setObj, BMap.get_set]
  · unfold Device.obj Device.setObj BMap.set
    simp only [h, if_false]
    split
    · rw [BMap.get_filter, if_neg h]
    · rw [BMap.get_ins, if_neg h]

@[simp] theorem Device.rd_setBar (d : Device) (a v : Nat) (b : Addr) : (d.setBar a v).rd b = d.rd b := rfl
@[simp] theorem Device.rd_send (d : Device) (x : Sent) (b : Addr) : (d.send x).rd b = d.rd b := rfl
@[simp] theorem Device.bar_wr (d : Device) (a v : Nat) (b : Nat) : (d.wr a v).bar b = d.bar b := rfl
@[simp] theorem Device.rdp_wr (d : Device) (a v q : Nat) (b : Addr) : (d.wr a v).rdp q b = d.rdp q b := rfl

/-- A counter entry of `w` bits counts modulo 2^`w`, and no other entry changes. -/
theorem Device.rd_bump (d : Device) (a b : Addr) (w n : Nat) : (d.bump a w n).rd b = if b = a then (d.rd a + n) % 2 ^ w else d.rd b :=
  Device.rd_wr _ _ _ _

/-- A saturating counter stops at 0xFFFF_FFFF, and no other entry changes. -/
theorem Device.rd_bumpSat (d : Device) (a b : Addr) (n : Nat) :
    (d.bumpSat a n).rd b = if b = a then min (d.rd a + n) 0xFFFFFFFF else d.rd b := Device.rd_wr _ _ _ _

/-- The entries are held in canonical form. -/
abbrev Device.entriesWf (d : Device) : Prop := SMap.wf defaultOf d.bk = true

/-- The words of BAR0 are held in canonical form. -/
abbrev Device.bar0Wf (d : Device) : Prop := SMap.wf bar0Default d.bar0 = true

theorem Device.entriesWf_wr (d : Device) (a v : Nat) (h : d.entriesWf) : (d.wr a v).entriesWf := SMap.wf_set _ _ _ _ h

theorem Device.bar0Wf_setBar (d : Device) (a v : Nat) (h : d.bar0Wf) : (d.setBar a v).bar0Wf := SMap.wf_set _ _ _ _ h

theorem Device.reset_entriesWf : Device.reset.entriesWf := rfl

theorem Device.reset_bar0Wf : Device.reset.bar0Wf := rfl

/-- A raise of an event changes no frame, header, cell, queue, store, object, mode, clock or copy of an RWV entry. -/
theorem Device.raise_keeps (d : Device) (n v : Nat) : let e := d.raise n v
    e.frames = d.frames ∧ e.headers = d.headers ∧ e.cells = d.cells ∧ e.queued = d.queued ∧ e.stores = d.stores ∧ e.objs = d.objs ∧
      e.mode = d.mode ∧ e.clk = d.clk ∧ e.p0 = d.p0 ∧ e.p1 = d.p1 ∧ e.gauge = d.gauge ∧ e.channels = d.channels := by
  intro e
  have h := Device.eventOnly_raise d n v
  unfold Device.EventOnly at h
  exact ⟨(congrArg Device.frames h :), (congrArg Device.headers h :), (congrArg Device.cells h :), (congrArg Device.queued h :), (congrArg Device.stores h :), (congrArg Device.objs h :),
    (congrArg Device.mode h :), (congrArg Device.clk h :), (congrArg Device.p0 h :), (congrArg Device.p1 h :), (congrArg Device.gauge h :), (congrArg Device.channels h :)⟩

end Sys2Proof.Machine
end

