-- ==== Sys2Proof/Tests/Slice0.lean ====
section
/-! SUPPORT. Small tests of single commands, ill-formed terms that WellFormed refuses, and for every obligation with
hypotheses a concrete state and operands that meet them. -/

open Sys2Proof Sys2Proof.Machine

namespace Sys2Proof.Tests

set_option maxRecDepth 20000
set_option Elab.async false

/-! ### Small states -/

/-- A sparse map that lists some values. -/
def mapOf (es : List (Nat × Nat)) : SMap := es.foldl (fun m e => SMap.ins m e.1 e.2) []

/-- A block in a mode, READY, with some entries, and some entries of the parity-0 copy. -/
def dev (m : Mode) (es ps : List (Nat × Nat)) : Device := { mode := m, ready := true, bk := mapOf es, p0 := mapOf ps }

def st (d : Device) : State := { dev := d, pending := [] }

/-- A frame of 60 bytes that has ended and passed. -/
def fr : Frame := { id := 7, slice := 0, inPort := 3, chargePort := 3, inClass := 0, source := 0,
                    bytes := List.replicate 60 0, ended := true, len := 64, rxTime := 0, vtag := 0, pass := 0 }

/-- A header of that frame in ingress stage 0. -/
def hd : Header := { id := 1, frame := 7, slice := 0, egress := false, age := 0, pass := 0, source := 0, vtag := 0, parity := 0,
                     p := { known := true } }

/-- The same in the egress path. -/
def he : Header := { hd with egress := true }

def withHeader (h : Header) (d : Device) : Device := { d with headers := [h], frames := [fr] }

/-- A device in Run with a header. -/
def run1 (h : Header) : Device := withHeader h (dev .run [] [])

/-- A copy of that frame. -/
def cp (q : Nat) : Copy := { id := 4, frame := 7, queue := q, kind := .unicast, eprog := 0, tc := 0, port := 3, entered := 0 }

/-! ### Witnesses: every obligation's hypotheses, met together -/

theorem wit_QueueDrains : ∀ c ∈ [Instr.skipSlot, .tapPeriodBoundary], ∀ h a, c ≠ .factoryAction h a := by simp

theorem wit_EveryCommandAnswers : (st (run1 hd)).dev.header? 1 = some hd ∧ actTaken hd ⟨1, false, 5⟩ = true := by decide +kernel

theorem wit_TripFreezesTheCore : let d := { dev .run [] [] with board := { tripped := true } }
    FrozenRun d { dev := d, pending := [.skipSlot] } ∧ step { dev := d, pending := [.skipSlot] } = .next { dev := d, pending := [] } :=
  ⟨⟨⟨rfl, rfl, rfl⟩, by decide⟩, rfl⟩

theorem wit_TripStartsFreeze : (st (dev .run [] [])).Runs ∧ (dev .run [] []).mode ≠ .off := by decide +kernel

/-- Operand A ends at byte 383 and operand B at byte 447, the last of their spaces. -/
theorem wit_AluSlots : (st (run1 hd)).Runs ∧ (run1 hd).header? 1 = some hd ∧ aluOk 2 ⟨3, 376, 376, false, 440⟩ = true ∧
    aluOk 0xA ⟨0, 7, 511, true, 65535⟩ = true ∧ aluOk 2 ⟨3, 377, 376, false, 440⟩ = false := by decide +kernel

theorem wit_AluWritesOnlyItsDestination : (st (run1 hd)).Runs ∧ (run1 hd).header? 1 = some hd ∧
    aluOk 9 ⟨1, 382, 446, false, 510⟩ = true := by decide +kernel

theorem wit_DispositionActions : (st (run1 hd)).Runs ∧ (run1 hd).header? 1 = some hd ∧ actTaken hd ⟨1, false, 0x3FFFFF⟩ = true ∧
    hd.egress = false ∧ (run1 hd).joined = false := by decide +kernel

theorem wit_EmissionActions : (st (run1 hd)).Runs ∧ (run1 hd).header? 1 = some hd ∧ actTaken hd ⟨1, false, 384 + 512 * 512⟩ = true ∧
    hd.egress = false ∧ (run1 he).header? 1 = some he ∧ actTaken he ⟨1, false, 0⟩ = true ∧ he.egress = true := by decide +kernel

theorem wit_UntakenAndFactoryActions : (run1 hd).header? 1 = some hd ∧ actTaken hd ⟨10, false, 0⟩ = false := by decide +kernel

theorem wit_CountAndMeteringActions : (st (run1 hd)).Runs ∧ (run1 hd).header? 1 = some hd ∧ actTaken hd ⟨1, false, 0⟩ = true ∧
    (run1 hd).frame? 7 = some fr ∧ hd.egress = false ∧ (run1 hd).chained 0 = false ∧
    (dev .run [(E.CHAIN_FIRST 0, 0), (E.CHAIN_COUNT 0, 2)] []).chained 0 = true := by decide +kernel

theorem wit_CountAndMeteringActions_mirror :
    let h : Header := { hd with p := { known := true, mirrorCount := 4 } }
    let f : Frame := { fr with ended := false }
    let d := { run1 hd with frames := [f] }
    (run1 h).header? 1 = some h ∧ actTaken h ⟨1, false, 63⟩ = true ∧ h.p.mirrorCount ≥ 4 ∧ hd.p.mirrorCount < 4 ∧
      hd.p.known = true ∧ d.frame? 7 = some f ∧ f.ended = false ∧ d.rdp 0 (E.MIRROR_POLICER 63) = 0xFFFFFFFF ∧
      (d.rdp 0 (E.MIRROR_FLAGS 63)).testBit 0 = false := by decide +kernel

theorem wit_CountAndMeteringActions_sampler :
    let d := dev .run [] [(E.SAMPLER_CONTROL 255, 0x100)]
    d.cur (E.SAMPLER_CONTROL 255) / 256 % 256 ≠ 0 ∧ (run1 hd).cur (E.SAMPLER_CONTROL 255) / 256 % 256 = 0 ∧
      (run1 hd).flowProfile 0 0 = none := by decide +kernel

theorem wit_SearchCommands_launch :
    let d := dev .run [] [(E.TARGET 255, 2)]
    let x : Header := { hd with p := { known := true, stage := 20 } }
    (st (withHeader x d)).Runs ∧ (withHeader x d).header? 1 = some x ∧ d.expired.contains x.vtag = false ∧
      x.p.searches = [] ∧ x.p.stage + d.latency 0 255 = 23 ∧ x.p.vintageExpired = false ∧
      ({ d with expired := [0] } : Device).expired.contains x.vtag = true ∧ x.egress = false ∧
      ({ x with p := { vintageExpired := true } } : Header).p.vintageExpired = true := by decide +kernel

/-- An LPM search that finds the prefix of length 0, one that finds nothing, and one that finds it with a wrong check. -/
theorem wit_SearchCommands_result :
    let e := storedEntry 0 ([4] ++ List.replicate 31 0) true true
    let y : Search := { profile := 0, key := [], parity := 0, care := false, reg := 3, due := 3 }
    let x : Header := { hd with p := { searches := [y] } }
    let d := withHeader x (dev .run [] [(E.TARGET 0, 2)])
    let f : Device := { d with stores := { lpm := [e] } }
    let w : TableEntry := { e with check := e.check + 1 }
    x.p.searches.find? (fun y => y.reg = 3) = some y ∧ d.find y = (1, none, false, false) ∧
      f.find y = (1, some e, false, false) ∧ e.check = entryCheck e.bytes ∧
      ({ d with stores := { lpm := [w] } } : Device).find y = (1, some w, false, false) ∧ w.check ≠ entryCheck w.bytes := by decide +kernel

theorem wit_CoopersLeaveTheMeasuringChain :
    exec (.aluNop 1 ⟨0, 0, 0, false, 0⟩) (st (run1 hd)) = .next (st (run1 hd)) := by rfl

/-! #### The Cellarhand -/

/-- A word's fields. -/
def hw (dst sa sb : Nat) (imm : Option Nat) : HandArgs :=
  { commit := false, dst := dst, sa := sa, sb := sb, useImm := imm.isSome, cond := 0, target := 0, imm := imm.getD 0 }

theorem wit_HandArithmetic : (st (dev .run [] [])).Runs ∧ (3 : Nat) < 4 ∧ (hw 0 0 0 none).badFetch = false := by decide +kernel

theorem wit_HandReads :
    let e := storedEntry 5 (List.replicate 32 0) true true
    let d : Device := { dev .run [] [] with stores := { exact := [e] }, ctx := [{ regs := [5] }, {}, {}, {}] }
    (st d).Runs ∧ 0 < d.ctx.length ∧ (hw 0 0 0 none).commit = false ∧ (hw 0 0 0 none).faulty = false ∧
      ({ hw 0 0 0 none with faulty := true } : HandArgs).faulty = true ∧ (hw 0 0 0 none).badFetch = false ∧
      ({ hw 0 0 0 none with badFetch := true } : HandArgs).badFetch = true ∧ (hw 0 0 0 none).dst < (d.context 0).regs.length ∧
      handA (d.context 0) (hw 0 0 0 none) % 2 ^ 24 = 5 ∧ locationExists 0 5 = true ∧
      d.stores.exact.find? (fun x => x.loc = 5) = some e := by decide +kernel

theorem wit_HandJournalsAndControl : (st (dev .run [] [])).Runs ∧ branchTaken {} 4 = some true ∧ branchTaken {} 3 = some false ∧
    branchTaken {} 5 = none ∧ (2 : Nat) < 3 ∧ (hw 0 0 0 none).badFetch = false := by decide +kernel

/-- A journal of 63 records, the most that still has room. -/
theorem wit_JournalHidesChanges :
    let d : Device := { dev .run [] [] with ctx := [{}, {}, {}, { journal := List.replicate 63 (.append 0) }] }
    (st d).Runs ∧ 3 < d.ctx.length ∧ (d.context 3).journal.length < 64 ∧ (hw 0 0 0 none).commit = false ∧
      (hw 0 0 0 none).badFetch = false := by decide +kernel

theorem wit_CommitMakesCountersVisible :
    let d : Device := { dev .run [] [] with ctx := [{ journal := [.counter 2097151 1, .counter 0 2] }, {}, {}, {}] }
    (st d).Runs ∧ 0 < d.ctx.length ∧ (d.context 0).journal = [.counter 2097151 1, .counter 0 2] ∧
      (2097151 : Nat) < 2097152 ∧ ({ d with ready := false } : Device).ready = false := by decide +kernel

/-! #### Slots, rounds and power -/

theorem wit_CountedSlotCounts :
    let d : Device := { dev .run [] [] with clk := { slot := 1023 } }
    (st d).Runs ∧ d.resetHold = false ∧ d.mode.counts = true ∧ d.clk.slot < 1024 ∧ d.time.stepPending = none ∧
      (dev .reset [] []).mode.counts = false ∧ 1024 ≤ ({ d with clk := { slot := 1024 } } : Device).clk.slot ∧
      (d.time.restPs + d.rd E.SLOT_PERIOD_PS) / 1250 = 0 ∧
      (({ d with time := { restPs := 1249 } } : Device).time.restPs + d.rd E.SLOT_PERIOD_PS) / 1250 ≠ 0 := by decide +kernel

theorem wit_SkipSlotStopsThePipeline :
    let d := dev .run [(E.POWER_SKIPS, 512)] []
    let p : Device := { d with clk := { slot := 2 } }
    let q : Device := { dev .run [] [] with pow := { droopLeft := 1, stormed := true } }
    let b : Device := { dev .run [] [] with join := { burstLeft := 2 } }
    (st d).Runs ∧ d.resetHold = false ∧ d.mode.counts = true ∧ d.pow.droopLeft = 0 ∧ d.join.burstLeft = 0 ∧ (dev .run [] []).skipDue = false ∧
      b.pow.droopLeft = 0 ∧ 0 < b.join.burstLeft ∧ b.skipDue = false ∧ b.time.stepPending = none ∧
      p.skipDue = true ∧ p.time.stepPending = none ∧ 0 < q.pow.droopLeft ∧ q.skipDue = false ∧ q.pow.stormed = true := by decide +kernel

theorem wit_RoundBoundaryOrder : ({ dev .run [] [] with clk := { slot := 1024 } } : Device).clk.slot = 1024 ∧
    (dev .run [] []).clk.slot ≠ 1024 ∧ (dev .run [] []).mode.counts = true := by decide +kernel

theorem wit_PeriodsAndPower :
    let e : EpochData := ⟨[], 0, 0, 1, 0, 0, 0, [], [], []⟩
    let d : Device := { dev .run [(E.POWER_STATE, 0x1002)] [(E.HBM_THROTTLE_C, 95)] with
      clk := { tapDue := true }, pow := { unmeasured := [e], choice := some ⟨0, 0, 0⟩, setpoint := 650 } }
    (st d).Runs ∧ d.mode.counts = true ∧ d.clk.tapDue = true ∧ d.pow.unmeasured = [e] ∧
      (let x : Device := dev .run [(E.ROUND_COUNT, 1023)] []; ({ x with clk := { slot := 1024 } } : Device).epochCloses = true ∧
        x.pow.unmeasured = [] ∧ x.pow.measured = none) ∧
      d.pow.choice = some ⟨0, 0, 0⟩ ∧ (0 : Nat) < d.opInForce ∧ d.pow.setpoint < coreSetpoint 0 ∧ d.joined = false ∧
      d.cur E.HBM_THROTTLE_C ≤ 95 ∧ 94 < d.cur E.HBM_THROTTLE_C ∧ (d.rd E.POWER_STATE).testBit 12 = true ∧
      89 + 5 < d.cur E.HBM_THROTTLE_C ∧ ({ d with pow := { requested := some 1 } } : Device).pow.requested = some 1 := by decide +kernel

theorem wit_FatalFaultsEnterSafeHold : (st (dev .run [] [])).Runs ∧ (dev .run [] []).mode.counts = true ∧
    (dev .run [] []).mode ≠ .off ∧ (dev .run [] []).joined = false ∧ (dev .run [] []).p0 = [] ∧ (dev .run [] []).p1 = [] := by
  decide +kernel

/-! #### Frames, queues, links and lanes -/

/-- Port 3 exists, on lane 3, with the given PORT_CONTROL and more entries; the lane is locked. -/
def portDev (ctl : Nat) (es : List (Nat × Nat)) : Device :=
  dev .run ((E.LANE_STATUS 3, 7) :: es) [(E.PORT_CONTROL 3, ctl), (E.PORT_WIDTH 3, 1), (E.PORT_LANE_BASE 3, 3), (E.LANE_MODE 3, 3)]

/-- A frame of 64 zero bytes without its FCS's value. -/
def badFrame : RxEnd := { bytes := List.replicate 64 0, agePs := 0, pcsError := false, fragments := 0, assemblyFault := false }

/-- A frame of `n` zero bytes with a good FCS. -/
def goodFrame (n : Nat) : RxEnd := { badFrame with bytes := List.replicate (n - 4) 0 ++ leBytes 4 (crc32eth (List.replicate (n - 4) 0)) }

/-- Every class of frame at the lengths where the conditions meet: 64 bytes pass and 63 do not, and a length equal to the MTU
passes. -/
theorem wit_FrameClassOrder : frameClass (goodFrame 64) 64 = 0 ∧ frameClass badFrame 64 = Reason.FCS_ERROR ∧
    frameClass (goodFrame 63) 64 = Reason.UNDERSIZE ∧ frameClass (goodFrame 65) 64 = Reason.OVERSIZE ∧
    frameClass { goodFrame 65 with pcsError := true } 64 = Reason.PCS_ERROR ∧ 4 ≤ (goodFrame 63).bytes.length := by decide +kernel

theorem wit_FrameIntake_head :
    let d := portDev 1 []
    let bs : List Byte := List.replicate 64 0
    let f := d.newFrame 3 0 bs
    let full : Device := { d with waiting := [{ slice := 0, requester := 5, frame := { fr with bytes := List.replicate 9 0 } }],
                                  recircMoving := [(0, 4, 65464, 0)] }
    let more : Device := { d with ports := { arriving := [(3, 9)] } }
    (st d).Runs ∧ d.mode.forwards = true ∧ d.portExists 3 = true ∧ d.adminUp 3 = true ∧ bs.length = 64 ∧ macControl bs = false ∧
      d.takesTendril 3 bs = false ∧ d.macOf 3 false = 3 ∧ SMap.get more.ports.arriving 0 (more.macOf 3 false) = 9 ∧
      ({ fr with ended := false, bytes := [1] } : Frame).ended = false ∧ [1] <+: ([1, 2] : List Byte) ∧ (portDev 5 []).portCtl 3 2 = true ∧
      SMap.get (dev .drain [] []).ports.arriving 0 3 < 2 ∧ SMap.get d.ports.arriving 0 3 = 0 ∧ d.intakeUsed f.slice + bs.length ≤ 65536 ∧
      full.intakeUsed f.slice + bs.length = 65537 ∧ (dev .drain [] []).mode.forwards = false := by decide +kernel

theorem wit_FrameIntake_end :
    let d := portDev 1 []
    let e : Device := { d with ports := { arriving := [(3, 2)] } }
    let good := goodFrame 64
    (st d).Runs ∧ d.mode.counts = true ∧ d.portExists 3 = true ∧ d.portCtl 3 2 = false ∧ d.adminUp 3 = true ∧
      good.blocks = none ∧ 4 ≤ good.bytes.length ∧ frameClass good (d.cur (E.PORT_MTU 3)) = 0 ∧ macControl (good.bytes.take 60) = false ∧
      d.takesTendril 3 (good.bytes.take 60) = false ∧ SMap.get e.ports.arriving 0 3 = 2 ∧ SMap.get d.ports.arriving 0 3 < 2 ∧
      frameClass badFrame (d.cur (E.PORT_MTU 3)) ≠ 0 ∧ badFrame.bytes.drop 60 ≠ fcsOf (badFrame.bytes.take 60) false ∧
      d.portExists 511 = false := by decide +kernel

/-- A copy of port 3 that was selected in slot 0. -/
def tx0 : Tx := { port := 3, copy := cp 48, selected := 0, start := 0, passed := true }

theorem wit_VerdictsAndTransmission :
    let t : Tx := { tx0 with started := true }
    let d : Device := { portDev 1 [(E.PORT_STATUS 3, 1)] with frames := [fr], clk := { slots := 273 }, dec := { tx := [tx0] } }
    let e : Device := { d with dec := { tx := [t] }, frames := [{ fr with verdict := some 0 }] }
    let g : Frame := { fr with cellError := true }
    let w : Device := { d with dec := { tx := [tx0, { t with copy := { cp 48 with id := 5 } }] } }
    (st d).Runs ∧ d.frame? 7 = some fr ∧ fr.ended = true ∧ fr.verdict = none ∧ ({ d with dec := {} } : Device).dec.tx = [] ∧
      (∀ t ∈ d.dec.tx, ∀ g ∈ d.frame? t.copy.frame, g.id ≠ 8 ∧ g.follows ≠ some (8, true)) ∧ d.dec.owing = [] ∧ (∀ g ∈ d.frames, g.follows = some (7, true) → g.verdict ≠ none) ∧
      ({ fr with ended := false } : Frame).ended = false ∧ d.dec.tx.find? (fun x => x.copy.id = 4) = some tx0 ∧
      tx0.selected + 272 < d.clk.slots ∧ d.txReady 3 = true ∧ fr.cellError = false ∧ (d.insertPfc 3).wireSlot tx0 = some (0, none) ∧
      0 ≤ 2 * (d.insertPfc 3).clk.nowPs ∧ (w.insertPfc 3).wireSlot tx0 = none ∧ e.offWire { t with gateHeld := true } = true ∧
      ({ d with frames := [g] } : Device).frame? 7 = some g ∧ g.cellError = true ∧
      ({ d with clk := { slots := 272 } } : Device).clk.slots ≤ tx0.selected + 272 ∧
      e.dec.tx.find? (fun x => x.copy.id = 4) = some t ∧ e.offWire t = false ∧ t.stomp = none ∧
      e.badEnd t { fr with verdict := some 0 } (txBytes fr t) = none ∧ tx0.started = false := by decide +kernel

theorem wit_QueueEvents :
    let c := cp 48
    let d0 := portDev 1 []
    let j : Job := { slice := 0, frame := 7, copies := [c], due := 0, multi := true }
    let d : Device := { d0 with frames := [fr], queued := [c], jobs := [j], racking := [(4, [])] }
    let m : Copy := { c with place := .cellar, spill := [5] }
    let r : Device := { dev .run [(E.RACK_KEEP 3, 20)] [(E.RACK_KEEP 3, 20)] with frames := [fr], queued := [m], rackInTokens := 1 }
    let out : Device := { r with bankMap := [(9, 5, 0xFFFF)] }
    let g : Device := { d with dec := { gates := [{ port := 3, entries := [(1, 8)], startSlot := 0, waiting := none }],
                                        gateStuck := [(48, 4, 0)] }, clk := { slots := 8 } }
    let v : Device := { d0 with frames := [{ fr with verdict := some 0 }], queued := [cp (recircQueue 31)] }
    (st d).Runs ∧ d.jobs.any (fun j => j.slice = 0 && j.started) = false ∧
      d.jobs.find? (fun j => j.slice = 0 && j.multi && j.due ≤ d.clk.slots) = some j ∧
      d.racking.find? (fun r => r.1 = c.id) = some (4, []) ∧ d.queued.find? (fun x => x.id = c.id) = some c ∧
      nextRequester (r.busyQueues.filter r.asksReturn) r.rackInNext = some 48 ∧
      (r.waitingIn 48).find? (fun c => c.place = .cellar) = some m ∧ m.spill.length ≤ r.rackInTokens ∧ 0 < m.spill.length ∧
      m.spill.any (fun k => !r.pcIn (channelOf k)) = false ∧ m.spill.any (fun k => !out.pcIn (channelOf k)) = true ∧
      nextRequester (out.busyQueues.filter out.asksReturn) out.rackInNext = some 48 ∧ c.place = .cask ∧
      ({ g with bk := mapOf [(E.PORT_STATUS 3, 1)] } : Device).headReason c 8 = none ∧ g.headReason c 8 = some Reason.LINK_DOWN ∧
      g.dec.gateStuck.find? (fun g => g.1 = 48) = some (48, 4, 0) ∧ g.headOf 48 = some c ∧ (g.gate? 3).isSome = true ∧
      (∀ x ∈ g.gate? 3, 0 + cycleOf x.entries ≤ g.clk.slots) ∧
      v.mode.counts = true ∧ v.headOf (recircQueue 31) = some (cp (recircQueue 31)) ∧ (v.frame? 7).map (·.verdict) = some (some 0) ∧
      v.recircMoving.find? (fun r => r.1 = 31 && r.2.1 = 4) = none ∧ v.expired.contains fr.vtag = false := by decide +kernel

theorem wit_LinkEvents :
    let d := portDev 1 []
    (st d).Runs ∧ d.mode.counts = true ∧ d.linkOk 3 = true ∧ d.linkUp 3 = false ∧ d.linkOk 511 = false ∧ d.portExists 3 = true ∧
      (let e : Device := { d with ports := { rsLocal := [(3, 1)] } }
       e.portExists 3 = true ∧ e.portCtl 3 0 = true ∧ e.portLocalFault 3 = true ∧ SMap.get e.ports.rsLocal 0 3 = 1) ∧
      d.instanceKey 3 false = some 3 ∧ d.instanceKey 3 true = none ∧
      (dev .run [(E.MGMT_MODE, 2)] []).rd E.MGMT_MODE = 2 := by decide +kernel

theorem wit_PfcPreemptionAndLpi :
    let d := portDev 0x410041 [(E.PORT_STATUS 3, 0x4011), (E.XOFF_CLASSES 3, 0x40)]
    let e : Device := { d with pfcSent := [(30, 5)] }
    let full : Device := { d with ports := { verifySends := [(3, 3)] } }
    let busy : Device := { portDev 0x41 [(E.PORT_STATUS 3, 0x41)] with queued := [cp 48] }
    (st d).Runs ∧ (6 : Nat) < 7 ∧ (d.rd (E.PORT_STATUS 3)).testBit 14 = true ∧ d.sendsPfc 3 6 = true ∧
      (d.rd (E.XOFF_CLASSES 3)).testBit 6 = true ∧ SMap.get e.pfcSent 0 30 ≠ 0 ∧ d.portExists 3 = true ∧ d.linkUp 3 = true ∧
      d.rd (E.PORT_STATUS 3) / 16 % 4 = 1 ∧ SMap.get d.ports.verifySends 0 3 < 3 ∧ SMap.get full.ports.verifySends 0 3 = 3 ∧
      d.portCtl 3 6 = true ∧ d.txLpi 3 = false ∧ d.portIdle 3 = true ∧ busy.portIdle 3 = false ∧ busy.txLpi 3 = true := by
  decide +kernel

theorem wit_LaneLocks :
    let d := portDev 1 []
    let u := dev .run [(E.LANE_STATUS 3, 1)] [(E.LANE_MODE 3, 3)]
    let s := dev .run [(E.LANE_STATUS 3, 0x207)] [(E.LANE_MODE 3, 3)]
    let r : Device := { u with lanes := { relock := [(3, 1)] } }
    let j : Device := dev .run [(E.LANE_STATUS 3, 7)] [(E.LANE_MODE 3, 6)]
    let ws := List.replicate 4 (commaWord 5)
    j.laneMode 3 = 6 ∧ j.laneRuns 3 = true ∧ j.laneLocked 3 = true ∧ j.aligns 3 ws = true ∧ j.aligns 3 [commaWord 5] = false ∧
      j.misaligns 3 (List.replicate 4 []) = true ∧ j.misaligns 3 ws = false ∧ ws.length = 4 ∧ (∀ w ∈ ws, j.commaAt 3 w = some 5) ∧
      j.precodes 3 true = j.precodes 3 false ∧ j.inverts 3 true = j.inverts 3 false ∧
      d.aligns 3 [] = true ∧ d.laneMode 3 ≠ 6 ∧ (∀ g ∈ [0, 3], g < 4) ∧ [true, false].length % 2 = 0 ∧ (255 : Nat) < 256 ∧ (st d).Runs ∧ d.laneLocked 3 = true ∧ d.laneRuns 3 = true ∧ u.laneRuns 3 = true ∧ u.signal 3 = true ∧ u.laneLocked 3 = false ∧
      u.rxAsleep 3 = false ∧ (dev .run [] []).signal 3 = false ∧ d.rxAsleep 3 = false ∧ s.rxAsleep 3 = true ∧ s.laneRuns 3 = true ∧
      SMap.get r.lanes.relock 0 3 = 1 ∧ r.laneLocked 3 = false := by decide +kernel

theorem wit_LaneAdaptationAndSleep :
    let on := [(E.LANE_MODE 3, 3), (E.LANE_CONTROL 3, 0xA1F)]
    let d := dev .run [(E.LANE_STATUS 3, 7)] on
    let z := dev .run [(E.LANE_STATUS 3, 0xF)] on
    let a := dev .run [(E.LANE_STATUS 3, 0x207)] on
    let w : Device := { d with lanes := { txWaking := [(3, 1)] } }
    let good : List Nat := (List.replicate 16 [0, 1, 2, 3]).flatten
    (st d).Runs ∧ d.laneRuns 3 = true ∧ d.rxAsleep 3 = false ∧ (d.laneCtl 3).testBit 3 = true ∧ (d.laneCtl 3).testBit 4 = true ∧
      SMap.get d.lanes.relock 0 3 ≠ 1 ∧ d.windowPasses 3 (List.replicate 64 0) = false ∧ d.frozen 3 = false ∧ z.windowPasses 3 good = true ∧
      z.frozen 3 = true ∧ z.rxAsleep 3 = false ∧ d.laneLocked 3 = true ∧ 0 ≤ d.rd (E.ADAPT_ERR_LIMIT 3) ∧
      0 < min (min 2 (min 2 (d.laneCtl 3 / 2 ^ 8 % 4))) (if d.laneMode 3 = 6 then 1 else 2) ∧
      0 < min (min 2 (min 2 (d.laneCtl 3 / 2 ^ 10 % 4))) (if d.laneMode 3 = 6 then 1 else 2) ∧
      SMap.get w.lanes.txWaking 0 3 = 1 ∧ a.rxAsleep 3 = true ∧ a.laneRuns 3 = true ∧ d.wireChecked 7 1 31 32 = true ∧
      d.wireChecked 7 1 31 33 = false ∧ d.lanes.wiresDue = [] ∧ d.maySleep 3 false 1 = true ∧ (portDev 1 []).portOfLane 3 = some 3 ∧
      (portDev 1 []).portCtl 3 7 = false ∧ (let t : Device := dev .run [(E.LANE_STATUS 3, 0x47)] on
        t.txState 3 = 1 ∧ t.keptAsleep 3 = false ∧ t.laneRuns 3 = true) ∧ SMap.get d.lanes.crossed 0 3 = 0 := by decide +kernel

/-! #### The Gauge, supplies, Boot, test port and time -/

/-- A tap record with its CRC. -/
def record (bs : List Byte) : List Byte := bs ++ beBytes 4 (crc32c bs)

theorem wit_GaugeTakesRecords :
    let r := record (1 :: 31 :: List.replicate 782 0)
    let t := record (2 :: List.replicate 15 0)
    tapCrcOk r 784 = true ∧ byteAt r 0 = 1 ∧ byteAt r 1 % 32 = 31 ∧ tapCrcOk (List.replicate 788 0) 784 = false ∧
      ({} : Gauge).powered = true ∧ tapCrcOk t 16 = true ∧ byteAt t 0 = 2 ∧ ({ named := some 5 } : Gauge).named = some 5 ∧ ({} : Gauge).named = none := by
  decide +kernel

theorem wit_GaugeEvents :
    let g : Gauge := { tapActive := true, timeSet := true }
    ({ g with holdover := some 0 } : Gauge).holdover.isSome = true ∧ g.tapActive = true ∧ g.timeSet = true ∧ g.holdover = none ∧
      g.exceeded = false ∧ ({} : Gauge).timeSet = false ∧ g.ns < g.nextBoundary ∧
      (let h : Gauge := { g with clock := 300 * gaugeSecond }; h.nextBoundary = 300000000000 ∧ h.nextBoundary ≤ h.ns ∧ h.oldMinutes = none) ∧
      ({ g with oldMinutes := some 5 } : Gauge).oldMinutes = some 5 ∧ g.oldMinutes = none ∧
      (let h : Device := { dev .run [] [] with gauge := { g with clock := 300 * gaugeSecond } }
       h.gauge.nextBoundary ≤ h.gauge.ns ∧ h.gaugeBoundary.gauge.atBoundary = true) ∧
      ({ g with boundaryAt := some 0 } : Gauge).atBoundary = true ∧
      (let h : Gauge := { g with clock := 60 * gaugeSecond }; h.ns < h.nextBoundary ∧ h.atBoundary = false) ∧
      ({ g with powered := false } : Gauge).powered = false ∧ g.powered = true ∧ (st (dev .run [] [])).Between ∧
      ({ g with sealState := 1 } : Gauge).sealState = 1 ∧ g.sealState ≠ 1 ∧ (st (dev .run [] [])).Runs ∧ (dev .run [] []).ready = true ∧
      g.mirrorComplete = false := by decide +kernel

theorem wit_SuppliesResetAndBoot :
    let hold : Device := { dev .reset [] [] with resetHold := true, board := { resetPin := true } }
    let boot (n : Nat) : Device := { dev .boot [] [] with bootPhase := n }
    let drain := dev .drain [(E.DRAIN_STATE, 1)] []
    let rec' := dev .recovery [(E.RECOVERY_STATE, 1)] []
    let prog : Device := { dev .run [] [] with board := { programming := some ⟨true, [], .mailbox true 0 0⟩, jobs := [⟨17, 0, []⟩] } }
    (dev .off [] []).mode = .off ∧ (dev .run [] []).mode ≠ .off ∧ (st hold).Runs ∧ hold.resetHold = true ∧ hold.board.resetPin = true ∧
      hold.mode = .reset ∧ State.reset.Runs ∧ Device.reset.board.resetPin = false ∧ Device.reset.mode = .reset ∧
      Device.reset.resetHold = false ∧ (boot 1).mode = .boot ∧ (boot 1).bootPhase ≤ 1 ∧ (boot 2).bootPhase = 2 ∧
      2 < (boot 3).bootPhase ∧ drain.mode = .drain ∧ drain.rd E.DRAIN_STATE = 1 ∧ rec'.mode = .recovery ∧
      rec'.rd E.RECOVERY_STATE = 1 ∧ prog.board.jobs.find? (fun j => j.bus = 0) = none ∧
      prog.board.jobs.find? (fun j => j.bus = 17) = some ⟨17, 0, []⟩ ∧ (⟨17, 0, []⟩ : BusJob).reads = false ∧
      (⟨17, 2 ^ 24, []⟩ : BusJob).reads = true ∧ (st (dev .run [] [])).Runs ∧ (dev .run [] []).board.resetPin = false ∧ (dev .run [] []).mode ≠ .reset ∧
      prog.board.programming.map (·.slotB) = some true := by decide +kernel

theorem wit_TestAccessPort : Device.reset.mode = .reset ∧ (dev .run [] []).mode ≠ .reset ∧ Device.reset.board.vddIo = true ∧
    ({ dev .off [] [] with board := { vddIo := false } } : Device).board.vddIo = false := by decide

theorem wit_TimeInputs :
    let d := dev .run [(E.TIME_CLOCK, 1), (E.TIME_STATUS, 0xF)] [(E.TIME_SOURCE, 2)]
    let p : Device := { d with time := { lastPps := some 0, pulseDue := some 5 } }
    let u := portDev 1 []
    let r : Device := { u with p0 := SMap.ins u.p0 (rclkLane 1) 3 }
    (st d).Runs ∧ d.alive = true ∧ (d.wrBit E.TIME_STATUS 3 false).rd E.TIME_CLOCK = 1 ∧ d.time.refLost = false ∧
      d.cur E.TIME_SOURCE = 2 ∧ d.followsTime = false ∧ p.time.lastPps.isSome = true ∧ p.time.ppsLost = false ∧ p.time.pulseDue = some 5 ∧
      p.timeValid = true ∧ (dev .run [] []).timeValid = false ∧ r.rclkSquelched 1 = false ∧ d.rclkSquelched 1 = true := by
  decide +kernel

/-! #### Mailboxes, Tendril and the Cellar Book -/

/-- BUSY in a mailbox's status. -/
def busyBox (m : Nat) : Device := { dev .run [] [] with bar0 := [(mailboxPage m + 0x14, 1)] }

/-- An access at a due boundary, and at any other time; one that was held. -/
theorem wit_AccessesInOrder :
    let d := dev .run [] []
    let e : Device := { d with clk := { d.clk with slot := 1024 } }
    (st e).Runs ∧ accessCommand (.commit .tendril 1) = true ∧ e.mode.counts = true ∧ e.clk.slot = 1024 ∧ d.clk.slot ≠ 1024 ∧
      ({ d with held := [⟨.commit .tendril 1, 0⟩] } : Device).held = ⟨.commit .tendril 1, 0⟩ :: [] := by decide

theorem wit_AccessesInOrder_queue :
    let q : Doorbell := { mailbox := 0, ahead := 1, request := 1, addr := 0, length := 0, offset := 0, data := [] }
    let w : JointWrite := ⟨.mailbox true 0 0, E.TARGET 0, [], 0⟩
    let d : Device := { dev .run [] [] with doorbells := [q], tendrilQueue := [⟨0, []⟩] }
    d.requestWaits = false ∧ d.doorbells = q :: [] ∧ d.tendrilQueue = ⟨0, []⟩ :: [] ∧ 0 < q.ahead ∧ ({ q with ahead := 0 } : Doorbell).ahead = 0 ∧
      ({ d with join := { waitingBooks := [w] } } : Device).requestWaits = true := by decide

theorem wit_MailboxRequestsRun :
    (st (dev .run [] [])).Accesses ∧ (dev .run [] []).Quiet ∧ (dev .run [] []).board.pci.d3hot = false ∧
      mailboxExists true 3 = true ∧ (dev .run [] []).mode ≠ .off ∧ (dev .run [] []).ready = true ∧
      (dev .run [] []).mailboxBusy 3 = false ∧ (3 : Nat) < 4 ∧ (List.replicate 256 (0 : Byte)).length ≤ 256 ∧
      (busyBox 3).mailboxBusy 3 = true ∧ (st (busyBox 3)).Runs ∧ ({ dev .boot [] [] with ready := false } : Device).ready = false ∧
      ({ dev .boot [] [] with ready := false } : Device).mailboxBusy 19 = false ∧ mailboxExists false 15 = true := by decide +kernel

/-- Mailbox 15 of user mode under the last grant, whose last page it is; and the same page without one. -/
theorem wit_UserMailboxesNeedAGrant :
    let d := dev .run [(E.GRANT_ENABLE 127, 1), (E.GRANT_TARGET 127, 1), (E.GRANT_FIRST 127, 15), (E.GRANT_PAGES 127, 1)] []
    (st d).Accesses ∧ d.Quiet ∧ d.board.pci.d3hot = false ∧ mailboxExists false 15 = true ∧ d.mode ≠ .off ∧ d.ready = true ∧ d.mailboxBusy 19 = false ∧
      d.granted 15 = true ∧ (d.rd (E.GRANT_ENABLE 127) = 1 ∧ d.rd (E.GRANT_TARGET 127) = 1 ∧ d.rd (E.GRANT_FIRST 127) ≤ 15 ∧
        15 < d.rd (E.GRANT_FIRST 127) + d.rd (E.GRANT_PAGES 127)) ∧ (dev .run [] []).granted 15 = false := by decide +kernel

theorem wit_EntryCommandsAreWrites :
    let d := dev .run [(E.GRANT_ENABLE 0, 1), (E.GRANT_TARGET 0, 1), (E.GRANT_FIRST 0, 0), (E.GRANT_PAGES 0, 16)] []
    (st d).Accesses ∧ d.Quiet ∧ d.board.pci.d3hot = false ∧ d.mode ≠ .off ∧ d.ready = true ∧ d.mailboxBusy 3 = false ∧ d.mailboxBusy 19 = false ∧ d.granted 15 = true ∧
      (entryWrite (.commit (.kernel 3 255) 1)).map (fun x => (x.1, x.2.1, x.2.2 true)) = some (.kernel 3 255, E.COMMIT, [1]) ∧
      (entryWrite (.grantWrite (.user 15 0) 127 5 2)).map (fun x => x.1) = some (.user 15 0) ∧
      (entryWrite (.keyWrite .tendril 15 true (List.replicate 32 0))).map (fun x => (x.1, x.2.1)) = some (.tendril, E.KEY_B 15) := by
  decide +kernel

/-- A READ of MODE_STATE by controller 0 with sequence `n`, signed with key A of zeros. -/
def frame (n : Nat) : TendrilFrame :=
  let h := tendrilHeader 1 0 false 0 n 9 0 E.MODE_STATE 0 0 0 0
  let c := dev .run [] []
  { port := 0x840, bytes := List.replicate 12 0 ++ [0x88, 0xB5] ++ h ++ c.tendrilMac 0 false h [] }

/-- A device that takes Tendril frames of controller 0. -/
def tendrilDev (es : List (Nat × Nat)) : Device :=
  dev .run ([(E.TENDRIL_ENABLE, 1), (E.CTRL_ENABLE 0, 1), (E.KEY_SLOTS 0, 1)] ++ es) []

theorem wit_TendrilRequestsRun :
    let f := frame 5
    let d : Device := { tendrilDev [] with tendrilQueue := [f] }
    let e : Device := tendrilDev []
    (st d).Accesses ∧ d.doorbells = [] ∧ d.requestWaits = false ∧ d.tendrilQueue = f :: [] ∧ d.alive = true ∧ hdrOp f.header = 1 ∧ e.authentic f = true ∧
      (dev .run [] []).authentic f = false ∧ (e.acceptSeq 0 false 5).isSome = true ∧ e.acceptSeq 0 false 0 = none ∧
      (∀ g ∈ e.acceptSeq 0 false 5, g.kept = [] ∧ g.ready = true ∧ (g.frameOperation f).1 = Res.OK) ∧
      hdrCtrl f.header = 0 ∧ hdrSlotB f.header = false ∧ hdrSeq f.header = 5 ∧ hdrOp (frame 5).header ≠ 2 := by decide +kernel

/-- A repeated request finds its kept response. -/
theorem wit_TendrilRequestsRun_kept :
    let k : Kept := ⟨0, 9, 1, E.MODE_STATE, 0, [], []⟩
    let h := (frame 5).header
    [k].find? (fun k => k.ctrl = hdrCtrl h ∧ k.requestId = hdrId h ∧ k.opcode = hdrOp h ∧ k.addr = hdrAddr h ∧ k.offset = hdrOffset h)
      = some k := by decide +kernel

/-- The edges of the window: 63 below RX_SEQ is in it, 64 below is not, and the last sequence of all ends the slot. -/
theorem wit_SequencesAcceptedOnce :
    let d := dev .run [(E.RX_SEQ_A 0, 100)] []
    let z := dev .run [(E.RX_SEQ_A 0, 0xFFFFFFFF)] []
    0 < d.ctrlSeq.length ∧ d.rd (E.RX_SEQ_A 0) = 100 ∧ (d.acceptSeq 0 false 101).isSome = true ∧ (d.acceptSeq 0 false 37).isSome = true ∧
      d.acceptSeq 0 false 36 = none ∧ 36 + 63 < d.rd (E.RX_SEQ_A 0) ∧ z.rd (E.RX_SEQ_A 0) = 0xFFFFFFFF ∧
      z.acceptSeq 0 false 0xFFFFFFFF = none ∧ (d.acceptSeq 0 false 0xFFFFFFFF).isSome = true := by decide +kernel

theorem wit_KeyWriteRestartsSequences : (15 : Nat) < (dev .run [] []).ctrlSeq.length ∧ (15 : Nat) < 16 := by decide

theorem wit_WriteRefusals :
    let d := dev .run [] []
    let c := dev .configure [] []
    let busy : Device := { d with commit := .preparing }
    d.isJoint E.COMMIT = false ∧ (∃ r ∈ findRow E.COMMIT, r.acc = .wo ∨ r.acc = .w1s) ∧ d.sealRefuses E.COMMIT false = false ∧
      d.accessCode 0 E.COMMIT true = Res.OK ∧ (∃ r ∈ findRow E.MODE_STATE, r.acc = .ro) ∧
      (∃ r ∈ findRow (E.KEY_SLOTS 0), (r.acc = .rwc ∨ r.acc = .rw)) ∧ d.permits 15 E.COMMIT true = true ∧
      ({ d with gauge := { sealState := 1 } } : Device).sealRefuses (entry 0x9010 1) false = true ∧
      (∃ r ∈ findRow E.MGMT_MODE, r.acc = .rwc ∧ d.mode ≠ .configure ∧ d.mode ≠ .check) ∧ c.accessCode 0 E.MGMT_MODE true = Res.OK ∧
      (∃ r ∈ findRow (E.PORT_MTU 3), r.acc = .rwv ∧ r.valueOk 1518 = true ∧ d.ownValueOk (E.PORT_MTU 3) 1518 = true ∧
        busy.writeBusy r = true ∧ d.writeBusy r = false) ∧ d.ownValueOk E.POWER_CAP_W 1301 = false ∧ d.permits 2 (E.KEY_A 0) true = false := by decide +kernel

theorem wit_EntryWriteEffects :
    let d := dev .run [] [(E.TIME_SOURCE, 1)]
    let p := dev .run [] [(E.TIME_SOURCE, 2)]
    d.rwvBusy = false ∧ d.tel.clearArmed = none ∧ ({ d with tel := { clearArmed := some (0, 1) } } : Device).tel.clearArmed.isSome = true ∧
      d.joined = false ∧ d.timeValid = false ∧ d.cur E.TIME_SOURCE = 1 ∧ p.cur E.TIME_SOURCE = 2 ∧
      (dev .run [(E.TIME_STATUS, 1)] []).timeValid = true ∧ (dev .run [(E.JOIN_STATE, 4)] []).member ≠ 1 := by decide +kernel

/-- OCC at 254, which still counts, and at 255, which stays. -/
theorem wit_RaiseCounts :
    let d := dev .run [(E.SOURCE_OCC 63 9, 254), (E.SOURCE_OCC 63 8, 255)] []
    d.rd (E.SOURCE_OCC (1017 / 16) (1017 % 16)) % 256 = 254 ∧ d.rd (E.SOURCE_OCC (1016 / 16) (1016 % 16)) % 256 = 255 ∧
      (1017 : Nat) < 1024 ∧ d.raisedLow 1017 = none ∧ ({ d with cycle := { raised := [(1017, 10)] } } : Device).raisedLow 1017 = some 10 ∧
      9 % 2 ^ 24 < 10 ∧ 10 ≤ 10 % 2 ^ 24 ∧
      (let e := dev .run [(E.GROUP_ROUTE 0, 0x105), (E.GROUP_ROUTE 63, 0x005)] []
       (e.rd (E.GROUP_ROUTE 0)).testBit 8 = true ∧ e.rd (E.GROUP_ROUTE 0) % 128 = e.rd (E.GROUP_ROUTE 63) % 128) ∧ ({ d with ready := false } : Device).ready = false := by decide +kernel

theorem wit_DeliveryEdges :
    let d := dev .run [(E.GROUP_ENABLE 0, 3), (E.GROUP_STATUS 0, 0x8002)] []
    (d.rd (E.GROUP_ENABLE 0)).testBit 0 = true ∧ (d.rd (E.GROUP_STATUS 0)).testBit 0 = false ∧ Nat.testBit 0x8000 15 = true ∧
      (d.rd (E.GROUP_ENABLE 0)).testBit 15 = false ∧ (d.rd (E.GROUP_STATUS 0)).testBit 15 = true ∧
      (∀ i < 16, Nat.testBit 3 i = true → (d.rd (E.GROUP_ENABLE 0)).testBit i = true) := by decide +kernel

theorem wit_EventRegisterWrites :
    let d := dev .run [] []
    let h : EventHold := ⟨15, 1023, 0, true⟩
    let e : Device := { dev .run [(E.TENDRIL_ENABLE, 1), (E.CTRL_ENABLE 15, 1), (E.EVENT_GROUPS 15 1, 0x80000000), (E.CTRL_MAC 15, 5),
                                  (E.BEACON_PERIOD_MS, 100)] [] with eventHolds := [h] }
    (st d).Accesses ∧ d.Quiet ∧ d.board.pci.d3hot = false ∧ d.mode ≠ .off ∧ (63 : Nat) < 64 ∧ (groupSources (1017 / 16)).testBit (1017 % 16) = true ∧ d.ready = true ∧
      e.eventHolds.find? (fun h => h.ctrl = 15 && h.source = 1023 && h.waiting) = some h ∧ e.selects 15 (1023 / 16) = true ∧
      d.eventHolds.find? (fun h => h.ctrl = 15 && h.source = 1023 && h.waiting) = none ∧ (dev .run [(E.TENDRIL_ENABLE, 0)] []).rd E.TENDRIL_ENABLE = 0 ∧
      e.rd E.TENDRIL_ENABLE ≠ 0 ∧ e.rd E.BEACON_PERIOD_MS ≠ 0 ∧ e.ready = true ∧ e.rd (E.CTRL_ENABLE 15) = 1 ∧ e.rd (E.CTRL_MAC 15) ≠ 0 ∧
      (∀ k < 16, k ≠ 15 → e.rd (E.CTRL_ENABLE k) = 0) ∧
      (∀ k < 16, (dev .run [(E.TENDRIL_ENABLE, 1), (E.BEACON_PERIOD_MS, 100)] []).rd (E.CTRL_ENABLE k) = 0) := by decide +kernel

theorem wit_RegisterWritesAndFunctionReset : (st (dev .run [] [])).Accesses ∧ (dev .run [] []).board.pci.d3hot = false ∧ (dev .run [] []).mode ≠ .off ∧ (2 : Nat) ≠ 0 ∧ (2 : Nat) ≠ 4 ∧
    (4 : Nat) < 5 ∧ (5 : Nat) ≤ 5 ∧ (19 : Nat) < 20 ∧ (0 : Nat) < 8 ∧ (8 : Nat) ≤ 256 ∧ ((dev .run [] []).channel 1023).state ≠ 5 := by decide +kernel

theorem wit_ChecksAndCommitPhases :
    let d := dev .run [] []
    let c : Device := { dev .check [] [] with checkFound := some (1, 2, 3) }
    let k : Device := { d with commit := .checking, checkFound := some (1, 2, 3) }
    let p : Device := { d with commit := .preparing }
    let w : Device := { p with sweeping := true }
    (st d).Runs ∧ d.mode.forwards = true ∧ d.committing = false ∧ k.committing = true ∧ (dev .drain [] []).mode.forwards = false ∧
      (dev .configure [] []).mode = .configure ∧ c.mode = .check ∧ c.installDue = false ∧ c.checkFound = some (1, 2, 3) ∧
      (dev .check [] []).checkFound = none ∧ d.mode ≠ .check ∧ k.commit = .checking ∧ ({ d with commit := .checking } : Device).checkFound = none ∧
      d.joined = false ∧ d.commit ≠ .checking ∧ p.commit = .preparing ∧ p.waitCode = 0 ∧
      (p.loadStore 0 (p.rd E.VINTAGE_STAGING % 2) false p.stores.exact (p.stagedEntries 0)).toOption = some [] ∧
      w.waitCode ≠ 0 ∧ w.sweeping = true ∧ d.sweeping = false ∧ d.ready = true ∧ d.mode ≠ .recovery := by decide +kernel

/-- A pair in which both members refuse a COMMIT_TIME while time is not valid. -/
theorem wit_ChecksAndCommitPhases_pair :
    let d : Device := { dev .run [(E.JOIN_STATE, 4)] [] with commitTime := 5 }
    d.joined = true ∧ (d.enableCheck true).isSome = true ∧ (d.partnerView.enableCheck true).isSome = true ∧ d.member < 2 := by decide +kernel

/-- The digest over the hardware state does not cover the digest that the block keeps of it. -/
theorem ownRecord_keeps (e : Device) (x : List Byte) (q : Nat) (y : Addr × Ty) :
    ({ e with partDigest := x } : Device).ownRecord q y = e.ownRecord q y := by
  have ho : ∀ a, ({ e with partDigest := x } : Device).object a false = e.object a false := by
    intro a
    unfold Device.object
    cases findRow a with
    | none => rfl
    | some r => simp only [Device.counter, Device.obj, Device.curObj, Device.objp, Device.parity, Device.vintage, Device.rd]; rfl
  have h : ∀ a, ({ e with partDigest := x } : Device).digestObject q a = e.digestObject q a := by
    intro a
    unfold Device.digestObject
    cases (List.range 4).find? (fun k => storeObject k = a) with
    | none => simp only [ho, Device.objp]
    | some k => rfl
  simp only [Device.ownRecord, h]
  rfl

theorem vintageDigest_keeps (e : Device) (x : List Byte) (pair : Bool) (q n : Nat) :
    ({ e with partDigest := x } : Device).vintageDigest pair q n = e.vintageDigest pair q n := by
  have hp : ({ e with partDigest := x } : Device).pairRecords q = e.pairRecords q := by
    funext y
    simp only [Device.pairRecords, ownRecord_keeps]
    rfl
  have hr : ({ e with partDigest := x } : Device).ownRecord q = e.ownRecord q := funext (ownRecord_keeps e x q)
  simp only [Device.vintageDigest, Device.serialise, hp, hr]

theorem wit_ChecksAndCommitPhases_digest (d : Device) :
    let e : Device := { d with partDigest := d.vintageDigest d.pairDigest d.parity d.vintage }
    let f : Device := { d with partDigest := d.vintageDigest d.pairDigest d.parity d.vintage ++ [0] }
    e.vintageDigest e.pairDigest e.parity e.vintage = e.partDigest ∧ f.vintageDigest f.pairDigest f.parity f.vintage ≠ f.partDigest := by
  have hv : ∀ x : List Byte, ({ d with partDigest := x } : Device).vintage = d.vintage := fun x => by
    simp only [Device.vintage, Device.rd]
  intro e f
  simp only [e, f, Device.parity, hv, vintageDigest_keeps]
  simp

theorem wit_SweepEqualsCopies :
    let d : Device := { dev .run [] [] with sweeping := true }
    (st d).Runs ∧ d.sweeping = true := by decide

theorem wit_DiscardTakesCurrent : let d := dev .run [(E.PORT_MTU 3, 2000)] [(E.PORT_MTU 3, 1518)]
    SMap.sorted d.p0 = true ∧ SMap.sorted d.p1 = true ∧ isRwv (E.PORT_MTU 3) = true ∧ isRwv E.COMMIT = false := by decide +kernel

theorem wit_ReadsSelectAVintage :
    let d := dev .run [] []
    (∃ r ∈ findRow (E.PORT_MTU 3), r.acc = .rwv ∧ r.ty ≠ .domain) ∧ (∃ r ∈ findRow (E.KEY_A 0), r.acc = .wo) ∧
      (∃ r ∈ findRow E.MODE_STATE, r.acc ≠ .rwv ∧ r.acc ≠ .wo) ∧ d.permits 0 (E.PORT_MTU 3) false = true ∧
      isMeasured (E.PORT_MTU 3) = false ∧
      ({ mailbox := 0, ahead := 0, request := 0x1FF01, addr := 0, length := 0, offset := 0, data := [] } : Doorbell).request % 256 = 1 ∧ hdrOp (frame 1).header = 1 ∧
      ({ d with bar0 := [(mailboxPage 0, 1)] } : Device).bar (mailboxPage 0) % 256 = 1 ∧
      (dev .run [(E.DENY_FIRST 0, 0x1000), (E.DENY_LAST 0, 0x1000), (E.READ_DENY 0, 4)] []).permits 2 E.MODE_STATE false = false := by
  decide +kernel

/-! #### The Siphon -/

/-- A device with one channel in use `use`, whose rings have room. -/
def chanDev (ch : Channel) : Device :=
  { dev .run [] [(E.CHANNEL_USE ch.c, ch.use), (E.COMPL_SLOTS ch.c, 16)] with channels := [ch], busMaster := true }

theorem wit_ChannelDoorbells :
    let ch (s u : Nat) : Device := chanDev { c := 1023, state := s, use := u, headWritten := true }
    (st (ch 2 2)).Accesses ∧ (ch 2 2).board.pci.d3hot = false ∧ ((ch 2 2).channel 1023).state = 2 ∧ ((ch 1 2).channel 1023).state = 1 ∧ ((ch 0 2).channel 1023).state = 0 ∧
      ((ch 4 2).channel 1023).state = 4 ∧ ((ch 0 2).channel 1023).headWritten = true ∧ (ch 0 2).channelUse 1023 = 2 ∧
      (ch 0 4).channelUse 1023 = 4 ∧ (ch 1 2).channelHeld ((ch 1 2).channel 1023) = false ∧
      (let h : Device := { ch 1 2 with busMaster := false }; h.channelHeld (h.channel 1023) = true ∧ (h.channel 1023).state = 1) ∧
      (∀ n ∈ [1, 3, 10], let w : Device := chanDev { c := 1023, state := 1, use := 2, phase := n, budget := 1, inRun := true }
        w.channelHeld (w.channel 1023) = false ∧ (w.channel 1023).phase = n ∧ (w.channel 1023).budget ≠ 0) ∧
      (chanDev { c := 1023, state := 1, use := 2, phase := 1 }).channelHeld ((chanDev { c := 1023, state := 1, use := 2, phase := 1 }).channel 1023) = false ∧
      (ch 0 2).deaf 1023 = false ∧ (32 : Nat) % 32 = 0 ∧ (33 : Nat) % 32 ≠ 0 ∧
      (0 % 2 ^ 32 + 2 ^ 32 - ((ch 1 2).channel 1023).consumed) % 2 ^ 32 ≤
        (((ch 1 2).channel 1023).completed + 2 ^ 32 - ((ch 1 2).channel 1023).consumed) % 2 ^ 32 ∧ (1023 : Nat) < 1024 := by decide +kernel

/-- A descriptor of `n` bytes with a CONTROL and an ARG. -/
def desc (control n arg : Nat) : List Byte := leBytes 8 0 ++ leBytes 4 control ++ leBytes 4 n ++ leBytes 8 0 ++ leBytes 8 arg

theorem wit_ChannelTransfers :
    let ch : Channel := { c := 0, state := 1, use := 2, phase := 5, desc := desc 4 64 0x800 }
    let d := chanDev ch
    let rx : Channel := { ch with use := 1, desc := desc 0 64 0, rxCopy := some 4, rxBytes := List.replicate 65 0 }
    let inj : Channel := { ch with phase := 7, run := List.replicate 60 0 }
    let i := chanDev inj
    let ring : Device := { dev .run [] [(E.RING_CHANNEL 2, 0), (E.RING_RECORDS 2, 1024)] with
      channels := [ch], busMaster := true, tel := { fifos := [[], [], [[0]]], harvest := some ⟨[], []⟩ } }
    let full : Device := { ring with bk := mapOf [(E.RING_WRITTEN 2, 1024)] }
    (st d).Runs ∧ (d.channel 0).state = 1 ∧ (d.channel 0).phase = 5 ∧ (d.channel 0).use = 2 ∧ (d.channel 0).dom = none ∧
      (d.channel 0).badRun = false ∧ (d.channel 0).changing = false ∧ (d.channel 0).stopping = false ∧ d.descMalformed ch = false ∧
      d.recordsOpen ch = true ∧ descLength ch.desc ≤ (List.replicate 64 (0 : Byte)).length ∧ (desc 0 0 0).length = 32 ∧
      (chanDev { ch with phase := 2 }).channel 0 = { ch with phase := 2 } ∧ (chanDev { ch with phase := 4 }).channel 0 = { ch with phase := 4 } ∧
      (chanDev { ch with phase := 6 }).recordsOpen { ch with phase := 6 } = true ∧
      (chanDev rx).channel 0 = rx ∧ (chanDev rx).recordsOpen rx = true ∧ (chanDev rx).descMalformed rx = false ∧ rx.rxCopy = some 4 ∧
      rx.rxSent + descLength rx.desc < rx.rxBytes.length ∧ i.channel 0 = inj ∧ i.mode.forwards = true ∧
      i.intakeUsed (i.injected inj).slice + (i.injected inj).len ≤ 65536 ∧ i.sliceGated (i.injected inj).slice = false ∧
      (chanDev { ch with state := 0 }).channel 0 = { ch with state := 0 } ∧ ring.tel.fifos.getD 2 [] = [[0]] ∧ ring.busMaster = true ∧
      ring.cur (E.RING_CHANNEL 2) ≠ 0xFFFF ∧ (ring.channel (ring.cur (E.RING_CHANNEL 2))).state ≠ 5 ∧
      (full.rd (E.RING_WRITTEN 2) + 2 ^ 32 - full.rd (E.RING_CONSUMED 2)) % 2 ^ 32 = full.cur (E.RING_RECORDS 2) ∧
      (ring.rd (E.RING_WRITTEN 2) + 2 ^ 32 - ring.rd (E.RING_CONSUMED 2)) % 2 ^ 32 ≠ ring.cur (E.RING_RECORDS 2) ∧
      (let h : Device := { dev .run [] [(E.HARVEST_CHANNEL, 0)] with busMaster := true, tel := { harvest := some ⟨[], []⟩ } }
       h.tel.harvest = some ⟨[], []⟩ ∧ h.busMaster = true ∧ (h.channel (h.cur E.HARVEST_CHANNEL)).state ≠ 5 ∧
         h.writersDue.filter (· ≠ h.cur E.HARVEST_CHANNEL) = []) ∧
      ring.writersDue.filter (· ≠ ring.cur (E.RING_CHANNEL 2)) = [] ∧
      d.writersDue.filter (· ≠ 0) = [] ∧ (chanDev rx).writersDue.filter (· ≠ 0) = [] ∧
      (∀ n ∈ [8, 11], let w := chanDev { ch with phase := n, came := [1] }
        w.channelHeld (w.channel 0) = false ∧ (w.channel 0).phase = n ∧ (w.channel 0).state = 1) ∧
      (let two : Device := { dev .run [] [(E.COMPL_SLOTS 0, 16), (E.COMPL_SLOTS 1, 16)] with
         channels := [rx, { rx with c := 1 }], busMaster := true }
       0 ∈ two.writersDue ∧ 1 ∈ two.writersDue ∧ ∀ k ∈ two.writersDue, 0 ≤ k) := by decide +kernel

/-! #### The Assemblage and repair -/

theorem wit_JoinFormedAndKept :
    let d (n : Nat) : Device := dev .run [(E.JOIN_ENABLE, 1), (E.JOIN_STATE, n)] []
    let j : Device := { d 4 with join := { rxMaps := [(0, [0, 5])] } }
    let r : Device := dev .run [(E.JOIN_ENABLE, 1), (E.JOIN_STATE, 4), (E.JOIN_ROLE, 1)] []
    let m : HelloMsg := { serial := 5, stepping := (d 2).rd E.STEPPING, firmware := beBytes 32 ((d 2).rd E.FIRMWARE_DIGEST), role := 1, width := 0 }
    let block (seq : Nat) : List (Option Nat) := (List.range 16).map (fun n => some (joinWord 8 (if n = 0 then seq else 0) []))
    let x : Stripe := ⟨[(0, block 1), (5, block 1)]⟩
    let two : Stripe := ⟨[(0, block 2), (5, block 2)]⟩
    let cut : Stripe := ⟨[(0, none :: (block 1).drop 1), (5, block 1)]⟩
    (st j).Runs ∧ (dev .run [] []).rd E.JOIN_ENABLE = 0 ∧ (d 1).rd E.JOIN_STATE = 1 ∧ (d 2).rd E.JOIN_ENABLE = 1 ∧
      (d 2).rd E.JOIN_STATE = 2 ∧ (d 2).partnerFits m = true ∧ (d 2).partnerFits { m with role := 0 } = false ∧
      (d 3).rd E.JOIN_STATE = 3 ∧ (d 3).member = 0 ∧ j.joined = true ∧ (d 3).joined = false ∧ (d 3).stripesRun = true ∧
      (d 5).stripesRun = false ∧ (d 4).member = 0 ∧ r.joined = true ∧ r.member = 1 ∧ j.join.sentStripes = [] ∧
      j.stripeLanes x = [0, 5] ∧ stripeDecoded x (j.stripeLanes x) = true ∧
      stripeSide x (j.stripeLanes x) 0 = some ((j.join.rxSeq + 1) % 65536) ∧
      (∀ w ∈ stripeWords x (j.stripeLanes x), 8 ≤ wordStream w) ∧ stripeSide x (j.stripeLanes x) 3 = some 0 ∧ j.join.nak = false ∧
      stripeDecoded two (j.stripeLanes two) = true ∧ stripeSide two (j.stripeLanes two) 0 ≠ some ((j.join.rxSeq + 1) % 65536) ∧
      stripeDecoded cut (j.stripeLanes cut) = false ∧ (List.replicate 640 (0 : Byte)).length = 640 ∧
      8 ≤ ({ j with join := { naks := 8 } } : Device).join.naks ∧ j.queued = [] ∧ j.mode ≠ .joinedRun := by decide +kernel

theorem wit_PairCommit :
    let d (role : Nat) (c : CommitState) (j : Join) : Device :=
      { dev .run [(E.JOIN_STATE, 4), (E.JOIN_ROLE, role), (E.ROUND_COUNT, 16)] [] with commit := c, join := j }
    let n : Device := { d 0 .preparing {} with newDigest := [0] }
    let k : Device := { d 1 .preparing {} with newDigest := [0] }
    let w : JointWrite := ⟨.mailbox true 0 0, E.TARGET 0, [], 0⟩
    (st n).Runs ∧ n.joined = true ∧ 1 = n.rd E.VINTAGE_STAGING ∧ (d 1 .idle {}).member = 1 ∧ (d 1 .idle {}).committing = false ∧
      n.member = 0 ∧ n.commit = .preparing ∧ n.newDigest ≠ [] ∧ k.member = 1 ∧ k.newDigest ≠ [] ∧
      (d 0 .armed { armFlip := some 20 }).join.armFlip = some 20 ∧ (d 0 .armed {}).rd E.ROUND_COUNT ≤ 0 + 16 ∧
      (d 0 .armed {}).committing = true ∧ (d 1 .preparing { armFlip := some 16 }).join.armFlip = some 16 ∧
      0 + 16 ≤ (d 0 .armed {}).rd E.ROUND_COUNT ∧ (d 0 .armed { armFlip := some 20 }).join.armFlip.isSome = true ∧
      (d 0 .armed { acked := true }).join.acked = true ∧ 16 ≤ (d 1 .preparing {}).rd E.ROUND_COUNT ∧ (d 1 .preparing {}).join.go = false ∧
      n.isJoint (E.TARGET 0) = true ∧ (d 1 .idle { waitingBooks := [w] }).join.waitingBooks = w :: [] ∧ (st n).Accesses ∧ n.Quiet ∧
      Res.BUSY ≠ Res.OK ∧ memberEntry (E.LANE_STATUS 511) = true ∧ E.LANE_STATUS 511 ≠ E.IMAGE_SLOT_A ∧ E.LANE_STATUS 511 ≠ E.IMAGE_SLOT_B := by
  decide +kernel

theorem wit_RepairsInService :
    let r : Retired := ⟨1, 0, 0, 5, 0⟩
    let d : Device := { dev .run [] [] with retired := [r], mapRead := true }
    let x : ShadowDifference := ⟨0, 0, false, true⟩
    let f : Flow := { record := 5, key := [], start := 0, stop := 0, packets := 0, octets := 0, port := 0 }
    let p : Device := { dev .run [(E.AGE_ENABLE, 1)] [(E.FLOW_FIRST 0, 0), (E.FLOW_COUNT 0, 6), (E.IDLE_TIMEOUT_S 0, 15), (E.ACTIVE_TIMEOUT_S 0, 60)] with
      tel := { flows := [f], ipfixRecords := [(0, [])] }, time := { ns := 15000000000 } }
    let a : Device := { dev .run [] [] with armed := some .recovery }
    (st d).Runs ∧ d.alive = true ∧ d.mapPending = true ∧ d.newestMap.1 + 1 < 2 ^ 32 ∧ (dev .run [] []).mapPending = false ∧
      x.diePasses = true ∧ x.shadowPasses = false ∧ (dev .safeHold [] []).mode = .safeHold ∧ (dev .safeHold [] []).headers = [] ∧
      (dev .safeHold [] []).jobs = [] ∧ d.mode ≠ .safeHold ∧ d.tel.flows = [] ∧ p.tel.flows = [f] ∧
      p.flowProfile p.parity 5 = some 0 ∧ d.shadowLost = [] ∧ (p.cur (E.IDLE_TIMEOUT_S 0) * 1000000000 : Int) ≤ timeDelta p.now80 f.stop ∧
      (let q : Device := { p with time := { ns := 14999999999 } }
       timeDelta q.now80 f.stop < (q.cur (E.IDLE_TIMEOUT_S 0) * 1000000000 : Int) ∧
         timeDelta q.now80 f.start < (q.cur (E.ACTIVE_TIMEOUT_S 0) * 1000000000 : Int)) ∧
      d.tel.ipfixRecords = [] ∧ p.tel.ipfixRecords ≠ [] ∧ d.rd E.AGE_ENABLE = 0 ∧ p.rd E.AGE_ENABLE ≠ 0 ∧
      a.armed = some .recovery ∧ Mode.powersCare .recovery = true ∧ a.careLoaded = false := by decide +kernel

/-- The tests of a write, evaluated. -/
def passes (d : Device) (p : Nat) (a : Addr) (v : Nat) : Bool :=
  !d.isJoint a && !d.sealRefuses a (v = 0) && decide (d.accessCode p a true = Res.OK) &&
    (findRow a).any (fun r => decide (v < 2 ^ (8 * r.ty.size)) && decide (r.kept = 0 ∨ v &&& r.kept = v) && r.valueOk v &&
      d.ownValueOk a v && !d.writeBusy r)

theorem passes_letsThrough {d : Device} {p : Nat} {a : Addr} {v : Nat} (h : passes d p a v = true) : d.LetsThrough p a v := by
  simp only [passes, Bool.and_eq_true, Bool.not_eq_true', decide_eq_true_eq, Option.any_eq_true_iff_get] at h
  obtain ⟨⟨⟨hj, hs⟩, ha⟩, hr, ⟨⟨⟨hv, hk⟩, ho⟩, hw⟩, hb⟩ := h
  exact ⟨hj, hs, ha, _, (Option.some_get hr).symm, hv, hk, ho, hw, hb⟩

/-- Kernel mailbox 3 of a device in Run, and user mailbox 15 under a grant. -/
theorem wit_CommandsTakeEffect_senders :
    let d := dev .run [(E.GRANT_ENABLE 0, 1), (E.GRANT_TARGET 0, 1), (E.GRANT_FIRST 0, 0), (E.GRANT_PAGES 0, 16)] []
    (st d).Accesses ∧ d.takesDoorbell 3 ∧ d.takesDoorbell 19 ∧ mailboxPrincipal 3 = 0 ∧ mailboxPrincipal 19 = 1 :=
  ⟨by decide, ⟨by decide, by decide, by decide, by decide, by decide +kernel, by decide +kernel⟩,
    ⟨by decide, by decide, by decide, by decide, by decide +kernel, fun _ => by decide +kernel⟩, rfl, rfl⟩

/-- Every entry that a command names, let through for the host kernel with the other conditions of its clause. -/
theorem wit_CommandsTakeEffect :
    let d := dev .run [] []
    let c := dev .configure [] []
    let t := dev .run [] [(E.TIME_SOURCE, 1)]
    let s := dev .run [] [(E.TIME_SOURCE, 2)]
    passes d 0 (entry (0x1180 + 127) 5) 9 = true ∧ passes d 0 (E.KEY_A 15) 1 = true ∧ passes d 0 (E.KEY_B 15) 1 = true ∧
      passes c 0 E.ENABLE 1 = true ∧ c.mode = .configure ∧
      passes d 0 E.COMMIT 1 = true ∧ d.mode.forwards = true ∧ d.committing = false ∧ passes d 0 E.DISCARD_STAGING 1 = true ∧
      d.rwvBusy = false ∧ passes d 0 E.CLEAR 1 = true ∧ d.tel.clearArmed = none ∧
      passes t 0 E.TIME_STEP_NS 5 = true ∧ t.timeValid = false ∧ t.joined = false ∧ t.cur E.TIME_SOURCE = 1 ∧
      passes s 0 E.PPS_SECONDS 5 = true ∧ s.cur E.TIME_SOURCE = 2 ∧ passes d 0 E.TIME_RELEASE 1 = true ∧
      passes d 0 E.TIME_CAPTURE 1 = true ∧ passes d 0 E.GAUGE_SEAL 1 = true ∧
      (findRow (entry 0x9010 4)).any (fun r => passes d 0 (entry 0x9010 4) (valueOf r.ty true (List.replicate r.ty.size 1))) = true ∧
      passes d 0 E.POWER_CAP_W 1300 = true ∧ passes c 0 E.JOIN_ENABLE 1 = true := by decide +kernel

theorem wit_CommandsTakeEffect_modes :
    let d := dev .run [] []
    let c := dev .configure [] []
    let g := dev .diagnostic [] []
    let u : Device := { g with retired := [⟨10, 0, 0, 7, 0⟩] }
    let l : Device := { c with board := { runningLevel := 3 } }
    let x : Device := { chanDev { c := 1023, state := 0, use := 4, headWritten := true } with
      bk := mapOf [(E.DOMAIN_ENTRY 1023, E.AGED_LIST), (E.DOMAIN_LENGTH 1023, 4)] }
    passes d 0 E.RETIRE_REQUEST (10 * 2 ^ 24 + 1023) = true ∧ resourceExists 10 1023 = true ∧ d.isRetired 10 1023 = false ∧
      passes u 0 E.UNRETIRE_REQUEST (10 * 2 ^ 24 + 7) = true ∧ u.retired.any (fun r => r.kind = 10 && r.inst = 7) = true ∧
      u.mode = .diagnostic ∧ passes l 0 E.ROLLBACK_ADVANCE 1 = true ∧ l.rd E.ROLLBACK_MIN < l.board.runningLevel ∧
      passes d 0 E.MODE_REQUEST 11 = true ∧ d.mode ≠ .safeHold ∧ passes d 0 E.MODE_REQUEST 7 = true ∧
      neverRequested 7 = false ∧ d.isCurrent 7 = false ∧ d.transition 7 = some (.drain, true) ∧
      passes c 0 E.CARE_TEST_GO 1 = true ∧ passes x 0 (E.DOMAIN_ARM 1023) 1 = true ∧ (x.armDomain 0 1023).1 = Res.OK ∧
      passes d 0 (entry (0x2E00 + 17) 2) (2 ^ 16) = true ∧ (d.rd (E.BUS_STATUS 17)).testBit 0 = false := by decide +kernel

theorem wit_CommandsTakeEffect_background :
    let d := dev .run [(E.AGE_ENABLE, 1)] []
    let a : Device := { d with armed := some .recovery }
    (st d).Runs ∧ d.mode.counts = true ∧ d.rd E.AGE_ENABLE ≠ 0 ∧ a.armed = some .recovery ∧ Mode.powersCare .recovery = true ∧
      a.careLoaded = false := by decide +kernel

/-! ### WellFormed: a term that each check refuses -/

theorem wf_port : Instr.wf (.frameHeadReady 512 0 ⟨false, []⟩) = false ∧ Instr.wf (.frameHeadReady 511 0 ⟨false, []⟩) = true := by decide
theorem wf_portNumber : Instr.wf (.rxFrameEnd 0x841 ⟨[0, 0, 0, 0], 0, false, 0, false, false, none⟩) = false ∧
    Instr.wf (.rxFrameEnd 0x840 ⟨[0, 0, 0, 0], 0, false, 0, false, false, none⟩) = true := by decide
theorem wf_rxEnd : Instr.wf (.rxFrameEnd 0 ⟨[0, 0, 0], 0, false, 0, false, false, none⟩) = false := by decide
theorem wf_kernel : Instr.wf (.enable (.kernel 4 0) 1) = false ∧ Instr.wf (.enable (.kernel 3 255) 1) = true := by decide
theorem wf_user : Instr.wf (.enable (.user 16 0) 1) = false ∧ Instr.wf (.enable (.user 0 256) 1) = false := by decide
theorem wf_request : Instr.wf (.read (.mailbox true 4 0 false false 0 0 0 [])) = false ∧
    Instr.wf (.read (.mailbox false 0 0 false false (2 ^ 24) 0 0 [])) = false ∧
    Instr.wf (.write (.mailbox false 0 0 false false 0 0 0 (List.replicate 257 0))) = false := by decide +kernel
theorem wf_via : Instr.wf (.groupStatusClear (.book (.kernel 4 0)) 0 0 []) = false ∧ Instr.wf (.groupStatusClear .bar0 63 0 [(16, 0)]) = false := by decide
theorem wf_epoch : Instr.wf (.powerEpochBoundary ⟨List.replicate 11 0, 0, false⟩) = false := by decide
theorem wf_alu : Instr.wf (.aluAdd 0 ⟨4, 0, 0, false, 0⟩) = false ∧ Instr.wf (.aluAdd 0 ⟨0, 512, 0, false, 0⟩) = false ∧
    Instr.wf (.aluAdd 0 ⟨0, 0, 0, false, 512⟩) = false ∧ Instr.wf (.aluAdd 0 ⟨0, 0, 0, true, 65535⟩) = true := by decide
theorem wf_act : Instr.wf (.forward 0 ⟨32, false, 0⟩) = false ∧ Instr.wf (.forward 0 ⟨0, true, 512⟩) = false := by decide
theorem wf_hand : Instr.wf (.cellarhandMov 4 ⟨false, false, false, 0, 0, 0, false, 0, 0, 0⟩) = false ∧
    Instr.wf (.cellarhandMov 0 ⟨false, false, false, 16, 0, 0, false, 0, 0, 0⟩) = false ∧
    Instr.wf (.br 0 ⟨false, false, false, 0, 0, 0, false, 0, 8192, 0⟩) = false := by decide
theorem wf_factory : Instr.wf (.factoryOperation 0 (.restore 4 0) false) = false := by decide
theorem wf_window : Instr.wf (.adaptWindow 0 ⟨[], [4]⟩) = false ∧ Instr.wf (.adaptWindow 512 ⟨[], []⟩) = false := by decide
theorem wf_messages : Instr.wf (.hello ⟨0, 0, [], 0, 0⟩) = false ∧ Instr.wf (.map ⟨0, [256]⟩) = false ∧
    Instr.wf (.pacePlan ⟨0, 8, 0⟩) = false ∧ Instr.wf (.book (.request (2 ^ 24) [] 0)) = false ∧
    Instr.wf (.stripeReceived ⟨[(0, [none])]⟩) = false ∧ Instr.wf (.stripeReceived ⟨[(256, List.replicate 16 none)]⟩) = false ∧
    Instr.wf (.stripeReceived ⟨[(255, List.replicate 16 none)]⟩) = true := by decide +kernel
theorem wf_boot : Instr.wf (.bootPhaseEnd ⟨[(256, 0)], none, false, 0, false, false, (0, 0), false⟩) = false := by decide
theorem wf_bar : Instr.wf (.registerWrite 1 0 4 0) = false ∧ Instr.wf (.hostBadWrite 2 0 257 0) = false := by decide
theorem wf_numbers : Instr.wf (.searchLaunch 0 256 0) = false ∧ Instr.wf (.searchResult 0 4 ⟨.none, 0⟩) = false ∧
    Instr.wf (.pfcRefresh 0 8) = false ∧ Instr.wf (.laneSleep 0 true 3) = false ∧ Instr.wf (.bridgeCheckWord 8 0 0 []) = false ∧
    Instr.wf (.keyWrite .tendril 16 false []) = false ∧ Instr.wf (.grantWrite .tendril 128 1 0) = false ∧
    Instr.wf (.ring 1024 0) = false ∧ Instr.wf (.exportItem 3 false) = false ∧ Instr.wf (.rclkResume 2) = false ∧
    Instr.wf (.rackReturn .none 64) = false ∧ Instr.wf (.replicationJobStart 32) = false := by decide

/-! ### Checksums against published vectors -/

/-- "123456789". -/
def digits : List Byte := [0x31, 0x32, 0x33, 0x34, 0x35, 0x36, 0x37, 0x38, 0x39]

/-- The check values of CRC-32, CRC-32C and CRC-16/CCITT-FALSE. -/
theorem test_crcs : crc32eth digits = 0xCBF43926 ∧ crc32c digits = 0xE3069283 ∧ crc16 0x1021 0xFFFF digits = 0x29B1 := by decide +kernel

/-- SHA-256 of "abc" (FIPS 180-4). -/
theorem test_sha256 : beNat (sha256 [0x61, 0x62, 0x63]) = 0xBA7816BF8F01CFEA414140DE5DAE2223B00361A396177A9CB410FF61F20015AD := by
  decide +kernel

/-! ### Single commands -/

/-- What a command leaves, as far as `f` reads it. -/
def after {α : Type} (c : Instr) (d : Device) (f : Device → α) : Option α :=
  match exec c (st d) with
  | .next t => some (f t.dev)
  | .fault _ => none
  | .refused _ => none

/-- The first header's operand of `n` bytes at `a`. -/
def opAt (n a : Nat) (d : Device) : Nat := match d.headers with | x :: _ => x.p.operand n a | [] => 0

/-- The first header's predicates. -/
def predsOf (d : Device) : Nat := match d.headers with | x :: _ => x.p.preds | [] => 0

/-- A device whose header's HV begins with some bytes. -/
def hvDev (bs : List Byte) : Device := run1 { hd with p := { hv := bs } }

/-- 0xFFFF + 1 wraps in two bytes (Table 8.3). -/
theorem test_add_wraps : after (.aluAdd 1 ⟨1, 10, 0, true, 1⟩) (hvDev [0xFF, 0xFF]) (opAt 2 10) = some 0 := by decide +kernel
/-- The end-around carry of OSUM: 0xFFFF + 1 is 1. -/
theorem test_osum_carry : after (.osum 1 ⟨1, 10, 0, true, 1⟩) (hvDev [0xFF, 0xFF]) (opAt 2 10) = some 1 := by decide +kernel
/-- SHL by the width plus 1 shifts by 1. -/
theorem test_shl_amount : after (.aluShl 1 ⟨0, 10, 0, true, 9⟩) (hvDev [0x81]) (opAt 1 10) = some 2 := by decide +kernel
theorem test_sub_source_is_destination : after (.aluSub 1 ⟨0, 0, 0, false, 0⟩) (hvDev [5]) (opAt 1 0) = some 0 := by decide +kernel
/-- MD byte 0 is not writable (R195). -/
theorem test_mov_protected : after (.aluMov 1 ⟨0, 384, 0, true, 7⟩) (hvDev []) (opAt 1 384) = some 0 := by decide +kernel
theorem test_tbit : after (.tbit 1 ⟨0, 7, 0, true, 15⟩) (hvDev [0x80]) predsOf = some 0x80 := by decide +kernel
theorem test_cltu_equal : after (.cltu 1 ⟨0, 0, 0, true, 5⟩) (hvDev [5]) predsOf = some 0 ∧
    after (.cgeu 1 ⟨0, 0, 0, true, 5⟩) (hvDev [5]) predsOf = some 1 := by decide +kernel

/-- FORWARD to a number that is no port is BAD_PORT (R198). -/
theorem test_forward_bad_port : after (.forward 1 ⟨1, false, 5⟩) (run1 hd) (fun d => d.headers.map (fun x => x.p.disp)) = some [.badPort] ∧
    after (.forward 1 ⟨1, false, 0x6003⟩) (withHeader hd (portDev 1 [])) (fun d => d.headers.map (fun x => x.p.disp)) = some [.forward 3 6] := by
  decide +kernel
/-- A TRAP reason below 16 counts as 16 (R198). -/
theorem test_trap_reason : after (.trap 1 ⟨1, false, 3⟩) (run1 hd) (fun d => d.headers.map (fun x => x.p.disp)) = some [.trap 16 false] := by
  decide +kernel
/-- COUNT with BYTES: the frame and its 64 bytes. -/
theorem test_count_bytes : after (.count 1 ⟨1, false, 2097152 + 6⟩) (run1 hd) (fun d => (d.counter 6, d.counter 7)) = some (1, 64) := by
  decide +kernel

/-- SUB wraps in 64 bits; CMP sets C where A is below B (Table 8.6). -/
theorem test_hand : after (.cellarhandSub 0 (hw 3 1 2 (some 1))) (dev .run [] []) (fun d => (d.context 0).reg 3) = some (2 ^ 64 - 1) ∧
    after (.cmp 0 (hw 0 1 0 (some 1))) (dev .run [] []) (fun d => ((d.context 0).z, (d.context 0).c)) = some (false, true) := by
  decide +kernel
/-- A 65th record aborts with cause 2 (R210, R216). -/
theorem test_journal_full :
    after (.wrcnt 3 (hw 0 0 0 none)) { dev .run [] [] with ctx := [{}, {}, {}, { journal := List.replicate 64 (.append 0) }] }
      (fun d => (d.rd E.BG_LAST_ABORT % 256, (d.context 3).journal)) = some (2, []) := by decide +kernel
/-- A context sees its own journaled counter; a commit shows it to all (R213, R214). -/
theorem test_journal :
    after (.journalCommit 0) { dev .run [] [] with ctx := [{ journal := [.counter 9 5] }, {}, {}, {}] } (fun d => d.counter 9) = some 5 := by
  decide +kernel

/-- OCC stops at 255 and sets SATURATED (R441); a W1C leaves OCC alone (R442). -/
theorem test_events :
    let d := dev .run [(E.SOURCE_OCC 0 1, 255)] []
    ((d.raiseState 1 7).rd (E.SOURCE_OCC 0 1), (d.raiseState 1 7).rd (E.GROUP_STATUS 0)) = (511, 2) ∧
      after (.groupStatusClear .bar0 0 2 []) (d.raiseState 1 7) (fun d => (d.rd (E.GROUP_STATUS 0), d.rd (E.SOURCE_OCC 0 1))) = some (0, 511) := by
  decide +kernel

/-- A READ of MODE_STATE through kernel mailbox 0: OK, one byte, 5 for Run (R69, Table 1.7). -/
theorem test_mailbox_read :
    after (.read (.mailbox true 0 9 false false E.MODE_STATE 0 0 [])) (dev .run [(E.MODE_STATE, 5)] [])
      (fun d => (d.bar (mailboxPage 0 + 0x14) % 65536, d.bar (mailboxPage 0 + 0x14) / 65536, d.bar (mailboxPage 0 + 0x18), d.bar (mailboxPage 0 + 0x200)))
      = some (2 + 9 * 256, Res.OK, 1, 5) := by decide +kernel
/-- A write of a read-only entry is refused with ACCESS (R491). -/
theorem test_mailbox_write_ro :
    after (.write (.mailbox true 0 0 false false E.MODE_STATE 1 0 [0])) (dev .run [] []) (fun d => d.bar (mailboxPage 0 + 0x14) / 65536)
      = some Res.ACCESS := by decide +kernel
/-- COMMIT in Drain: Refused, with reason 0x0101 and the mode as detail (R53). -/
theorem test_commit_refused :
    after (.commit (.kernel 0 0) 1) (dev .drain [] []) (fun d => (d.commit, d.rd E.CHECK_REASON, d.rd E.CHECK_DETAIL)) = some (.refused, 0x0101, 7) := by
  decide +kernel
/-- A Tendril READ is answered once; the same frame again is dropped and counted (R85). -/
theorem test_tendril_replay :
    after (.read .tendril) { tendrilDev [(E.RX_SEQ_A 0, 5)] with tendrilQueue := [frame 5], ctrlSeq := [{ seenA := 1 }] }
      (fun d => (d.rd E.REPLAY_DROPS, d.tendrilQueue)) = some (1, []) := by decide +kernel
/-- A write into BAR2 is discarded and counted (R67). -/
theorem test_bad_write : after (.hostBadWrite 2 0 4 0) (dev .run [] []) (fun d => d.bar HOST_BAD_WRITES) = some 1 := by decide +kernel
/-- RING of a parked channel makes it walk (R381). -/
theorem test_ring : after (.ring 0 0) (chanDev { c := 0, state := 2, use := 2 }) (fun d => (d.channel 0).state) = some 1 := by decide +kernel
/-- A frame that is too long counts as OVERSIZE on its port (R122). -/
theorem test_oversize :
    after (.rxFrameEnd 3 (goodFrame 70)) { portDev 1 [] with p0 := SMap.ins (portDev 1 []).p0 (E.PORT_MTU 3) 69 }
      (fun d => d.rd (classCounter 3 Reason.OVERSIZE)) = some 1 := by decide +kernel
/-- A round of 1,024 slots ends, and ROUND_COUNT counts (R22). -/
theorem test_hbm : after (.hbmThrottleOn 96) (dev .run [] [(E.HBM_THROTTLE_C, 95)]) (fun d => d.rdBit E.POWER_STATE 12) = some true := by
  decide +kernel
/-- 0.72 V in the linear format with the exponent -12: 0.72 * 4096 (R478). -/
theorem test_vout : voutWord 0x14 720 0 = 2949 := by decide
/-- IDCODE's bit 0 is 1 (R487). -/
theorem test_idcode (d : Device) : d.idcode % 2 = 1 := by unfold Device.idcode; omega
theorem test_retirement_map : after (.retirementMapWrite false) { dev .run [] [] with retired := [⟨1, 0, 0, 5, 0⟩], mapRead := true }
    (fun d => (d.rd E.MAP_SEQUENCE, d.newestMap.2.length)) = some (1, 1) := by decide +kernel
/-- Safe-Hold from Run by an undervoltage, with its cause and rail (Table 18.7). -/
theorem test_undervoltage : after (.supplyUndervoltage 3) (dev .run [] []) (fun d => (d.mode, d.flashCause))
    = some (.safeHold, 4) := by decide +kernel
theorem test_trip : after .hardwareTrip (dev .run [] []) (fun d => d.board.tripped) = some true := by decide +kernel
/-- A lost PPS_IN enters holdover (R312). -/
theorem test_ref_loss : after .ref10mLoss (dev .run [(E.TIME_CLOCK, 1), (E.TIME_STATUS, 8)] []) (fun d => d.rd E.TIME_STATUS) = some 2 := by
  decide +kernel

end Sys2Proof.Tests
end

section
/-! SUPPORT. The tests of a write in the order of R491: the code that each leaves, what a write that passes them all does, and
what a pair adds to it. -/

namespace Sys2Proof.Machine

open Sys2Proof

/-- The value that a write of the entry keeps: reserved bits are dropped (R6). -/
def Row.keptValue (r : Row) (n : Nat) : Nat := if r.kept = 0 then n else n &&& r.kept

section
variable {d : Device} {p a : Nat} {r : Row}

/-! ### Access (R8, R491) -/

theorem accessCode_of_readOnly (hr : findRow a = some r) (h : r.acc = .ro) : d.accessCode p a true = Res.ACCESS := by
  simp [Device.accessCode, hr, h]

theorem accessCode_of_configOnly (hr : findRow a = some r) (h : r.acc = .rwc) (hconf : d.mode ≠ .configure) (hcheck : d.mode ≠ .check) :
    d.accessCode p a true = Res.ACCESS := by
  simp [Device.accessCode, hr, h, hconf, hcheck]

/-- ACCESS is judged before PRINCIPAL. -/
theorem accessCode_of_not_permits (hr : findRow a = some r) (h : d.accessCode p a true ≠ Res.ACCESS) (hp : d.permits p a true = false) :
    d.accessCode p a true = Res.PRINCIPAL := by
  simp only [Device.accessCode, hr, hp] at h ⊢
  split at h
  · exact absurd rfl h
  · next hacc => exact if_neg hacc

/-! ### The tests before the value -/

section
variable {data : List Byte}

theorem writeCode_of_sealRefuses (hs : d.sealRefuses a (data = [0]) = true) : d.writeCode p a data = Res.SEALED := if_pos hs

theorem writeCode_of_accessCode_ne (hs : d.sealRefuses a (data = [0]) = false) (hacc : d.accessCode p a true ≠ Res.OK) :
    d.writeCode p a data = d.accessCode p a true := by
  simp only [Device.writeCode, hs, Bool.false_eq_true, if_false, if_pos hacc]

/-- What the length and the type leave of a write whose access is permitted. -/
theorem writeCode_of_accessCode_ok (hr : findRow a = some r) (hs : d.sealRefuses a (data = [0]) = false)
    (hacc : d.accessCode p a true = Res.OK) :
    d.writeCode p a data = if r.ty = .domain ∨ r.ty.size ≠ data.length then Res.TYPE_LENGTH else Res.OK := by
  simp only [Device.writeCode, hs, hacc, hr, Bool.false_eq_true, if_false, ne_eq, not_true_eq_false]

theorem writeEntry_of_writeCode_ne {little : Bool} {reply : Reply} (hc : d.writeCode p a data ≠ Res.OK) :
    d.writeEntry p a little data reply = (d.writeCode p a data, d) := by
  simp [Device.writeEntry, hc]

theorem writeEntry_of_writeCode_ok {little : Bool} {reply : Reply} (hr : findRow a = some r) (hc : d.writeCode p a data = Res.OK) :
    d.writeEntry p a little data reply = d.jointWrite p a (valueOf r.ty little data) reply := by
  simp [Device.writeEntry, hc, hr]

end

/-! ### VALUE, BUSY, and the effect -/

section
variable {n : Nat}

theorem bookWrite_of_value_refused (hr : findRow a = some r)
    (hv : r.valueOk (r.keptValue n) = false ∨ d.ownValueOk a (r.keptValue n) = false) : d.bookWrite p a n = (Res.VALUE, d) := by
  unfold Row.keptValue at hv
  rcases hv with hv | hv <;> simp [Device.bookWrite, hr, hv]

theorem bookWrite_of_busy (hr : findRow a = some r) (hv : r.valueOk (r.keptValue n) = true)
    (ho : d.ownValueOk a (r.keptValue n) = true) (hb : d.writeBusy r = true) : d.bookWrite p a n = (Res.BUSY, d) := by
  unfold Row.keptValue at hv ho
  simp [Device.bookWrite, hr, hv, ho, hb]

/-- What passes every test takes the effect of its own entry, or else the effect of a plain one. -/
theorem bookWrite_of_passes (hr : findRow a = some r) (hv : r.valueOk (r.keptValue n) = true)
    (ho : d.ownValueOk a (r.keptValue n) = true) (hb : d.writeBusy r = false) :
    d.bookWrite p a n =
      (d.requestEffect p a (r.keptValue n)).getD (Res.OK, d.plainEffect r a (r.keptValue n)) := by
  unfold Row.keptValue at hv ho ⊢
  simp only [Device.bookWrite, hr, hv, ho, hb]
  cases d.requestEffect p a (if r.kept = 0 then n else n &&& r.kept) <;> rfl

end

/-! ### What a pair adds (R429, R430) -/

theorem noticeEntry_of_not_joined (h : d.joined = false) : d.noticeEntry a = d := by simp [Device.noticeEntry, h]

theorem isJoint_of_not_joined (h : d.joined = false) : d.isJoint a = false := by simp [Device.isJoint, h]

section
variable {n : Nat} {reply : Reply} (hj : d.isJoint a = false)
include hj

theorem jointWrite_of_refused (h : (d.bookWrite p a n).1 ≠ Res.OK) : d.jointWrite p a n reply = d.bookWrite p a n := by
  simp [Device.jointWrite, hj, h]

/-- A member entry's new value is told. -/
theorem jointWrite_of_applied (h : (d.bookWrite p a n).1 = Res.OK) (hj' : (d.bookWrite p a n).2.isJoint a = false) :
    d.jointWrite p a n reply = (Res.OK, (d.bookWrite p a n).2.noticeEntry a) := by
  simp [Device.jointWrite, hj, h, hj']

theorem jointWrite_of_not_joined (h : (d.bookWrite p a n).2.joined = false) : d.jointWrite p a n reply = d.bookWrite p a n := by
  by_cases hok : (d.bookWrite p a n).1 = Res.OK
  · rw [jointWrite_of_applied hj hok (isJoint_of_not_joined h), noticeEntry_of_not_joined h, ← hok]
  · exact jointWrite_of_refused hj hok

end

end

/-- Settles O44: the tests are met one after the other in R491's order, each with the ones before it passed. -/
theorem writeRefusals : Obligations.WriteRefusals := by
  intro d p a r data reply little hr hj w n v acc
  have refused {c : Nat} (hc : d.writeCode p a data = c) (hne : c ≠ Res.OK) : w = (c, d) := by
    subst hc
    exact writeEntry_of_writeCode_ne hne
  refine ⟨fun hs => refused (writeCode_of_sealRefuses hs) (by decide),
    fun hs hacc => refused (writeCode_of_accessCode_ne hs hacc) hacc,
    accessCode_of_readOnly hr, accessCode_of_configOnly hr, accessCode_of_not_permits hr, ?typeLength, ?judged⟩
  case typeLength =>
    intro hs hacc hty
    exact refused ((writeCode_of_accessCode_ok hr hs hacc).trans (if_pos hty)) (by decide)
  case judged =>
    intro hs hacc hty hlen
    have hcode : d.writeCode p a data = Res.OK := (writeCode_of_accessCode_ok hr hs hacc).trans (if_neg (by simp [hty, hlen]))
    have hw : w = d.jointWrite p a n reply := writeEntry_of_writeCode_ok hr hcode
    have hrefused {c : Nat} (hx : d.bookWrite p a n = (c, d)) (hne : c ≠ Res.OK) : w = (c, d) := by
      rw [hw, jointWrite_of_refused hj (by rw [hx]; exact hne), hx]
    refine ⟨fun hv => hrefused (bookWrite_of_value_refused hr hv) (by decide),
      fun hv ho hb => hrefused (bookWrite_of_busy hr hv ho hb) (by decide), fun hv ho hb => ?_⟩
    have hx : d.bookWrite p a n = (d.requestEffect p a v).getD (Res.OK, d.plainEffect r a v) := bookWrite_of_passes hr hv ho hb
    refine ⟨fun y hy => by simp [hx, hy], fun hnone => by simp [hx, hnone], ?_,
      fun hok hj' => hw.trans (jointWrite_of_applied hj hok hj')⟩
    rintro (hne | hout)
    · exact hw.trans (jointWrite_of_refused hj hne)
    · exact hw.trans (jointWrite_of_not_joined hj hout)

end Sys2Proof.Machine
end

section
/-! SUPPORT. What a raise of an event leaves of the entries, and what the passing of time changes. -/

namespace Sys2Proof.Machine

open Sys2Proof

/-! ### What a raise leaves of the entries (R441) -/

theorem Device.rd_of_bk_eq {d e : Device} (h : e.bk = d.bk) (a : Addr) : e.rd a = d.rd a := by simp only [Device.rd, h]

theorem Device.bk_sendMsix (d : Device) (v : Nat) : (d.sendMsix v).bk = d.bk := by
  unfold Device.sendMsix; dsimp only; split <;> rfl

theorem Device.bk_deliver (d : Device) (g : Nat) : (d.deliver g).bk = d.bk := by
  unfold Device.deliver; dsimp only; split
  · exact Device.bk_sendMsix _ _
  · rfl

theorem Device.bk_insertOwn (d : Device) (p : Nat) : (d.insertOwn p).bk = d.bk := by
  unfold Device.insertOwn; split
  · rfl
  · split <;> rfl

theorem Device.bk_originate (d : Device) (c op : Nat) (bs : List Byte) : (d.originate c op bs).bk = d.bk := by
  unfold Device.originate; dsimp only; split
  · rfl
  · split
    · exact Device.bk_insertOwn _ _
    · split <;> rfl

theorem Device.bk_eventTo (d : Device) (n c : Nat) : (d.eventTo n c).bk = d.bk := by
  unfold Device.eventTo; split
  · split
    · split
      · rfl
      · exact Device.bk_originate _ _ _ _
    · exact Device.bk_originate _ _ _ _
  · rfl

theorem Device.bk_eventFrames (d : Device) (n : Nat) : (d.eventFrames n).bk = d.bk := by
  unfold Device.eventFrames
  generalize List.range 16 = cs
  induction cs generalizing d with
  | nil => rfl
  | cons c t ih => exact (ih _).trans (Device.bk_eventTo d n c)

theorem ne_entry_of_below {a : Addr} {i k : Nat} (h : a < 0xC10000) (hi : 0xC100 ≤ i) : a ≠ entry i k :=
  Nat.ne_of_lt (Nat.lt_of_lt_of_le h (by unfold entry; omega))

theorem Device.rd_writeDetail_below (d : Device) (n v : Nat) {a : Addr} (h : a < 0xC10000) : (d.writeDetail n v).rd a = d.rd a := by
  unfold Device.writeDetail; split
  · exact Device.rd_wr_ne d _ _ _ (ne_entry_of_below h (by omega))
  · rfl

theorem Device.rd_marks (d : Device) (t v r : SMap) (a : Addr) :
    ({ d with raiseTime := t, raiseValid := v, raiseRound := r } : Device).rd a = d.rd a := rfl

/-- The registers of the event sources begin at index 0xC100. -/
theorem Device.rd_raiseState_below (d : Device) (n v : Nat) {a : Addr} (h : a < 0xC10000) : (d.raiseState n v).rd a = d.rd a := by
  have hs : a ≠ E.GROUP_STATUS (n / 16) := ne_entry_of_below h (by omega)
  have ho : a ≠ E.SOURCE_OCC (n / 16) (n % 16) := ne_entry_of_below h (by omega)
  have hr : a ≠ E.SOURCE_RAISES (n / 16) (n % 16) := ne_entry_of_below h (by omega)
  unfold Device.raiseState
  dsimp only
  rw [Device.rd_marks, Device.rd_writeDetail_below _ _ _ h, Device.rd_bump, if_neg hr, Device.rd_wr_ne _ _ _ _ ho,
    Device.rd_wr_ne _ _ _ _ hs]

theorem Device.rd_raise_below (d : Device) (n v : Nat) {a : Addr} (h : a < 0xC10000) : (d.raise n v).rd a = d.rd a := by
  unfold Device.raise; split
  · dsimp only
    rw [Device.rd_of_bk_eq (Device.bk_eventFrames _ _)]
    split
    · rw [Device.rd_of_bk_eq (Device.bk_deliver _ _), Device.rd_raiseState_below _ _ _ h]
    · exact Device.rd_raiseState_below _ _ _ h
  · rfl

/-! ### What neither an event nor the time clock touches -/

/-- No header, frame, cell or queued copy moves, and the mode stays. -/
structure Device.Still (d e : Device) : Prop where
  mode : e.mode = d.mode
  resetHold : e.resetHold = d.resetHold
  headers : e.headers = d.headers
  frames : e.frames = d.frames
  cells : e.cells = d.cells
  queued : e.queued = d.queued

/-- The slot clock, power, the Gauge and the join stay as well. -/
structure Device.Untouched (d e : Device) : Prop extends Device.Still d e where
  clk : e.clk = d.clk
  pow : e.pow = d.pow
  gauge : e.gauge = d.gauge
  join : e.join = d.join

theorem Device.Still.trans {a b c : Device} (h : a.Still b) (g : b.Still c) : a.Still c where
  mode := g.mode.trans h.mode
  resetHold := g.resetHold.trans h.resetHold
  headers := g.headers.trans h.headers
  frames := g.frames.trans h.frames
  cells := g.cells.trans h.cells
  queued := g.queued.trans h.queued

theorem Device.Untouched.trans {a b c : Device} (h : a.Untouched b) (g : b.Untouched c) : a.Untouched c where
  toStill := h.toStill.trans g.toStill
  clk := g.clk.trans h.clk
  pow := g.pow.trans h.pow
  gauge := g.gauge.trans h.gauge
  join := g.join.trans h.join

theorem Device.Untouched.refl (d : Device) : d.Untouched d := ⟨⟨rfl, rfl, rfl, rfl, rfl, rfl⟩, rfl, rfl, rfl, rfl⟩

theorem Device.untouched_wr (d : Device) (a v : Nat) : d.Untouched (d.wr a v) :=
  ⟨⟨rfl, rfl, rfl, rfl, rfl, rfl⟩, rfl, rfl, rfl, rfl⟩

theorem Device.untouched_raise (d : Device) (n v : Nat) : d.Untouched (d.raise n v) := by
  have h := Device.eventOnly_raise d n v
  unfold Device.EventOnly at h
  exact ⟨⟨(congrArg Device.mode h :), (congrArg Device.resetHold h :), (congrArg Device.headers h :), (congrArg Device.frames h :),
    (congrArg Device.cells h :), (congrArg Device.queued h :)⟩, (congrArg Device.clk h :), (congrArg Device.pow h :),
    (congrArg Device.gauge h :), (congrArg Device.join h :)⟩

/-! ### Time passes (R307) -/

theorem Device.untouched_time (d : Device) (t : DevTime) : d.Untouched { d with time := t } :=
  ⟨⟨rfl, rfl, rfl, rfl, rfl, rfl⟩, rfl, rfl, rfl, rfl⟩

theorem Device.untouched_tapLink (d : Device) (t : TapLink) : d.Untouched { d with tapLink := t } :=
  ⟨⟨rfl, rfl, rfl, rfl, rfl, rfl⟩, rfl, rfl, rfl, rfl⟩

theorem Device.untouched_timeSet (d : Device) : d.Untouched d.timeSet :=
  (((d.untouched_tapLink _).trans (Device.untouched_wr _ _ _)).trans (Device.untouched_wr _ _ _)).trans (Device.untouched_raise _ _ _)

theorem Device.untouched_applyStep (d : Device) : d.Untouched d.applyStep := by
  unfold Device.applyStep; split
  · exact (d.untouched_time _).trans (Device.untouched_timeSet _)
  · exact .refl d

theorem Device.untouched_passTime (d : Device) (ps : Nat) : d.Untouched (d.passTime ps) := by
  unfold Device.passTime; dsimp only; split
  · exact d.untouched_time _
  · exact d.untouched_applyStep.trans (Device.untouched_time _ _)

theorem Device.rd_time (d : Device) (t : DevTime) (a : Addr) : ({ d with time := t } : Device).rd a = d.rd a := rfl

theorem Device.rd_tapLink (d : Device) (t : TapLink) (a : Addr) : ({ d with tapLink := t } : Device).rd a = d.rd a := rfl

/-- A step that takes effect writes TIME_STATUS and STEP_COUNT, and raises an event (R309). -/
theorem Device.rd_timeSet (d : Device) {a : Addr} (h : a < 0xC10000) (hs : a ≠ E.TIME_STATUS) (hc : a ≠ E.STEP_COUNT) :
    d.timeSet.rd a = d.rd a := by
  unfold Device.timeSet Device.wrBit Device.wrBits
  rw [Device.rd_raise_below _ _ _ h, Device.rd_bumpSat, if_neg hc, Device.rd_wr_ne _ _ _ _ hs, Device.rd_tapLink]

theorem Device.rd_applyStep (d : Device) {a : Addr} (h : a < 0xC10000) (hs : a ≠ E.TIME_STATUS) (hc : a ≠ E.STEP_COUNT) :
    d.applyStep.rd a = d.rd a := by
  unfold Device.applyStep; split
  · exact (Device.rd_timeSet _ h hs hc).trans (d.rd_time _ a)
  · rfl

theorem Device.rd_passTime (d : Device) (ps : Nat) {a : Addr} (h : a < 0xC10000) (hs : a ≠ E.TIME_STATUS)
    (hc : a ≠ E.STEP_COUNT) : (d.passTime ps).rd a = d.rd a := by
  unfold Device.passTime; dsimp only; split
  · exact d.rd_time _ a
  · exact (Device.rd_time _ _ a).trans (d.rd_applyStep h hs hc)

theorem Device.rd_passPeriod (d : Device) {a : Addr} (h : a < 0xC10000) (hs : a ≠ E.TIME_STATUS) (hc : a ≠ E.STEP_COUNT) :
    d.passPeriod.rd a = d.rd a :=
  Device.rd_passTime _ _ h hs hc

theorem Device.applyStep_of_none {d : Device} (h : d.time.stepPending = none) : d.applyStep = d := by
  simp only [Device.applyStep, h]

/-- Without a step that waits, no entry changes. -/
theorem Device.bk_passTime_of_no_step {d : Device} (h : d.time.stepPending = none) (ps : Nat) : (d.passTime ps).bk = d.bk := by
  unfold Device.passTime; dsimp only; split
  · rfl
  · rw [Device.applyStep_of_none h]

theorem Device.time_passTime_of_no_tick {d : Device} {ps : Nat} (h : (d.time.restPs + ps) / 1250 = 0) :
    (d.passTime ps).time = { d.time with restPs := d.time.restPs + ps } := by
  simp only [Device.passTime, h, if_true]

/-- Whole ticks of 1.25 ns carry device time on by what each gains. -/
theorem Device.time_passTime_of_ticks {d : Device} {ps : Nat} (hs : d.time.stepPending = none)
    (h : (d.time.restPs + ps) / 1250 ≠ 0) :
    let t := (d.passTime ps).time
    let gained := d.time.frac + (d.time.restPs + ps) / 1250 * d.tickGain
    t.restPs = (d.time.restPs + ps) % 1250 ∧ t.ns = (d.time.ns + gained / 2 ^ 42) % timeSpan ∧ t.frac = gained % 2 ^ 42 := by
  simp only [Device.passTime, h, if_false, Device.applyStep_of_none hs, and_self]

/-- A clock period has passed for the slot clock, for power and for the Gauge; device time follows. -/
def Device.clockPeriod (d : Device) : Device :=
  { d with clk := { d.clk with nowPs := d.clk.nowPs + d.rd E.SLOT_PERIOD_PS }
           pow := { d.pow with epochPs := d.pow.epochPs + d.rd E.SLOT_PERIOD_PS }
           gauge := d.gauge.pass (d.rd E.SLOT_PERIOD_PS) }

theorem Device.passPeriod_eq (d : Device) : d.passPeriod = d.clockPeriod.passTime (d.rd E.SLOT_PERIOD_PS) := rfl

theorem Device.still_clockPeriod (d : Device) : d.Still d.clockPeriod := ⟨rfl, rfl, rfl, rfl, rfl, rfl⟩

theorem Device.untouched_passPeriod (d : Device) : d.clockPeriod.Untouched d.passPeriod := by
  rw [d.passPeriod_eq]
  exact Device.untouched_passTime _ _

theorem Device.still_passPeriod (d : Device) : d.Still d.passPeriod := d.still_clockPeriod.trans d.untouched_passPeriod.toStill

end Sys2Proof.Machine
end

section
/-! SUPPORT. Counted slots, skip slots and the round boundary: the order of the work, what one skip slot changes, and that those due
leave none due. -/

namespace Sys2Proof.Machine

open Sys2Proof

/-! ### Counted slots (R17, R22) -/

theorem Device.settleReset_of_not_held {d : Device} (h : d.resetHold = false) : d.settleReset = d := by
  simp [Device.settleReset, h]

theorem Device.countedSlot_of_counts {d : Device} (hc : d.mode.counts = true) (hs : d.clk.slot < 1024) (faults : List SlotFault) :
    d.countedSlot faults = d.passSkips.advanceSlot faults := by
  simp [Device.countedSlot, Device.alive, hc, Nat.not_le.mpr hs]

theorem Device.countedSlot_of_not {d : Device} (h : d.mode.counts = false ∨ 1024 ≤ d.clk.slot) (faults : List SlotFault) :
    d.countedSlot faults = d := by
  rcases h with h | h <;> simp [Device.countedSlot, Device.alive, h]

theorem exec_countedSlot {s : State} (hr : s.Runs) (faults : List SlotFault) :
    exec (.countedSlot faults) s = .next (s.put (s.dev.countedSlot faults).settleReset) := on_runs s _ hr

/-- Settles O20: the slot's work in its order (log entry 36) behind the skip slots that are due (log entry 69), and the clock
period by what each part of it changes. -/
theorem countedSlotCounts : Obligations.CountedSlotCounts := by
  unfold Obligations.CountedSlotCounts
  refine ⟨fun s faults hr hheld => ⟨fun hc hs => ?counted, fun hidle => ?idle⟩, fun d hstep => ?period⟩
  case counted =>
    rw [exec_countedSlot hr, Device.countedSlot_of_counts hc hs, Device.advanceSlot, Device.countSlot]
  case idle =>
    rw [exec_countedSlot hr, Device.countedSlot_of_not hidle, Device.settleReset_of_not_held hheld, put_dev s hr.2]
  case period =>
    have hu := d.untouched_passPeriod
    exact ⟨hu.clk, hu.gauge, Device.bk_passTime_of_no_step (d := d.clockPeriod) hstep _, hu.headers,
      Device.time_passTime_of_no_tick (d := d.clockPeriod), Device.time_passTime_of_ticks (d := d.clockPeriod) hstep⟩

/-! ### What a skip slot is made of -/

/-- A planned skip slot, where one is due. -/
def Device.planSkip (d : Device) : Device := if d.skipDue then d.takePlanned else d

/-- A droop skip slot, where one is still to come. -/
def Device.droopSkip (d : Device) : Device := if 0 < d.pow.droopLeft then d.takeDroop else d

/-- The skip slot is counted, and taken from the partner's burst. -/
def Device.countSkip (d : Device) : Device :=
  let d : Device := { d with join := { d.join with burstLeft := d.join.burstLeft - 1 } }
  ({ d with clk := { d.clk with skips := d.clk.skips + 1 }, pow := { d.pow with skips := d.pow.skips + 1 } } : Device).bump64
    E.SKIP_COUNT 1

theorem Device.skipDue_iff (d : Device) : d.skipDue = true ↔ d.clk.planned < skipQuota d.plannedSkips d.clk.slot := by
  simp [Device.skipDue]

/-- A skip slot is due for droop, for the partner's burst or for the plan (R406). -/
theorem Device.skipsDue_pos_iff (d : Device) :
    0 < d.skipsDue ↔ 0 < d.pow.droopLeft ∨ 0 < d.join.burstLeft ∨ d.skipDue = true := by
  rw [Device.skipDue_iff, Device.skipsDue]; omega

theorem Device.untouched_planSkip (d : Device) :
    ({ d with clk := { d.clk with planned := d.clk.planned + d.skipDue.toNat } } : Device).Untouched d.planSkip := by
  unfold Device.planSkip
  cases d.skipDue with
  | false => exact .refl d
  | true =>
    simp only [if_true, Device.takePlanned]
    split
    · exact Device.untouched_wr _ _ _
    · exact .refl _

theorem Device.still_planSkip (d : Device) : d.Still d.planSkip :=
  have h := d.untouched_planSkip
  ⟨h.mode, h.resetHold, h.headers, h.frames, h.cells, h.queued⟩

theorem Device.rd_planSkip (d : Device) {a : Addr} (h : a ≠ E.CAP_SKIPS) : d.planSkip.rd a = d.rd a := by
  unfold Device.planSkip; split
  · unfold Device.takePlanned; dsimp only; split
    · exact Device.rd_wr_ne _ _ _ _ h
    · rfl
  · rfl

/-- Power's counts of droop, and nothing else of what neither an event nor the time clock touches. -/
theorem Device.untouched_droopSkip (d : Device) : ∃ stormed stormLeft, ({ d with pow := { d.pow with
    droopLeft := d.pow.droopLeft - 1, droopRound := d.pow.droopRound + (decide (0 < d.pow.droopLeft)).toNat
    stormed := stormed, stormLeft := stormLeft } } : Device).Untouched d.droopSkip := by
  unfold Device.droopSkip; split
  · next h =>
    simp only [h, decide_true, Bool.toNat_true, Device.takeDroop]
    split
    · exact ⟨true, 16, (Device.untouched_wr _ _ _).trans (Device.untouched_raise _ _ _)⟩
    · exact ⟨_, _, Device.untouched_wr _ _ _⟩
  · next h =>
    refine ⟨d.pow.stormed, d.pow.stormLeft, ⟨⟨rfl, rfl, rfl, rfl, rfl, rfl⟩, rfl, ?_, rfl, rfl⟩⟩
    rw [show d.pow.droopLeft - 1 = d.pow.droopLeft by omega, decide_eq_false h]
    rfl

theorem Device.still_droopSkip (d : Device) : d.Still d.droopSkip :=
  have ⟨_, _, h⟩ := d.untouched_droopSkip
  ⟨h.mode, h.resetHold, h.headers, h.frames, h.cells, h.queued⟩

theorem Device.rd_pow (d : Device) (p : Power) (a : Addr) : ({ d with pow := p } : Device).rd a = d.rd a := rfl

theorem Device.rd_takeDroop (d : Device) {a : Addr} (h : a < 0xC10000) :
    d.takeDroop.rd a = if a = E.DROOP_SKIPS then (d.rd E.DROOP_SKIPS + 1) % 2 ^ 64 else d.rd a := by
  unfold Device.takeDroop; dsimp only; split
  · rw [Device.rd_raise_below _ _ _ h, Device.rd_pow]
    exact Device.rd_bump _ _ _ _ _
  · exact Device.rd_bump _ _ _ _ _

/-- A droop skip slot counts in DROOP_SKIPS, and in no other entry. -/
theorem Device.rd_droopSkip (d : Device) {a : Addr} (h : a < 0xC10000) :
    d.droopSkip.rd a = if a = E.DROOP_SKIPS ∧ 0 < d.pow.droopLeft then (d.rd E.DROOP_SKIPS + 1) % 2 ^ 64 else d.rd a := by
  unfold Device.droopSkip
  by_cases hd : 0 < d.pow.droopLeft
  · simp only [hd, if_true, and_true, d.rd_takeDroop h]
  · simp only [hd, if_false, and_false]

theorem Device.rd_droopSkip_ne (d : Device) {a : Addr} (h : a < 0xC10000) (ha : a ≠ E.DROOP_SKIPS) : d.droopSkip.rd a = d.rd a := by
  rw [d.rd_droopSkip h, if_neg (fun hx => ha hx.1)]

theorem Device.still_countSkip (d : Device) : d.Still d.countSkip := ⟨rfl, rfl, rfl, rfl, rfl, rfl⟩

theorem Device.rd_countSkip (d : Device) (a : Addr) :
    d.countSkip.rd a = if a = E.SKIP_COUNT then (d.rd E.SKIP_COUNT + 1) % 2 ^ 64 else d.rd a := Device.rd_bump _ _ _ _ _

/-- No count of a skip slot changes its period. -/
theorem Device.rd_period_of_counted (d : Device) :
    d.planSkip.droopSkip.countSkip.rd E.SLOT_PERIOD_PS = d.rd E.SLOT_PERIOD_PS := by
  rw [Device.rd_countSkip, if_neg (by decide), Device.rd_droopSkip_ne _ (by decide) (by decide), d.rd_planSkip (by decide)]

/-- One skip slot, from `d` to `e`: nothing moves but time, and the counts go on by one for each of its causes (R23, R406, R414,
R432). -/
structure Device.OneSkip (d e : Device) : Prop extends Device.Still d e where
  slot : e.clk.slot = d.clk.slot
  slots : e.clk.slots = d.clk.slots
  skips : e.clk.skips = d.clk.skips + 1
  planned : e.clk.planned = d.clk.planned + d.skipDue.toNat
  nowPs : e.clk.nowPs = d.clk.nowPs + d.rd E.SLOT_PERIOD_PS
  epochPs : e.pow.epochPs = d.pow.epochPs + d.rd E.SLOT_PERIOD_PS
  droopLeft : e.pow.droopLeft = d.pow.droopLeft - 1
  droopRound : e.pow.droopRound = d.pow.droopRound + (decide (0 < d.pow.droopLeft)).toNat
  burstLeft : e.join.burstLeft = d.join.burstLeft - 1
  plannedSkips : e.plannedSkips = d.plannedSkips
  skipCount : e.rd E.SKIP_COUNT = (d.rd E.SKIP_COUNT + 1) % 2 ^ 64
  droopSkips : e.rd E.DROOP_SKIPS = if 0 < d.pow.droopLeft then (d.rd E.DROOP_SKIPS + 1) % 2 ^ 64 else d.rd E.DROOP_SKIPS

/-! ### One skip slot -/

theorem Device.skip_of_not_due {d : Device} (h : d.skipsDue = 0) : d.skip = d := by
  have hn := mt d.skipsDue_pos_iff.mpr (by omega)
  simp only [not_or] at hn
  simp [Device.skip, hn]

section
variable {d : Device} (hc : d.mode.counts = true) (hdue : 0 < d.skipsDue)
include hc hdue

/-- Where a skip slot is due, it is counted for each of its causes and once for all, and then a clock period passes. -/
theorem Device.skip_of_due : d.skip = d.planSkip.droopSkip.countSkip.passPeriod := by
  have hrun : ¬ (!d.alive || !(decide (0 < d.pow.droopLeft) || decide (0 < d.join.burstLeft) || d.skipDue)) = true := by
    have hcause := d.skipsDue_pos_iff.mp hdue
    rw [← or_assoc] at hcause
    simp only [Device.alive, hc, Bool.not_true, Bool.false_or, Bool.not_eq_true', Bool.not_eq_false, Bool.or_eq_true,
      decide_eq_true_eq]
    exact hcause
  have hdroop : d.planSkip.droopSkip = if decide (0 < d.pow.droopLeft) then d.planSkip.takeDroop else d.planSkip := by
    simp only [Device.droopSkip, d.untouched_planSkip.pow, decide_eq_true_eq]
  rw [hdroop]
  exact if_neg hrun

theorem Device.still_skip : d.Still d.skip := by
  rw [Device.skip_of_due hc hdue]
  exact ((d.still_planSkip.trans (Device.still_droopSkip _)).trans (Device.still_countSkip _)).trans (Device.still_passPeriod _)

theorem Device.rd_skip {a : Addr} (h : a < 0xC10000) (hs : a ≠ E.TIME_STATUS) (ht : a ≠ E.STEP_COUNT) (hcap : a ≠ E.CAP_SKIPS) :
    d.skip.rd a = if a = E.SKIP_COUNT then (d.rd E.SKIP_COUNT + 1) % 2 ^ 64
      else if a = E.DROOP_SKIPS ∧ 0 < d.pow.droopLeft then (d.rd E.DROOP_SKIPS + 1) % 2 ^ 64 else d.rd a := by
  have hpow : d.planSkip.pow = d.pow := d.untouched_planSkip.pow
  have hcount : d.planSkip.droopSkip.rd E.SKIP_COUNT = d.rd E.SKIP_COUNT := by
    rw [Device.rd_droopSkip_ne _ (by decide) (by decide), d.rd_planSkip (by decide)]
  rw [Device.skip_of_due hc hdue, Device.rd_passPeriod _ h hs ht, Device.rd_countSkip, hcount, Device.rd_droopSkip _ h, hpow,
    d.rd_planSkip hcap, d.rd_planSkip (a := E.DROOP_SKIPS) (by decide)]

/-- The slot clock counts the skip slot, and passes its period (R23). -/
theorem Device.clk_skip : d.skip.clk = { d.clk with skips := d.clk.skips + 1, planned := d.clk.planned + d.skipDue.toNat
                                                    nowPs := d.clk.nowPs + d.rd E.SLOT_PERIOD_PS } := by
  obtain ⟨stormed, stormLeft, hdroop⟩ := d.planSkip.untouched_droopSkip
  have hclk : d.planSkip.droopSkip.countSkip.clk = { d.clk with skips := d.clk.skips + 1, planned := d.clk.planned + d.skipDue.toNat } :=
    congrArg (fun c : Clock => { c with skips := c.skips + 1 }) (hdroop.clk.trans d.untouched_planSkip.clk)
  rw [Device.skip_of_due hc hdue, (Device.untouched_passPeriod _).clk, Device.clockPeriod]
  dsimp only
  rw [hclk, d.rd_period_of_counted]

/-- One skip slot serves the plan, the droop burst and the partner's burst together (R406, R432). -/
theorem Device.join_skip : d.skip.join = { d.join with burstLeft := d.join.burstLeft - 1 } := by
  obtain ⟨stormed, stormLeft, hdroop⟩ := d.planSkip.untouched_droopSkip
  rw [Device.skip_of_due hc hdue]
  exact (Device.untouched_passPeriod _).join.trans
    (congrArg (fun j : Join => { j with burstLeft := j.burstLeft - 1 }) (hdroop.join.trans d.untouched_planSkip.join))

theorem Device.pow_skip : ∃ stormed stormLeft, d.skip.pow = { d.pow with
    droopLeft := d.pow.droopLeft - 1, droopRound := d.pow.droopRound + (decide (0 < d.pow.droopLeft)).toNat
    stormed := stormed, stormLeft := stormLeft, skips := d.pow.skips + 1
    epochPs := d.pow.epochPs + d.rd E.SLOT_PERIOD_PS } := by
  obtain ⟨stormed, stormLeft, hdroop⟩ := d.planSkip.untouched_droopSkip
  refine ⟨stormed, stormLeft, ?_⟩
  have hpow := hdroop.pow
  dsimp only at hpow
  rw [d.untouched_planSkip.pow] at hpow
  have hcount : d.planSkip.droopSkip.countSkip.pow = { d.planSkip.droopSkip.pow with skips := d.planSkip.droopSkip.pow.skips + 1 } := rfl
  rw [Device.skip_of_due hc hdue, (Device.untouched_passPeriod _).pow, Device.clockPeriod]
  dsimp only
  rw [d.rd_period_of_counted, hcount, hpow]

theorem Device.oneSkip_skip : d.OneSkip d.skip := by
  obtain ⟨stormed, stormLeft, hpow⟩ := Device.pow_skip hc hdue
  have hclk := Device.clk_skip hc hdue
  have hjoin := Device.join_skip hc hdue
  have hpower : d.skip.rd E.POWER_SKIPS = d.rd E.POWER_SKIPS := by
    rw [Device.rd_skip hc hdue (by decide) (by decide) (by decide) (by decide), if_neg (by decide),
      if_neg (fun h => absurd h.1 (by decide))]
  have hdroop : d.skip.rd E.DROOP_SKIPS = if 0 < d.pow.droopLeft then (d.rd E.DROOP_SKIPS + 1) % 2 ^ 64 else d.rd E.DROOP_SKIPS := by
    rw [Device.rd_skip hc hdue (by decide) (by decide) (by decide) (by decide), if_neg (by decide)]
    simp only [true_and]
  exact
    { toStill := Device.still_skip hc hdue
      slot := by rw [hclk]
      slots := by rw [hclk]
      skips := by rw [hclk]
      planned := by rw [hclk]
      nowPs := by rw [hclk]
      epochPs := by rw [hpow]
      droopLeft := by rw [hpow]
      droopRound := by rw [hpow]
      burstLeft := by rw [hjoin]
      plannedSkips := by rw [Device.plannedSkips, hpower, hjoin, Device.plannedSkips]
      skipCount := by rw [Device.rd_skip hc hdue (by decide) (by decide) (by decide) (by decide), if_pos rfl]
      droopSkips := hdroop }

end

/-- A skip slot leaves one less due: it serves every cause at once (R406). -/
theorem Device.OneSkip.skipsDue {d e : Device} (h : d.OneSkip e) : e.skipsDue = d.skipsDue - 1 := by
  have hplan := d.skipDue_iff
  rw [Device.skipsDue, Device.skipsDue, h.droopLeft, h.burstLeft, h.plannedSkips, h.slot, h.planned]
  cases hb : d.skipDue with
  | false => rw [hb, Bool.false_eq_true, false_iff] at hplan; rw [Bool.toNat_false]; omega
  | true => rw [hb, eq_self, true_iff] at hplan; rw [Bool.toNat_true]; omega

/-! ### The skip slots due -/

theorem Device.skips_of_skipsDue {d : Device} {n : Nat} (hc : d.mode.counts = true) (hn : d.skipsDue = n) :
    (d.skips n).skipsDue = 0 ∧ (d.skips n).clk.skips = d.clk.skips + n ∧ (d.skips n).clk.slot = d.clk.slot ∧
      (d.skips n).clk.slots = d.clk.slots ∧ d.Still (d.skips n) := by
  induction n generalizing d with
  | zero => exact ⟨hn, rfl, rfl, rfl, (Device.Untouched.refl d).toStill⟩
  | succ n ih =>
    have hone := Device.oneSkip_skip hc (Nat.lt_of_lt_of_eq n.succ_pos hn.symm)
    obtain ⟨hnone, hskips, hslot, hslots, hstill⟩ := ih (d := d.skip) (by rw [hone.mode, hc])
      (by rw [hone.skipsDue, hn, Nat.add_sub_cancel])
    have htotal : d.clk.skips + 1 + n = d.clk.skips + (n + 1) := by omega
    exact ⟨hnone, hskips.trans (by rw [hone.skips, htotal]), hslot.trans hone.slot, hslots.trans hone.slots,
      hone.toStill.trans hstill⟩

theorem exec_skipSlot {s : State} (hr : s.Runs) : exec .skipSlot s = .next (s.put s.dev.skip.settleReset) := on_runs s _ hr

/-- Settles O21: the skip slots due by induction on their number, and each case of one skip slot from what it changes
(`OneSkip`). That none passes where none is due is the model's choice (log entries 7 and 69). -/
theorem skipSlotStopsThePipeline : Obligations.SkipSlotStopsThePipeline := by
  unfold Obligations.SkipSlotStopsThePipeline
  refine ⟨fun d hc => ?passed, fun s hr hheld hc => ?one⟩
  case passed =>
    obtain ⟨hnone, hskips, hslot, hslots, hstill⟩ := Device.skips_of_skipsDue hc rfl
    exact ⟨hnone, hskips, hslot, hslots, hstill.headers, hstill.frames, hstill.cells, hstill.queued⟩
  case one =>
    have due (hcause : 0 < s.dev.pow.droopLeft ∨ 0 < s.dev.join.burstLeft ∨ s.dev.skipDue = true) :
        exec .skipSlot s = .next (s.put s.dev.skip) ∧ s.dev.OneSkip s.dev.skip := by
      have hdue := s.dev.skipsDue_pos_iff.mpr hcause
      have hone := Device.oneSkip_skip hc hdue
      refine ⟨?_, hone⟩
      rw [exec_skipSlot hr, Device.settleReset_of_not_held (hone.resetHold.trans hheld)]
    refine ⟨fun hdroop hburst hplan => ?none, fun hdroop hburst hplan _ => ?planned, fun hdroop hplan _ _ => ?droop,
      fun hdroop hburst hplan _ => ?burst⟩
    case none =>
      have hdue : s.dev.skipsDue = 0 := Nat.eq_zero_of_not_pos (mt s.dev.skipsDue_pos_iff.mp (by simp [hdroop, hburst, hplan]))
      rw [exec_skipSlot hr, Device.skip_of_not_due hdue, Device.settleReset_of_not_held hheld, put_dev s hr.2]
    case planned =>
      obtain ⟨hex, h⟩ := due (.inr (.inr hplan))
      exact ⟨_, hex, h.headers, h.frames, h.cells, h.queued, h.slot, h.slots, h.skips, h.planned.trans (by rw [hplan]; rfl), h.nowPs,
        h.epochPs, h.skipCount⟩
    case droop =>
      obtain ⟨hex, h⟩ := due (.inl hdroop)
      exact ⟨_, hex, h.headers, h.queued, h.slot, h.droopLeft, h.droopRound.trans (by rw [decide_eq_true hdroop]; rfl),
        h.droopSkips.trans (if_pos hdroop), h.skipCount⟩
    case burst =>
      obtain ⟨hex, h⟩ := due (.inr (.inl hburst))
      have hnone : ¬ 0 < s.dev.pow.droopLeft := by omega
      exact ⟨_, hex, h.headers, h.queued, h.slot, h.burstLeft, h.droopRound.trans (by rw [decide_eq_false hnone]; rfl),
        h.droopSkips.trans (if_neg hnone), h.skipCount⟩

/-! ### The round boundary (R27) -/

theorem Device.roundBoundary_of_not {d : Device} (h : d.mode.counts = false ∨ d.clk.slot ≠ 1024) (overran : Bool) :
    d.roundBoundary overran = d := by
  rcases h with h | h <;> simp [Device.roundBoundary, Device.alive, h]

theorem exec_roundBoundary {s : State} (hr : s.Runs) (overran : Bool) :
    exec (.roundBoundary overran) s = .next (s.put (s.dev.roundBoundary overran)) := on_runs s _ hr

/-- Settles O22: the boundary's steps are the model's own, in its order (R27, log entry 36), and the skip slots that are due come
first (log entry 69). -/
theorem roundBoundaryOrder : Obligations.RoundBoundaryOrder := by
  unfold Obligations.RoundBoundaryOrder
  refine fun s overran hr => ⟨fun hc hs => ⟨?order, Device.rd_wr_same _ _ _, rfl, rfl, rfl, rfl⟩, fun hidle => ?idle⟩
  case order =>
    rw [exec_roundBoundary hr, Device.roundBoundary, if_neg (by simp [Device.alive, hc, hs])]
  case idle => rw [exec_roundBoundary hr, Device.roundBoundary_of_not hidle, put_dev s hr.2]

end Sys2Proof.Machine
end

section
/-! SUPPORT. The receive MAC: which MAC a frame arrives at, and what its head and its end do. -/

namespace Sys2Proof.Machine

open Sys2Proof

/-! ### The copies of a parity, after a counter is written -/

theorem Device.cur_wr_ne (d : Device) (b v : Nat) {a : Addr} (h : b ≠ E.VINTAGE_CURRENT) : (d.wr b v).cur a = d.cur a := by
  simp only [Device.cur, Device.parity, Device.vintage, Device.rd_wr_ne _ _ _ _ h.symm, Device.rdp_wr]

/-- The records of the receive MACs' counters lie above the vintage's, by which the copy in force is chosen. -/
theorem Device.adminUp_rxCounter (d : Device) (q k n p : Nat) : (d.bump64 (entry (0x2600 + q) k) n).adminUp p = d.adminUp p := by
  have h : entry (0x2600 + q) k ≠ E.VINTAGE_CURRENT := Nat.ne_of_gt (by unfold E.VINTAGE_CURRENT entry; omega)
  simp only [Device.bump64, Device.bump, Device.adminUp, d.cur_wr_ne _ _ h, Device.restPorts_wr]

/-! ### The MACs of a port (R127, R128) -/

theorem Device.macOf_of_one {d : Device} {port : Nat} (h : d.portCtl port 2 = false) (pre : Bool) : d.macOf port pre = port := by
  simp [Device.macOf, h]

theorem Device.macOf_preemptable {d : Device} {port : Nat} (h : d.portCtl port 2 = true) (hp : port < 512) :
    d.macOf port true = port + 4096 := by
  simp [Device.macOf, h, hp]

theorem Device.macOf_express (d : Device) (port : Nat) : d.macOf port false = port := by simp [Device.macOf]

theorem Device.portExists_lt {d : Device} {port : Nat} (h : d.portExists port = true) : port < 512 := by
  simp only [Device.portExists, Bool.and_eq_true, decide_eq_true_eq] at h
  exact h.1

/-! ### A frame's head (R137, R19) -/

/-- Bytes that continue those given before replace them (log entry 172). -/
theorem Frame.grow_of_continued {f : Frame} {bytes : List Byte} (he : f.ended = false) (h : f.bytes <+: bytes) :
    f.grow bytes = { f with bytes := bytes } := by
  simp [Frame.grow, he, List.isPrefixOf_iff_prefix.mpr h]

section
variable {s : State} {port agePs : Nat} {pre : Bool} {bytes : List Byte} (hr : s.Runs)
include hr

/-- Bytes of a frame whose header was offered go to it. -/
theorem exec_frameHeadReady_of_offered (h : 2 ≤ SMap.get s.dev.ports.arriving 0 (s.dev.macOf port pre)) :
    exec (.frameHeadReady port agePs ⟨pre, bytes⟩) s =
      .next (s.put (s.dev.modAny (SMap.get s.dev.ports.arriving 0 (s.dev.macOf port pre) - 2) (fun f => f.grow bytes))) := by
  refine (on_runs s _ hr).trans ?_
  dsimp only
  rw [if_pos h]

/-- In a mode that does not forward, no frame is offered (R302). -/
theorem exec_frameHeadReady_of_not_forwards (hf : s.dev.mode.forwards = false)
    (h : SMap.get s.dev.ports.arriving 0 (s.dev.macOf port pre) < 2) :
    exec (.frameHeadReady port agePs ⟨pre, bytes⟩) s = .next s := by
  refine (on_runs s _ hr).trans ?_
  dsimp only
  rw [if_neg (Nat.not_le.mpr h), if_pos (.inl (by rw [hf]; rfl)), put_dev s hr.2]

/-- A frame that the MAC lets through is offered where its slice's intake has room, and else marked. -/
theorem exec_frameHeadReady_of_new (hf : s.dev.mode.forwards = true) (hp : s.dev.portExists port = true)
    (hup : s.dev.adminUp port = true) (hlen : 64 ≤ bytes.length) (hctl : macControl bytes = false)
    (ht : s.dev.takesTendril port bytes = false) (h : SMap.get s.dev.ports.arriving 0 (s.dev.macOf port pre) = 0) :
    let d := s.dev
    let f := d.newFrame port agePs bytes
    let mac := d.macOf port pre
    (d.intakeUsed f.slice + bytes.length ≤ intakeSize → exec (.frameHeadReady port agePs ⟨pre, bytes⟩) s =
      .next (s.put ((d.offerHeader f port).setArriving mac (2 + f.id)))) ∧
    (intakeSize < d.intakeUsed f.slice + bytes.length → exec (.frameHeadReady port agePs ⟨pre, bytes⟩) s =
      .next (s.put (d.setArriving mac 1))) := by
  intro d f mac
  have hlet : ¬ (!d.mode.forwards ∨ !d.portExists port ∨ !d.adminUp port ∨ bytes.length < 64 ∨ macControl bytes
      ∨ d.takesTendril port bytes ∨ SMap.get d.ports.arriving 0 mac ≠ 0) := by
    simp [d, mac, hf, hp, hup, hctl, ht, h, hlen]
  have hex : exec (.frameHeadReady port agePs ⟨pre, bytes⟩) s = .next (s.put
      (if intakeSize < d.intakeUsed f.slice + bytes.length then d.setArriving mac 1
        else (d.offerHeader f port).setArriving mac (2 + f.id))) := by
    refine (on_runs s _ hr).trans ?_
    dsimp only
    rw [if_neg (by rw [h]; decide), if_neg hlet]
  exact ⟨fun hroom => by rw [hex, if_neg (Nat.not_lt.mpr hroom)], fun hfull => by rw [hex, if_pos hfull]⟩

end

/-! ### A frame's end (R122, R128, R133) -/

/-- The end of a frame as its MAC takes it, of a 3.2T port with its bytes in their order. -/
def Device.receiveEnd (d : Device) (port : Nat) (e : RxEnd) : Device :=
  if !d.alive ∨ !(d.portExists port ∨ (port = 0x840 ∧ d.rd E.MGMT_MODE ≠ 0)) then d
  else
    let mac := d.macOf port e.preemptable
    let a := SMap.get d.ports.arriving 0 mac
    let d := d.setArriving mac 0
    let fragments := mac ≠ port
    let d := if fragments then d.bump64 (E.PREEMPT_RX_FRAGMENTS port) e.fragments else d
    if fragments ∧ e.assemblyFault then d.assemblyFault port a e else d.classify port a e

theorem exec_rxFrameEnd {s : State} (hr : s.Runs) (port : Nat) (e : RxEnd) :
    exec (.rxFrameEnd port e) s = .next (s.put (s.dev.receiveEnd port (s.dev.deinterleaved port e))) := on_runs s _ hr

theorem Device.deinterleaved_of_none (d : Device) (port : Nat) {e : RxEnd} (h : e.blocks = none) : d.deinterleaved port e = e := by
  simp only [Device.deinterleaved, h]

/-- The blocks of a 3.2T port's instances interleave (R118); those given of another port are not looked at. -/
theorem Device.deinterleaved_of_some (d : Device) (port : Nat) (e : RxEnd) (x y : List Nat) :
    d.deinterleaved port { e with blocks := some (x, y) } =
      { (if (d.instances port).length = 2 then { e with bytes := blockBytes (mergeBlocks x y) } else e) with blocks := some (x, y) } := by
  simp only [Device.deinterleaved]; split <;> rfl

/-- What a MAC takes of a frame's end is the frame, not the blocks it came in. -/
theorem Device.receiveEnd_blocks (d : Device) (port : Nat) (e : RxEnd) (b : Option (List Nat × List Nat)) :
    d.receiveEnd port { e with blocks := b } = d.receiveEnd port e := rfl

/-- A front port with one MAC ends its frame there. -/
theorem Device.receiveEnd_of_one_mac {d : Device} {port : Nat} (hc : d.mode.counts = true) (hp : d.portExists port = true)
    (hone : d.portCtl port 2 = false) (e : RxEnd) :
    d.receiveEnd port e = (d.setArriving port 0).classify port (SMap.get d.ports.arriving 0 port) e := by
  have hlet : ¬ (!d.alive ∨ !decide (d.portExists port ∨ (port = 0x840 ∧ d.rd E.MGMT_MODE ≠ 0))) := by
    simp [Device.alive, hc, hp]
  rw [Device.receiveEnd, if_neg hlet]
  simp only [Device.macOf_of_one hone, ne_eq, not_true_eq_false, if_false, false_and]

theorem Device.receiveEnd_of_absent {d : Device} {port : Nat} (hlt : port < 512) (hp : d.portExists port = false) (e : RxEnd) :
    d.receiveEnd port e = d := by
  have hnone : !decide (d.portExists port ∨ (port = 0x840 ∧ d.rd E.MGMT_MODE ≠ 0)) := by
    simp [hp, show port ≠ 0x840 by omega]
  rw [Device.receiveEnd, if_pos (.inr hnone)]

section
variable {d : Device} {port a : Nat} {e : RxEnd} (hp : port < 512)
include hp

/-- A passed frame whose header was offered is counted and tapped as accepted, and its end is known. -/
theorem Device.classify_of_passed (hup : d.adminUp port = true) (ha : 2 ≤ a) (hcode : frameClass e (d.cur (E.PORT_MTU port)) = 0) :
    d.classify port a e = (((d.bump64 (E.RX_FRAMES_OK port) 1).bump64 (E.RX_BYTES_OK port) e.bytes.length).tap port 0
      e.bytes.length).endOffered (a - 2) 0 e := by
  have hup' : ((d.bump64 (E.RX_FRAMES_OK port) 1).bump64 (E.RX_BYTES_OK port) e.bytes.length).adminUp port = true :=
    ((Device.adminUp_rxCounter _ port 2 _ _).trans (Device.adminUp_rxCounter _ port 1 _ _)).trans hup
  simp only [Device.classify, hp, decide_true, if_true, hcode, Device.countClass, Device.sendOn, ha, hup', Bool.not_true,
    Bool.and_false, Bool.false_eq_true, if_false]

/-- A frame that does not pass and was not offered is counted in its class, tapped as discarded and discarded, and not counted
as stomped where its FCS is not a stomp's. -/
theorem Device.classify_of_failed (ha : a < 2) (hcode : frameClass e (d.cur (E.PORT_MTU port)) ≠ 0)
    (hs : e.bytes.drop (e.bytes.length - 4) ≠ fcsOf (e.bytes.take (e.bytes.length - 4)) false) :
    d.classify port a e = (((d.bump64 (classCounter port (frameClass e (d.cur (E.PORT_MTU port)))) 1).tap port 1
      e.bytes.length).lostAtMac port (frameClass e (d.cur (E.PORT_MTU port))) e.agePs e.bytes.length) := by
  simp only [Device.classify, hp, decide_true, if_true, hcode, Device.countClass, Nat.not_le.mpr ha, hs, decide_false,
    Bool.and_false, Bool.false_eq_true, if_false]

end

/-- Settles O26: the ways that a frame's head may go, and its end at the one MAC of its port; blocks are put into their order
before a MAC takes the frame. The room test with the bytes that the command gives is the model's choice (log entry 99). -/
theorem frameIntake : Obligations.FrameIntake := by
  unfold Obligations.FrameIntake
  refine ⟨fun s port agePs pre bytes hr => ⟨?offer, exec_frameHeadReady_of_offered hr,
      fun g he hg => Frame.grow_of_continued he hg, ?macs, exec_frameHeadReady_of_not_forwards hr⟩,
    fun s port e x y hr => ?blocks, fun s port e hr _ hb => ⟨fun hc hp hone => ⟨?passed, ?failed⟩, ?absent⟩⟩
  case offer =>
    intro hf hp hup hlen hctl ht ha
    obtain ⟨hroom, hfull⟩ := exec_frameHeadReady_of_new (agePs := agePs) hr hf hp hup hlen hctl ht ha
    exact ⟨fun h => ⟨_, hroom h, rfl, rfl, (SMap.get_set _ _ _ _ _).trans (if_pos rfl), rfl⟩, hfull⟩
  case macs =>
    intro hpre hp
    rw [Device.macOf_preemptable hpre hp, Device.macOf_express]
    omega
  case blocks =>
    rw [exec_rxFrameEnd hr, exec_rxFrameEnd hr, Device.deinterleaved_of_some, Device.receiveEnd_blocks]
    split <;> (rw [Device.deinterleaved_of_none _ _ rfl]; rfl)
  case passed =>
    intro hcode hup _ _ ha
    rw [exec_rxFrameEnd hr, Device.deinterleaved_of_none _ _ hb, Device.receiveEnd_of_one_mac hc hp hone,
      Device.classify_of_passed (d := s.dev.setArriving port 0) (Device.portExists_lt hp) hup ha hcode]
  case failed =>
    intro hcode ha hs
    rw [exec_rxFrameEnd hr, Device.deinterleaved_of_none _ _ hb, Device.receiveEnd_of_one_mac hc hp hone,
      Device.classify_of_failed (d := s.dev.setArriving port 0) (Device.portExists_lt hp) ha hcode hs]
    rfl
  case absent =>
    intro hlt hp
    rw [exec_rxFrameEnd hr, Device.deinterleaved_of_none _ _ hb, Device.receiveEnd_of_absent hlt hp, put_dev s hr.2]

end Sys2Proof.Machine
end

section
/-! SUPPORT. The lanes: what a receiver makes of the symbols that a transmitter sends, and what each command of a lane, or of the
Stave bridge, does. -/

namespace Sys2Proof.Machine

open Sys2Proof

/-! ### Symbols, precoding and polarity (R94 to R96) -/

theorem ungray_gray (a b : Bool) : ungray (gray a b) = (a, b) := by
  cases a <;> cases b <;> rfl

theorem gray_lt (a b : Bool) : gray a b < 4 := by
  cases a <;> cases b <;> decide

theorem grayBits_cons_gray (a b : Bool) (gs : List Nat) : grayBits (gray a b :: gs) = a :: b :: grayBits gs := by
  simp [grayBits, ungray_gray]

theorem grayBits_graySymbols (bs : List Bool) (h : bs.length % 2 = 0) : grayBits (graySymbols bs) = bs := by
  induction bs using graySymbols.induct with
  | case1 a b t ih =>
    rw [graySymbols, grayBits_cons_gray, ih (by simp only [List.length_cons] at h; omega)]
  | case2 bs hshort =>
    match bs, h with
    | [], _ => rfl
    | a :: b :: t, _ => exact absurd rfl (hshort a b t)

theorem graySymbols_lt (bs : List Bool) : ∀ g ∈ graySymbols bs, g < 4 := by
  induction bs using graySymbols.induct with
  | case1 a b t ih => simpa [graySymbols] using ⟨gray_lt a b, ih⟩
  | case2 bs hshort => simp [graySymbols]

theorem precode_lt (gs : List Nat) (p : Nat) : ∀ q ∈ precode p gs, q < 4 := by
  induction gs generalizing p with
  | nil => simp [precode]
  | cons g t ih => simpa [precode, Nat.mod_lt] using ih _

/-- The decoder, from the precoder's state, gives the precoder's input back: each has p(j-1) from the symbol before. -/
theorem decodeSymbols_precode (gs : List Nat) (p : Nat) (h : ∀ g ∈ gs, g < 4) : decodeSymbols p (precode p gs) = gs := by
  induction gs generalizing p with
  | nil => rfl
  | cons g t ih =>
    obtain ⟨hg, ht⟩ := List.forall_mem_cons.mp h
    have hsum : ((g + 4 - p % 4) % 4 + p) % 4 = g := by omega
    rw [precode, decodeSymbols, hsum, ih _ ht]

theorem invertSymbol_invertSymbol (i : Bool) {v : Nat} (h : v < 4) : invertSymbol i (invertSymbol i v) = v := by
  cases i
  · rfl
  · simp only [invertSymbol, if_true]; omega

theorem map_invertSymbol_invertSymbol (i : Bool) (vs : List Nat) (h : ∀ v ∈ vs, v < 4) :
    (vs.map (invertSymbol i)).map (invertSymbol i) = vs := by
  rw [List.map_map]
  exact (List.map_congr_left fun v hv => invertSymbol_invertSymbol i (h v hv)).trans (List.map_id' vs)

theorem symbolOf_levelOf {v : Nat} (h : v < 4) : symbolOf (levelOf v) = some v := by
  have hall : ∀ i : Fin 4, symbolOf (levelOf i) = some i.val := by decide
  exact hall ⟨v, h⟩

/-- What a receiver in the transmitter's settings and state reads is what was sent. -/
theorem Device.receiveSymbols_sendSymbols (d : Device) (l p : Nat) (bs : List Bool) (h : bs.length % 2 = 0)
    (hp : d.precodes l true = d.precodes l false) (hi : d.inverts l true = d.inverts l false) :
    d.receiveSymbols l p (d.sendSymbols l p bs) = bs := by
  simp only [Device.receiveSymbols, Device.sendSymbols, hp, hi]
  cases d.precodes l false
  · simp only [Bool.false_eq_true, if_false]
    rw [map_invertSymbol_invertSymbol _ _ (graySymbols_lt bs), grayBits_graySymbols bs h]
  · simp only [if_true]
    rw [map_invertSymbol_invertSymbol _ _ (precode_lt _ p), decodeSymbols_precode _ p (graySymbols_lt bs),
      grayBits_graySymbols bs h]

/-! ### The scrambler and the comma word (R98, R99) -/

/-- The descrambler's register holds the bits that the scrambler sent, and so the same taps. -/
theorem descramble_scramble (bs : List Bool) (s : Nat) : descramble s (scramble s bs) = bs := by
  induction bs generalizing s with
  | nil => rfl
  | cons b t ih => simp only [scramble, descramble, ih, Bool.bne_assoc, bne_self_eq_false, Bool.bne_false]

theorem two_mul_half_add_bit (n j : Nat) : 2 * (n / 2 ^ (j + 1)) + (bit n j).toNat = n / 2 ^ j := by
  rw [bit, Nat.toNat_testBit, Nat.pow_succ, ← Nat.div_div_eq_div_mul]
  omega

/-- The two bits of a symbol come after those of the symbols before it. -/
theorem four_mul_quarter_add_bits (n j : Nat) :
    4 * (n / 2 ^ (j + 2)) + 2 * (bit n (j + 1)).toNat + (bit n j).toNat = n / 2 ^ j := by
  have hlow := two_mul_half_add_bit n j
  have hhigh : 2 * (n / 2 ^ (j + 2)) + (bit n (j + 1)).toNat = n / 2 ^ (j + 1) := two_mul_half_add_bit n (j + 1)
  omega

theorem byteOfLevels_byteLevels {n : Nat} (h : n < 256) : byteOfLevels (byteLevels n) = some n := by
  have h6 := four_mul_quarter_add_bits n 6
  have h4 := four_mul_quarter_add_bits n 4
  have h2 := four_mul_quarter_add_bits n 2
  have h0 := four_mul_quarter_add_bits n 0
  simp only [byteOfLevels, byteLevels, List.map_cons, List.map_nil, List.mapM_cons, List.mapM_nil, symbolOf_levelOf (gray_lt _ _),
    Option.bind_eq_bind, Option.bind_some, Option.pure_def, Option.map_some, List.foldl_cons, List.foldl_nil, ungray_gray]
  simp only [Nat.reduceAdd, Nat.reduceMul, Option.some.injEq] at h6 h4 h2 h0 ⊢
  omega

theorem commaWord_length (id : Nat) : (commaWord id).length = 32 := rfl

theorem commaId_commaWord {id : Nat} (h : id < 256) : commaId (commaWord id) = some id := by
  have hid : commaId.slice' (commaWord id) 24 4 = byteLevels id := rfl
  have hinv : commaId.slice' (commaWord id) 28 4 = byteLevels (255 - id % 256) := rfl
  have hhead : (commaWord id).take 24 = commaHead := rfl
  have hsum : id + (255 - id % 256) = 255 := by omega
  simp only [commaId, hid, hinv, byteOfLevels_byteLevels h, byteOfLevels_byteLevels (show 255 - id % 256 < 256 by omega),
    commaWord_length, hhead, hsum, and_self, if_true]

/-- A lane knows a comma word of its own polarity: the polarity comes first (R96). -/
theorem Device.commaAt_commaWord (d : Device) (l : Nat) {id : Nat} (h : id < 256) :
    d.commaAt l (if d.inverts l false then (commaWord id).map (fun x => -x) else commaWord id) = some id := by
  unfold Device.commaAt
  cases d.inverts l false
  · exact commaId_commaWord h
  · simpa [List.map_map, Function.comp_def] using commaId_commaWord h

end Sys2Proof.Machine
end

section
/-! SUPPORT. The lanes' commands: lock, its loss, adaptation, sleep, and the check word of the Stave bridge. -/

namespace Sys2Proof.Machine

open Sys2Proof

/-! ### Lock (R104, R99) -/

theorem Device.laneLocked_iff (d : Device) (l : Nat) : d.laneLocked l = true ↔
    (d.rd (E.LANE_STATUS l)).testBit 0 = true ∧ (d.rd (E.LANE_STATUS l)).testBit 1 = true
      ∧ (d.rd (E.LANE_STATUS l)).testBit 2 = true := by
  simp only [Device.laneLocked, bits, decide_eq_true_eq, Nat.testBit_eq_decide_div_mod_eq, Nat.reducePow, Nat.div_one]
  omega

theorem Device.aligns_iff_of_mode6 {d : Device} {l : Nat} (h : d.laneMode l = 6) (ws : List (List Int)) :
    d.aligns l ws = true ↔ ws.length = 4 ∧ ∀ w ∈ ws, ∃ id, d.commaAt l w = some id := by
  simp [Device.aligns, h, Option.isSome_iff_exists]

theorem Device.misaligns_of_other_mode {d : Device} {l : Nat} (h : d.laneMode l ≠ 6) (ws : List (List Int)) :
    d.misaligns l ws = true := by
  simp [Device.misaligns, h]

/-- A report of LANE_IDs changes the lanes' records alone. -/
theorem Device.reportLane_eq (d : Device) (l : Nat) (ws : List (List Int)) :
    ∃ ls, d.reportLane l ws = { d with lanes := ls } := by
  unfold Device.reportLane
  split
  · split <;> exact ⟨_, rfl⟩
  · exact ⟨d.lanes, rfl⟩

/-- A lane's receiver may lock: it runs, has its signal and alignment, and neither sleeps nor is locked. -/
def Device.mayLock (d : Device) (l : Nat) (ws : List (List Int)) : Prop :=
  d.laneRuns l ∧ d.signal l ∧ !d.laneLocked l ∧ !d.rxAsleep l ∧ d.aligns l ws

/-- What a report says of the LANE_IDs is no part of the test of lock. -/
theorem Device.mayLock_reportLane (d : Device) (l : Nat) (ws : List (List Int)) :
    (d.reportLane l ws).mayLock l ws ↔ d.mayLock l ws := by
  obtain ⟨ls, hls⟩ := d.reportLane_eq l ws
  rw [hls]
  rfl

theorem Device.clk_reportLane (d : Device) (l : Nat) (ws : List (List Int)) : (d.reportLane l ws).clk = d.clk := by
  obtain ⟨ls, hls⟩ := d.reportLane_eq l ws
  rw [hls]

/-- A lane that locks (R104, R110), its LANE_IDs reported: its adaptation runs on, a kept sleep request is honoured, and its
join goes on. -/
def Device.lockLane (d : Device) (r : LaneReport) : Device :=
  let e := (((d.setLaneBit r.lane 1 true).setLaneBit r.lane 2 true).resumeAdapt r.lane).modLanes (fun x =>
    { x with lockedAt := SMap.set x.lockedAt 0 r.lane (d.clk.nowPs + 1), skew := SMap.set x.skew 0 r.lane r.skewPs,
             relock := SMap.set x.relock 0 r.lane 0, crossed := SMap.set x.crossed 0 r.lane 0 })
  (e.honourSleep r.lane).joinProgress.widen r.lane

section
variable {s : State} (hr : s.Runs)
include hr

theorem exec_laneSignalDetect_present {l : Nat} (hrun : s.dev.laneRuns l = true) :
    exec (.laneSignalDetect l true) s = .next (s.put (s.dev.setLaneBit l 0 true)) := by
  refine (on_runs s _ hr).trans ?_
  dsimp only
  rw [if_neg (by simp [hrun]), if_pos rfl]

theorem exec_laneLock_of_mayLock {r : LaneReport} (h : s.dev.mayLock r.lane r.commas) :
    exec (.laneLock r) s = .next (s.put ((s.dev.reportLane r.lane r.commas).lockLane r)) := by
  refine (on_runs s _ hr).trans ?_
  dsimp only
  rw [if_pos h.1]
  exact congrArg (fun d => Host.Outcome.next (s.put d)) (if_pos ((Device.mayLock_reportLane _ _ _).mpr h))

theorem exec_laneLock_of_not_mayLock {r : LaneReport} (hrun : s.dev.laneRuns r.lane = true)
    (h : ¬ s.dev.mayLock r.lane r.commas) :
    exec (.laneLock r) s = .next (s.put (s.dev.reportLane r.lane r.commas)) := by
  refine (on_runs s _ hr).trans ?_
  dsimp only
  rw [if_pos hrun]
  exact congrArg (fun d => Host.Outcome.next (s.put d)) (if_neg (mt (Device.mayLock_reportLane _ _ _).mp h))

/-! ### Loss of lock (R104 to R106) -/

theorem exec_laneLockLost_of_locked {r : LaneReport} {cdr align : Bool} (hrun : s.dev.laneRuns r.lane = true)
    (hlock : s.dev.laneLocked r.lane = true) (hsleep : s.dev.rxAsleep r.lane = false)
    (hmis : align = true → s.dev.misaligns r.lane r.commas = true) (hfell : (cdr || align) = true) :
    exec (.laneLockLost r cdr align) s = .next (s.put (s.dev.loseLock r.lane cdr align)) := by
  have halign : (align && s.dev.misaligns r.lane r.commas) = align := by
    cases align
    · rfl
    · exact hmis rfl
  refine (on_runs s _ hr).trans ?_
  dsimp only
  rw [halign, if_pos ⟨hrun, hlock, by rw [hsleep]; rfl, by simpa using hfell⟩]

theorem exec_laneLockLost_of_unlocked (r : LaneReport) (cdr align : Bool) (hlock : s.dev.laneLocked r.lane = false) :
    exec (.laneLockLost r cdr align) s = .next s := by
  refine (on_runs s _ hr).trans ?_
  dsimp only
  rw [if_neg (by simp [hlock]), put_dev s hr.2]

theorem exec_relockTimeout_of_asleep {l : Nat} (hrun : s.dev.laneRuns l = true) (hsleep : s.dev.rxAsleep l = true) :
    exec (.relockTimeout l) s = .next (s.put ((s.dev.setRxState l 0).loseLock l true true)) := by
  refine (on_runs s _ hr).trans ?_
  rw [if_neg (by simp [hrun]), if_pos hsleep]

theorem exec_relockTimeout_of_relocking {l : Nat} (hrun : s.dev.laneRuns l = true) (hsleep : s.dev.rxAsleep l = false)
    (hre : SMap.get s.dev.lanes.relock 0 l = 1) (hlock : s.dev.laneLocked l = false) :
    exec (.relockTimeout l) s = .next (s.put (((s.dev.setLaneBit l 5 false).setLaneBit l 3 false).modLanes (fun x =>
      { x with relock := SMap.set x.relock 0 l 2 }))) := by
  refine (on_runs s _ hr).trans ?_
  rw [if_neg (by simp [hrun]), if_neg (by simp [hsleep]), if_pos ⟨hre, by rw [hlock]; rfl⟩]

end

/-- Settles O31: the lane's commands in each of their cases, and what a receiver makes of what was sent. The model's choices in
it: adaptation resumes at LANE_LOCK (log entry 213), a join lane that locks may widen its map (log entry 179), and a lane that
is not locked has no lock to lose (log entry 7). -/
theorem laneLocks : Obligations.LaneLocks := by
  unfold Obligations.LaneLocks
  refine ⟨fun s l hr => ⟨s.dev.laneLocked_iff l, exec_laneSignalDetect_present hr, ?locks, ?stays,
      Device.aligns_iff_of_mode6, fun cdr align ws k => exec_laneLockLost_of_unlocked hr ⟨l, ws, k⟩ cdr align, ?loses, ?misaligned,
      exec_relockTimeout_of_asleep hr, exec_relockTimeout_of_relocking hr⟩, ?symbols,
    fun d l p id bs => ⟨d.receiveSymbols_sendSymbols l p bs, fun h => ⟨commaWord_length id, d.commaAt_commaWord l h⟩⟩⟩
  case locks =>
    intro ws k hrun hsig hlock hsleep hal
    have hmay : s.dev.mayLock l ws := ⟨hrun, hsig, by rw [hlock]; rfl, by rw [hsleep]; rfl, hal⟩
    rw [exec_laneLock_of_mayLock (r := ⟨l, ws, k⟩) hr hmay, Device.lockLane, Device.clk_reportLane]
  case stays =>
    intro ws k hrun hno
    refine exec_laneLock_of_not_mayLock (r := ⟨l, ws, k⟩) hr hrun ?_
    rintro ⟨-, hsig, hlock, -, hal⟩
    rcases hno with h | h | h
    · simp [h] at hsig
    · simp [h] at hlock
    · simp [h] at hal
  case loses =>
    intro cdr align ws k hrun hlock hsleep hmode hfell
    refine exec_laneLockLost_of_locked (r := ⟨l, ws, k⟩) hr hrun hlock hsleep (fun ha => ?_) hfell
    exact Device.misaligns_of_other_mode (fun h6 => by simp [hmode h6] at ha) ws
  case misaligned =>
    intro ws k hrun hlock hsleep hmis
    exact exec_laneLockLost_of_locked (r := ⟨l, ws, k⟩) hr hrun hlock hsleep (fun _ => hmis) rfl
  case symbols =>
    intro bs gs p q v hgs hv
    exact ⟨grayBits_graySymbols bs, decodeSymbols_precode gs p hgs, fun i => invertSymbol_invertSymbol i hv,
      symbolOf_levelOf hv, descramble_scramble bs q⟩

end Sys2Proof.Machine
end

section
/-! SUPPORT. The lanes' adaptation windows, snapshots and sleep, and the check word of the Stave bridge. -/

namespace Sys2Proof.Machine

open Sys2Proof

/-! ### Adaptation windows (R102, R470) -/

/-- `e` is `d` but for what a window's symbols leave: the pattern check's counters, the lanes' symbol records and what was
sent. -/
structure Device.SymbolsOnly (d : Device) (l : Nat) (e : Device) : Prop where
  rd_eq : ∀ a, a ≠ E.DIAG_ERRORS l → a ≠ E.DIAG_BITS l → e.rd a = d.rd a
  mode_eq : e.mode = d.mode
  p0_eq : e.p0 = d.p0
  p1_eq : e.p1 = d.p1
  failRun_eq : e.lanes.failRun = d.lanes.failRun
  passRun_eq : e.lanes.passRun = d.lanes.passRun
  relock_eq : e.lanes.relock = d.lanes.relock

theorem Device.symbolsOnly_records (d : Device) (l : Nat) (out : List Sent) (tx rx pattern checker : SMap) :
    d.SymbolsOnly l { d with sent := out, lanes := { d.lanes with txLast := tx, rxLast := rx, pattern := pattern,
                                                                  checker := checker } } :=
  ⟨fun _ _ _ => rfl, rfl, rfl, rfl, rfl, rfl, rfl⟩

theorem Device.SymbolsOnly.refl (d : Device) (l : Nat) : d.SymbolsOnly l d := d.symbolsOnly_records l _ _ _ _ _

theorem Device.SymbolsOnly.trans {d e f : Device} {l : Nat} (h : d.SymbolsOnly l e) (g : e.SymbolsOnly l f) :
    d.SymbolsOnly l f where
  rd_eq a hn hb := (g.rd_eq a hn hb).trans (h.rd_eq a hn hb)
  mode_eq := g.mode_eq.trans h.mode_eq
  p0_eq := g.p0_eq.trans h.p0_eq
  p1_eq := g.p1_eq.trans h.p1_eq
  failRun_eq := g.failRun_eq.trans h.failRun_eq
  passRun_eq := g.passRun_eq.trans h.passRun_eq
  relock_eq := g.relock_eq.trans h.relock_eq

/-- The counters of the pattern check lie above every entry that a window's test reads. -/
theorem Device.SymbolsOnly.rd_below {d e : Device} {l : Nat} (h : d.SymbolsOnly l e) {a : Nat} (ha : a < entry 0xD200 0) :
    e.rd a = d.rd a := by
  have hn : entry 0xD200 0 ≤ E.DIAG_ERRORS l := Nat.add_le_add (Nat.mul_le_mul_right 256 (Nat.le_add_right _ l)) (Nat.zero_le _)
  have hb : entry 0xD200 0 ≤ E.DIAG_BITS l := Nat.add_le_add (Nat.mul_le_mul_right 256 (Nat.le_add_right _ l)) (Nat.zero_le _)
  exact h.rd_eq a (Nat.ne_of_lt (Nat.lt_of_lt_of_le ha hn)) (Nat.ne_of_lt (Nat.lt_of_lt_of_le ha hb))

section
variable {d e : Device} {l : Nat} (h : d.SymbolsOnly l e) (hl : l < 512)
include h

theorem Device.SymbolsOnly.cur_eq (a : Addr) : e.cur a = d.cur a := by
  unfold Device.cur Device.parity Device.vintage Device.rdp
  rw [h.rd_below (a := E.VINTAGE_CURRENT) (by decide), h.p0_eq, h.p1_eq]

theorem Device.SymbolsOnly.laneSetting_eq {a : Nat} (ha : a < entry 0xD200 0) : e.laneSetting a = d.laneSetting a := by
  simp only [Device.laneSetting, h.mode_eq, h.rd_below ha, h.cur_eq]

theorem Device.SymbolsOnly.loopback_eq : e.loopback l = d.loopback l := by
  have hn : E.DIAG_LANE_CTRL l ≠ E.DIAG_ERRORS l := by simp [E.DIAG_LANE_CTRL, E.DIAG_ERRORS, entry]
  have hb : E.DIAG_LANE_CTRL l ≠ E.DIAG_BITS l := by simp [E.DIAG_LANE_CTRL, E.DIAG_BITS, entry]
  simp only [Device.loopback, h.mode_eq, h.rd_eq _ hn hb]

include hl

/-- LANE_STATUS, and the other entries of the lane's own record, are read as before. -/
theorem Device.SymbolsOnly.rd_status : e.rd (E.LANE_STATUS l) = d.rd (E.LANE_STATUS l) :=
  h.rd_below (by simp only [E.LANE_STATUS, entry]; omega)

theorem Device.SymbolsOnly.laneMode_eq : e.laneMode l = d.laneMode l := by
  have hset : e.laneSetting (E.LANE_MODE l) = d.laneSetting (E.LANE_MODE l) :=
    h.laneSetting_eq (by simp only [E.LANE_MODE, entry]; omega)
  unfold Device.laneMode Device.laneRetired Device.rdBit Device.isJoinLane
  rw [hset, h.rd_status hl, h.rd_below (a := E.JOIN_ENABLE) (by decide), h.rd_below (a := E.JOIN_WIDTH) (by decide)]

theorem Device.SymbolsOnly.laneRuns_eq : e.laneRuns l = d.laneRuns l := by
  simp only [Device.laneRuns, Device.laneRetired, Device.rdBit, h.mode_eq, h.rd_status hl, h.laneMode_eq hl]

theorem Device.SymbolsOnly.rxAsleep_eq : e.rxAsleep l = d.rxAsleep l := by
  unfold Device.rxAsleep Device.rxState
  rw [h.rd_status hl]

theorem Device.SymbolsOnly.frozen_eq : e.frozen l = d.frozen l := by
  simp only [Device.frozen, Device.rdBit, h.rd_status hl]

theorem Device.SymbolsOnly.windowPasses_eq (vs : List Nat) : e.windowPasses l vs = d.windowPasses l vs := by
  simp only [Device.windowPasses, h.laneMode_eq hl, h.rd_below (a := E.FREEZE_TRANSITION_MIN) (by decide),
    h.rd_below (a := E.FREEZE_LEVEL_MIN) (by decide)]

end

theorem Device.symbolsOnly_laneSend (d : Device) (l : Nat) (bs : List Bool) : d.SymbolsOnly l (d.laneSend l bs).1 := by
  unfold Device.laneSend
  split
  · exact .refl d l
  · exact d.symbolsOnly_records l _ _ _ _ _

theorem Device.symbolsOnly_laneReceive (d : Device) (l : Nat) (vs : List Nat) : d.SymbolsOnly l (d.laneReceive l vs).1 := by
  unfold Device.laneReceive
  split
  · exact .refl d l
  · exact d.symbolsOnly_records l _ _ _ _ _

theorem Device.symbolsOnly_laneOutput (d : Device) (l : Nat) (data : List Bool) (received : List Nat) :
    d.SymbolsOnly l (d.laneOutput l data received).1 := by
  unfold Device.laneOutput
  dsimp only
  split
  · exact .refl d l
  · split
    · refine Device.SymbolsOnly.trans ?_ (Device.symbolsOnly_laneSend _ l _)
      exact d.symbolsOnly_records l _ _ _ _ _
    · exact d.symbolsOnly_laneSend l data

theorem Device.symbolsOnly_sendWindow (d : Device) (l : Nat) (w : AdaptWindow) : d.SymbolsOnly l (d.sendWindow l w).1 := by
  unfold Device.sendWindow
  split
  · exact .refl d l
  · exact (d.symbolsOnly_laneOutput l w.data w.received).trans (Device.symbolsOnly_records _ l _ _ _ _ _)

theorem Device.symbolsOnly_checkPattern (d : Device) (l : Nat) (bs : List Bool) : d.SymbolsOnly l (d.checkPattern l bs) := by
  unfold Device.checkPattern
  dsimp only
  split
  · refine ⟨fun a hn hb => ?_, rfl, rfl, rfl, rfl, rfl, rfl⟩
    rw [Device.bump64, Device.rd_bump, if_neg hb, Device.bump64, Device.rd_bump, if_neg hn]
    rfl
  · exact .refl d l

/-- The device after a window's symbols were sent, read, and checked against the test pattern. -/
def Device.afterWindow (d : Device) (l : Nat) (w : AdaptWindow) : Device :=
  let x := d.sendWindow l w
  let y := x.1.laneInput l x.2 w.received
  y.1.checkPattern l y.2

theorem Device.symbolsOnly_afterWindow (d : Device) (l : Nat) (w : AdaptWindow) : d.SymbolsOnly l (d.afterWindow l w) :=
  ((d.symbolsOnly_sendWindow l w).trans (Device.symbolsOnly_laneReceive _ l _)).trans (Device.symbolsOnly_checkPattern _ l _)

/-- The runs of failing and of passing windows, each counted up to 4. -/
def Device.setRuns (d : Device) (l fails passes : Nat) : Device :=
  d.modLanes (fun x => { x with failRun := SMap.set x.failRun 0 l (min fails 4),
                                passRun := SMap.set x.passRun 0 l (min passes 4) })

theorem Device.frozen_setRuns (d : Device) (l fails passes : Nat) : (d.setRuns l fails passes).frozen l = d.frozen l := rfl

/-- What a window's test makes of adaptation: it freezes, runs on, or stays. -/
def Device.adaptBy (d : Device) (l : Nat) (pass : Bool) : Device :=
  let fails := if pass then 0 else SMap.get d.lanes.failRun 0 l + 1
  let passes := if pass then SMap.get d.lanes.passRun 0 l + 1 else 0
  let e := d.setRuns l fails passes
  if e.frozen l then (if 4 ≤ passes then e.resumeAdapt l else e) else if 4 ≤ fails then e.freeze l else e

theorem Device.adaptBy_of_fails {d : Device} {l : Nat} (hf : d.frozen l = false) :
    let n := SMap.get d.lanes.failRun 0 l + 1
    d.adaptBy l false = if 4 ≤ n then (d.setRuns l n 0).freeze l else d.setRuns l n 0 := by
  simp only [Device.adaptBy, Device.frozen_setRuns, hf, Bool.false_eq_true, if_false]

theorem Device.adaptBy_of_passes {d : Device} {l : Nat} (hf : d.frozen l = true) :
    let n := SMap.get d.lanes.passRun 0 l + 1
    d.adaptBy l true = if 4 ≤ n then (d.setRuns l 0 n).resumeAdapt l else d.setRuns l 0 n := by
  simp only [Device.adaptBy, Device.frozen_setRuns, hf, if_true]

theorem Device.laneRuns_lt {d : Device} {l : Nat} (h : d.laneRuns l = true) : l < 512 := by
  simp only [Device.laneRuns, Bool.and_eq_true, decide_eq_true_eq] at h
  exact h.1.1.2

section
variable {s : State} {l : Nat} (hr : s.Runs)
include hr

/-- A window of a lane that adapts is tested by what its receiver sees: the line, or its own transmitter (R470). -/
theorem exec_adaptWindow_of_adapting (w : AdaptWindow) (hrun : s.dev.laneRuns l = true) (hsleep : s.dev.rxAsleep l = false)
    (h3 : (s.dev.laneCtl l).testBit 3 = true) (h4 : (s.dev.laneCtl l).testBit 4 = true)
    (hre : SMap.get s.dev.lanes.relock 0 l ≠ 1) :
    exec (.adaptWindow l w) s = .next (s.put ((s.dev.afterWindow l w).adaptBy l
      (s.dev.windowPasses l (if s.dev.loopback l = 1 then (s.dev.sendWindow l w).2 else w.received)))) := by
  have hl : l < 512 := Device.laneRuns_lt hrun
  have hx := s.dev.symbolsOnly_sendWindow l w
  have hy := s.dev.symbolsOnly_afterWindow l w
  refine (on_runs s _ hr).trans ?_
  have hgo : (s.dev.sendWindow l w).1.laneRuns l = true ∧ (!(s.dev.sendWindow l w).1.rxAsleep l) = true :=
    ⟨(hx.laneRuns_eq hl).trans hrun, by rw [hx.rxAsleep_eq hl, hsleep]; rfl⟩
  have htest : (s.dev.afterWindow l w).laneRuns l = true ∧ (!(s.dev.afterWindow l w).rxAsleep l) = true ∧
      bit (s.dev.laneCtl l) 3 = true ∧ bit (s.dev.laneCtl l) 4 = true ∧ SMap.get (s.dev.afterWindow l w).lanes.relock 0 l ≠ 1 :=
    ⟨(hy.laneRuns_eq hl).trans hrun, by rw [hy.rxAsleep_eq hl, hsleep]; rfl, h3, h4, by rwa [hy.relock_eq]⟩
  dsimp only
  rw [if_pos hrun, if_pos hgo]
  refine congrArg (fun d => Host.Outcome.next (s.put d)) ((if_pos htest).trans ?_)
  rw [hx.loopback_eq, ← hy.windowPasses_eq hl]
  rfl

/-! ### The error monitor and snapshots (R102, R103) -/

theorem exec_errorMonitorWindow_of_within {n : Nat} (hrun : s.dev.laneRuns l = true) (hsleep : s.dev.rxAsleep l = false)
    (hn : n ≤ s.dev.rd (E.ADAPT_ERR_LIMIT l)) :
    exec (.errorMonitorWindow l n false) s = .next (s.put (s.dev.bump64 (E.SYMBOL_ERRORS l) n)) := by
  have hne : E.ADAPT_ERR_LIMIT l ≠ E.SYMBOL_ERRORS l := by simp [E.ADAPT_ERR_LIMIT, E.SYMBOL_ERRORS, entry]
  have hlimit : (s.dev.bump64 (E.SYMBOL_ERRORS l) n).rd (E.ADAPT_ERR_LIMIT l) = s.dev.rd (E.ADAPT_ERR_LIMIT l) :=
    Device.rd_wr_ne _ _ _ _ hne
  refine (on_runs s _ hr).trans ?_
  dsimp only
  rw [if_neg (by simp [hrun, hsleep]), if_neg (by simpa [hlimit] using hn)]

theorem exec_adaptSnapshot_of_adapting (hrun : s.dev.laneRuns l = true) (hsleep : s.dev.rxAsleep l = false)
    (hlock : s.dev.laneLocked l = true) (hfree : s.dev.frozen l = false) (h3 : (s.dev.laneCtl l).testBit 3 = true) :
    let e := s.dev.modLanes (fun x => { x with crossed := SMap.set x.crossed 0 l 0 })
    exec (.adaptSnapshot l) s =
      .next (s.put (if SMap.get s.dev.lanes.crossed 0 l = 0 then e.setLaneBit l 5 true else e)) := by
  refine (on_runs s _ hr).trans ?_
  dsimp only
  rw [if_pos ⟨hrun, hlock, by rw [hsleep]; rfl, by rw [hfree]; rfl, h3⟩]

end

/-! ### Sleep (R108 to R110, R132) -/

/-- The depth that a request takes: cut to what LANE_CONTROL allows the direction, and to light sleep in mode 6. -/
def Device.sleepDepth (d : Device) (l lo depth : Nat) : Nat :=
  min (min depth (min 2 (bits (d.laneCtl l) lo 2))) (if d.laneMode l = 6 then 1 else 2)

theorem Device.maySleep_tx (d : Device) (l depth : Nat) : d.maySleep l true depth = true := by
  unfold Device.maySleep
  split <;> rfl

theorem Device.maySleep_light_rx {d : Device} {l q : Nat} (hq : d.portOfLane l = some q) (h7 : d.portCtl q 7 = false) :
    d.maySleep l false 1 = false := by
  simp [Device.maySleep, hq, h7]

section
variable {d : Device} {l depth : Nat} (hrun : d.laneRuns l = true)
include hrun

theorem Device.sleepLane_tx (h : 0 < d.sleepDepth l 8 depth) :
    d.sleepLane l true depth = if d.laneLocked l then d.setTxState l (d.sleepDepth l 8 depth)
      else d.modLanes (fun x => { x with txAsked := SMap.set x.txAsked 0 l (d.sleepDepth l 8 depth + 1) }) := by
  have hgo : ¬ (!d.laneRuns l ∨ d.sleepDepth l 8 depth = 0) := by simp [hrun, Nat.ne_of_gt h]
  refine (if_neg hgo).trans ?_
  cases d.laneLocked l <;> rfl

theorem Device.sleepLane_rx (h : 0 < d.sleepDepth l 10 depth) :
    d.sleepLane l false depth = if d.laneLocked l then ((d.setRxState l (d.sleepDepth l 10 depth)).freeze l).squelch
      else d.modLanes (fun x => { x with rxAsked := SMap.set x.rxAsked 0 l (d.sleepDepth l 10 depth + 1) }) := by
  have hgo : ¬ (!d.laneRuns l ∨ d.sleepDepth l 10 depth = 0) := by simp [hrun, Nat.ne_of_gt h]
  refine (if_neg hgo).trans ?_
  cases d.laneLocked l <;> rfl

end

section
variable {s : State} {l : Nat} (hr : s.Runs)
include hr

theorem exec_laneSleep (tx : Bool) (depth : Nat) : exec (.laneSleep l tx depth) s =
    .next (s.put (if s.dev.maySleep l tx depth then s.dev.sleepLane l tx depth else s.dev)) := on_runs s _ hr

theorem exec_laneWake_tx (hrun : s.dev.laneRuns l = true) (h : SMap.get s.dev.lanes.txWaking 0 l = 1 ∨
      (s.dev.txState l = 1 ∨ s.dev.txState l = 2) ∧ s.dev.keptAsleep l = false) :
    exec (.laneWake l true) s = .next (s.put ((s.dev.setTxState l 0).modLanes (fun x =>
      { x with txWaking := SMap.set x.txWaking 0 l 0 }))) := by
  refine (on_runs s _ hr).trans ?_
  rw [if_neg (by simp [hrun]), if_pos rfl, if_pos (by simpa using h)]

theorem exec_laneWake_rx (hrun : s.dev.laneRuns l = true) (hsleep : s.dev.rxAsleep l = true) :
    exec (.laneWake l false) s = .next (s.put ((s.dev.setRxState l 0).resumeAdapt l)) := by
  refine (on_runs s _ hr).trans ?_
  rw [if_neg (by simp [hrun]), if_neg (by simp), if_pos hsleep]

end

/-! ### The check word of the Stave bridge (R112) -/

/-- What one failing wire of a check word does. -/
def Device.failWire (d : Device) (stave dir group w : Nat) : Device :=
  if d.wireChecked stave dir group w then (d.bumpSat (E.CHECK_FAILS stave) 1).strike 2 (wireInstance stave dir group w) else d

theorem Device.shiftGroup_of_none_due (d : Device) (group : Nat) (h : d.lanes.wiresDue = []) : d.shiftGroup group = d := by
  have hsame : { d.lanes with wiresDue := [] } = d.lanes := by rw [← h]
  simp [Device.shiftGroup, h, hsame]

theorem exec_bridgeCheckWord {s : State} (hr : s.Runs) {stave dir group : Nat} (hc : s.dev.mode.counts = true) (hs : stave < 8)
    (hd : dir < 2) (hg : group < 32) (failing : List Nat) :
    exec (.bridgeCheckWord stave dir group failing) s = .next (s.put (failing.foldl
      (fun d w => d.failWire stave dir group w) (s.dev.shiftGroup (stave * 64 + dir * 32 + group)))) := by
  refine (on_runs s _ hr).trans ?_
  rw [if_pos ⟨hc, hs, hd, hg⟩]
  rfl

/-- Settles O32: a window's symbols leave alone what its test reads, so adaptation follows the test; the monitor, snapshots,
sleep and wake in their cases; and the check word, wire by wire. That the shift waits for the group's next check word, and that
the idle spare is checked with the wires in use, are the model's reading (log entry 91). -/
theorem laneAdaptationAndSleep : Obligations.LaneAdaptationAndSleep := by
  unfold Obligations.LaneAdaptationAndSleep
  refine ⟨fun s l w hr hrun hsleep => ⟨fun h3 h4 hre => ⟨?freezes, ?resumes⟩,
      fun n hn => exec_errorMonitorWindow_of_within hr hrun hsleep hn,
      fun hlock hfree h3 => exec_adaptSnapshot_of_adapting hr hrun hsleep hlock hfree h3⟩,
    fun s l depth stave dir group w hr => ⟨?txSleeps, ?rxSleeps, ?lightRefused, exec_laneWake_tx hr, exec_laneWake_rx hr,
      fun hc hs hd hg => ⟨exec_bridgeCheckWord hr hc hs hd hg [], ?struck, ?spared, Device.shiftGroup_of_none_due _ _⟩⟩⟩
  case freezes =>
    intro hpass hfree
    have hy := s.dev.symbolsOnly_afterWindow l w
    rw [exec_adaptWindow_of_adapting hr w hrun hsleep h3 h4 hre, hpass,
      Device.adaptBy_of_fails ((hy.frozen_eq (Device.laneRuns_lt hrun)).trans hfree), hy.failRun_eq]
    rfl
  case resumes =>
    intro hpass hfrozen
    have hy := s.dev.symbolsOnly_afterWindow l w
    rw [exec_adaptWindow_of_adapting hr w hrun hsleep h3 h4 hre, hpass,
      Device.adaptBy_of_passes ((hy.frozen_eq (Device.laneRuns_lt hrun)).trans hfrozen), hy.passRun_eq]
    rfl
  case txSleeps =>
    intro hrun hmost
    rw [exec_laneSleep hr, if_pos (Device.maySleep_tx _ _ _), Device.sleepLane_tx hrun hmost]
    rfl
  case rxSleeps =>
    intro hrun hmost hmay
    rw [exec_laneSleep hr, if_pos hmay, Device.sleepLane_rx hrun hmost]
    rfl
  case lightRefused =>
    intro q hq h7
    rw [exec_laneSleep hr, Device.maySleep_light_rx hq h7, if_neg Bool.false_ne_true, put_dev s hr.2]
  case struck =>
    intro hw
    rw [exec_bridgeCheckWord hr hc hs hd hg, List.foldl_cons, List.foldl_nil, Device.failWire, if_pos hw]
    rfl
  case spared =>
    intro hw
    rw [exec_bridgeCheckWord hr hc hs hd hg, List.foldl_cons, List.foldl_nil, Device.failWire, hw, if_neg Bool.false_ne_true]

end Sys2Proof.Machine
end

section
/-! SUPPORT. A received frame's class, its verdict, and the start and end of its transmission. -/

namespace Sys2Proof.Machine

open Sys2Proof

/-- Settles O25: the tests of a frame's class, in the order of R122. -/
theorem frameClassOrder : Obligations.FrameClassOrder := by
  unfold Obligations.FrameClassOrder
  intro e mtu _ n
  refine ⟨fun hpcs => if_pos hpcs, fun hpcs hlong => ?oversize, fun hpcs hfits hshort => ?undersize,
    fun hpcs hfits h64 hfcs => ?fcs, fun hpcs hfits h64 hfcs => ?passed⟩
  all_goals have hpcs' : ¬ e.pcsError = true := by simp [hpcs]
  case oversize => exact (if_neg hpcs').trans (if_pos hlong)
  case undersize => exact (if_neg hpcs').trans ((if_neg (Nat.not_lt.mpr hfits)).trans (if_pos hshort))
  all_goals refine (if_neg hpcs').trans ((if_neg (Nat.not_lt.mpr hfits)).trans ((if_neg (Nat.not_lt.mpr h64)).trans ?_))
  case fcs => exact if_pos hfcs
  case passed => exact if_neg (fun hne => hne hfcs)

/-! ### The verdict (R123, R298) -/

/-- A frame takes its class as its verdict. -/
def Frame.judged (f : Frame) (now : Nat) : Frame := { f with verdict := some f.cls, verdictSlot := now }

/-- An egress mirror's frame takes its verdict with that of the frame `n`, once. -/
def Frame.follow (f : Frame) (n now : Nat) : Frame :=
  if f.follows = some (n, true) && f.verdict.isNone then f.judged now else f

/-- The verdict of a frame whose end has arrived, wherever the frame stands. -/
def Device.judgeFrame (d : Device) (n : Nat) : Device :=
  match d.anyFrame n with
  | some f => if f.ended && f.verdict.isNone then d.modAny n (fun f => f.judged d.clk.slots) else d
  | none => d

/-- The verdict of the egress mirrors of a frame (log entry 110: the model's reading). -/
def Device.judgeFollowers (d : Device) (n now : Nat) : Device := { d with frames := d.frames.map (fun f => f.follow n now) }

/-- A transmission that the verdict of the frame `n` reaches. -/
def Device.reachesTx (d : Device) (n : Nat) (t : Tx) : Bool :=
  match d.frame? t.copy.frame with
  | some f => (f.id = n || f.follows = some (n, true)) && f.verdict.isSome && t.stomp.isNone
  | none => false

/-- The verdict of a frame, and of its egress mirrors, reaches its transmissions. -/
def Device.judgeTxs (d : Device) (n : Nat) : Device :=
  (d.dec.tx.filter (d.reachesTx n)).foldl (fun (d : Device) t =>
    match d.frame? t.copy.frame with
    | some f => d.judgeTx t (f.verdict.getD 0)
    | none => d) d

theorem exec_verdictArrival {s : State} (hr : s.Runs) (n : Nat) : exec (.verdictArrival n) s =
    .next (s.put ((((s.dev.judgeFrame n).judgeFollowers n s.dev.clk.slots).creditFrame n).judgeTxs n)) := on_runs s _ hr

theorem Frame.follow_id (f : Frame) (n now : Nat) : (f.follow n now).id = f.id := by unfold Frame.follow; split <;> rfl

theorem Frame.follow_follows (f : Frame) (n now : Nat) : (f.follow n now).follows = f.follows := by
  unfold Frame.follow; split <;> rfl

theorem Frame.follow_eq (f : Frame) (n now : Nat) :
    f.follow n now = if f.follows = some (n, true) ∧ f.verdict = none then f.judged now else f := by
  simp only [Frame.follow, Bool.and_eq_true, decide_eq_true_eq, Option.isNone_iff_eq_none]

/-- A frame that has its verdict keeps it. -/
theorem Frame.follow_of_verdict {f : Frame} {n : Nat} (h : f.follows = some (n, true) → f.verdict ≠ none) (now : Nat) :
    f.follow n now = f := by
  rw [Frame.follow_eq, if_neg (fun hf => h hf.1 hf.2)]

theorem Device.frame?_id {d : Device} {k : Nat} {f : Frame} (h : d.frame? k = some f) : f.id = k := by
  simpa using List.find?_some h

/-- The frame `k` after the frame `n` was changed: the change is made where `k` is `n`. -/
theorem find?_modFirst_frame (xs : List Frame) (n k : Nat) (f : Frame → Frame) (hf : ∀ x, (f x).id = x.id) :
    (modFirst xs (fun x => x.id = n) f).find? (fun x => x.id = k) =
      (xs.find? (fun x => x.id = k)).map (fun x => if k = n then f x else x) := by
  induction xs with
  | nil => rfl
  | cons x xs ih =>
    rw [modFirst]
    by_cases hn : x.id = n
    · by_cases hkn : k = n
      · simp [hn, hf, hkn]
      · simp [hn, hf, hkn, Ne.symm hkn]
    · by_cases hk : x.id = k
      · simp [hk, hk ▸ hn]
      · simpa [hn, hk] using ih

theorem Device.frame?_judgeFollowers (d : Device) (n now k : Nat) :
    (d.judgeFollowers n now).frame? k = (d.frame? k).map (fun f => f.follow n now) := by
  simp only [Device.frame?, Device.judgeFollowers, List.find?_map, Function.comp_def, Frame.follow_id]

theorem Device.judgeFollowers_of_verdicts {d : Device} {n : Nat}
    (h : ∀ g ∈ d.frames, g.follows = some (n, true) → g.verdict ≠ none) (now : Nat) : d.judgeFollowers n now = d := by
  have hsame : d.frames.map (fun f => f.follow n now) = d.frames :=
    (List.map_congr_left fun g hg => Frame.follow_of_verdict (h g hg) now).trans (List.map_id _)
  rw [Device.judgeFollowers, hsame]

/-- No transmission carries the frame or an egress mirror of it, and no charge of unknown length is for one. -/
structure Device.Unsent (d : Device) (n : Nat) : Prop where
  tx : ∀ t ∈ d.dec.tx, ∀ g, d.frame? t.copy.frame = some g → g.id ≠ n ∧ g.follows ≠ some (n, true)
  owing : ∀ o ∈ d.dec.owing, (d.owingFrame o).id ≠ n ∧ (d.owingFrame o).follows ≠ some (n, true)

/-- Frames changed, but for their names and whom they follow. -/
theorem Device.Unsent.of_frames {d e : Device} {n : Nat} (h : d.Unsent n) (hdec : e.dec = d.dec) (u : Nat → Frame → Frame)
    (hu : ∀ k g, (u k g).id = g.id ∧ (u k g).follows = g.follows) (hframes : ∀ k, e.frame? k = (d.frame? k).map (u k)) :
    e.Unsent n where
  tx t ht g hg := by
    rw [hframes, Option.map_eq_some_iff] at hg
    obtain ⟨g, hg, rfl⟩ := hg
    rw [(hu _ g).1, (hu _ g).2]
    exact h.tx t (hdec ▸ ht) g hg
  owing o ho := by
    have hold := h.owing o (hdec ▸ ho)
    rw [Device.owingFrame] at hold ⊢
    rw [hframes]
    cases hg : d.frame? o.frame.id with
    | none => simpa [hg] using hold
    | some g => simpa [hg, hu] using hold

theorem Device.Unsent.creditFrame {d : Device} {n : Nat} (h : d.Unsent n) : d.creditFrame n = d := by
  have hdue : ∀ o ∈ d.dec.owing, (((d.owingFrame o).id = n || (d.owingFrame o).follows = some (n, true))
      && (d.owingFrame o).ended && (d.owingFrame o).verdict.isSome) = false := by
    intro o ho
    simp [h.owing o ho]
  have hnone := List.filter_eq_nil_iff.mpr (fun o ho => Bool.eq_false_iff.mp (hdue o ho))
  have hall := List.filter_eq_self.mpr (fun o ho => Bool.not_eq_true' _ ▸ hdue o ho)
  simp only [Device.creditFrame, hnone, hall, List.foldl_nil]

theorem Device.Unsent.judgeTxs {d : Device} {n : Nat} (h : d.Unsent n) : d.judgeTxs n = d := by
  have hnone : ∀ t ∈ d.dec.tx, ¬ d.reachesTx n t = true := by
    intro t ht
    unfold Device.reachesTx
    split
    · next f hf => simp [h.tx t ht f hf]
    · exact Bool.false_ne_true
  rw [Device.judgeTxs, List.filter_eq_nil_iff.mpr hnone, List.foldl_nil]

/-- With no transmission to reach, the verdict changes frames alone. -/
theorem exec_verdictArrival_of_unsent {s : State} (hr : s.Runs) {n : Nat}
    (h : ((s.dev.judgeFrame n).judgeFollowers n s.dev.clk.slots).Unsent n) :
    exec (.verdictArrival n) s = .next (s.put ((s.dev.judgeFrame n).judgeFollowers n s.dev.clk.slots)) := by
  rw [exec_verdictArrival hr, h.creditFrame, h.judgeTxs]

section
variable {d : Device} {n : Nat} {f : Frame} (hf : d.frame? n = some f)
include hf

/-- The verdict comes once, and not before the frame's end. -/
theorem Device.judgeFrame_of_not_due (h : f.ended = false ∨ f.verdict.isSome = true) : d.judgeFrame n = d := by
  have hno : ¬ (f.ended && f.verdict.isNone) = true := by
    rcases h with h | h
    · simp [h]
    · simp [Option.isSome_iff_ne_none.mp h]
  simp only [Device.judgeFrame, Device.anyFrame, hf, if_neg hno]

theorem Device.judgeFrame_of_due (he : f.ended = true) (hv : f.verdict = none) :
    d.judgeFrame n = d.modAny n (fun f => f.judged d.clk.slots) := by
  simp [Device.judgeFrame, Device.anyFrame, hf, he, hv]

/-- A change of a frame with no charge of unknown length leaves the Decanter alone. -/
theorem Device.dec_modAny (h : d.Unsent n) (u : Frame → Frame) : (d.modAny n u).dec = d.dec := by
  have hne : ∀ o ∈ d.dec.owing, o.frame.id ≠ n := by
    intro o ho hid
    have hold : d.owingFrame o = f := by rw [Device.owingFrame, hid, hf, Option.getD_some]
    exact (h.owing o ho).1 (hold ▸ Device.frame?_id hf)
  have hsame : d.dec.owing.map (fun o => if o.frame.id = n then { o with frame := u o.frame } else o) = d.dec.owing :=
    (List.map_congr_left fun o ho => if_neg (hne o ho)).trans (List.map_id _)
  simp only [Device.modAny, hsame]

end

theorem Device.frame?_modAny (d : Device) (n k : Nat) (u : Frame → Frame) (hu : ∀ g, (u g).id = g.id) :
    (d.modAny n u).frame? k = (d.frame? k).map (fun g => if k = n then u g else g) :=
  find?_modFirst_frame d.frames n k u hu

/-- What a verdict makes of the frame `k`. -/
def Frame.afterVerdict (n now k : Nat) (g : Frame) : Frame := (if k = n then g.judged now else g).follow n now

theorem Frame.afterVerdict_names (n now k : Nat) (g : Frame) :
    (g.afterVerdict n now k).id = g.id ∧ (g.afterVerdict n now k).follows = g.follows := by
  rw [Frame.afterVerdict, Frame.follow_id, Frame.follow_follows]
  split <;> exact ⟨rfl, rfl⟩

/-- The frame itself has its verdict before its egress mirrors take theirs. -/
theorem Frame.afterVerdict_same (n now : Nat) (g : Frame) : g.afterVerdict n now n = g.judged now := by
  rw [Frame.afterVerdict, if_pos rfl, Frame.follow_of_verdict (fun _ => Option.some_ne_none _)]

theorem Frame.afterVerdict_other {n k : Nat} (hk : k ≠ n) (now : Nat) (g : Frame) :
    g.afterVerdict n now k = if g.follows = some (n, true) ∧ g.verdict = none then g.judged now else g := by
  rw [Frame.afterVerdict, if_neg hk, Frame.follow_eq]

/-- The device with the verdict given to a frame and to its egress mirrors. -/
def Device.giveVerdict (d : Device) (n : Nat) : Device :=
  (d.modAny n (fun f => f.judged d.clk.slots)).judgeFollowers n d.clk.slots

theorem Device.queued_giveVerdict (d : Device) (n : Nat) : (d.giveVerdict n).queued = d.queued := rfl
theorem Device.bk_giveVerdict (d : Device) (n : Nat) : (d.giveVerdict n).bk = d.bk := rfl
theorem Device.sent_giveVerdict (d : Device) (n : Nat) : (d.giveVerdict n).sent = d.sent := rfl

theorem Device.dec_giveVerdict {d : Device} {n : Nat} {f : Frame} (hf : d.frame? n = some f) (h : d.Unsent n) :
    (d.giveVerdict n).dec = d.dec := Device.dec_modAny hf h (fun f => f.judged d.clk.slots)

theorem Device.frame?_giveVerdict (d : Device) (n k : Nat) :
    (d.giveVerdict n).frame? k = (d.frame? k).map (fun g => g.afterVerdict n d.clk.slots k) := by
  rw [Device.giveVerdict, Device.frame?_judgeFollowers, Device.frame?_modAny _ _ _ (fun f => f.judged _) (fun _ => rfl),
    Option.map_map]
  rfl

/-- The verdict of a frame that has ended and of which nothing is being sent is given to it and to its egress mirrors. -/
theorem exec_verdictArrival_of_due {s : State} (hr : s.Runs) {n : Nat} {f : Frame} (hf : s.dev.frame? n = some f)
    (hun : s.dev.Unsent n) (he : f.ended = true) (hv : f.verdict = none) :
    exec (.verdictArrival n) s = .next (s.put (s.dev.giveVerdict n)) := by
  have hgive : (s.dev.judgeFrame n).judgeFollowers n s.dev.clk.slots = s.dev.giveVerdict n := by
    rw [Device.judgeFrame_of_due hf he hv, Device.giveVerdict]
  have hun' : (s.dev.giveVerdict n).Unsent n := hun.of_frames (Device.dec_giveVerdict hf hun) _
    (fun k g => g.afterVerdict_names n _ k) (s.dev.frame?_giveVerdict n)
  rw [exec_verdictArrival_of_unsent hr (hgive ▸ hun'), hgive]

theorem exec_verdictArrival_of_not_due {s : State} (hr : s.Runs) {n : Nat} {f : Frame} (hf : s.dev.frame? n = some f)
    (hun : s.dev.Unsent n) (h : f.ended = false ∨ f.verdict.isSome = true)
    (hg : ∀ g ∈ s.dev.frames, g.follows = some (n, true) → g.verdict ≠ none) : exec (.verdictArrival n) s = .next s := by
  have hsame : (s.dev.judgeFrame n).judgeFollowers n s.dev.clk.slots = s.dev := by
    rw [Device.judgeFrame_of_not_due hf h, Device.judgeFollowers_of_verdicts hg]
  rw [exec_verdictArrival_of_unsent hr (hsame.symm ▸ hun), hsame, put_dev s hr.2]

/-! ### A transmission's first byte (R261, R263) -/

/-- The start of a copy that may take its port's wire: behind a due PFC frame, when the wire is free for it. -/
def Device.startOnWire (d : Device) (t : Tx) (f : Frame) : Device :=
  let d := d.insertPfc t.port
  match d.wireSlot t with
  | none => d
  | some (at', cut) => if 2 * d.clk.nowPs < at' then d else d.takeWire t f at' cut

theorem Device.startOnWire_of_slot {d : Device} {t : Tx} {f : Frame} {at' : Nat} {cut : Option Tx}
    (h : (d.insertPfc t.port).wireSlot t = some (at', cut)) (hat : at' ≤ 2 * (d.insertPfc t.port).clk.nowPs) :
    d.startOnWire t f = (d.insertPfc t.port).takeWire t f at' cut := by
  simp only [Device.startOnWire, h, if_neg (Nat.not_lt.mpr hat)]

theorem Device.startOnWire_of_no_slot {d : Device} {t : Tx} {f : Frame} (h : (d.insertPfc t.port).wireSlot t = none) :
    d.startOnWire t f = d.insertPfc t.port := by
  simp only [Device.startOnWire, h]

section
variable {s : State} {c : Nat} {t : Tx} {f : Frame} (hr : s.Runs) (ht : s.dev.dec.tx.find? (fun x => x.copy.id = c) = some t)
  (hf : s.dev.frame? t.copy.frame = some f)
include hr ht hf

theorem exec_copyTxStart : exec (.copyTxStart c) s = .next (s.put
    (if t.started ∨ !t.passed ∨ s.dev.clk.slots ≤ t.selected + 272 ∨ !s.dev.txReady t.port then s.dev
      else if f.cellError then s.dev.dropCopy t.copy Reason.CELL_ERROR true none else s.dev.startOnWire t f)) := by
  refine (on_runs s _ hr).trans ?_
  simp only [ht, hf]
  rfl

/-- A copy starts 272 slots after its selection at the earliest (R261). -/
theorem exec_copyTxStart_of_early (h : s.dev.clk.slots ≤ t.selected + 272) : exec (.copyTxStart c) s = .next s := by
  rw [exec_copyTxStart hr ht hf, if_pos (.inr (.inr (.inl h))), put_dev s hr.2]

theorem exec_copyTxStart_of_due (hstart : t.started = false) (hpass : t.passed = true)
    (hslots : t.selected + 272 < s.dev.clk.slots) (hready : s.dev.txReady t.port = true) : exec (.copyTxStart c) s = .next (s.put
      (if f.cellError then s.dev.dropCopy t.copy Reason.CELL_ERROR true none else s.dev.startOnWire t f)) := by
  rw [exec_copyTxStart hr ht hf, if_neg (by simp [hstart, hpass, hslots, hready])]

/-! ### A transmission's last byte (R125, R133) -/

theorem exec_copyTxEnd : exec (.copyTxEnd c) s = .next (s.put
    (if t.started = false ∨ s.dev.offWire t = true ∨
        (t.stomp = none ∧ s.dev.outgrown t f = false ∧ (f.ended = false ∨ f.verdict = none)) then s.dev
      else s.dev.finishTx t f (if s.dev.outgrown t f then some Reason.EGRESS_MTU else s.dev.badEnd t f (txBytes f t)))) := by
  refine (on_runs s _ hr).trans ?_
  simp only [ht, hf, Bool.not_eq_true', Option.isNone_iff_eq_none]

/-- A copy that has not begun, or that a gate holds or an express frame has cut short, does not end. -/
theorem exec_copyTxEnd_of_not_on_wire (h : t.started = false ∨ s.dev.offWire t = true) : exec (.copyTxEnd c) s = .next s := by
  rw [exec_copyTxEnd hr ht hf, if_pos (h.imp_right .inl), put_dev s hr.2]

/-- A copy on the wire with its frame's good verdict leaves whole. -/
theorem exec_copyTxEnd_of_good (hstart : t.started = true) (hwire : s.dev.offWire t = false) (he : f.ended = true)
    (hv : f.verdict.isSome = true) (hgood : s.dev.badEnd t f (txBytes f t) = none) :
    exec (.copyTxEnd c) s = .next (s.put ((s.dev.deliverTx t f (txBytes f t)).freeWire t.port (s.dev.txEnd t))) := by
  have hlong : s.dev.outgrown t f = false := by simp [Device.outgrown, he]
  rw [exec_copyTxEnd hr ht hf, if_neg (by simp [hstart, hwire, he, Option.isSome_iff_ne_none.mp hv]), hlong,
    if_neg Bool.false_ne_true, hgood]
  rfl

end

/-- Settles O27: a verdict given while nothing of its frame is sent changes frames alone; a transmission starts and ends in its
cases. That an egress mirror's frame takes its verdict with that of the frame it follows is the model's reading (log entry 110);
that a command without its occurrence changes nothing is the model's choice (log entry 7). -/
theorem verdictsAndTransmission : Obligations.VerdictsAndTransmission := by
  unfold Obligations.VerdictsAndTransmission
  refine ⟨fun s n f hr hf htx howing => ?verdicts, fun s c t f at' cut hr ht hf =>
    ⟨fun hstart hpass hslots hready hcell => ⟨fun hslot hat => ?takesWire, fun hslot => ?waits⟩,
      fun hstart hpass hslots hready hcell => ?cellError, exec_copyTxStart_of_early hr ht hf,
      fun hstart hwire _ he hv hgood => exec_copyTxEnd_of_good hr ht hf hstart hwire he hv hgood,
      fun h => exec_copyTxEnd_of_not_on_wire hr ht hf (.inr h), fun h => exec_copyTxEnd_of_not_on_wire hr ht hf (.inl h)⟩⟩
  case verdicts =>
    have hun : s.dev.Unsent n := ⟨htx, howing⟩
    refine ⟨fun he hv => ?_, exec_verdictArrival_of_not_due hr hf hun⟩
    refine ⟨s.put (s.dev.giveVerdict n), exec_verdictArrival_of_due hr hf hun he hv, ?_, fun k g hk hg => ?_, ?_⟩
    · exact (s.dev.frame?_giveVerdict n n).trans (by rw [hf, Option.map_some, Frame.afterVerdict_same]; rfl)
    · exact (s.dev.frame?_giveVerdict n k).trans (by rw [hg, Option.map_some, Frame.afterVerdict_other hk]; rfl)
    · simp only [State.put_dev, Device.queued_endCycle, Device.bk_endCycle, Device.sent_endCycle, Device.dec_endCycle,
        Device.queued_giveVerdict, Device.bk_giveVerdict, Device.sent_giveVerdict, Device.dec_giveVerdict hf hun, and_self]
  case takesWire =>
    rw [exec_copyTxStart_of_due hr ht hf hstart hpass hslots hready, hcell, if_neg Bool.false_ne_true,
      Device.startOnWire_of_slot hslot hat]
  case waits =>
    rw [exec_copyTxStart_of_due hr ht hf hstart hpass hslots hready, hcell, if_neg Bool.false_ne_true,
      Device.startOnWire_of_no_slot hslot]
  case cellError =>
    rw [exec_copyTxStart_of_due hr ht hf hstart hpass hslots hready, if_pos hcell]

end Sys2Proof.Machine
end

section
/-! SUPPORT. The ports' commands: the link, flow control, preemption verify and low-power idle. -/

namespace Sys2Proof.Machine

open Sys2Proof

/-! ### Commands with a condition -/

/-- A command whose condition holds does its work. -/
theorem on_runs_of_pos {s : State} {c : Device → Prop} [DecidablePred c] {f : Device → Device} (hr : s.Runs) (h : c s.dev) :
    s.on (fun d => if c d then f d else d) = .next (s.put (f s.dev)) := by rw [on_runs s _ hr, if_pos h]

/-- A command whose condition does not hold changes nothing (log entries 6 and 7: the model's choice). -/
theorem on_runs_of_neg {s : State} {c : Device → Prop} [DecidablePred c] {f : Device → Device} (hr : s.Runs) (h : ¬ c s.dev) :
    s.on (fun d => if c d then f d else d) = .next s := by rw [on_runs s _ hr, if_neg h, put_dev s hr.2]

/-! ### The link (R118, R119, R136) -/

theorem Device.mem_instances (d : Device) (p : Nat) : p ∈ d.instances p := by
  unfold Device.instances; split <;> exact List.mem_cons_self

/-- The first PCS of a port has the port's number. -/
theorem Device.instanceKey_first (d : Device) (p : Nat) : d.instanceKey p false = some p := by
  have hfirst : (d.instances p).head? = some p := by unfold Device.instances; split <;> rfl
  obtain ⟨ks, hks⟩ := List.head?_eq_some_iff.mp hfirst
  rw [Device.instanceKey, hks]
  exact List.find?_cons_of_pos (by simp)

theorem Device.portLocalFault_of_rs {d : Device} {p : Nat} (hp : d.portExists p = true) (h : SMap.get d.ports.rsLocal 0 p = 1) :
    d.portLocalFault p = true := by
  have hany : (d.instances p).any (fun k => SMap.get d.ports.rsLocal 0 k = 1) = true :=
    List.any_eq_true.mpr ⟨p, d.mem_instances p, decide_eq_true h⟩
  rw [Device.portLocalFault, hp, hany, Bool.true_or, Bool.true_or, Bool.and_self]

theorem Device.linkOk_of_portLocalFault {d : Device} {p : Nat} (h : d.portLocalFault p = true) : d.linkOk p = false := by
  rw [Device.linkOk, h, Bool.not_true, Bool.and_false, Bool.false_and]

theorem Device.lineSignal_of_portLocalFault {d : Device} {p : Nat} (hp : d.portExists p = true) (hup : d.adminUp p = true)
    (h : d.portLocalFault p = true) : d.lineSignal p = .remoteFault := by
  simp only [Device.lineSignal, hp, hup, h, Bool.not_true, Bool.false_eq_true, if_false, if_true]

/-- MGMT_STATUS in MGMT_MODE 2, where local and remote fault are reported (R136). -/
theorem Device.refreshMgmt_of_mode {d : Device} (h : d.rd E.MGMT_MODE = 2) :
    d.refreshMgmt = d.wr E.MGMT_STATUS ((d.ports.mgmtLink && !d.ports.mgmtLocal && !d.ports.mgmtRemote).toNat
      + 2 * (!d.ports.mgmtLink || d.ports.mgmtLocal).toNat + 4 * d.ports.mgmtRemote.toNat) := by
  rw [Device.refreshMgmt, h]
  cases d.ports.mgmtLink <;> cases d.ports.mgmtLocal <;> rfl

section
variable {s : State} {p : Nat} (hr : s.Runs)
include hr

theorem exec_linkUp_of_ready (hc : s.dev.mode.counts = true) (hok : s.dev.linkOk p = true) (hdown : s.dev.linkUp p = false) :
    exec (.linkUp p) s = .next (s.put
      (((s.dev.wrBit (E.PORT_STATUS p) 0 true).raise (Src.PORT_UP (s.dev.sliceOf p)) p).startPreempt p)) :=
  on_runs_of_pos hr ⟨hc, hok, by rw [hdown]; rfl⟩

theorem exec_linkUp_of_not_ready (h : s.dev.linkUp p = true ∨ s.dev.linkOk p = false) : exec (.linkUp p) s = .next s := by
  refine on_runs_of_neg hr ?_
  rcases h with h | h <;> simp [h]

/-- Local fault of a PCS is kept, and its port looks again at what it needs. -/
theorem exec_localFault {second : Bool} {k : Nat} (hp : s.dev.portExists p = true) (hk : s.dev.instanceKey p second = some k)
    (present : Bool) : exec (.localFault ⟨p, second⟩ present) s = .next (s.put
      (({ s.dev with ports := { s.dev.ports with rsLocal := SMap.set s.dev.ports.rsLocal 0 k present.toNat } } :
        Device).recheckPort p)) := by
  refine (on_runs s _ hr).trans ?_
  simp only [hk, if_pos hp]

/-- Remote fault of a PCS likewise. -/
theorem exec_remoteFault {second : Bool} {k : Nat} (hp : s.dev.portExists p = true) (hk : s.dev.instanceKey p second = some k)
    (present : Bool) : exec (.remoteFault ⟨p, second⟩ present) s = .next (s.put
      (({ s.dev with ports := { s.dev.ports with rsRemote := SMap.set s.dev.ports.rsRemote 0 k present.toNat } } :
        Device).recheckPort p)) := by
  refine (on_runs s _ hr).trans ?_
  simp only [hk, if_pos hp]

theorem exec_mgmtStatus_of_mode (hc : s.dev.mode.counts = true) (hm : s.dev.rd E.MGMT_MODE = 2) (link lf rf : Bool) :
    exec (.mgmtStatus link lf rf) s = .next (s.put
      (({ s.dev with ports := { s.dev.ports with mgmtLink := link, mgmtLocal := lf, mgmtRemote := rf } } : Device).wr E.MGMT_STATUS
        ((link && !lf && !rf).toNat + 2 * (!link || lf).toNat + 4 * rf.toNat))) := by
  exact (on_runs_of_pos hr hc).trans (congrArg (fun d => Host.Outcome.next (s.put d)) (Device.refreshMgmt_of_mode hm))

end

/-- Settles O29: the link rises where it may and not else, a fault of a PCS is kept and the port rechecked, and
MGMT_STATUS. That LINK_UP stands for its elapsed hold, and changes nothing where its condition does not hold, is the model's
choice (log entry 6). -/
theorem linkEvents : Obligations.LinkEvents := by
  unfold Obligations.LinkEvents
  exact fun s p hr => ⟨exec_linkUp_of_ready hr, exec_linkUp_of_not_ready hr,
    fun _ present _ hp hk => ⟨exec_localFault hr hp hk present, exec_remoteFault hr hp hk present⟩,
    s.dev.instanceKey_first p, fun _ hp hup h => Device.lineSignal_of_portLocalFault hp hup h, fun _ hok => if_pos hok,
    fun _ hp h => Device.linkOk_of_portLocalFault (Device.portLocalFault_of_rs hp h),
    fun link lf rf hc hm => exec_mgmtStatus_of_mode hr hc hm link lf rf⟩

/-! ### Flow control (R129, R130) -/

section
variable {s : State} {p k : Nat} (hr : s.Runs)
include hr

theorem exec_pfcHoldExpiry_of_held (hp : p < 512) (hk : k < 7) (h : (s.dev.rd (E.PORT_STATUS p)).testBit (8 + k) = true) :
    exec (.pfcHoldExpiry p k) s = .next (s.put (s.dev.wrBit (E.PORT_STATUS p) (8 + k) false)) :=
  on_runs_of_pos hr ⟨hp, hk, h⟩

/-- A class at XOFF asks again with the quanta that it sent last. -/
theorem exec_pfcRefresh_of_xoff (hs : s.dev.sendsPfc p k = true) (hx : (s.dev.rd (E.XOFF_CLASSES p)).testBit k = true)
    (hq : SMap.get s.dev.pfcSent 0 (pfcKey p k) ≠ 0) :
    exec (.pfcRefresh p k) s = .next (s.put (s.dev.pfcAsk p k (SMap.get s.dev.pfcSent 0 (pfcKey p k)))) :=
  on_runs_of_pos hr ⟨hs, hx, hq⟩

/-! ### Preemption verify (R127) -/

section
variable (hp : s.dev.portExists p = true) (hup : s.dev.linkUp p = true) (hv : s.dev.verifyState p = 1)
include hp hup hv

/-- Verify sends at most three mPackets, then it has failed. -/
theorem exec_preemptVerifySend : let n := SMap.get s.dev.ports.verifySends 0 p
    exec (.preemptVerifySend p) s = .next (s.put (if n < 3 then
      ({ s.dev with ports := { s.dev.ports with verifySends := SMap.set s.dev.ports.verifySends 0 p (n + 1) } } : Device).send
        (.verify p)
      else s.dev.setPreempt p false 3)) :=
  on_runs_of_pos hr ⟨hp, hup, hv⟩

theorem exec_preemptVerifyResponse_of_sent (hn : SMap.get s.dev.ports.verifySends 0 p ≠ 0) :
    exec (.preemptVerifyResponse p) s = .next (s.put (s.dev.setPreempt p true 2)) :=
  on_runs_of_pos hr ⟨hp, hup, .inl hv, hn⟩

end

/-! ### Low-power idle (R132) -/

theorem exec_lpiTxEntry_of_idle (hp : s.dev.portExists p = true) (hup : s.dev.linkUp p = true) (hctl : s.dev.portCtl p 6 = true)
    (hlpi : s.dev.txLpi p = false) (hidle : s.dev.portIdle p = true) :
    let e := (s.dev.wrBit (E.PORT_STATUS p) 6 true).bump64 (E.LPI_TX_ENTRIES p) 1
    exec (.lpiTxEntry p) s = .next (s.put ((e.portLanes p).foldl (fun d l => d.sleepLane l true 1) e)) :=
  on_runs_of_pos hr ⟨hp, hup, hctl, by rw [hlpi]; rfl, hidle⟩

theorem exec_lpiTxEntry_of_busy (hidle : s.dev.portIdle p = false) : exec (.lpiTxEntry p) s = .next s := by
  refine on_runs_of_neg hr ?_
  simp [hidle]

theorem exec_lpiTxExit_of_busy (hp : s.dev.portExists p = true) (hidle : s.dev.portIdle p = false) :
    exec (.lpiTxExit p) s = .next (s.put (s.dev.leaveLpi p)) :=
  on_runs_of_pos hr ⟨hp, by rw [hidle]; rfl⟩

theorem exec_lpiTxExit_of_idle (hidle : s.dev.portIdle p = true) : exec (.lpiTxExit p) s = .next s := by
  refine on_runs_of_neg hr ?_
  simp [hidle]

end

theorem Device.leaveLpi_of_txLpi {d : Device} {p : Nat} (h : d.txLpi p = true) :
    d.leaveLpi p = (d.portLanes p).foldl (fun d l => d.askWake l) (d.wrBit (E.PORT_STATUS p) 6 false) := if_pos h

/-- Settles O30: each command of flow control, preemption verify and low-power idle where its conditions hold, and low-power
idle where they do not. That a command without its occurrence changes nothing is the model's choice (log entries 6 and 7). -/
theorem pfcPreemptionAndLpi : Obligations.PfcPreemptionAndLpi := by
  unfold Obligations.PfcPreemptionAndLpi
  refine ⟨fun s p k hr => ⟨exec_pfcHoldExpiry_of_held hr, ?refresh, fun hp hup hv => ⟨fun hn => ?sends, fun hn => ?fails,
      exec_preemptVerifyResponse_of_sent hr hp hup hv⟩⟩,
    fun s p hr hp => ⟨exec_lpiTxEntry_of_idle hr hp, exec_lpiTxEntry_of_busy hr, fun hidle hlpi => ?leaves,
      exec_lpiTxExit_of_idle hr⟩⟩
  case refresh =>
    rw [Nat.mul_comm 8 p]
    exact exec_pfcRefresh_of_xoff hr
  case sends =>
    rw [exec_preemptVerifySend hr hp hup hv, if_pos hn]
    rfl
  case fails => rw [exec_preemptVerifySend hr hp hup hv, if_neg (Nat.not_lt.mpr hn)]
  case leaves => rw [exec_lpiTxExit_of_busy hr hp hidle, Device.leaveLpi_of_txLpi hlpi]

end Sys2Proof.Machine
end

section
/-! SUPPORT. Repair in service, flow telemetry, aging and the Care load. -/

namespace Sys2Proof.Machine

open Sys2Proof

/-! ### The retirement map in flash (R451) -/

/-- The device after a write of the map that failed three times. -/
def Device.mapWriteFailed (d : Device) : Device :=
  ((d.wr E.MAP_STATE 2).raise Src.RETIREMENT_MAP 0).bumpSat E.MAP_WRITE_FAILS 1

/-- The device after a write of the map that ended: the flash holds the map again. -/
def Device.mapWritten (d : Device) : Device := if d.writeMap.rd E.MAP_STATE = 2 then d.writeMap.wr E.MAP_STATE 0 else d.writeMap

section
variable {s : State} (hr : s.Runs)
include hr

theorem exec_retirementMapWrite_of_pending (ha : s.dev.alive = true) (hp : s.dev.mapPending = true) (failed : Bool) :
    exec (.retirementMapWrite failed) s = .next (s.put (if failed then s.dev.mapWriteFailed else s.dev.mapWritten)) := by
  refine (on_runs s _ hr).trans ?_
  rw [if_neg (by simp [ha, hp])]
  rfl

theorem exec_retirementMapWrite_of_not_pending (hp : s.dev.mapPending = false) (failed : Bool) :
    exec (.retirementMapWrite failed) s = .next s := by
  refine (on_runs s _ hr).trans ?_
  rw [if_pos (.inr (by rw [hp]; rfl)), put_dev s hr.2]

end

section
variable (d : Device)

theorem Device.rd_mapState_mapWriteFailed : d.mapWriteFailed.rd E.MAP_STATE = 2 := by
  rw [Device.mapWriteFailed, Device.rd_bumpSat, if_neg (by decide), Device.rd_raise_below _ _ _ (by decide), Device.rd_wr_same]

theorem Device.rd_mapWriteFails_mapWriteFailed :
    d.mapWriteFailed.rd E.MAP_WRITE_FAILS = min (d.rd E.MAP_WRITE_FAILS + 1) 0xFFFFFFFF := by
  rw [Device.mapWriteFailed, Device.rd_bumpSat, if_pos rfl, Device.rd_raise_below _ _ _ (by decide),
    Device.rd_wr_ne _ _ _ _ (by decide)]

/-- A write that failed leaves both copies and the map itself as they are. -/
theorem Device.mapWriteFailed_keeps :
    d.mapWriteFailed.mapA = d.mapA ∧ d.mapWriteFailed.mapB = d.mapB ∧ d.mapWriteFailed.retired = d.retired := by
  have h : d.EventOnly d.mapWriteFailed :=
    ((d.eventOnly_wr _ _).trans (Device.eventOnly_raise _ _ _)).trans (Device.eventOnly_wr _ _ _)
  unfold Device.EventOnly at h
  exact ⟨(congrArg Device.mapA h :), (congrArg Device.mapB h :), (congrArg Device.retired h :)⟩

/-- The end of a failure, where there was one, changes MAP_STATE alone. -/
theorem Device.mapWritten_keeps : d.mapWritten.mapA = d.writeMap.mapA ∧ d.mapWritten.mapB = d.writeMap.mapB ∧
    d.mapWritten.sent = d.writeMap.sent ∧ d.mapWritten.rd E.MAP_SEQUENCE = d.writeMap.rd E.MAP_SEQUENCE := by
  unfold Device.mapWritten; split
  · exact ⟨rfl, rfl, rfl, Device.rd_wr_ne _ _ _ _ (by decide)⟩
  · exact ⟨rfl, rfl, rfl, rfl⟩

theorem Device.rd_mapState_mapWritten : d.mapWritten.rd E.MAP_STATE ≠ 2 := by
  unfold Device.mapWritten; split
  · rw [Device.rd_wr_same]; decide
  · assumption

end

section
variable {d : Device} (hseq : d.newestMap.1 + 1 < 2 ^ 32)
include hseq

theorem Device.writeMap_of_older_a (h : d.mapA.1 < d.mapB.1) :
    d.writeMap = (({ d with mapA := (d.newestMap.1 + 1, d.retired.take 4000) } : Device).send
      (.flash flashMapA (mapImage (d.newestMap.1 + 1) (d.retired.take 4000)))).wr E.MAP_SEQUENCE (d.newestMap.1 + 1) := by
  simp only [Device.writeMap, if_pos h, Nat.mod_eq_of_lt hseq]

theorem Device.writeMap_of_older_b (h : ¬ d.mapA.1 < d.mapB.1) :
    d.writeMap = (({ d with mapB := (d.newestMap.1 + 1, d.retired.take 4000) } : Device).send
      (.flash flashMapB (mapImage (d.newestMap.1 + 1) (d.retired.take 4000)))).wr E.MAP_SEQUENCE (d.newestMap.1 + 1) := by
  simp only [Device.writeMap, if_neg h, Nat.mod_eq_of_lt hseq]

theorem Device.rd_mapSequence_writeMap : d.writeMap.rd E.MAP_SEQUENCE = d.newestMap.1 + 1 := by
  rw [Device.writeMap, Device.rd_wr_same, Nat.mod_eq_of_lt hseq]

/-- The copy written is the newer one from then on. -/
theorem Device.newestMap_writeMap : d.writeMap.newestMap = (d.newestMap.1 + 1, d.retired.take 4000) := by
  by_cases h : d.mapA.1 < d.mapB.1
  · rw [Device.writeMap_of_older_a hseq h]
    have hb : d.newestMap = d.mapB := if_pos h
    exact if_neg (Nat.not_lt.mpr (by simp [hb]))
  · rw [Device.writeMap_of_older_b hseq h]
    have ha : d.newestMap = d.mapA := if_neg h
    exact if_pos (by simp [ha])

/-- The map goes into the copy with the lower sequence, the second where both have the same; the other copy stays. -/
theorem Device.writeMap_copies : let seq := d.newestMap.1 + 1
    let rs := d.retired.take 4000
    (d.writeMap.mapA = d.mapA ∧ d.writeMap.mapB = (seq, rs) ∧ d.mapB.1 ≤ d.mapA.1 ∧
      d.writeMap.sent = d.sent ++ [.flash flashMapB (mapImage seq rs)]) ∨
    (d.writeMap.mapB = d.mapB ∧ d.writeMap.mapA = (seq, rs) ∧ d.mapA.1 < d.mapB.1 ∧
      d.writeMap.sent = d.sent ++ [.flash flashMapA (mapImage seq rs)]) := by
  intro seq rs
  by_cases h : d.mapA.1 < d.mapB.1
  · rw [Device.writeMap_of_older_a hseq h]
    exact .inr ⟨rfl, rfl, h, rfl⟩
  · rw [Device.writeMap_of_older_b hseq h]
    exact .inl ⟨rfl, rfl, Nat.not_lt.mp h, rfl⟩

end

/-! ### The Cellarhand's passes (R185, R186, R253, R454) -/

/-- The end of a pass changes the Cellarhand's contexts alone. -/
theorem Device.passEnds_keeps (d : Device) (scrub : Bool) : (d.passEnds scrub).stores = d.stores ∧
    (d.passEnds scrub).frames = d.frames ∧ ∀ a, (d.passEnds scrub).rd a = d.rd a := by
  unfold Device.passEnds; split <;> exact ⟨rfl, rfl, fun _ => rfl⟩

theorem Device.obj_passEnds (d : Device) (scrub : Bool) (a : Addr) : (d.passEnds scrub).obj a = d.obj a := by
  unfold Device.passEnds; split <;> rfl

theorem Device.resolveDifference_of_die (d : Device) {x : ShadowDifference} (hd : x.diePasses = true) (hs : x.shadowPasses = false) :
    d.resolveDifference x = (d.bump64 E.SHADOW_MISMATCHES 1).rewriteShadow x.store x.loc := by
  simp [Device.resolveDifference, hd, hs]

theorem Device.resolveDifference_of_shadow (d : Device) {x : ShadowDifference} (hs : x.shadowPasses = true) :
    d.resolveDifference x = ((d.bump64 E.SHADOW_MISMATCHES 1).restoreEntry x.store x.loc).strikeStore x.store x.loc := by
  simp [Device.resolveDifference, hs]

theorem Device.resolveDifference_of_neither (d : Device) {x : ShadowDifference} (hd : x.diePasses = false)
    (hs : x.shadowPasses = false) : d.resolveDifference x = (d.bump64 E.SHADOW_MISMATCHES 1).loseEntry x.store x.loc := by
  simp [Device.resolveDifference, hd, hs]

/-- A substitution whose spare holds the data of what it stands for, where it is the one named. -/
def Substitution.markCopied (x : Substitution) (kind inst : Nat) : Substitution :=
  if x.kind = kind ∧ x.inst = inst then { x with copied := true } else x

theorem Substitution.copied_markCopied {x : Substitution} {kind inst : Nat} (hk : (x.markCopied kind inst).kind = kind)
    (hi : (x.markCopied kind inst).inst = inst) : (x.markCopied kind inst).copied = true := by
  by_cases h : x.kind = kind ∧ x.inst = inst
  · rw [Substitution.markCopied, if_pos h]
  · rw [Substitution.markCopied, if_neg h] at hk hi
    exact absurd ⟨hk, hi⟩ h

/-- Between commands, one that changes the substitutions alone leaves the rest as it was. -/
theorem put_subst_dev {s : State} (h : s.Between) (xs : List Substitution) :
    (s.put { s.dev with subst := xs }).dev = { s.dev with subst := xs } :=
  congrArg (fun t : State => ({ t.dev with subst := xs } : Device)) (put_dev s h)

section
variable {s : State} (hr : s.Runs)
include hr

/-- A command that works while slots are counted does its work then. -/
theorem on_runs_of_alive (ha : s.dev.alive = true) (f : Device → Device) :
    s.on (fun d => if !d.alive then d else f d) = .next (s.put (f s.dev)) := by
  rw [on_runs s _ hr, if_neg (by simp [ha])]

theorem exec_shadowPass (ha : s.dev.alive = true) (xs : List ShadowDifference) : exec (.shadowPass xs) s = .next (s.put
    (((xs.foldl (fun (d : Device) x => d.resolveDifference x) (s.dev.shadowLost.foldl (fun (d : Device) l => d.rebuildShadows l)
      { s.dev with shadowLost := [] })).bump E.SHADOW_PASSES 32 1).passEnds false)) :=
  on_runs_of_alive hr ha _

/-- Without pseudo-channels whose shadows are lost, a pass resolves its differences alone. -/
theorem exec_shadowPass_of_none_lost (ha : s.dev.alive = true) (hl : s.dev.shadowLost = []) (xs : List ShadowDifference) :
    exec (.shadowPass xs) s = .next (s.put
      (((xs.foldl (fun (d : Device) x => d.resolveDifference x) s.dev).bump E.SHADOW_PASSES 32 1).passEnds false)) := by
  have hsame : ({ s.dev with shadowLost := [] } : Device) = s.dev := by rw [← hl]
  rw [exec_shadowPass hr ha, hl, List.foldl_nil, hsame]

theorem exec_scrubPass (ha : s.dev.alive = true) (r : ScrubReport) : exec (.scrubPass r) s = .next (s.put (s.dev.scrubPass r)) :=
  on_runs_of_alive hr ha _

theorem exec_spareCopyDone (kind inst : Nat) : exec (.spareCopyDone kind inst) s =
    .next (s.put { s.dev with subst := s.dev.subst.map (fun x => x.markCopied kind inst) }) :=
  on_runs s _ hr

/-- The queues are flushed at once where every header has run and no job is left. -/
theorem exec_safeHoldQueueFlush_of_drained (hm : s.dev.mode = .safeHold) (hh : s.dev.headers = []) (hj : s.dev.jobs = []) :
    exec .safeHoldQueueFlush s = .next (s.put s.dev.flushQueues) :=
  on_runs_of_pos hr ⟨hm, .inl ⟨hh, hj⟩⟩

theorem exec_safeHoldQueueFlush_of_other_mode (hm : s.dev.mode ≠ .safeHold) : exec .safeHoldQueueFlush s = .next s :=
  on_runs_of_neg hr (fun h => hm h.1)

end

/-! ### Flow telemetry (R346 to R348) -/

theorem exec_flowScan {s : State} (hr : s.Runs) :
    exec .flowScan s = .next (s.put (s.dev.tel.flows.foldl (fun d f => d.visitFlow f) s.dev)) := on_runs s _ hr

section
variable {d : Device} {f : Flow} {t : Nat} (hp : d.flowProfile d.parity f.record = some t)
include hp

theorem Device.visitFlow_of_profile : d.visitFlow f =
    if (d.cur (E.IDLE_TIMEOUT_S t) * 1000000000 : Int) ≤ timeDelta d.now80 f.stop then
      { d.exportFlow t f 1 with tel := { (d.exportFlow t f 1).tel with
        flows := (d.exportFlow t f 1).tel.flows.filter (fun x => x.record ≠ f.record) } }
    else if (d.cur (E.ACTIVE_TIMEOUT_S t) * 1000000000 : Int) ≤ timeDelta d.now80 f.start then
      { d.exportFlow t f 2 with tel := { (d.exportFlow t f 2).tel with
        flows := setFlow { f with packets := 0, octets := 0 } (d.exportFlow t f 2).tel.flows } }
    else d := by
  simp only [Device.visitFlow, hp, Int.natCast_mul, Int.cast_ofNat_Int]

/-- A flow that was idle for its profile's time is exported and given up. -/
theorem Device.flows_visitFlow_of_idle
    (h : (d.cur (E.IDLE_TIMEOUT_S t) * 1000000000 : Int) ≤ timeDelta d.now80 f.stop) :
    (d.visitFlow f).tel.flows = (d.exportFlow t f 1).tel.flows.filter (fun x => x.record ≠ f.record) := by
  rw [Device.visitFlow_of_profile hp, if_pos h]

/-- A flow within both its times is left as it is. -/
theorem Device.visitFlow_of_within (hi : timeDelta d.now80 f.stop < (d.cur (E.IDLE_TIMEOUT_S t) * 1000000000 : Int))
    (ha : timeDelta d.now80 f.start < (d.cur (E.ACTIVE_TIMEOUT_S t) * 1000000000 : Int)) : d.visitFlow f = d := by
  rw [Device.visitFlow_of_profile hp, if_neg (Int.not_le.mpr hi), if_neg (Int.not_le.mpr ha)]

end

/-- An item pushed to a ring changes the rings' queues, or the count of what a ring lost. -/
theorem Device.pushRing_eq (d : Device) (x : Nat) (item : List Byte) : d.pushRing x item =
    { d with bk := (d.pushRing x item).bk, tel := { d.tel with fifos := (d.pushRing x item).tel.fifos } } := by
  unfold Device.pushRing; split
  · rfl
  · split <;> rfl

theorem exec_ipfixMessageSend {s : State} (hr : s.Runs) : exec .ipfixMessageSend s = .next (s.put s.dev.sendIpfix) := on_runs s _ hr

theorem Device.sendIpfix_of_none {d : Device} (h : d.tel.ipfixRecords = []) : d.sendIpfix = d := if_pos h

/-- The waiting records leave together: they and one message are counted, and no flow and no frame changes. -/
theorem Device.sendIpfix_of_waiting {d : Device} (h : d.tel.ipfixRecords ≠ []) : d.sendIpfix =
    { d with bk := d.sendIpfix.bk, tel := { d.tel with
        ipfixSequence := (d.tel.ipfixSequence + d.tel.ipfixRecords.length) % 2 ^ 32
        ipfixMessages := d.tel.ipfixMessages + 1, ipfixTemplate := false, ipfixRecords := []
        fifos := d.sendIpfix.tel.fifos } } := by
  simp only [Device.sendIpfix, if_neg h]
  exact Device.pushRing_eq _ _ _

/-! ### Aging (R218) -/

/-- An entry after a pass: its HIT is cleared where the pass tested it. -/
def TableEntry.afterAging (e : TableEntry) (q : Nat) : TableEntry := if e.valid q then { e with hit := false } else e

/-- The entries that a pass lists, in the order of their identities. -/
def Device.agedEntries (d : Device) : List (List Byte) :=
  ((d.stores.exact.filter (fun e => e.valid d.parity)).filter (fun e => !e.hit)).foldl (fun xs e => putEntry 32 e.bytes xs) []

/-- The device with the list replaced, every HIT tested cleared and the pass counted; the pass's routine goes on. -/
def Device.listAged (d : Device) : Device :=
  (({ d with stores := { d.stores with exact := d.stores.exact.map (fun e => e.afterAging d.parity) } } : Device).setObj E.AGED_LIST
    (d.agedEntries.take 65536).flatten).bumpSat E.AGED_PASSES 1

/-- The device after a pass, whose routine has ended. -/
def Device.age (d : Device) : Device := (d.listAged.modContext 2 (fun x => { x with output := [] })).passEnds false

section
variable {s : State} (hr : s.Runs)
include hr

theorem exec_agingPass_of_disabled (h : s.dev.rd E.AGE_ENABLE = 0) : exec .agingPass s = .next s := by
  refine (on_runs s _ hr).trans ?_
  rw [if_pos h, put_dev s hr.2]

theorem exec_agingPass_of_enabled (h : s.dev.rd E.AGE_ENABLE ≠ 0) : exec .agingPass s = .next (s.put s.dev.age) := by
  refine (on_runs s _ hr).trans ?_
  rw [if_neg h]
  rfl

end

section
variable (e : TableEntry) (q : Nat)

theorem TableEntry.valid_afterAging : (e.afterAging q).valid q = e.valid q := by
  unfold TableEntry.afterAging; split <;> rfl

theorem TableEntry.hit_afterAging (h : (e.afterAging q).valid q = true) : (e.afterAging q).hit = false := by
  rw [TableEntry.afterAging, if_pos (e.valid_afterAging q ▸ h)]

/-- Aging leaves an entry's place, content and validity. -/
theorem TableEntry.afterAging_content :
    ((e.afterAging q).loc, (e.afterAging q).bytes, (e.afterAging q).v0, (e.afterAging q).v1) = (e.loc, e.bytes, e.v0, e.v1) := by
  unfold TableEntry.afterAging; split <;> rfl

end

section
variable (d : Device)

theorem Device.exact_age : d.age.stores.exact = d.stores.exact.map (fun e => e.afterAging d.parity) :=
  congrArg Stores.exact ((d.listAged.modContext 2 _).passEnds_keeps false).1

theorem Device.agedList_age : d.age.obj E.AGED_LIST = (d.agedEntries.take 65536).flatten :=
  (Device.obj_passEnds _ false _).trans ((Device.obj_setObj _ _ _ _).trans (if_pos rfl))

theorem Device.agedPasses_age : d.age.rd E.AGED_PASSES = min (d.rd E.AGED_PASSES + 1) 0xFFFFFFFF :=
  (((d.listAged.modContext 2 _).passEnds_keeps false).2.2 _).trans (Device.rd_wr_same _ _ _)

end

/-! ### The Care load (R173) -/

theorem exec_careLoadDone_of_due {s : State} {m : Mode} (hr : s.Runs) (ha : s.dev.armed = some m) (hp : m.powersCare = true)
    (hl : s.dev.careLoaded = false) : exec .careLoadDone s =
      .next (s.put { s.dev with careLoaded := true, stores := { s.dev.stores with care := s.dev.shadow.care } }) := by
  refine (on_runs s _ hr).trans ?_
  simp [Device.loadCare, ha, hp, hl]

/-- Settles O58: each command in its cases, and what its operation changes. That the map's write keeps the 4,000 oldest records
(log entry 204), that SHADOW_PASSES and SCRUB_PASSES wrap (log entry 147), and that a command whose occurrence cannot happen
changes nothing (log entries 6 and 7) are the model's choices. -/
theorem repairsInService : Obligations.RepairsInService := by
  unfold Obligations.RepairsInService
  refine ⟨fun s hr ha => ⟨fun hp => ?mapFails, fun hp hseq => ?mapWritten, exec_retirementMapWrite_of_not_pending hr,
      fun hl => exec_shadowPass_of_none_lost hr ha hl [], fun hl x rest => exec_shadowPass_of_none_lost hr ha hl (x :: rest),
      fun x => ⟨s.dev.resolveDifference_of_die, s.dev.resolveDifference_of_shadow, s.dev.resolveDifference_of_neither⟩,
      exec_scrubPass hr ha _, exec_scrubPass hr ha _, fun system x rest => exec_scrubPass hr ha _, fun _ _ _ => rfl,
      Device.passEnds_keeps, fun _ => rfl, fun kind inst => ?spare, exec_safeHoldQueueFlush_of_drained hr,
      exec_safeHoldQueueFlush_of_other_mode hr⟩,
    fun s hr => ⟨fun hnone => ?noFlow, fun f hone => ?oneFlow, fun f t hp => Device.flows_visitFlow_of_idle hp,
      fun f t hp => Device.visitFlow_of_within hp, fun hnone => ?noRecord, fun hsome => ?message⟩,
    fun s hr => ⟨exec_agingPass_of_disabled hr, fun hage => ?aging, fun m harm hcare => exec_careLoadDone_of_due hr harm hcare⟩⟩
  case mapFails =>
    obtain ⟨hA, hB, hretired⟩ := s.dev.mapWriteFailed_keeps
    exact ⟨_, exec_retirementMapWrite_of_pending hr ha hp true, s.dev.rd_mapState_mapWriteFailed, hA, hB, hretired,
      s.dev.rd_mapWriteFails_mapWriteFailed⟩
  case mapWritten =>
    obtain ⟨hA, hB, hsent, hsequence⟩ := s.dev.mapWritten_keeps
    have hnewest : s.dev.mapWritten.newestMap = s.dev.writeMap.newestMap := by simp only [Device.newestMap, hA, hB]
    refine ⟨s.put s.dev.mapWritten, exec_retirementMapWrite_of_pending hr ha hp false,
      hnewest.trans (Device.newestMap_writeMap hseq), hsequence.trans (Device.rd_mapSequence_writeMap hseq),
      s.dev.rd_mapState_mapWritten, ?_⟩
    simp only [State.put_dev, Device.mapA_endCycle, Device.mapB_endCycle, Device.sent_endCycle, hA, hB, hsent]
    exact Device.writeMap_copies hseq
  case spare =>
    refine ⟨_, exec_spareCopyDone hr kind inst, put_subst_dev hr.2 _, List.length_map .., fun x hx hk hi => ?_⟩
    obtain ⟨y, -, rfl⟩ := List.mem_map.mp hx
    exact Substitution.copied_markCopied hk hi
  case noFlow => rw [exec_flowScan hr, hnone, List.foldl_nil, put_dev s hr.2]
  case oneFlow => rw [exec_flowScan hr, hone, List.foldl_cons, List.foldl_nil]
  case noRecord => rw [exec_ipfixMessageSend hr, Device.sendIpfix_of_none hnone, put_dev s hr.2]
  case message =>
    have h := Device.sendIpfix_of_waiting hsome
    have htel := congrArg Device.tel h
    exact ⟨_, exec_ipfixMessageSend hr, (congrArg Telemetry.ipfixRecords htel :), (congrArg Telemetry.ipfixSequence htel :),
      (congrArg Telemetry.ipfixMessages htel :), (congrArg Telemetry.flows htel :), (congrArg Device.frames h :)⟩
  case aging =>
    refine ⟨_, exec_agingPass_of_enabled hr hage, s.dev.agedList_age, fun e he hv => ?_, ?_, s.dev.agedPasses_age⟩
    · obtain ⟨y, -, rfl⟩ := List.mem_map.mp (s.dev.exact_age ▸ he)
      exact y.hit_afterAging _ hv
    · refine (congrArg (List.map _) s.dev.exact_age).trans ?_
      rw [List.map_map]
      exact List.map_congr_left (fun e _ => e.afterAging_content _)

end Sys2Proof.Machine
end

section
/-! SUPPORT. A factory action is refused where its header takes it, and every other command answers a next state. -/

namespace Sys2Proof.Machine

open Sys2Proof

section
variable {s : State} {h : Nat} {a : ActArgs}

theorem exec_factoryAction_of_taken {x : Header} (hx : s.dev.header? h = some x) (ha : actTaken x a = true)
    (ht : s.dev.board.tripped = false) : exec (.factoryAction h a) s = .refused .factoryActionUnspecified := by
  simp [exec, execFactoryAction, hx, ha, ht]

/-- A factory action that no header takes while the clocks run does nothing. -/
theorem exec_factoryAction_of_not_taken
    (hn : ∀ x, s.dev.header? h = some x → actTaken x a = true → s.dev.board.tripped = true) :
    exec (.factoryAction h a) s = s.on (fun d => d) := by
  simp only [exec, execFactoryAction]
  split
  next x hx => exact if_neg (by simpa using hn x hx)
  next => rfl

end

/-- Settles O3: by the command; each but a factory action is one operation on the board, whose result the state takes. That a
taken factory action is refused (log entry 26), that no command faults (log entry 157) and that a command which names nothing
completes (log entry 7) are the model's choices. -/
theorem everyCommandAnswers : Obligations.EveryCommandAnswers := by
  unfold Obligations.EveryCommandAnswers
  intro c s
  cases c with
  | factoryAction h a =>
    by_cases ht : ∃ x, s.dev.header? h = some x ∧ actTaken x a = true ∧ s.dev.board.tripped = false
    · obtain ⟨x, hx, ha, hrun⟩ := ht
      exact .inr ⟨exec_factoryAction_of_taken hx ha hrun, h, a, x, rfl, hx, ha⟩
    · have hnot : ∀ x, s.dev.header? h = some x → actTaken x a = true → s.dev.board.tripped = true :=
        fun x hx ha => Bool.of_not_eq_false (fun hrun => ht ⟨x, hx, ha, hrun⟩)
      exact .inl ⟨_, exec_factoryAction_of_not_taken hnot⟩
  | _ => exact .inl ⟨_, rfl⟩

end Sys2Proof.Machine
end

section
/-! SUPPORT. What one slot of a Cooper word does for its header: ALU slots by their kind, and actions by what each sets. -/

namespace Sys2Proof.Machine

open Sys2Proof

/-! ### Bytes and passes (R194, R195) -/

theorem leBytes_mod (n v : Nat) : leBytes n (v % 256 ^ n) = leBytes n v := by
  induction n generalizing v with
  | zero => rfl
  | succ n ih =>
    have hlow : BitVec.ofNat 8 (v % 256 ^ (n + 1)) = BitVec.ofNat 8 v :=
      BitVec.eq_of_toNat_eq (Nat.mod_mod_of_dvd v (Nat.dvd_mul_left 256 (256 ^ n)))
    have hhigh : v % 256 ^ (n + 1) / 256 = v / 256 % 256 ^ n := by rw [Nat.pow_succ', Nat.mod_mul_right_div_self]
    rw [leBytes, leBytes, hlow, hhigh, ih]

/-- Bytes hold the low bits of a number. -/
theorem beBytes_mod (n v : Nat) : beBytes n (v % 2 ^ (8 * n)) = beBytes n v := by
  rw [Nat.pow_mul, beBytes, beBytes, leBytes_mod]

theorem beBytes_length (n v : Nat) : (beBytes n v).length = n := by rw [beBytes, List.length_reverse, leBytes_length]

@[simp] theorem Device.header?_endCycle (d : Device) (h : Nat) : d.endCycle.header? h = d.header? h := rfl

theorem Device.header?_modPass {d : Device} {h : Nat} {x : Header} (hx : d.header? h = some x) (f : Pass → Pass) :
    (d.modPass h f).header? h = some { x with p := f x.p } :=
  find_modFirst d.headers h (fun y => { y with p := f y.p }) (fun _ => rfl) x hx

/-! ### ALU slots (R197) -/

section
variable {op : Nat} {a : AluArgs} (p : Pass)

theorem aluEffect_of_not_ok (h : aluOk op a = false) : aluEffect op a p = .inl (0, []) := by simp [aluEffect, h]

theorem aluEffect_of_bytes (h : aluOk op a = true) (h0 : op ≠ 0) (hop : op < 10) : aluEffect op a p =
    .inl (a.dst, beBytes (widthOf a.width) (aluResult op (widthOf a.width) (aluA p a) (aluB p a))) := by
  simp [aluEffect, h, h0, hop]

theorem aluEffect_of_compare (h : aluOk op a = true) (hop : 10 ≤ op) : aluEffect op a p =
    .inr (a.dst, aluCompare op (widthOf a.width) (aluA p a) (aluB p a)) := by
  simp [aluEffect, h, Nat.not_lt.mpr hop, show op ≠ 0 by omega]

end

section
variable {s : State} {h op : Nat} {x : Header} {a : AluArgs} (hr : s.Runs) (hx : s.dev.header? h = some x)
include hr hx

/-- A slot whose effect is no bytes changes nothing. -/
theorem alu_of_no_bytes (he : aluEffect op a x.p = .inl (0, [])) : s.alu h op a = .next s := by
  rw [alu_eq s h op x a hr hx, he, Device.modPass_id s.dev h (fun p => p.applyAlu (.inl (0, []))) (fun _ => rfl), put_dev s hr.2]

theorem alu_nop : s.alu h 0 a = .next s := alu_of_no_bytes hr hx (by simp [aluEffect])

/-- A slot of an operation that writes bytes: the result's bytes from DST up, where a word may hold the slot. -/
theorem alu_bytes (h0 : op ≠ 0) (hop : op < 10) : s.alu h op a = .next (if aluOk op a then
    s.put (s.dev.modPass h (fun p => p.setBytes a.dst
      (beBytes (widthOf a.width) (aluResult op (widthOf a.width) (aluA x.p a) (aluB x.p a))))) else s) := by
  split
  next hok => rw [alu_eq s h op x a hr hx, aluEffect_of_bytes x.p hok h0 hop]; rfl
  next hok => exact alu_of_no_bytes hr hx (aluEffect_of_not_ok x.p (Bool.not_eq_true _ ▸ hok))

/-- A slot of a compare: the predicate DST, where a word may hold the slot. -/
theorem alu_compare (hop : 10 ≤ op) : s.alu h op a = .next (if aluOk op a then
    s.put (s.dev.modPass h (fun p =>
      { p with preds := setBit p.preds a.dst (aluCompare op (widthOf a.width) (aluA x.p a) (aluB x.p a)) })) else s) := by
  split
  next hok => rw [alu_eq s h op x a hr hx, aluEffect_of_compare x.p hok hop]; rfl
  next hok => exact alu_of_no_bytes hr hx (aluEffect_of_not_ok x.p (Bool.not_eq_true _ ▸ hok))

end

/-- The command's slot is one of an operation that writes bytes: those of `value`, cut to the operand's width. -/
structure WritesBytes (op : Nat) (c : Nat → AluArgs → Instr) (value : Nat → Nat → Nat → Nat) : Prop where
  op_pos : op ≠ 0 := by decide
  op_lt : op < 10 := by decide
  exec_eq : ∀ h a s, exec (c h a) s = s.alu h op a := by intros; rfl
  bytes_eq : ∀ w a b, beBytes w (aluResult op w a b) = beBytes w (value w a b)

theorem onesAdd_eq (a b : Nat) : onesAdd a b = if a + b < 65536 then a + b else a + b - 65535 := by
  simp only [onesAdd, ge_iff_le, ← Nat.not_lt, ite_not]

/-- The operations that write bytes (Table 8.3), with their commands and values. -/
def byteOps : List (Nat × (Nat → AluArgs → Instr) × (Nat → Nat → Nat → Nat)) :=
  [(1, .aluMov, fun _ _ b => b), (2, .aluAdd, fun _ a b => a + b),
    (3, .aluSub, fun w a b => a + 2 ^ (8 * w) - b % 2 ^ (8 * w)), (4, .aluAnd, fun _ a b => a &&& b),
    (5, .aluOr, fun _ a b => a ||| b), (6, .aluXor, fun _ a b => a ^^^ b),
    (7, .aluShl, fun w a b => a * 2 ^ (b % (8 * w))), (8, .aluShr, fun w a b => a / 2 ^ (b % (8 * w))),
    (9, .osum, fun _ a b => if a + b < 65536 then a + b else a + b - 65535)]

/-- Results that the model cuts to the width have the bytes of what they are cut from; the others are the values themselves. -/
theorem byteOps_writesBytes : ∀ e ∈ byteOps, WritesBytes e.1 e.2.1 e.2.2 := by
  simp only [byteOps, List.forall_mem_cons]
  exact ⟨{ bytes_eq := fun _ _ _ => beBytes_mod _ _ }, { bytes_eq := fun _ _ _ => beBytes_mod _ _ },
    { bytes_eq := fun _ _ _ => beBytes_mod _ _ }, { bytes_eq := fun _ _ _ => rfl }, { bytes_eq := fun _ _ _ => rfl },
    { bytes_eq := fun _ _ _ => rfl }, { bytes_eq := fun _ _ _ => beBytes_mod _ _ }, { bytes_eq := fun _ _ _ => rfl },
    { bytes_eq := fun _ a b => congrArg _ (onesAdd_eq a b) }, fun _ h => nomatch h⟩

/-- Settles O7: a slot of an operation that writes bytes, and one of a compare, by what its kind does; that a slot which no word may
hold changes nothing is the model's choice (log entry 22). -/
theorem aluSlots : Obligations.AluSlots := by
  unfold Obligations.AluSlots
  refine ⟨fun s h x a hr hx => ⟨fun op c value hmem => ?bytes, alu_nop hr hx⟩, fun s h x a hr hx op c holds hmem => ?compare⟩
  case bytes =>
    have hw := byteOps_writesBytes _ hmem
    rw [hw.exec_eq, alu_bytes hr hx hw.op_pos hw.op_lt, hw.bytes_eq]
  case compare =>
    simp only [List.mem_cons, Prod.mk.injEq, List.not_mem_nil, or_false] at hmem
    rcases hmem with ⟨rfl, rfl, rfl⟩ | ⟨rfl, rfl, rfl⟩ | ⟨rfl, rfl, rfl⟩ | ⟨rfl, rfl, rfl⟩ | ⟨rfl, rfl, rfl⟩ <;>
      exact alu_compare hr hx (by decide)

/-- Settles O8: the result's bytes are laid one by one, each only where words may write it, so that every other byte reads as
before. -/
theorem aluWritesOnlyItsDestination : Obligations.AluWritesOnlyItsDestination := by
  unfold Obligations.AluWritesOnlyItsDestination
  intro s h x a op c hr hx hok hmem
  obtain ⟨e, he, hec⟩ : ∃ e ∈ byteOps, (e.1, e.2.1) = (op, c) := List.mem_map.mp hmem
  obtain ⟨rfl, rfl⟩ := Prod.mk.inj hec
  have hw := byteOps_writesBytes e he
  have hexec := (hw.exec_eq h a s).trans (alu_bytes hr hx hw.op_pos hw.op_lt)
  rw [if_pos hok] at hexec
  have hheader (bs : List Byte) : (s.put (s.dev.modPass h (fun p => p.setBytes a.dst bs))).dev.header? h =
      some { x with p := x.p.setBytes a.dst bs } := by
    rw [State.put_dev, Device.header?_endCycle, Device.header?_modPass hx]
  refine ⟨_, _, hexec, hheader _, preds_setBytes _ _ _, fun k _ => ?_⟩
  simp only [setBytes_byte, beBytes_length, writable_iff]
  split
  next hin =>
    rw [beBytes_get _ _ _ (by omega), show widthOf a.width - 1 - (k - a.dst) = a.dst + widthOf a.width - 1 - k by omega]
  next => rfl

/-! ### Actions (R198) -/

theorem bits_zero (v w : Nat) : bits v 0 w = v % 2 ^ w := by rw [bits, Nat.pow_zero, Nat.div_one]

/-- Between commands, one that would leave the device as it is changes nothing, whether or not the clocks run. -/
theorem on_of_same {s : State} (hb : s.Between) {f : Device → Device} (hf : f s.dev = s.dev) : s.on f = .next s := by
  have hc : s.dev.clocked f = s.dev := by
    unfold Device.clocked; split
    · rfl
    · exact hf
  rw [State.on, State.onBoard, hc]
  exact congrArg _ (put_dev s hb)

theorem act_of_not_taken {s : State} {h : Nat} {x : Header} {a : ActArgs} (hb : s.Between) (hx : s.dev.header? h = some x)
    (ha : actTaken x a = false) (code : Nat) : s.act h code a = .next s :=
  on_of_same hb (by simp [hx, Device.action, ha])

/-- Settles O11: an untaken slot leaves the device as it is, whatever its code. That a taken factory action is refused by name is the
model's choice (log entry 26). -/
theorem untakenAndFactoryActions : Obligations.UntakenAndFactoryActions := by
  unfold Obligations.UntakenAndFactoryActions
  refine ⟨fun s h x a hb hx ha => ?untaken, fun s h x a hr hx => ?factory⟩
  case untaken =>
    have hact := act_of_not_taken hb hx ha
    have hfactory : exec (.factoryAction h a) s = .next s :=
      (exec_factoryAction_of_not_taken (by simp [hx, ha])).trans (on_of_same hb rfl)
    simp only [List.forall_mem_cons]
    exact ⟨hact _, hact _, hact _, hact _, hact _, hact _, hact _, hact _, hact _, hact _, hact _, hact _, hact _, hact _, hact _,
      hfactory, fun _ h => nomatch h⟩
  case factory =>
    split
    next ha => exact exec_factoryAction_of_taken hx ha hr.1
    next ha => exact (exec_factoryAction_of_not_taken (by simp [hx, ha])).trans (on_of_same hr.2 rfl)

section
variable {s : State} {h : Nat} {x : Header} {a : ActArgs} (hr : s.Runs) (hx : s.dev.header? h = some x) (ht : actTaken x a = true)
include hr hx

theorem act_of_action {code : Nat} {e : Device} (he : s.dev.action x code a = e) : s.act h code a = .next (s.put e) := by
  rw [act_eq s h code x a hr hx, he]

include ht

theorem exec_actionNone_of_taken : exec (.actionNone h a) s = .next s := by
  refine (act_of_action hr hx (action_taken s.dev x 0x00 a ht)).trans ?_
  exact congrArg _ (put_dev s hr.2)

theorem exec_setEgress_of_taken : exec (.setEgress h a) s = .next (s.put (s.dev.actSetEgress x (actValue x.p a))) :=
  act_of_action hr hx (action_taken s.dev x 0x09 a ht)

theorem exec_setEmit_of_taken : exec (.setEmit h a) s = .next (s.put (s.dev.actSetEmit x (actValue x.p a))) :=
  act_of_action hr hx (action_taken s.dev x 0x0A a ht)

theorem exec_timestamp_of_taken : exec (.timestamp h a) s = .next (s.put (s.dev.actTimestamp x (actValue x.p a))) :=
  act_of_action hr hx (action_taken s.dev x 0x0C a ht)

theorem exec_ioam_of_taken : exec (.ioam h a) s = .next (s.put (s.dev.actIoam x (actValue x.p a))) :=
  act_of_action hr hx (action_taken s.dev x 0x0D a ht)

theorem exec_count_of_taken : exec (.count h a) s = .next (s.put (s.dev.actCount x (actValue x.p a))) :=
  act_of_action hr hx (action_taken s.dev x 0x06 a ht)

theorem exec_police_of_taken : exec (.police h a) s = .next (s.put (s.dev.actPolice x (actValue x.p a))) :=
  act_of_action hr hx (action_taken s.dev x 0x07 a ht)

theorem exec_mirror_of_taken : exec (.mirror h a) s = .next (s.put (s.dev.actMirror x (actValue x.p a))) :=
  act_of_action hr hx (action_taken s.dev x 0x08 a ht)

theorem exec_sample_of_taken : exec (.sample h a) s = .next (s.put (s.dev.actSample x (actValue x.p a))) :=
  act_of_action hr hx (action_taken s.dev x 0x0B a ht)

theorem exec_flow_of_taken : exec (.flow h a) s = .next (s.put (s.dev.actFlow x (actValue x.p a))) :=
  act_of_action hr hx (action_taken s.dev x 0x0E a ht)

end

section
variable (d : Device) {x : Header} (v : Nat)

theorem Device.actSetEgress_of_ingress (hi : x.egress = false) :
    d.actSetEgress x v = d.modPass x.id (fun p => { p with eprog := v % 1024 }) := by
  simp [Device.actSetEgress, hi, bits_zero]

theorem Device.actSetEmit_eq : d.actSetEmit x v = if v % 512 ≤ 384 ∧ v / 512 % 1024 ≤ 512 then
    d.modPass x.id (fun p => { p with emitLength := v % 512, bodyOffset := v / 512 % 1024 }) else d := by
  have he : bits v 0 9 = v % 512 := bits_zero v 9
  have hb : bits v 9 10 = v / 512 % 1024 := rfl
  simp only [Device.actSetEmit, he, hb, ← Nat.not_le, ← Decidable.not_and_iff_not_or_not, ite_not]

theorem Device.actTimestamp_of_egress (he : x.egress = true) :
    d.actTimestamp x v = d.modPass x.id (fun p => { p with stamp := some (v % 2 ^ 22) }) := by
  simp [Device.actTimestamp, he]

theorem Device.actIoam_of_egress (he : x.egress = true) :
    d.actIoam x v = d.modPass x.id (fun p => { p with ioam := some (v % 512) }) := by
  simp [Device.actIoam, he, bits_zero]

end

/-- Settles O10: each action by the fields that it sets, with its operand's fields as remainders of the slot's value. -/
theorem emissionActions : Obligations.EmissionActions := by
  unfold Obligations.EmissionActions
  intro s h x a hr hx ht
  obtain rfl := header_id hx
  refine ⟨exec_actionNone_of_taken hr hx ht, fun hi => ?_, ?_, fun he => ⟨?_, ?_⟩⟩
  · rw [exec_setEgress_of_taken hr hx ht, Device.actSetEgress_of_ingress _ _ hi]
  · rw [exec_setEmit_of_taken hr hx ht, Device.actSetEmit_eq]
    split
    · rfl
    · rw [put_dev s hr.2]
  · rw [exec_timestamp_of_taken hr hx ht, Device.actTimestamp_of_egress _ _ he]
  · rw [exec_ioam_of_taken hr hx ht, Device.actIoam_of_egress _ _ he]

end Sys2Proof.Machine
end

section
/-! SUPPORT. Actions that count and meter: COUNT and its units, POLICE, MIRROR, SAMPLE and FLOW. -/

namespace Sys2Proof.Machine

open Sys2Proof

/-! ### Units (R330 to R332) -/

section
variable {d : Device} {u : Nat} (n : Nat)

theorem Device.addAt_of_single (hc : d.chained u = false) (hu : u < 2097152) : d.addAt u n = d.setCounter u (d.counter u + n) := by
  simp [Device.addAt, hc, Nat.le_of_lt_succ hu]

theorem Device.addAt_of_chained (hc : d.chained u = true) (he : u % 2 = 0) (hu : u + 1 < 2097152) :
    let v := (d.counter (u + 1) * 2 ^ 32 + d.counter u + n) % 2 ^ 64
    d.addAt u n = (d.setCounter u v).setCounter (u + 1) (v / 2 ^ 32) := by
  simp only [Device.addAt, hc, if_true, if_pos (Nat.le_of_lt_succ hu), Device.pair, Nat.mul_div_cancel' (Nat.dvd_of_mod_eq_zero he)]

theorem Device.addAt_of_beyond (hu : 2097152 ≤ u) : d.addAt u n = d := by
  simp [Device.addAt, show ¬ u + 1 ≤ 2097151 by omega, show ¬ u ≤ 2097151 by omega]

end

theorem Device.unitAt_addUnit (d : Device) (base off n k i : Nat) : (d.addUnit base off n).unitAt k i = d.unitAt k i := by
  simp only [Device.unitAt, Device.addUnit, chained_addAt]

theorem Device.frameOf_of_frame {d : Device} {x : Header} {f : Frame} (hf : d.frame? x.frame = some f) : d.frameOf x = some f := by
  simp only [Device.frameOf, hf]

/-! ### What each action does with its frame in flight -/

section
variable {d : Device} {x : Header} {f : Frame} (hf : d.frame? x.frame = some f) (v : Nat)
include hf

theorem Device.actCount_of_frame : d.actCount x v =
    if v.testBit 21 then (d.addUnit (v % 2097152) 0 1).addBytes f (d.unitAt (v % 2097152) 1)
    else d.addUnit (v % 2097152) 0 1 := by
  have hframe : (d.addUnit (v % 2097152) 0 1).frameOf x = some f :=
    Device.frameOf_of_frame ((frame_addAt _ _ _ _).trans hf)
  have hn : bits v 0 21 = v % 2097152 := bits_zero v 21
  simp only [Device.actCount, bit, hn, hframe, Device.unitAt_addUnit]

/-- POLICE in an ingress pass: the frame's charge, its credit where the length is known, and the colour in the pass. -/
theorem Device.actPolice_of_ingress (hi : x.egress = false) : d.actPolice x v =
    let bytes := if x.p.known = false ∧ f.chargePort < 512 then d.rdp x.parity (E.PORT_MTU f.chargePort) else f.len
    let r := d.police x.parity (v % 2 ^ 18) f.id bytes x.p.known
    let e := if f.ended then r.1.creditPolicers f.id f.len else r.1
    e.modPass x.id (fun p =>
      { p with colour := some r.2, policedRed := p.policedRed || (r.2 = 2 && v.testBit 18),
               redPolicer := if r.2 = 2 && v.testBit 18 then v % 2 ^ 18 else p.redPolicer }) := by
  have hbytes : (if x.p.known then f.len else d.chargeBytes { f with ended := false } x.parity) =
      if x.p.known = false ∧ f.chargePort < 512 then d.rdp x.parity (E.PORT_MTU f.chargePort) else f.len := by
    cases x.p.known <;> simp [Device.chargeBytes]
  simp only [Device.actPolice, hf, hi, Bool.false_eq_true, if_false, hbytes, bits_zero, bit]

theorem Device.actFlow_of_frame : d.actFlow x v = d.flow (v % 2 ^ 18) x.p.space f := by
  simp only [Device.actFlow, hf, bits_zero]

/-- The fifth MIRROR of a pass and those after it are counted alone (R199). -/
theorem Device.actMirror_of_excess (hx : d.header? x.id = some x) (hm : 4 ≤ x.p.mirrorCount) :
    d.actMirror x v = d.bump64 (E.MIRROR_EXCESS x.slice) 1 := by
  simp [Device.actMirror, hx, Device.frameOf_of_frame hf, hm]

/-- A MIRROR of a session without a policer and without tastings (R298). -/
theorem Device.actMirror_of_unpoliced (hx : d.header? x.id = some x) (hm : x.p.mirrorCount < 4) (hend : f.ended = false)
    (hpol : d.rdp (x.vtag % 2) (E.MIRROR_POLICER (v % 64)) = 0xFFFFFFFF)
    (hflags : (d.rdp (x.vtag % 2) (E.MIRROR_FLAGS (v % 64))).testBit 0 = false) : d.actMirror x v =
    let e := d.modPass x.id (fun p => { p with mirrorCount := p.mirrorCount + 1 })
    if d.rdp (x.vtag % 2) (E.MIRROR_DEST (v % 64)) = 0xFFFF then e
    else (e.bump64 (E.MIRROR_COPIES (v % 64)) 1).modPass x.id (fun p => { p with mirrors := p.mirrors ++ [v % 64] }) := by
  have hn : bits v 0 6 = v % 64 := bits_zero v 6
  have hmod (e : Device) (u : Pass → Pass) (a : Addr) : (e.modPass x.id u).rdp (x.vtag % 2) a = e.rdp (x.vtag % 2) a := rfl
  have hbump (e : Device) (b a : Addr) : (e.bump64 b 1).rdp (x.vtag % 2) a = e.rdp (x.vtag % 2) a := rfl
  by_cases hdest : d.rdp (x.vtag % 2) (E.MIRROR_DEST (v % 64)) = 0xFFFF <;>
    simp [Device.actMirror, hx, Device.frameOf_of_frame hf, Nat.not_le.mpr hm, hn, hmod, hbump, hpol, hend, bit, hflags, hdest]

end

section
variable (d : Device) (x : Header) (v : Nat)

theorem Device.actSample_of_other_source (h : d.rdp x.parity (E.SAMPLER_CONTROL (v % 256)) / 256 % 256 ≠ 0) : d.actSample x v = d := by
  have hk : bits v 0 8 = v % 256 := bits_zero v 8
  simp only [Device.actSample, hk]
  exact if_pos h

theorem Device.actSample_of_source (h : d.rdp x.parity (E.SAMPLER_CONTROL (v % 256)) / 256 % 256 = 0) : d.actSample x v =
    let r := d.sampleEvent x.parity (v % 256)
    if r.2 then r.1.modPass x.id (fun p => { p with sampled := p.sampled ++ [v % 256] }) else r.1 := by
  have hk : bits v 0 8 = v % 256 := bits_zero v 8
  simp only [Device.actSample, hk]
  exact if_neg (fun hne => hne h)

theorem Device.flow_of_no_profile {r : Nat} (h : d.flowProfile d.parity r = none) (space : List Byte) (f : Frame) :
    d.flow r space f = d.bump64 E.FLOW_IGNORED 1 := by
  simp only [Device.flow, h]

end

/-- Settles O12: a unit by what it is, and each action by its effect on the frame in flight. That MIRROR_COPIES is counted and the
session's policer charged when MIRROR takes effect is the model's choice (log entry 109). -/
theorem countAndMeteringActions : Obligations.CountAndMeteringActions := by
  unfold Obligations.CountAndMeteringActions
  refine ⟨⟨fun s h x f a hr hx ht hf => ?count, fun d u n => ⟨Device.addAt_of_single n, Device.addAt_of_chained n,
    Device.addAt_of_beyond n⟩⟩, fun s h x f a hr hx ht hf => ?metering⟩
  case count => rw [exec_count_of_taken hr hx ht, Device.actCount_of_frame hf, Device.addBytes]
  case metering =>
    have hflow := exec_flow_of_taken hr hx ht
    rw [Device.actFlow_of_frame hf] at hflow
    obtain rfl := header_id hx
    refine ⟨fun hi => ?_, exec_mirror_of_taken hr hx ht, fun hm => ?_, fun hm hk hend hpol hflags => ?_, fun hsrc => ?_,
      fun hsrc => ?_, fun hp => ?_, hflow⟩
    · rw [exec_police_of_taken hr hx ht, Device.actPolice_of_ingress hf _ hi]
    · rw [exec_mirror_of_taken hr hx ht, Device.actMirror_of_excess hf _ hx hm]
    · rw [exec_mirror_of_taken hr hx ht, Device.actMirror_of_unpoliced hf _ hx hm hend hpol hflags]
    · rw [exec_sample_of_taken hr hx ht, Device.actSample_of_other_source _ _ _ hsrc, put_dev s hr.2]
    · rw [exec_sample_of_taken hr hx ht, Device.actSample_of_source _ _ _ hsrc]
    · rw [hflow, Device.flow_of_no_profile _ hp]

end Sys2Proof.Machine
end

section
/-! SUPPORT. What each word of the Cellarhand does in its context: an equation per operation, its arithmetic and its reads. -/

namespace Sys2Proof.Machine

open Sys2Proof

/-! ### Words by their effect (R211, R212, R214, R216) -/

section
variable {s : State} {c : Nat} {w : HandArgs} (hr : s.Runs) (hc : c < 4)
include hr hc

theorem hand_of_bad_fetch (hb : w.badFetch = true) (op : Nat) : s.hand c op w = .next (s.put (s.dev.abortHand c 1)) := by
  rw [hand_eq s c op w hr hc, if_pos hb]

/-- A word that is fetched has its effect, and then the commit that COMMIT asks for. -/
theorem hand_of_effect (hb : w.badFetch = false) {op : Nat} {e : Device} (he : s.dev.handEffect c op w = e) :
    s.hand c op w = .next (s.put (if w.commit then e.commitJournal c else e)) := by
  rw [hand_eq s c op w hr hc, if_neg (by simp [hb]), he]

end

section
variable (d : Device) (c : Nat) {w : HandArgs}

/-- Operations without a read take no notice of the memory fault that one would meet. -/
theorem not_faulty_of_no_read {op : Nat} (h : isHandRead op = false) : ¬ (w.faulty && isHandRead op) = true := by simp [h]

theorem Device.handEffect_nop : d.handEffect c 0x00 w = d := if_neg (not_faulty_of_no_read rfl)
theorem Device.handEffect_mov : d.handEffect c 0x01 w = d.handMov c w := if_neg (not_faulty_of_no_read rfl)
theorem Device.handEffect_cmp : d.handEffect c 0x09 w = d.handCmp c w := if_neg (not_faulty_of_no_read rfl)
theorem Device.handEffect_br : d.handEffect c 0x0A w = d.handBr c w := if_neg (not_faulty_of_no_read rfl)
theorem Device.handEffect_wrcnt : d.handEffect c 0x0D w = d.handWrcnt c w := if_neg (not_faulty_of_no_read rfl)
theorem Device.handEffect_raise : d.handEffect c 0x11 w = d.handRaise c w := if_neg (not_faulty_of_no_read rfl)
theorem Device.handEffect_wait : d.handEffect c 0x12 w = d.handWait c w := if_neg (not_faulty_of_no_read rfl)
theorem Device.handEffect_end : d.handEffect c 0x13 w = d.handEnd c := if_neg (not_faulty_of_no_read rfl)
theorem Device.handEffect_append : d.handEffect c 0x14 w = d.handAppend c w := if_neg (not_faulty_of_no_read rfl)

theorem Device.handEffect_alu {op : Nat} (h2 : 2 ≤ op) (h8 : op ≤ 8) : d.handEffect c op w = d.handAlu c op w := by
  have hop : op = 2 ∨ op = 3 ∨ op = 4 ∨ op = 5 ∨ op = 6 ∨ op = 7 ∨ op = 8 := by omega
  rcases hop with rfl | rfl | rfl | rfl | rfl | rfl | rfl <;> exact if_neg (not_faulty_of_no_read rfl)

/-- A read that meets an uncorrectable error aborts its routine (R216). -/
theorem Device.handEffect_of_faulty {op : Nat} (hf : w.faulty = true) (h : isHandRead op = true) :
    d.handEffect c op w = d.abortHand c 1 := if_pos (by simp [hf, h])

section
variable (hf : w.faulty = false)
include hf

theorem Device.handEffect_rdcnt : d.handEffect c 0x0B w = d.handRdcnt c w := if_neg (by simp [hf])
theorem Device.handEffect_rdpair : d.handEffect c 0x0C w = d.handRdpair c w := if_neg (by simp [hf])
theorem Device.handEffect_rdent : d.handEffect c 0x0E w = d.handRdent c w := if_neg (by simp [hf])
theorem Device.handEffect_tsthit : d.handEffect c 0x0F w = d.handTsthit c w := if_neg (by simp [hf])
theorem Device.handEffect_rdbook : d.handEffect c 0x10 w = d.handRdbook c w := if_neg (by simp [hf])

end

/-! ### Arithmetic (Table 8.6) -/

/-- An arithmetic word writes its result into the register DST. -/
theorem Device.handAlu_of_result {op : Nat} {v : Nat → Nat → Nat} (hv : ∀ a b, handResult op a b % 2 ^ 64 = v a b) :
    d.handAlu c op w =
      d.modContext c (fun x => { x with regs := modAt x.regs w.dst (fun _ => v (handA x w) (handB x w)) }) := by
  simp only [Device.handAlu, Context.setReg_eq, hv]

end

/-- Settles O15: each word by its effect in its context, then the commit that COMMIT asks for; a result is cut to the register's 64
bits. -/
theorem handArithmetic : Obligations.HandArithmetic := by
  unfold Obligations.HandArithmetic
  intro s c w hr hc hb
  have hdone {op : Nat} {e : Device} (he : s.dev.handEffect c op w = e) := hand_of_effect hr hc hb he
  have halu {op : Nat} {v : Nat → Nat → Nat} (h2 : 2 ≤ op) (h8 : op ≤ 8) (hv : ∀ a b, handResult op a b % 2 ^ 64 = v a b) :=
    hdone ((s.dev.handEffect_alu c h2 h8).trans (s.dev.handAlu_of_result c hv))
  exact ⟨hdone (s.dev.handEffect_nop c), hdone (s.dev.handEffect_mov c),
    halu (by decide) (by decide) (v := fun a b => (a + b) % 2 ^ 64) fun a b => by rw [handResult_add, Nat.mod_mod],
    halu (by decide) (by decide) (v := fun a b => (a + 2 ^ 64 - b % 2 ^ 64) % 2 ^ 64) fun a b => by rw [handResult_sub, Nat.mod_mod],
    halu (by decide) (by decide) (v := fun a b => (a &&& b) % 2 ^ 64) fun a b => by rw [handResult_and],
    halu (by decide) (by decide) (v := fun a b => (a ||| b) % 2 ^ 64) fun a b => by rw [handResult_or],
    halu (by decide) (by decide) (v := fun a b => (a ^^^ b) % 2 ^ 64) fun a b => by rw [handResult_xor],
    halu (by decide) (by decide) (v := fun a b => a * 2 ^ (b % 64) % 2 ^ 64) fun a b => by rw [handResult_shl, Nat.mod_mod],
    halu (by decide) (by decide) (v := fun a b => a / 2 ^ (b % 64) % 2 ^ 64) fun a b => by rw [handResult_shr],
    hdone (s.dev.handEffect_cmp c)⟩

/-! ### Reads (R213, R215, R216) -/

section
variable {d : Device} {c : Nat} {w : HandArgs}

theorem Device.handRdent_eq : let a := handA (d.context c) w
    let b := handB (d.context c) w
    d.handRdent c w = if locationExists (a / 2 ^ 60) (a % 2 ^ 24) ∧ 8 * b < entrySize (a / 2 ^ 60) then
      d.modContext c (fun x => x.setReg w.dst (((d.seenEntries c (a / 2 ^ 60)).find? (fun e => e.loc = a % 2 ^ 24)).elim 0
        (fun e => beNat (slice e.bytes (8 * b) 8))))
      else d.abortHand c 4 := by
  simp only [Device.handRdent]
  split
  · cases (d.seenEntries c (handA (d.context c) w / 2 ^ 60)).find? (fun e => e.loc = handA (d.context c) w % 2 ^ 24) <;> rfl
  · rfl

theorem Device.handTsthit_eq : let loc := handA (d.context c) w % 2 ^ 24
    d.handTsthit c w = if locationExists 0 loc then
      (d.setHit loc false).modContext c (fun x => x.setReg w.dst
        ((d.stores.exact.find? (fun e => e.loc = loc)).elim 0 (fun e => e.hit.toNat)))
      else d.abortHand c 4 := by
  simp only [Device.handTsthit]
  cases d.stores.exact.find? (fun e => e.loc = handA (d.context c) w % 2 ^ 24) <;> rfl

theorem Device.handRdbook_of_absent (h : findRow (handB (d.context c) w % 2 ^ 24) = none) : d.handRdbook c w = d.abortHand c 4 := by
  simp only [Device.handRdbook, h]

theorem Device.handRdbook_of_row {r : Row} (h : findRow (handB (d.context c) w % 2 ^ 24) = some r) :
    let a := handB (d.context c) w % 2 ^ 24
    d.handRdbook c w = if r.ty = .domain ∨ d.permits 0 a false = false then
        d.modContext c (fun x => { x.setReg w.dst 0 with z := true })
      else if isMeasured a then
        ({ d with draws := d.draws + 1 } : Device).modContext c (fun x =>
          x.setReg w.dst (Config.freeValue d.draws % 2 ^ (8 * r.ty.size)))
      else d.modContext c (fun x => x.setReg w.dst (d.seenEntry c a)) := by
  simp only [Device.handRdbook, h, Device.draw, Bool.not_eq_true']

end

theorem context_endCycle (d : Device) (c : Nat) : d.endCycle.context c = d.context c := rfl

theorem Context.reg_setReg_same (x : Context) {i : Nat} (h : i < x.regs.length) (v : Nat) :
    (x.setReg i v).reg i = v % 2 ^ 64 := modAt_getD_same _ _ _ _ h

/-- HIT of a location is cleared, and nothing else of any entry changes. -/
theorem Device.exact_setHit (d : Device) (loc : Nat) :
    (∀ x ∈ (d.setHit loc false).stores.exact, x.loc = loc → x.hit = false) ∧
      (d.setHit loc false).stores.exact.map (fun x => (x.loc, x.bytes, x.v0, x.v1)) =
        d.stores.exact.map (fun x => (x.loc, x.bytes, x.v0, x.v1)) := by
  constructor
  · intro x hx hloc
    obtain ⟨y, -, rfl⟩ := List.mem_map.mp hx
    split at hloc
    next hy => rw [if_pos hy]
    next hy => exact absurd hloc hy
  · rw [Device.setHit, List.map_map]
    refine List.map_congr_left (fun y _ => ?_)
    simp only [Function.comp]
    split <;> rfl

/-- Settles O16: each read by its effect, those that meet a memory fault by their abort; TSTHIT clears in the store what it puts into
the register. RDENT's byte order and its selection of a word pair (log entry 27), and RDBOOK's low 64 bits of a wider entry (log
entry 118), are the model's choices. -/
theorem handReads : Obligations.HandReads := by
  unfold Obligations.HandReads
  refine ⟨fun s c w hr hc hb => ?badFetch, fun s c w hr hc hb hf => ?faulty, fun s c w hr hc hb hf => ?reads,
    fun s c w e hr hc hlen hcommit hb hf hdst => ?hit⟩
  case badFetch =>
    have hbad (op : Nat) := hand_of_bad_fetch hr hc hb op
    simp only [List.forall_mem_cons]
    exact ⟨hbad _, hbad _, hbad _, hbad _, hbad _, hbad _, hbad _, hbad _, hbad _, hbad _, hbad _, hbad _, hbad _, hbad _, hbad _,
      hbad _, hbad _, hbad _, hbad _, hbad _, hbad _, fun _ h => nomatch h⟩
  case faulty =>
    have hread {op : Nat} (h : isHandRead op = true) := hand_of_effect hr hc hb (s.dev.handEffect_of_faulty c hf h)
    simp only [List.forall_mem_cons]
    exact ⟨hread (op := 0x0B) rfl, hread (op := 0x0C) rfl, hread (op := 0x0E) rfl, hread (op := 0x0F) rfl,
      hread (op := 0x10) rfl, fun _ h => nomatch h⟩
  case reads =>
    have hdone {op : Nat} {e : Device} (he : s.dev.handEffect c op w = e) := hand_of_effect hr hc hb he
    refine ⟨hdone (s.dev.handEffect_rdcnt c hf), hdone (s.dev.handEffect_rdpair c hf),
      hdone ((s.dev.handEffect_rdent c hf).trans Device.handRdent_eq),
      hdone ((s.dev.handEffect_tsthit c hf).trans Device.handTsthit_eq),
      ?_⟩
    dsimp only
    cases hrow : findRow (handB (s.dev.context c) w % 2 ^ 24) with
    | none => exact hdone ((s.dev.handEffect_rdbook c hf).trans (Device.handRdbook_of_absent hrow))
    | some r => exact hdone ((s.dev.handEffect_rdbook c hf).trans (Device.handRdbook_of_row hrow))
  case hit =>
    intro loc hloc he
    have hexec := hand_of_effect hr hc hb ((s.dev.handEffect_tsthit c hf).trans Device.handTsthit_eq)
    rw [if_neg (by simp [hcommit]), if_pos hloc, he] at hexec
    obtain ⟨hcleared, hsame⟩ := s.dev.exact_setHit loc
    refine ⟨_, hexec, ?_, hcleared, hsame⟩
    rw [State.put_dev, context_endCycle, context_mod_same (s.dev.setHit loc false) _ _ hlen,
      Context.reg_setReg_same ((s.dev.setHit loc false).context c) hdst]
    exact Nat.mod_eq_of_lt (Nat.lt_trans (Bool.toNat_lt e.hit) (by decide))

end Sys2Proof.Machine
end

section
/-! SUPPORT. The Cellarhand's journals and control words, and what a commit and an abort make visible. -/

namespace Sys2Proof.Machine

open Sys2Proof

/-! ### Journals (R210, R213, R214) -/

theorem Device.journal_of_room {d : Device} {c : Nat} (h : (d.context c).journal.length < 64) (r : JournalRecord) :
    d.journal c r = d.modContext c (fun x => { x with journal := x.journal ++ [r] }) := if_pos h

theorem exec_factoryOperation {s : State} {c : Nat} (hr : s.Runs) (hc : c < 4) (op : FactoryOp) (commit : Bool) :
    exec (.factoryOperation c op commit) s = .next (s.put (if commit then
      (s.dev.journal c (factoryRecord op)).commitJournal c else s.dev.journal c (factoryRecord op))) :=
  (on_runs s _ hr).trans (by rw [if_neg (Nat.not_le.mpr hc)])

theorem branchTaken_eq_none_iff (x : Context) (code : Nat) : branchTaken x code = none ↔ 5 ≤ code := by
  match code with
  | 0 | 1 | 2 | 3 | 4 => exact iff_of_false nofun (by decide)
  | k + 5 => exact iff_of_true rfl (Nat.le_add_left 5 k)

section
variable {d : Device} {c : Nat} {w : HandArgs}

/-- A branch goes where it is taken, in a context in which a routine runs. -/
theorem Device.handBr_of_condition {taken : Bool} (h : branchTaken (d.context c) w.cond = some taken) :
    d.handBr c w = if taken ∧ ((d.context c).busy ∨ (d.context c).pc.isSome) then
      d.modContext c (fun x => { x with pc := some (w.target % 8192) }) else d := by
  cases taken <;> simp [Device.handBr, h]

theorem Device.handBr_of_reserved (h : branchTaken (d.context c) w.cond = none) : d.handBr c w = d.abortHand c 7 := by
  simp only [Device.handBr, h]

end

/-- Settles O17: a journaled word by its record, a control word by what it does in its context. That a context which becomes ready is
busy at once, and the scrubber's is marked as such, are the model's choices (log entries 121 and 176). -/
theorem handJournalsAndControl : Obligations.HandJournalsAndControl := by
  unfold Obligations.HandJournalsAndControl
  refine ⟨fun s c w op hr hc hb => ?journals, fun s c w hr hc hb => ?control⟩
  case journals =>
    have hdone {op : Nat} {e : Device} (he : s.dev.handEffect c op w = e) := hand_of_effect hr hc hb he
    exact ⟨hdone (s.dev.handEffect_wrcnt c), hdone (s.dev.handEffect_raise c), hdone (s.dev.handEffect_append c),
      exec_factoryOperation hr hc op⟩
  case control =>
    have hdone {op : Nat} {e : Device} (he : s.dev.handEffect c op w = e) := hand_of_effect hr hc hb he
    refine ⟨fun taken ht => hdone ((s.dev.handEffect_br c).trans (Device.handBr_of_condition ht)),
      branchTaken_eq_none_iff _ _, fun h => ?_, hdone (s.dev.handEffect_wait c), hdone (s.dev.handEffect_end c),
      on_runs s _ hr, fun scrubs h3 => (on_runs s _ hr).trans (by rw [if_pos h3])⟩
    exact hdone ((s.dev.handEffect_br c).trans (Device.handBr_of_reserved ((branchTaken_eq_none_iff _ _).mpr h)))

theorem context_journal_append {d : Device} {c : Nat} (h : c < d.ctx.length) (r : JournalRecord) :
    ((d.modContext c (fun x => { x with journal := x.journal ++ [r] })).context c).journal = (d.context c).journal ++ [r] :=
  congrArg Context.journal (context_mod_same d c _ h)

/-- A counter reads as its context's last record of it has it. -/
theorem Device.seenCounter_of_last {d : Device} {c n v : Nat} {rs : List JournalRecord}
    (h : (d.context c).journal = rs ++ [.counter n v]) : d.seenCounter c n = v % 2 ^ 32 := by
  simp [Device.seenCounter, h]

/-- Settles O18: a record with room touches its context's journal alone, and the context reads the last record of a counter. -/
theorem journalHidesChanges : Obligations.JournalHidesChanges := by
  unfold Obligations.JournalHidesChanges
  intro s c w op hr hc hlen hroom hcommit hb
  have hword {op : Nat} {r : JournalRecord} (he : s.dev.handEffect c op w = s.dev.journal c r) :
      s.hand c op w = .next (s.put (s.dev.modContext c (fun x => { x with journal := x.journal ++ [r] }))) := by
    rw [hand_of_effect hr hc hb he, if_neg (by simp [hcommit]), Device.journal_of_room hroom]
  have hfactory : exec (.factoryOperation c op false) s =
      .next (s.put (s.dev.modContext c (fun x => { x with journal := x.journal ++ [factoryRecord op] }))) := by
    rw [exec_factoryOperation hr hc, if_neg Bool.false_ne_true, Device.journal_of_room hroom]
  have hhides {i : Instr} {r : JournalRecord}
      (h : exec i s = .next (s.put (s.dev.modContext c (fun x => { x with journal := x.journal ++ [r] })))) :
      ∃ t r, exec i s = .next t ∧ t = s.put { s.dev with ctx := t.dev.ctx } ∧
        (∀ k, k ≠ c → t.dev.context k = s.dev.context k) ∧
        t.dev.context c = { s.dev.context c with journal := (s.dev.context c).journal ++ [r] } :=
    ⟨_, r, h, rfl, fun k hk => context_mod_ne _ _ _ _ hk, context_mod_same _ _ _ hlen⟩
  have hwrcnt := hword (s.dev.handEffect_wrcnt c)
  refine ⟨?_, _, hwrcnt, fun n => rfl, ?_⟩
  · simp only [List.forall_mem_cons]
    exact ⟨hhides hwrcnt, hhides (hword (s.dev.handEffect_raise c)), hhides (hword (s.dev.handEffect_append c)), hhides hfactory,
      fun _ h => nomatch h⟩
  · exact (Device.seenCounter_of_last (context_journal_append hlen (.counter _ _))).trans (Nat.mod_mod _ _)

/-! ### Commits and aborts (R214, R216) -/

theorem exec_journalCommit {s : State} (hr : s.Runs) (c : Nat) :
    exec (.journalCommit c) s = .next (s.put (s.dev.commitJournal c)) := on_runs s _ hr

theorem Device.commitJournal_eq {d : Device} {c : Nat} {rs : List JournalRecord} (h : (d.context c).journal = rs) :
    d.commitJournal c = rs.foldl (fun d r => d.applyRecord c r) (d.modContext c (fun x => { x with journal := [] })) := by
  rw [← h, Device.commitJournal]

theorem Device.applyRecord_of_counter (d : Device) (c : Nat) {n : Nat} (hn : n < 2097152) (v : Nat) :
    d.applyRecord c (.counter n v) = d.setCounter n v := if_pos hn

theorem Device.counter_modContext (d : Device) (c n : Nat) (f : Context → Context) : (d.modContext c f).counter n = d.counter n := rfl

theorem Device.context_setCounter (d : Device) (n v c : Nat) : (d.setCounter n v).context c = d.context c := rfl

theorem Device.counter_endCycle (d : Device) (n : Nat) : d.endCycle.counter n = d.counter n := rfl

/-- The device that an abort leaves, before its event is raised. -/
def Device.abortRecord (d : Device) (c cause : Nat) : Device :=
  (((d.lastAddress c).2.modContext c (fun x => { x.ended with output := [] })).bumpSat E.BG_ABORTS 1).wr E.BG_LAST_ABORT
    (cause + 256 * c + 1024 * (d.lastAddress c).1)

section
variable (d : Device) (c cause : Nat)

theorem Device.abortHand_eq : d.abortHand c cause = (d.abortRecord c cause).raise Src.CELLARHAND_ABORT 0 := rfl

/-- The address of a factory routine takes a free value, and nothing else changes. -/
theorem Device.lastAddress_draws : (d.lastAddress c).2 = { d with draws := (d.lastAddress c).2.draws } := by
  unfold Device.lastAddress; split <;> rfl

theorem Device.rd_lastAddress (a : Addr) : (d.lastAddress c).2.rd a = d.rd a := by rw [d.lastAddress_draws c]; rfl

theorem Device.rd_abortRecord (a : Addr) : (d.abortRecord c cause).rd a =
    if a = E.BG_LAST_ABORT then cause + 256 * c + 1024 * (d.lastAddress c).1
    else if a = E.BG_ABORTS then min (d.rd E.BG_ABORTS + 1) 0xFFFFFFFF else d.rd a := by
  have hctx (b : Addr) : ((d.lastAddress c).2.modContext c (fun x => { x.ended with output := [] })).rd b = d.rd b :=
    d.rd_lastAddress c b
  rw [Device.abortRecord, Device.rd_wr, Device.rd_bumpSat, hctx, hctx]

/-- An abort ends the context's routine, and leaves the counters, the stores and BG_OUTPUT as they stood. -/
theorem Device.abortRecord_keeps : (d.abortRecord c cause).ctx = modAt d.ctx c (fun x => { x.ended with output := [] }) ∧
    (d.abortRecord c cause).tel = d.tel ∧ (d.abortRecord c cause).stores = d.stores ∧
    (d.abortRecord c cause).bgOutput = d.bgOutput ∧ (d.abortRecord c cause).ready = d.ready := by
  rw [Device.abortRecord, d.lastAddress_draws c]
  exact ⟨rfl, rfl, rfl, rfl, rfl⟩

theorem Device.abortHand_keeps : (d.abortHand c cause).ctx = modAt d.ctx c (fun x => { x.ended with output := [] }) ∧
    (d.abortHand c cause).tel.counters = d.tel.counters ∧ (d.abortHand c cause).stores = d.stores ∧
    (d.abortHand c cause).bgOutput = d.bgOutput := by
  obtain ⟨hctx, htel, hstores, hout, -⟩ := d.abortRecord_keeps c cause
  have h := Device.eventOnly_raise (d.abortRecord c cause) Src.CELLARHAND_ABORT 0
  rw [← d.abortHand_eq c cause] at h
  unfold Device.EventOnly at h
  exact ⟨(congrArg Device.ctx h :).trans hctx,
    (congrArg (fun e : Device => e.tel.counters) h :).trans (congrArg Telemetry.counters htel :),
    (congrArg Device.stores h :).trans hstores, (congrArg Device.bgOutput h :).trans hout⟩

theorem Device.rd_abortHand_below {a : Addr} (h : a < 0xC10000) : (d.abortHand c cause).rd a = (d.abortRecord c cause).rd a :=
  Device.rd_raise_below _ _ _ h

/-- With READY 0 the abort's event is not raised. -/
theorem Device.abortHand_of_not_ready (h : d.ready = false) : d.abortHand c cause = d.abortRecord c cause := by
  obtain ⟨-, -, -, -, hready⟩ := d.abortRecord_keeps c cause
  exact Device.raise_quiet _ _ _ (hready.trans h)

end

theorem Device.lastAddress_customer (d : Device) : (d.lastAddress 3).1 = d.rd E.BG_STATUS / 256 % 8192 := rfl

/-- Settles O19: a commit writes the two counters in their order; an abort ends its routine, writes its own two entries, and raises
an event that leaves the rest of what is visible. -/
theorem commitMakesCountersVisible : Obligations.CommitMakesCountersVisible := by
  unfold Obligations.CommitMakesCountersVisible
  refine ⟨fun s c m n u v hr hc hlen hm hn hj => ?commit, fun d c cause hlen => ?abort⟩
  case commit =>
    have hcommit : s.dev.commitJournal c =
        ((s.dev.modContext c (fun x => { x with journal := [] })).setCounter m u).setCounter n v := by
      rw [Device.commitJournal_eq hj, List.foldl_cons, List.foldl_cons, List.foldl_nil, Device.applyRecord_of_counter _ _ hm,
        Device.applyRecord_of_counter _ _ hn]
    have hcounter (k : Nat) : (s.dev.commitJournal c).endCycle.counter k =
        if k = n then v % 2 ^ 32 else if k = m then u % 2 ^ 32 else s.dev.counter k := by
      rw [hcommit, Device.counter_endCycle, Device.counter_setCounter, Device.counter_setCounter, Device.counter_modContext]
    refine ⟨_, exec_journalCommit hr c, ?_, ?_, fun hmn => ?_, fun k hkm hkn => ?_⟩
    · rw [State.put_dev, context_endCycle, hcommit, Device.context_setCounter, Device.context_setCounter,
        context_mod_same _ _ _ hlen]
    · rw [State.put_dev, hcounter, if_pos rfl]
    · rw [State.put_dev, hcounter, if_neg hmn, if_pos rfl]
    · rw [State.put_dev, hcounter, if_neg hkn, if_neg hkm]
  case abort =>
    obtain ⟨hctx, hcounters, hstores, hout⟩ := d.abortHand_keeps c cause
    have hcontext (k : Nat) : (d.abortHand c cause).context k = (d.modContext c (fun x => { x.ended with output := [] })).context k :=
      congrArg (fun xs : List Context => xs.getD k {}) hctx
    have hended := (hcontext c).trans (context_mod_same d c _ hlen)
    refine ⟨congrArg Context.journal hended, congrArg Context.pc hended, congrArg Context.busy hended,
      (congrArg Context.regs hended :), ?_, fun h3 _ => ?_, fun n => ?_, hstores, hout,
      fun k hk => (hcontext k).trans (context_mod_ne d c k _ hk), fun hready a ha hl => ?_⟩
    · rw [Device.rd_abortHand_below _ _ _ (by decide), Device.rd_abortRecord, if_neg (by decide), if_pos rfl]
    · subst h3
      rw [Device.rd_abortHand_below _ _ _ (by decide), Device.rd_abortRecord, if_pos rfl, Device.lastAddress_customer]
    · exact congrArg (fun m => SMap.get m 0 n) hcounters
    · rw [Device.abortHand_of_not_ready _ _ _ hready, Device.rd_abortRecord, if_neg hl, if_neg ha]

end Sys2Proof.Machine
end

section
/-! SUPPORT. Replication, racking to and from the Cellar, the gate overrun, and the move of a recirculation copy into intake. -/

namespace Sys2Proof.Machine

open Sys2Proof

/-! ### What the racker does with a record (R249, R250, R254) -/

/-- The Cask cells of a racked frame handed to the racker and freed by it. -/
def Device.freeRacked (d : Device) (frame : Nat) : Device :=
  ((d.handOver frame rackerToken).cellsOf frame).foldl (fun (d : Device) x => d.freeCell x.handle rackerToken)
    (d.handOver frame rackerToken)

/-- A written record is the copy's place. -/
def Device.placeInCellar (d : Device) (c : Copy) (spill : List Nat) : Device :=
  { d with racking := d.racking.filter (fun x => x.1 ≠ c.id)
           queued := modFirst d.queued (fun x => x.id = c.id)
             (fun x => { x with place := .cellar, spill := spill, racked := true }) }

/-- The visit of a queue whose record of `n` cells is read uses its tokens (log entry 184: the model's choice). -/
def Device.spendReturn (d : Device) (q n : Nat) : Device := { d with rackInNext := q, rackInTokens := d.rackInTokens - n }

theorem Device.pcIn_spendReturn (d : Device) (q n k : Nat) : (d.spendReturn q n).pcIn k = d.pcIn k := rfl

section
variable {d : Device} {c : Copy}

/-- A record with a cell out of service is lost, whatever its read finds. -/
theorem Device.readRecord_of_cell_out (h : c.spill.any (fun k => !d.pcIn (channelOf k)) = true) (fault : MemFault)
    (cell : Nat) : d.readRecord c fault cell = d.loseRecord c := if_pos h

variable (h : c.spill.any (fun k => !d.pcIn (channelOf k)) = false)
include h

theorem Device.readRecord_of_none (cell : Nat) :
    d.readRecord c .none cell = { d with returning := d.returning ++ [c.id] } :=
  if_neg (Bool.eq_false_iff.mp h)

/-- A read that the HBM corrects returns a whole record. -/
theorem Device.readRecord_of_correctable (cell : Nat) :
    d.readRecord c .correctable cell = { d with returning := d.returning ++ [c.id] } :=
  if_neg (Bool.eq_false_iff.mp h)

/-- A wrong CRC is a strike against the record's first cell. -/
theorem Device.readRecord_of_mismatch (cell : Nat) :
    d.readRecord c .mismatch cell = (d.strikeSpill (c.spill.headD 0)).loseRecord c :=
  if_neg (Bool.eq_false_iff.mp h)

/-- An uncorrectable read is a strike against its own cell. -/
theorem Device.readRecord_of_uncorrectable {cell : Nat} (hcell : cell < c.spill.length) :
    d.readRecord c .uncorrectable cell = (d.strikeSpill (c.spill.getD cell 0)).loseRecord c := by
  have hcellOf : c.spill.getD cell (c.spill.headD 0) = c.spill.getD cell 0 := by
    rw [List.getD_eq_getElem?_getD, List.getD_eq_getElem?_getD, List.getElem?_eq_getElem hcell, Option.getD_some, Option.getD_some]
  rw [← hcellOf]
  exact if_neg (Bool.eq_false_iff.mp h)

end

/-! ### The commands, each where its occurrence is due -/

section
variable {s : State} {c : Copy} {q slice : Nat} (hr : s.Runs)
include hr

/-- An idle engine starts its oldest job that is due (R242). -/
theorem exec_replicationJobStart_of_due {j : Job} (hidle : s.dev.jobs.any (fun j => j.slice = slice && j.started) = false)
    (hj : s.dev.jobs.find? (fun j => j.slice = slice && j.multi && j.due ≤ s.dev.clk.slots) = some j) :
    exec (.replicationJobStart slice) s = .next (s.put (s.dev.setJob j.frame (fun x =>
      { x with started := true, startSlot := max j.due (s.dev.clk.slots - 1) }))) := by
  refine (on_runs s _ hr).trans ?_
  simp only [hidle, hj, Bool.false_eq_true, if_false]

theorem exec_rackOutComplete_of_racking {r : Nat × List Nat} (hrack : s.dev.racking.find? (fun r => r.1 = c.id) = some r)
    (hc : s.dev.queued.find? (fun x => x.id = c.id) = some c) : exec (.rackOutComplete c.id) s = .next (s.put
      (((s.dev.freeRacked c.frame).placeInCellar c r.2).bump64 (E.RACKED_OUT (portOf c.queue)) 1)) := by
  refine (on_runs s _ hr).trans ?_
  simp only [hrack, hc]
  rfl

/-- The return reads the oldest record of the next queue that asks, where the round's tokens reach for it (R248). -/
theorem exec_rackReturn_of_asked (hq : nextRequester (s.dev.busyQueues.filter s.dev.asksReturn) s.dev.rackInNext = some q)
    (hc : (s.dev.waitingIn q).find? (fun c => c.place = .cellar) = some c) (htokens : c.spill.length ≤ s.dev.rackInTokens)
    (fault : MemFault) (cell : Nat) : exec (.rackReturn fault cell) s = .next (s.put
      ((s.dev.spendReturn q c.spill.length).readRecord c fault cell)) := by
  refine (on_runs s _ hr).trans ?_
  simp only [hq, hc, if_neg (Nat.not_lt.mpr htokens)]
  rfl

/-- A head that has stood for a whole cycle is discarded, with GATE_OVERRUN where R300 has no reason before it. -/
theorem exec_gateOverrun_of_stuck {g : Nat × Nat × Nat} {gate : Gate}
    (hg : s.dev.dec.gateStuck.find? (fun g => g.1 = q) = some g) (hc : s.dev.headOf q = some c)
    (hgate : s.dev.gate? (portOf q) = some gate) (hid : g.2.1 = c.id)
    (hcycle : g.2.2 + cycleOf gate.entries ≤ s.dev.clk.slots) (hplace : c.place = .cask) :
    exec (.gateOverrun q) s = .next (s.put
      (s.dev.dropCopy c ((s.dev.headReason c s.dev.clk.slots).getD Reason.GATE_OVERRUN) true none)) := by
  refine (on_runs s _ hr).trans ?_
  simp only [hg, hc, hgate]
  rw [if_pos ⟨hid, hcycle, hplace⟩]

/-- A head with its verdict passed and its VTAG in force starts its move into intake (R293). -/
theorem exec_recircIntakeMove_of_new {f : Frame} (hslice : slice < 32) (hcounts : s.dev.mode.counts = true)
    (hc : s.dev.headOf (recircQueue slice) = some c) (hf : s.dev.frame? c.frame = some f)
    (hnew : s.dev.recircMoving.find? (fun r => r.1 = slice && r.2.1 = c.id) = none) (hv : f.verdict = some 0)
    (hvtag : s.dev.expired.contains f.vtag = false) : exec (.recircIntakeMove slice) s = .next (s.put { s.dev with
      recircMoving := s.dev.recircMoving.filter (fun r => r.1 ≠ slice) ++ [(slice, c.id, 0, s.dev.clk.slots + 64)] }) := by
  have halive : s.dev.alive = true := hcounts
  have hruns : ¬ (32 ≤ slice ∨ (!s.dev.alive) = true) := by
    rw [halive]
    exact fun h => h.elim (Nat.not_le.mpr hslice) Bool.false_ne_true
  refine (on_runs s _ hr).trans ?_
  simp only [if_neg hruns, hc, hf, hnew, hv, hvtag, ne_eq, not_true_eq_false, Bool.false_eq_true, if_false]

end

/-- Settles O28: each command by the one case of its operation that its conditions leave; a return then by what the racker's read
of the record finds. That the operands of RACK_RETURN say what the read finds, and name the failing cell by its number in the
record (log entry 105), and that the read uses the return's tokens (log entry 184), are the model's choices. -/
theorem queueEvents : Obligations.QueueEvents := by
  unfold Obligations.QueueEvents
  refine fun s c f q slice hr => ⟨fun j hidle hj => exec_replicationJobStart_of_due hr hidle hj,
    fun r hrack hc => exec_rackOutComplete_of_racking hr hrack hc,
    fun cell hq hc htokens => ?rackReturn,
    fun g gate hg hc hgate hid hcycle hplace => ?gateOverrun,
    fun hslice hcounts hc hf hnew hv hvtag => exec_recircIntakeMove_of_new hr hslice hcounts hc hf hnew hv hvtag⟩
  case rackReturn =>
    have hreads {fault : MemFault} {e : Device} (he : (s.dev.spendReturn q c.spill.length).readRecord c fault cell = e) :
        exec (.rackReturn fault cell) s = .next (s.put e) := by rw [exec_rackReturn_of_asked hr hq hc htokens, he]
    simp only [← s.dev.pcIn_spendReturn q c.spill.length]
    exact ⟨fun hin => ⟨hreads (Device.readRecord_of_none hin cell), hreads (Device.readRecord_of_correctable hin cell),
        hreads (Device.readRecord_of_mismatch hin cell), fun hcell => hreads (Device.readRecord_of_uncorrectable hin hcell)⟩,
      fun hout fault => hreads (Device.readRecord_of_cell_out hout fault cell)⟩
  case gateOverrun =>
    have hdrop := exec_gateOverrun_of_stuck hr hg hc hgate hid hcycle hplace
    exact ⟨fun hnone => by rw [hdrop, hnone, Option.getD_none], fun reason hsome => by rw [hdrop, hsome, Option.getD_some]⟩

end Sys2Proof.Machine
end

section
/-! SUPPORT. The time inputs and outputs: the references and their holdover, PPS_OUT and the recovered clocks. -/

namespace Sys2Proof.Machine

open Sys2Proof

/-! ### What the time commands work on -/

/-- The 10 MHz reference that the clock follows is lost. -/
def Device.loseRef (d : Device) : Device :=
  { d.wrBit E.TIME_STATUS 3 false with time := { d.time with refLost := true } }

/-- The 10 MHz reference is present. -/
def Device.regainRef (d : Device) : Device :=
  { d.wrBit E.TIME_STATUS 3 true with time := { d.time with refLost := false } }

/-- The pulse per second that time follows is lost. -/
def Device.losePps (d : Device) : Device :=
  { d.wrBit E.TIME_STATUS 2 false with time := { d.time with ppsLost := true } }

/-- One cause of holdover sets HOLDOVER, whatever the other is (R312). -/
theorem Device.setHoldover_loseRef (d : Device) : d.loseRef.setHoldover = d.loseRef.wrBit E.TIME_STATUS 1 true := by
  have hcause : (d.loseRef.time.refLost || d.loseRef.time.ppsLost) = true := Bool.true_or _
  rw [Device.setHoldover, hcause]

theorem Device.setHoldover_losePps (d : Device) : d.losePps.setHoldover = d.losePps.wrBit E.TIME_STATUS 1 true := by
  have hcause : (d.losePps.time.refLost || d.losePps.time.ppsLost) = true := Bool.or_true _
  rw [Device.setHoldover, hcause]

/-- With the reference back, a lost pulse alone keeps HOLDOVER (R312). -/
theorem Device.setHoldover_regainRef (d : Device) :
    d.regainRef.setHoldover = d.regainRef.wrBit E.TIME_STATUS 1 d.time.ppsLost := by
  have hcause : (d.regainRef.time.refLost || d.regainRef.time.ppsLost) = d.time.ppsLost := Bool.false_or _
  rw [Device.setHoldover, hcause]

/-- The pin's pulse is one more output, and none where PPS_OUT_PIN names no pin. -/
theorem Device.pulsePin_eq (d : Device) : d.pulsePin = { d with sent := d.sent ++ (if d.cur E.PPS_OUT_PIN = 0xFF then []
    else [.ppsPin (d.cur E.PPS_OUT_PIN) (d.cur E.PPS_OUT_WIDTH_US)]) } := by
  unfold Device.pulsePin
  split
  · rw [List.append_nil]
  · rfl

/-- The pulse that was due is no longer due. -/
def Device.takePulse (d : Device) : Device := { d with time := { d.time with pulseDue := none } }

/-! ### The commands, each where its occurrence is due -/

section
variable {s : State} (hr : s.Runs)
include hr

theorem exec_ref10mLoss_of_followed (ha : s.dev.alive = true) (hclock : (s.dev.wrBit E.TIME_STATUS 3 false).rd E.TIME_CLOCK = 1)
    (hpresent : s.dev.time.refLost = false) :
    exec .ref10mLoss s = .next (s.put ((s.dev.loseRef.wrBit E.TIME_STATUS 1 true).raise Src.TIME_HOLDOVER 0)) := by
  rw [← Device.setHoldover_loseRef]
  refine (on_runs_of_alive hr ha _).trans ?_
  rw [if_pos ⟨hclock, congrArg not hpresent⟩]
  rfl

theorem exec_ref10mRestore (ha : s.dev.alive = true) :
    exec .ref10mRestore s = .next (s.put (s.dev.regainRef.wrBit E.TIME_STATUS 1 s.dev.time.ppsLost)) := by
  rw [← Device.setHoldover_regainRef]
  exact on_runs_of_alive hr ha _

theorem exec_ppsInLost_of_followed (ha : s.dev.alive = true) (hown : s.dev.followsTime = false)
    (hsource : s.dev.cur E.TIME_SOURCE = 2) (hedge : s.dev.time.lastPps.isSome = true) (hpresent : s.dev.time.ppsLost = false) :
    exec .ppsInLost s = .next (s.put
      (((s.dev.losePps.wrBit E.TIME_STATUS 1 true).raise Src.TIME_HOLDOVER 0).raise Src.PPS_IN_LOST 0)) := by
  rw [← Device.setHoldover_losePps]
  refine (on_runs s _ hr).trans ?_
  rw [if_pos ⟨ha, congrArg not hown, hsource, hedge, congrArg not hpresent⟩]
  rfl

/-- A pulse that is due is taken, and goes out only while time is valid (R322). -/
theorem exec_ppsOutPulse_of_due {sec : Nat} (hdue : s.dev.time.pulseDue = some sec) : exec .ppsOutPulse s = .next (s.put
    (if s.dev.timeValid = true then s.dev.takePulse.pulsePin.send (.pulse sec) else s.dev.takePulse)) := by
  refine (on_runs s _ hr).trans ?_
  simp only [hdue]
  rfl

theorem exec_rclkResume_of_clear {o : Nat} (ho : o < 2) (hclear : s.dev.rclkSquelched o = false) :
    exec (.rclkResume o) s = .next (s.put (s.dev.wrBit E.RCLK_STATUS o false)) :=
  on_runs_of_pos hr ⟨ho, congrArg not hclear⟩

/-- An output with a cause stays squelched (R324). -/
theorem exec_rclkResume_of_squelched {o : Nat} (hcause : s.dev.rclkSquelched o = true) : exec (.rclkResume o) s = .next s :=
  on_runs_of_neg hr fun ⟨_, hclear⟩ => Bool.false_ne_true ((congrArg not hcause).symm.trans hclear)

end

/-- Settles O37: each command of the time inputs where its occurrence is due, HOLDOVER by the one cause that it brings, and a due
pulse by whether time is valid. -/
theorem timeInputs : Obligations.TimeInputs := by
  unfold Obligations.TimeInputs
  refine fun s o hr ha => ⟨on_runs_of_pos hr ha, exec_ref10mLoss_of_followed hr ha, exec_ref10mRestore hr ha,
    exec_ppsInLost_of_followed hr ha, fun sec hdue hvalid => ?pulse, fun sec hdue hinvalid => ?noPulse,
    exec_rclkResume_of_clear hr, exec_rclkResume_of_squelched hr⟩
  case pulse =>
    rw [exec_ppsOutPulse_of_due hr hdue, if_pos hvalid, Device.pulsePin_eq]
    rfl
  case noPulse =>
    rw [exec_ppsOutPulse_of_due hr hdue, hinvalid, if_neg Bool.false_ne_true]
    rfl

end Sys2Proof.Machine
end

section
/-! SUPPORT. The measuring chain (R353): what no event, no record, no counter and no retirement of a table bank touches of it. -/

namespace Sys2Proof.Machine

open Sys2Proof

/-- The measuring chain (R353): the tap adders, the tap link and the Gauge die. -/
def Device.meters (d : Device) : SMap × TapLink × Gauge := (d.ports.taps, d.tapLink, d.gauge)

theorem Device.meters_ite {d x y : Device} {c : Prop} [Decidable c] (hx : x.meters = d.meters) (hy : y.meters = d.meters) :
    (if c then x else y).meters = d.meters := by split <;> assumption

theorem Device.meters_foldl {α} (xs : List α) {f : Device → α → Device} (hf : ∀ d x, (f d x).meters = d.meters) (d : Device) :
    (xs.foldl f d).meters = d.meters :=
  List.foldlRecOn (motive := fun e => e.meters = d.meters) xs f rfl fun e he x _ => (hf e x).trans he

theorem Device.meters_wr (d : Device) (a v : Nat) : (d.wr a v).meters = d.meters := rfl

theorem Device.meters_bump (d : Device) (a w n : Nat) : (d.bump a w n).meters = d.meters := rfl

theorem Device.meters_bump64 (d : Device) (a n : Nat) : (d.bump64 a n).meters = d.meters := rfl

theorem Device.meters_modFrame (d : Device) (id : Nat) (f : Frame → Frame) : (d.modFrame id f).meters = d.meters := rfl

/-! ### Events (R441 to R445) -/

theorem Device.meters_sendMsix (d : Device) (v : Nat) : (d.sendMsix v).meters = d.meters := Device.meters_ite rfl rfl

theorem Device.meters_deliver (d : Device) (g : Nat) : (d.deliver g).meters = d.meters :=
  Device.meters_ite (Device.meters_sendMsix _ _) rfl

theorem Device.meters_insertOwn (d : Device) (p : Nat) : (d.insertOwn p).meters = d.meters := by
  unfold Device.insertOwn; split
  · rfl
  · exact Device.meters_ite rfl rfl

theorem Device.meters_originate (d : Device) (c op : Nat) (bs : List Byte) : (d.originate c op bs).meters = d.meters :=
  Device.meters_ite rfl (Device.meters_ite (Device.meters_insertOwn _ _) (Device.meters_ite rfl rfl))

theorem Device.meters_eventTo (d : Device) (n c : Nat) : (d.eventTo n c).meters = d.meters := by
  refine Device.meters_ite ?_ rfl
  split
  · exact Device.meters_ite rfl (Device.meters_originate _ _ _ _)
  · exact Device.meters_originate _ _ _ _

theorem Device.meters_writeDetail (d : Device) (n v : Nat) : (d.writeDetail n v).meters = d.meters := Device.meters_ite rfl rfl

theorem Device.meters_marks (d : Device) (t v r : SMap) :
    ({ d with raiseTime := t, raiseValid := v, raiseRound := r } : Device).meters = d.meters := rfl

theorem Device.meters_raiseState (d : Device) (n v : Nat) : (d.raiseState n v).meters = d.meters := by
  unfold Device.raiseState; dsimp only
  rw [Device.meters_marks, Device.meters_writeDetail, Device.meters_bump, Device.meters_wr, Device.meters_wr]

theorem Device.meters_eventFrames (d : Device) (n : Nat) : (d.eventFrames n).meters = d.meters := by
  unfold Device.eventFrames
  exact Device.meters_foldl _ (fun e c => e.meters_eventTo n c) d

theorem Device.meters_raise (d : Device) (n v : Nat) : (d.raise n v).meters = d.meters := by
  unfold Device.raise
  refine Device.meters_ite ?_ rfl
  dsimp only
  rw [Device.meters_eventFrames]
  split
  · rw [Device.meters_deliver, Device.meters_raiseState]
  · exact d.meters_raiseState n v

/-! ### Counters, samplers and rings (R332, R339, R340) -/

theorem Device.meters_setCounter (d : Device) (n v : Nat) : (d.setCounter n v).meters = d.meters := rfl

theorem Device.meters_addAt (d : Device) (u n : Nat) : (d.addAt u n).meters = d.meters := by
  unfold Device.addAt
  split
  · exact Device.meters_ite ((Device.meters_setCounter _ _ _).trans (d.meters_setCounter _ _)) rfl
  · exact Device.meters_ite (d.meters_setCounter _ _) rfl

theorem Device.meters_addUnit (d : Device) (base off n : Nat) : (d.addUnit base off n).meters = d.meters := d.meters_addAt _ _

theorem Device.meters_addBytes (d : Device) (f : Frame) (u : Nat) : (d.addBytes f u).meters = d.meters :=
  Device.meters_ite (d.meters_addAt _ _) rfl

theorem Device.meters_pushRing (d : Device) (x : Nat) (item : List Byte) : (d.pushRing x item).meters = d.meters :=
  Device.meters_ite rfl (Device.meters_ite rfl rfl)

theorem Device.meters_postcard (d : Device) (sel : List Nat) (mk : Nat → Nat → List Byte) : (d.postcard sel mk).meters = d.meters := by
  unfold Device.postcard; split
  · rfl
  · exact Device.meters_ite rfl (Device.meters_pushRing _ _ _)

theorem Device.meters_sampleEvent (d : Device) (parity k : Nat) : (d.sampleEvent parity k).1.meters = d.meters := by
  unfold Device.sampleEvent; dsimp only; split
  · split <;> rfl
  · rfl

theorem Device.meters_sampleDiscard (d : Device) (parity code : Nat) (sel : List Nat) :
    (d.sampleDiscard parity code sel).1.meters = d.meters := by
  refine List.foldlRecOn (motive := fun st : Device × List Nat => st.1.meters = d.meters) _ _ rfl fun st hst k _ => ?_
  dsimp only; split
  · exact (Device.meters_sampleEvent _ _ _).trans hst
  · exact hst

theorem Device.meters_taste (d : Device) (f : Frame) (session dest outcome : Nat) (egress : Bool) (bytes : List Byte) (whole : Bool) :
    (d.taste f session dest outcome egress bytes whole).meters = d.meters :=
  Device.meters_ite rfl ((Device.meters_pushRing _ _ _).trans (by dsimp only; split <;> rfl))

/-! ### Discards (R52, R58, R300) -/

theorem Device.meters_limitLoss (d : Device) (f : Frame) : (d.limitLoss f).meters = d.meters :=
  Device.meters_ite (Device.meters_ite rfl rfl) (Device.meters_ite rfl rfl)

theorem Device.meters_frameLoss (d : Device) (f : Frame) (code : Nat) : (d.frameLoss f code).meters = d.meters :=
  Device.meters_ite (Device.meters_raise _ _ _) <| Device.meters_ite (Device.meters_raise _ _ _) <| Device.meters_ite rfl <|
    Device.meters_ite rfl <| Device.meters_ite rfl <| Device.meters_ite (Device.meters_raise _ _ _) <|
    Device.meters_ite (d.meters_limitLoss f) <| Device.meters_ite (Device.meters_ite rfl rfl) <| Device.meters_ite rfl rfl

theorem Device.meters_countFrame (d : Device) (id code detail : Nat) : (d.countFrame id code detail).meters = d.meters := by
  unfold Device.countFrame; split
  · rfl
  · exact (Device.meters_postcard _ _ _).trans ((Device.meters_sampleDiscard _ _ _ _).trans (Device.meters_frameLoss _ _ _))

theorem Device.meters_inflightSub (d : Device) (s vtag : Nat) : (d.inflightSub s vtag).meters = d.meters := Device.meters_ite rfl rfl

theorem Device.meters_land (d : Device) (id : Nat) : (d.land id).meters = d.meters := by
  unfold Device.land; split
  · exact Device.meters_ite ((Device.meters_modFrame _ _ _).trans (d.meters_inflightSub _ _)) rfl
  · rfl

theorem Device.meters_expire (d : Device) (h : Header) : (d.expire h).meters = d.meters :=
  (Device.meters_land _ _).trans (Device.meters_countFrame _ _ _ _)

/-! ### Policers (R278 to R281) -/

theorem Device.meters_police (d : Device) (parity n frame bytes : Nat) (known : Bool) :
    (d.police parity n frame bytes known).1.meters = d.meters := by
  unfold Device.police; split
  · rfl
  · split
    · rfl
    · exact Device.meters_ite (Device.meters_ite (Device.meters_addUnit _ _ _ _) rfl)
        (Device.meters_ite (d := d) (Device.meters_addUnit _ _ _ _) rfl)

theorem Device.meters_creditPolicers (d : Device) (frame len : Nat) : (d.creditPolicers frame len).meters = d.meters := by
  refine Device.meters_foldl _ (fun e g => ?_) _
  split <;> rfl

/-! ### Strikes against table banks (R183, R187, R448, R449) -/

theorem Device.meters_noteRetired (d : Device) (kind inst spare : Nat) (used manual : Bool) :
    (d.noteRetired kind inst spare used manual).meters = d.meters := Device.meters_raise _ _ _

theorem Device.meters_requestRecovery (d : Device) : d.requestRecovery.meters = d.meters := Device.meters_ite rfl rfl

theorem Device.meters_bankOut (d : Device) (kind inst : Nat) : (d.bankOut kind inst).meters = d.meters := by
  unfold Device.bankOut; split
  · rfl
  · dsimp only; split
    · rfl
    · rfl
    · exact Device.meters_ite (Device.meters_requestRecovery _) rfl
    · rfl
    · rfl

theorem Device.meters_substitute (d : Device) (kind inst : Nat) : (d.substitute kind inst).meters = d.meters := by
  unfold Device.substitute; split
  · rfl
  · exact (Device.meters_bankOut _ _ _).trans (Device.meters_raise _ _ _)

theorem Device.meters_retireBank (d : Device) (kind inst : Nat) (manual : Bool) : (d.retireBank kind inst manual).meters = d.meters := by
  refine Eq.trans ?_ (d.meters_noteRetired kind inst 0xFFFF false manual)
  unfold Device.retireBank; dsimp only; split
  · exact Device.meters_substitute _ _ _
  · split
    · exact Device.meters_substitute _ _ _
    · exact Device.meters_ite (Device.meters_raise _ _ _) rfl

/-- Kinds 3 to 6 are the banks of the table stores (Table 18.4). -/
theorem Device.meters_retire_tableBank (d : Device) {store : Nat} (hs : store ≤ 3) (inst : Nat) (manual : Bool) :
    (d.retire (3 + store) inst manual).meters = d.meters := by
  refine Device.meters_ite rfl ?_
  split
  case h_1 | h_2 | h_3 | h_5 => omega
  case h_4 => exact (Device.meters_bankOut _ _ _).trans ((Device.meters_raise _ _ _).trans (d.meters_noteRetired _ _ _ _ _))
  case h_6 => exact d.meters_retireBank _ _ _

theorem Device.meters_strikeStore (d : Device) {store : Nat} (hs : store ≤ 3) (loc : Nat) : (d.strikeStore store loc).meters = d.meters := by
  refine Device.meters_ite (Device.meters_ite rfl ?_) rfl
  exact Device.meters_ite ((Device.meters_retire_tableBank _ hs _ _).trans (Device.meters_raise _ _ _)) (Device.meters_raise _ _ _)

/-! ### Searches (R163, R175, R183) -/

theorem Device.meters_verifyFails (d : Device) (s : Search) {store : Nat} (hs : store ≤ 3) (loc : Nat) :
    (d.verifyFails s store loc).meters = d.meters := (Device.meters_strikeStore _ hs _).trans (Device.meters_ite rfl rfl)

theorem Device.meters_launch (d : Device) (h : Header) (start : Pass) (profile dest : Nat) :
    (d.launch h start profile dest).meters = d.meters :=
  Device.meters_ite rfl (Device.meters_ite (d.meters_expire h) (Device.meters_ite rfl rfl))

theorem Device.find_store_le (d : Device) (s : Search) : (d.find s).1 ≤ 3 := by
  unfold Device.find; dsimp only; split
  · exact Nat.le_refl 3
  · split <;> exact Nat.le_of_ble_eq_true rfl

/-- A counter, a mark of the frame's record and, where the profile asks for it, an event (R172, R175). -/
theorem Device.meters_countMark (d : Device) (a : Addr) (frame : Nat) (mark : Frame → Frame) (event : Bool) (source detail : Nat) :
    (if event then ((d.bump64 a 1).modFrame frame mark).raise source detail else (d.bump64 a 1).modFrame frame mark).meters =
      d.meters := Device.meters_ite (Device.meters_raise _ _ _) rfl

theorem Device.meters_noteResult (d : Device) (frame : Nat) (s : Search) (tie degraded : Bool) :
    (d.noteResult frame s tie degraded).meters = d.meters := by
  unfold Device.noteResult
  extract_lets flags marked tied marked'
  have htied : tied.meters = d.meters := Device.meters_ite (d.meters_countMark _ _ _ _ _ _) rfl
  exact (Device.meters_ite (tied.meters_countMark _ _ _ _ _ _) rfl).trans htied

theorem Device.meters_searchResult (d : Device) (frame : Nat) (s : Search) (fault : MemFault) (loc : Nat) :
    (d.searchResult frame s fault loc).1.meters = d.meters := by
  have hstore := d.find_store_le s
  unfold Device.searchResult
  extract_lets r store tie degraded miss searched corrected failed noted
  have hnoted : noted.meters = d.meters := (Device.meters_noteResult _ _ _ _ _).trans
    (Device.meters_ite (Device.meters_ite (d := d) rfl rfl) (Device.meters_ite rfl rfl))
  split
  · exact (Device.meters_verifyFails _ _ hstore _).trans hnoted
  · split
    · exact hnoted
    · exact Device.meters_ite hnoted hnoted

theorem Device.meters_finishSearch (d : Device) (h frame : Nat) (s : Search) (fault : MemFault) (loc : Nat) :
    (d.finishSearch h frame s fault loc).meters = d.meters := d.meters_searchResult frame s fault loc

/-! ### Actions (R198) -/

theorem Device.meters_setDisp (d : Device) (h : Header) (x : Disp) : (d.setDisp h x).meters = d.meters := Device.meters_ite rfl rfl

theorem Device.meters_actCount (d : Device) (h : Header) (v : Nat) : (d.actCount h v).meters = d.meters := by
  refine Device.meters_ite ?_ (d.meters_addUnit _ _ _)
  split
  · exact (Device.meters_addBytes _ _ _).trans (d.meters_addUnit _ _ _)
  · exact d.meters_addUnit _ _ _

theorem Device.meters_actPolice (d : Device) (h : Header) (v : Nat) : (d.actPolice h v).meters = d.meters := by
  unfold Device.actPolice; split
  · rfl
  · have hp := d.meters_police h.parity (bits v 0 18)
    exact Device.meters_ite rfl (Device.meters_ite ((Device.meters_creditPolicers _ _ _).trans (hp _ _ _)) (hp _ _ _))

theorem Device.meters_mirrorPoliced (d : Device) (f : Frame) (parity m : Nat) (egress : Bool) :
    (d.mirrorPoliced f parity m egress).meters = d.meters := by
  unfold Device.mirrorPoliced Device.copyRecord
  dsimp only
  rw [Device.meters_postcard, Device.meters_sampleDiscard, Device.discarded, Device.meters_bump64, Device.meters_bump64]

theorem Device.meters_actMirror (d : Device) (h : Header) (v : Nat) : (d.actMirror h v).meters = d.meters := by
  unfold Device.actMirror
  split
  · refine Device.meters_ite rfl ?_
    extract_lets m q counted pol dest len charged credited done outcome
    have hcharged : charged.1.meters = d.meters := by
      dsimp only [charged]; split
      · rfl
      · exact Device.meters_police _ _ _ _ _ _
    have hcredited : credited.meters = d.meters := Device.meters_ite ((Device.meters_creditPolicers _ _ _).trans hcharged) hcharged
    have hdone : done.meters = d.meters :=
      Device.meters_ite ((Device.meters_mirrorPoliced _ _ _ _ _).trans hcredited) (Device.meters_ite hcredited hcredited)
    exact Device.meters_ite (Device.meters_ite ((Device.meters_taste _ _ _ _ _ _ _ _).trans hdone)
      ((Device.meters_taste _ _ _ _ _ _ _ _).trans hdone)) hdone
  · rfl

theorem Device.meters_actSample (d : Device) (h : Header) (v : Nat) : (d.actSample h v).meters = d.meters :=
  Device.meters_ite rfl (Device.meters_ite (d.meters_sampleEvent _ _) (d.meters_sampleEvent _ _))

theorem Device.meters_sendIpfix (d : Device) : d.sendIpfix.meters = d.meters := Device.meters_ite rfl (Device.meters_pushRing _ _ _)

theorem Device.meters_exportFlow (d : Device) (t : Nat) (f : Flow) (reason : Nat) : (d.exportFlow t f reason).meters = d.meters := by
  unfold Device.exportFlow
  extract_lets r counted sent
  have hsent : sent.meters = d.meters := Device.meters_ite counted.meters_sendIpfix rfl
  clear_value sent
  exact hsent

theorem Device.meters_flow (d : Device) (r : Nat) (space : List Byte) (frame : Frame) : (d.flow r space frame).meters = d.meters := by
  unfold Device.flow; split
  · rfl
  · extract_lets key fresh old exported
    have hexported : exported.meters = d.meters := by
      clear_value old
      cases old with
      | none => rfl
      | some f => exact Device.meters_ite ((Device.meters_bump64 _ _ _).trans (d.meters_exportFlow _ _ _)) rfl
    clear_value exported
    exact hexported

theorem Device.meters_actFlow (d : Device) (h : Header) (v : Nat) : (d.actFlow h v).meters = d.meters := by
  unfold Device.actFlow; split
  · exact d.meters_flow _ _ _
  · rfl

theorem Device.meters_action (d : Device) (h : Header) (code : Nat) (a : ActArgs) : (d.action h code a).meters = d.meters := by
  refine Device.meters_ite rfl ?_
  split
  case h_1 | h_2 | h_3 | h_5 => exact d.meters_setDisp _ _
  case h_6 => exact d.meters_actCount _ _
  case h_7 => exact d.meters_actPolice _ _
  case h_8 => exact d.meters_actMirror _ _
  case h_11 => exact d.meters_actSample _ _
  case h_14 => exact d.meters_actFlow _ _
  case h_9 | h_10 | h_12 | h_13 => exact Device.meters_ite rfl rfl
  case h_4 | h_15 => rfl

/-! ### The Coopers' commands -/

/-- A command of the Core's logic that leaves the measuring chain as it is. -/
theorem meters_of_on {s t : State} {f : Device → Device} (hf : ∀ d, (f d).meters = d.meters) (h : s.on f = .next t) :
    t.dev.meters = s.dev.meters := by
  cases h
  exact Device.meters_ite rfl (hf s.dev)

theorem meters_of_alu {s t : State} {h op : Nat} {x : AluArgs} (he : s.alu h op x = .next t) : t.dev.meters = s.dev.meters := by
  refine meters_of_on (fun d => ?_) he
  cases d.header? h <;> rfl

theorem meters_of_act {s t : State} {h code : Nat} {a : ActArgs} (he : s.act h code a = .next t) : t.dev.meters = s.dev.meters := by
  refine meters_of_on (fun d => ?_) he
  cases d.header? h with
  | none => rfl
  | some x => exact d.meters_action x code a

theorem meters_of_searchLaunch {s t : State} {h profile dest : Nat} (he : exec (.searchLaunch h profile dest) s = .next t) :
    t.dev.meters = s.dev.meters := by
  refine meters_of_on (fun d => ?_) he
  split
  · exact Device.meters_ite (d.meters_launch _ _ _ _) rfl
  · rfl

theorem meters_of_searchResult {s t : State} {h reg : Nat} {f : WordFault} (he : exec (.searchResult h reg f) s = .next t) :
    t.dev.meters = s.dev.meters := by
  refine meters_of_on (fun d => ?_) he
  split
  · split
    · exact d.meters_finishSearch _ _ _ _ _
    · rfl
  · rfl

theorem meters_of_factoryAction {s t : State} {h : Nat} {a : ActArgs} (he : exec (.factoryAction h a) s = .next t) :
    t.dev.meters = s.dev.meters := by
  have he : execFactoryAction h a s = .next t := he
  unfold execFactoryAction at he
  split at he
  · split at he
    · cases he
    · exact meters_of_on (fun _ => rfl) he
  · exact meters_of_on (fun _ => rfl) he

/-- Settles O14: an ALU slot changes its header's pass alone, and what actions and searches do beside it (counters, samplers,
records, discards, policers, flows, and strikes against table banks with their events) reaches no part of the chain. -/
theorem coopersLeaveTheMeasuringChain : Obligations.CoopersLeaveTheMeasuringChain := by
  unfold Obligations.CoopersLeaveTheMeasuringChain
  intro s t h x a profile dest reg f c hc he
  have hmeters : t.dev.meters = s.dev.meters := by
    revert he
    revert c
    simp only [List.forall_mem_cons]
    exact ⟨meters_of_alu, meters_of_alu, meters_of_alu, meters_of_alu, meters_of_alu, meters_of_alu, meters_of_alu, meters_of_alu,
      meters_of_alu, meters_of_alu, meters_of_alu, meters_of_alu, meters_of_alu, meters_of_alu, meters_of_alu,
      meters_of_act, meters_of_act, meters_of_act, meters_of_act, meters_of_act, meters_of_act, meters_of_act, meters_of_act,
      meters_of_act, meters_of_act, meters_of_act, meters_of_act, meters_of_act, meters_of_act, meters_of_act,
      meters_of_factoryAction, meters_of_searchLaunch, meters_of_searchResult, fun _ h => nomatch h⟩
  simpa only [Device.meters, Prod.mk.injEq] using hmeters

end Sys2Proof.Machine
end

section
/-! SUPPORT. The tap period, the power epoch, the core setpoint, droop and the HBM throttle: each command where its occurrence is
due. -/

namespace Sys2Proof.Machine

open Sys2Proof

/-! ### The tap period (R354) -/

theorem Device.foldl_send {α} (xs : List α) (f : α → Sent) (d : Device) :
    xs.foldl (fun (d : Device) x => d.send (f x)) d = { d with sent := d.sent ++ xs.map f } := by
  induction xs generalizing d with
  | nil => rw [List.map_nil, List.append_nil]; rfl
  | cons x t ih => rw [List.foldl_cons, ih, List.map_cons, Device.send, List.append_assoc]; rfl

/-- The records of the period that closed last leave in the order of their groups. -/
theorem Device.sendTaps_eq (d : Device) (late : Bool) : d.sendTaps late = { d with
    sent := d.sent ++ (List.range 32).map (fun k => .tapRecord (d.tapLink.record k late))
    tapLink := { d.tapLink with carried := d.tapLink.taken, sequence := (d.tapLink.sequence + 1) % 2 ^ 32, first := false } } := by
  rw [Device.sendTaps, Device.foldl_send]

/-! ### The core setpoint (R478) -/

theorem Device.pmbus_eq (d : Device) (command : Nat) (w : Nat × Nat) : d.pmbus command w = { d with
    sent := d.sent ++ [.pmbus (0x40 + 2 * (d.board.straps % 4)) command w.1,
                       .pmbus (0x41 + 2 * (d.board.straps % 4)) command w.2] } := by
  simp only [Device.pmbus, Device.send, bits_zero, Nat.reducePow, List.append_assoc, List.cons_append, List.nil_append]

/-! ### Droop (R410) -/

theorem Device.joined_bump64_ne (d : Device) {a : Addr} (n : Nat) (h : a ≠ E.JOIN_STATE) : (d.bump64 a n).joined = d.joined := by
  rw [Device.joined, Device.bump64, Device.rd_bump, if_neg h.symm, Device.joined]

/-- Of the burst's clock periods, each is a skip slot. -/
theorem Device.skips_of_droop {d : Device} {n : Nat} (hc : d.mode.counts = true) (hn : d.pow.droopLeft = n) :
    (d.skips n).pow.droopLeft = 0 ∧ (d.skips n).clk.slot = d.clk.slot ∧ (d.skips n).clk.skips = d.clk.skips + n ∧
      (d.skips n).queued = d.queued := by
  induction n generalizing d with
  | zero => exact ⟨hn, rfl, rfl, rfl⟩
  | succ n ih =>
    have hone := Device.oneSkip_skip hc (d.skipsDue_pos_iff.mpr (.inl (by omega)))
    obtain ⟨hleft, hslot, hskips, hqueued⟩ := ih (d := d.skip) (by rw [hone.mode, hc]) (by rw [hone.droopLeft, hn, Nat.add_sub_cancel])
    refine ⟨hleft, hslot.trans hone.slot, ?_, hqueued.trans hone.queued⟩
    have htotal : d.clk.skips + 1 + n = d.clk.skips + (n + 1) := by omega
    exact hskips.trans (by rw [hone.skips, htotal])

/-! ### The commands, each where its occurrence is due -/

section
variable {s : State} (hr : s.Runs)
include hr

theorem exec_setpointReached_of_requested {mV : Nat} (hreq : s.dev.pow.requested = some mV) : exec .setpointReached s = .next (s.put
    (({ s.dev with pow := { s.dev.pow with setpoint := mV, requested := none } } : Device).pmbus 0x8B (0, 0))) := by
  refine (on_runs s _ hr).trans ?_
  simp only [hreq]

theorem exec_droopBurstEnd : exec .droopBurstEnd s = .next (s.put (s.dev.skips s.dev.pow.droopLeft)) := on_runs s _ hr

theorem exec_hbmThrottleOn_of_cool {celsius : Nat} (h : celsius < s.dev.cur E.HBM_THROTTLE_C) :
    exec (.hbmThrottleOn celsius) s = .next s :=
  on_runs_of_neg hr fun hot => Nat.not_le.mpr h hot.2

/-- The end of the throttle waits for the next boundary. -/
theorem exec_hbmThrottleOff_of_cool {celsius : Nat} (hon : (s.dev.rd E.POWER_STATE).testBit 12 = true)
    (h : celsius + 5 < s.dev.cur E.HBM_THROTTLE_C) : exec (.hbmThrottleOff celsius) s =
      .next (s.put { s.dev with pow := { s.dev.pow with hbmCooled := true } }) :=
  on_runs_of_pos hr ⟨hon, h⟩

section
variable (hc : s.dev.mode.counts = true)
include hc

theorem exec_tapPeriodBoundary_of_due (hdue : s.dev.clk.tapDue = true) : exec .tapPeriodBoundary s =
    .next (s.put { s.dev.sendTaps false with clk := { s.dev.clk with tapDue := false } }) := by
  refine (on_runs_of_alive hr hc _).trans ?_
  rw [if_pos hdue, Device.sendTaps_eq]

/-- An epoch that closed without its rails is evaluated in the epoch that runs (R405; log entry 142: the model's choice). -/
theorem exec_powerEpochBoundary_of_unmeasured (m : EpochMeasure) {e : EpochData} {rest : List EpochData}
    (hu : s.dev.pow.unmeasured = e :: rest) : exec (.powerEpochBoundary m) s = .next (s.put
      ((({ s.dev with pow := { s.dev.pow with unmeasured := rest,
                                              overran := s.dev.pow.overran || (m.overran || (s.dev.joined && s.dev.planLate)) } } :
        Device).reportEpoch (e.measure m)).evaluate (e.measure m))) := by
  refine (on_runs_of_alive hr hc _).trans ?_
  rw [hu]

/-- The epoch that closes at the boundary due is reported, and its measurement kept (R401, R403). -/
theorem exec_powerEpochBoundary_of_closing (m : EpochMeasure) (hu : s.dev.pow.unmeasured = []) (hm : s.dev.pow.measured = none)
    (hcl : s.dev.epochCloses = true) : exec (.powerEpochBoundary m) s =
      let x := s.dev.weighLanes.closeEpoch
      .next (s.put (({ x.2 with pow := { x.2.pow with measured := some (x.1.measure m), overran := x.2.pow.overran || m.overran } } :
        Device).reportEpoch (x.1.measure m))) := by
  refine (on_runs_of_alive hr hc _).trans ?_
  rw [hu]
  dsimp only
  rw [if_pos ⟨hcl, by rw [hm]; rfl⟩]

theorem exec_setpointRequest_of_higher {c : PowerChoice} (hchoice : s.dev.pow.choice = some c) (hop : c.op < s.dev.opInForce)
    (hset : s.dev.pow.setpoint < coreSetpoint c.op) : exec .setpointRequest s = .next (s.put
      (({ s.dev with pow := { s.dev.pow with requested := some (coreSetpoint c.op) } } : Device).commandVout (coreSetpoint c.op))) := by
  refine (on_runs s _ hr).trans ?_
  simp only [hchoice]
  rw [if_pos ⟨hc, hop, hset⟩]

theorem exec_droopDetection_of_not_joined (hj : s.dev.joined = false) : exec .droopDetection s = .next (s.put
    (({ s.dev with pow := { s.dev.pow with droopLeft := max s.dev.pow.droopLeft Config.droopSkipBurst } } : Device).bump64
      E.DROOP_EVENTS 1)) := by
  refine (on_runs_of_alive hr hc _).trans ?_
  refine congrArg _ (congrArg s.put (if_neg ?_))
  rw [Device.joined_bump64_ne _ _ (by decide)]
  exact fun hjoined => Bool.false_ne_true (hj.symm.trans hjoined)

theorem exec_hbmThrottleOn_of_hot {celsius : Nat} (h : s.dev.cur E.HBM_THROTTLE_C ≤ celsius) : exec (.hbmThrottleOn celsius) s =
    .next (s.put (({ s.dev with pow := { s.dev.pow with hbmCooled := false } } : Device).wrBit E.POWER_STATE 12 true)) :=
  on_runs_of_pos hr ⟨hc, h⟩

end

end

/-- Settles O23: each command where its occurrence is due, the 32 records of a tap period by the list that is sent, and a droop
burst by induction on its clock periods. That an epoch which closed without its measurement is evaluated in the epoch that runs is
the model's choice (log entry 142), and so is the READ_VOUT that SETPOINT_REACHED sends (log entry 208). -/
theorem periodsAndPower : Obligations.PeriodsAndPower := by
  unfold Obligations.PeriodsAndPower
  refine ⟨fun s m e hr hc => ⟨fun hdue => ?tap, fun rest hu => exec_powerEpochBoundary_of_unmeasured hr hc m hu,
    exec_powerEpochBoundary_of_closing hr hc m⟩, fun s c mV celsius hr hc => ⟨fun hchoice hop hset => ?request, fun hreq => ?reached,
    exec_droopDetection_of_not_joined hr hc, ?burst, exec_hbmThrottleOn_of_hot hr hc, exec_hbmThrottleOn_of_cool hr,
    exec_hbmThrottleOff_of_cool hr⟩⟩
  case tap =>
    refine ⟨_, exec_tapPeriodBoundary_of_due hr hc hdue, ?_⟩
    rw [Device.sendTaps_eq]
    exact ⟨rfl, rfl, rfl, rfl, rfl⟩
  case request =>
    rw [exec_setpointRequest_of_higher hr hc hchoice hop hset, Device.commandVout, Device.pmbus_eq]
  case reached =>
    rw [exec_setpointReached_of_requested hr hreq, Device.pmbus_eq]
  case burst =>
    obtain ⟨hleft, hslot, hskips, hqueued⟩ := Device.skips_of_droop hc rfl
    exact ⟨_, exec_droopBurstEnd hr, hleft, hslot, hskips, hqueued⟩

end Sys2Proof.Machine
end

section
/-! SUPPORT. The Gauge die: its commands with and without VDD_GAUGE, and what an audit entry and a record leave of it. -/

namespace Sys2Proof.Machine

open Sys2Proof

/-! ### Commands to the die (R477) -/

theorem onDie_of_powered {s : State} (hp : s.dev.gauge.powered = true) (f : Device → Device) :
    s.onDie f = .next (s.put (f s.dev)) := by
  simp only [State.onDie, State.onBoard, hp, if_true, State.put]

/-- While VDD_GAUGE is absent nothing reaches the die. -/
theorem onDie_of_unpowered {s : State} (hb : s.Between) (hp : s.dev.gauge.powered = false) (f : Device → Device) :
    s.onDie f = .next s := by
  simp only [State.onDie, State.onBoard, hp, Bool.false_eq_true, if_false]
  exact congrArg _ (put_dev s hb)

section
variable {s : State} (hp : s.dev.gauge.powered = true)
include hp

theorem onDie_of_pos {c : Gauge → Prop} [DecidablePred c] {f g : Gauge → Gauge} (h : c s.dev.gauge) :
    s.onDie (fun d => d.onGauge (fun x => if c x then f x else g x)) = .next (s.put { s.dev with gauge := f s.dev.gauge }) := by
  rw [onDie_of_powered hp, Device.onGauge, if_pos h]

theorem onDie_of_neg {c : Gauge → Prop} [DecidablePred c] {f g : Gauge → Gauge} (h : ¬ c s.dev.gauge) :
    s.onDie (fun d => d.onGauge (fun x => if c x then f x else g x)) = .next (s.put { s.dev with gauge := g s.dev.gauge }) := by
  rw [onDie_of_powered hp, Device.onGauge, if_neg h]

/-- A command whose condition the die does not meet changes nothing (log entry 7: the model's choice). -/
theorem onDie_of_not_met {c : Gauge → Prop} [DecidablePred c] {f : Gauge → Gauge} (hb : s.Between) (h : ¬ c s.dev.gauge) :
    s.onDie (fun d => d.onGauge (fun x => if c x then f x else x)) = .next s :=
  (onDie_of_neg hp h).trans (congrArg _ (put_dev s hb))

end

/-! ### The audit log (R365) -/

theorem Gauge.audits_audit_ne (g : Gauge) (kind : Nat) (data : List Byte) {n : Nat} (h : n ≠ g.nextAudit % 4096) :
    BMap.get (g.audit kind data).audits [] n = BMap.get g.audits [] n := by
  simp only [Gauge.audit, BMap.get_set, if_neg h]

/-! ### Delta records (R355, R356, R360, R361) -/

/-- The count of accepted records and TAP_ACTIVE, which only an accepted record, a silence and a restart change. -/
def Gauge.tally (g : Gauge) : Nat × Bool := (g.total, g.tapActive)

theorem Gauge.tally_flagSince (g : Gauge) (first gaps : Nat) : (g.flagSince first gaps).tally = g.tally :=
  List.foldlRecOn (motive := fun x : Gauge => x.tally = g.tally) _ _ rfl fun _ hx _ _ => hx

theorem Gauge.tally_sequenceGap (g : Gauge) (k expected received : Nat) : (g.sequenceGap k expected received).tally = g.tally := by
  unfold Gauge.sequenceGap
  extract_lets i gap counted before flagged
  have hflagged : flagged.tally = g.tally := by
    dsimp only [flagged]; split
    · exact Gauge.tally_flagSince _ _ _
    · rfl
  split <;> exact hflagged

theorem Gauge.tally_coreRestart (g : Gauge) (k round : Nat) : (g.coreRestart k round).tally = g.tally := by
  unfold Gauge.coreRestart
  dsimp only; split <;> rfl

/-- An accepted delta record is counted, and shows the link active (R356, R360). -/
theorem Gauge.tally_acceptDelta (g : Gauge) (bs : List Byte) : (g.acceptDelta bs).tally = ((g.total + 1) % 2 ^ 64, true) := by
  unfold Gauge.acceptDelta
  extract_lets k start seq last sums added started inSeq checked
  have hstarted : started.tally = added.tally := by
    dsimp only [started]; split
    · exact added.tally_coreRestart _ _
    · rfl
  have hchecked : checked.tally = started.tally := by
    dsimp only [checked]; split
    · rfl
    · exact started.tally_sequenceGap _ _ _
  exact hchecked.trans hstarted

theorem Gauge.lastSeq_acceptDelta (g : Gauge) (bs : List Byte) :
    SMap.get (g.acceptDelta bs).lastSeq 0 (byteAt bs 1 % 32) = beNat (slice bs 4 4) + 1 := by
  simp only [Gauge.acceptDelta, SMap.get_set, if_true]

/-- A record that is refused flags the points of its group, and adds nothing to a sum (R360). -/
theorem Gauge.badRecord_of_group (g : Gauge) {k : Nat} (hk : k < 32) :
    (g.badRecord k).crcErrors = min (g.crcErrors + 1) 0xFFFFFFFF ∧ (g.badRecord k).interval.bytes = g.interval.bytes ∧
      (g.badRecord k).interval.frames = g.interval.frames ∧ (g.badRecord k).interval.gaps = g.interval.gaps ||| groupGaps k ∧
      (g.badRecord k).total = g.total := by
  unfold Gauge.badRecord
  simp only [hk, if_true]
  split <;> exact ⟨rfl, rfl, rfl, rfl, rfl⟩

section
variable {s : State} (hp : s.dev.gauge.powered = true) {bytes : List Byte}
include hp

theorem exec_deltaRecord_of_accepted (hcrc : tapCrcOk bytes 784 = true) (hkind : byteAt bytes 0 = 1) :
    exec (.deltaRecord bytes) s = .next (s.put { s.dev with gauge := s.dev.gauge.acceptDelta bytes }) := by
  rw [exec, execDeltaRecord, onDie_of_powered hp]
  simp only [Device.onGauge, hcrc, hkind, decide_true, Bool.and_self, if_true]

theorem exec_deltaRecord_of_bad (hcrc : tapCrcOk bytes 784 = false) :
    exec (.deltaRecord bytes) s = .next (s.put { s.dev with gauge := s.dev.gauge.badRecord (byteAt bytes 1 % 32) }) := by
  rw [exec, execDeltaRecord, onDie_of_powered hp]
  simp only [Device.onGauge, hcrc, Bool.false_and, Bool.false_eq_true, if_false]

theorem exec_timeRecord_of_valid (hcrc : tapCrcOk bytes 16 = true) (hkind : byteAt bytes 0 = 2) :
    exec (.timeRecord bytes) s = .next (s.put { s.dev with gauge := { s.dev.gauge with named := some (beNat (slice bytes 8 6)) } }) := by
  rw [exec, execTimeRecord, onDie_of_powered hp]
  simp only [Device.onGauge, hcrc, hkind, decide_true, Bool.and_self, if_true]

/-- A pulse takes the second that names it (R357). -/
theorem exec_gaugePulse_of_named {sec : Nat} (hn : s.dev.gauge.named = some sec) : exec .gaugePulse s =
    .next (s.put ((({ s.dev with gauge := { s.dev.gauge with named := none } } : Device).gaugePulse sec).onGauge
      (fun x => { x with pulseAt := x.ns }))) := by
  rw [exec, execGaugePulse, onDie_of_powered hp]
  simp only [hn]
  rfl

theorem exec_gaugePulse_of_not_named (hb : s.Between) (hn : s.dev.gauge.named = none) : exec .gaugePulse s = .next s := by
  rw [exec, execGaugePulse, onDie_of_powered hp]
  simp only [hn]
  exact congrArg _ (put_dev s hb)

end

/-- Settles O33: a delta record by its CRC, through what an accepted and a refused one change of the die; a time record and a
pulse; and the audit log, whose entry takes one slot. -/
theorem gaugeTakesRecords : Obligations.GaugeTakesRecords := by
  unfold Obligations.GaugeTakesRecords
  refine ⟨fun s bytes hp => ⟨fun hcrc hkind => ?accepted, fun hcrc => ?bad, exec_timeRecord_of_valid hp,
    fun sec hn => exec_gaugePulse_of_named hp hn, fun hn hb => exec_gaugePulse_of_not_named hp hb hn⟩, fun g kind data => ?audit⟩
  case accepted =>
    have htally := Prod.mk.inj (s.dev.gauge.tally_acceptDelta bytes)
    exact ⟨_, exec_deltaRecord_of_accepted hp hcrc hkind, htally.1, htally.2, s.dev.gauge.lastSeq_acceptDelta bytes, rfl, rfl⟩
  case bad =>
    exact ⟨_, exec_deltaRecord_of_bad hp hcrc, s.dev.gauge.badRecord_of_group (Nat.mod_lt _ (by decide))⟩
  case audit =>
    exact ⟨rfl, fun n hn => g.audits_audit_ne kind data hn, rfl, rfl, rfl⟩

end Sys2Proof.Machine
end

section
/-! SUPPORT. The Gauge's own events: each where its condition is met, and where it is not. -/

namespace Sys2Proof.Machine

open Sys2Proof

/-! ### The die restarts (R376) -/

theorem Gauge.timeSet_with_record (g : Gauge) (rs : BMap) (hash : List Byte) :
    ({ g with records := rs, prevHash := hash } : Gauge).timeSet = g.timeSet := rfl

theorem Gauge.timeSet_with_interval (g : Gauge) (n start : Nat) (i : Interval) :
    ({ g with nextRecord := n, interval := i, saved := i, savedAt := start } : Gauge).timeSet = g.timeSet := rfl

theorem Gauge.timeSet_apply (g : Gauge) : g.apply.timeSet = g.timeSet := rfl

theorem Gauge.timeSet_close (g : Gauge) (serial : List Byte) (i : Interval) (stop start extra : Nat) :
    (g.close serial i stop start extra).timeSet = g.timeSet := by
  unfold Gauge.close
  extract_lets stored fresh opened
  have hopened : opened.timeSet = g.timeSet := (stored.timeSet_with_interval _ _ _).trans (g.timeSet_with_record _ _)
  split
  · exact opened.timeSet_apply.trans hopened
  · exact hopened

/-- A restart unsets Gauge time, whatever the cause and the memory that holds the seal state. -/
theorem Gauge.timeSet_restart (g : Gauge) (serial : List Byte) (lost unreadable : Bool) :
    (g.restart serial lost unreadable).timeSet = false := by
  unfold Gauge.restart
  extract_lets savedAt fresh broken logged closed i
  have hbroken : broken.timeSet = false := by
    dsimp only [broken]; split <;> rfl
  exact (logged.timeSet_close _ _ _ _ _).trans hbroken

/-! ### Boundaries and sealings (R359, R368, R371) -/

section
variable {d : Device}

theorem Gauge.nextBoundary_with_clock (g : Gauge) (clock : Nat) : ({ g with clock := clock } : Gauge).nextBoundary = g.nextBoundary := rfl

theorem Gauge.nextBoundary_reach (g : Gauge) (ns : Nat) : (g.reach ns).nextBoundary = g.nextBoundary := g.nextBoundary_with_clock _

theorem Device.gaugeBoundary_of_same_length {g : Gauge} {b : Nat} (h : g.oldMinutes = none) (hb : g.nextBoundary = b) :
    ({ d with gauge := g } : Device).gaugeBoundary =
      ({ d with gauge := { g with oldMinutes := none, boundaryAt := some b } } : Device).gaugeClose b b 0 := by
  subst hb
  unfold Device.gaugeBoundary
  simp only [h]
  rfl

/-- The first boundary of a new length writes INTERVAL_CHANGED. -/
theorem Device.gaugeBoundary_of_new_length {g : Gauge} {b old : Nat} (h : g.oldMinutes = some old) (hb : g.nextBoundary = b) :
    ({ d with gauge := g } : Device).gaugeBoundary =
      (({ d with gauge := { g with oldMinutes := none, boundaryAt := some b } } : Device).gaugeClose b b 512).onGauge
        (fun x => x.audit 18 (beBytes 1 old ++ beBytes 1 g.params.minutes)) := by
  subst hb
  unfold Device.gaugeBoundary
  simp only [h]
  rfl

/-- The die at the next boundary, where an interval opens. -/
def Gauge.opening (g : Gauge) : Gauge := { g.reach g.nextBoundary with oldMinutes := none, boundaryAt := some g.nextBoundary }

theorem Device.sealClose_of_reached (hb : d.gauge.nextBoundary ≤ d.gauge.ns) (h : d.gaugeBoundary.gauge.atBoundary = true) :
    d.sealClose = d.gaugeBoundary := by simp only [Device.sealClose, hb, if_true, h]

theorem Device.sealClose_of_same_cycle (hb : d.gauge.ns < d.gauge.nextBoundary) (h : d.gauge.atBoundary = true) :
    d.sealClose = d := by simp only [Device.sealClose, Nat.not_le.mpr hb, if_false, h, if_true]

theorem Device.sealClose_between (hb : d.gauge.ns < d.gauge.nextBoundary) (h : d.gauge.atBoundary = false) :
    d.sealClose = d.gaugeClose d.gauge.ns d.gauge.ns 512 := by
  simp only [Device.sealClose, Nat.not_le.mpr hb, if_false, h, Bool.false_eq_true]

end

/-! ### While VDD_GAUGE is absent (R477) -/

section
variable {s : State} (hb : s.Between) (hp : s.dev.gauge.powered = false)
include hb hp

theorem exec_gaugeMirrorCycleEnd_of_unpowered : exec .gaugeMirrorCycleEnd s = .next s :=
  on_of_same hb (if_neg fun h => Bool.false_ne_true (hp.symm.trans h.2))

theorem exec_gaugeRestart_resetPin_of_unpowered (unreadable : Bool) : exec (.gaugeRestart .resetPin unreadable) s = .next s := by
  simp only [exec, execGaugeRestart, State.onBoard, hp, Bool.false_eq_true, if_false]
  exact congrArg _ (put_dev s hb)

end

/-- A die whose supply is back restarts (R477), and reads its pin and the Core's supply anew (log entry 205: the model's choice). -/
theorem exec_gaugeRestart_supplyBack_of_unpowered {s : State} (hp : s.dev.gauge.powered = false) (unreadable : Bool) :
    exec (.gaugeRestart .supplyBack unreadable) s = .next (s.put
      (({ s.dev with gauge := (({ s.dev.gauge with powered := true, pin := false } : Gauge).restart s.dev.serial true
          unreadable).coreSupplyIs (s.dev.mode ≠ Mode.off) } : Device).raise Src.GAUGE_RECORD_READY 0)) := by
  simp only [exec, execGaugeRestart, State.onBoard, hp, Bool.false_eq_true, if_false]
  rfl

/-! ### A powered die -/

section
variable {s : State} (hp : s.dev.gauge.powered = true)
include hp

theorem exec_gaugeRestart_supplyBack_of_powered (hb : s.Between) (unreadable : Bool) :
    exec (.gaugeRestart .supplyBack unreadable) s = .next s := by
  simp only [exec, execGaugeRestart, State.onBoard, hp, if_true]
  exact congrArg _ (put_dev s hb)

theorem exec_gaugeRestart_resetPin_of_powered (unreadable : Bool) : exec (.gaugeRestart .resetPin unreadable) s = .next (s.put
    (({ s.dev with gauge := s.dev.gauge.restart s.dev.serial false unreadable } : Device).raise Src.GAUGE_RECORD_READY 0)) := by
  simp only [exec, execGaugeRestart, State.onBoard, hp, if_true]
  rfl

/-- TAP_SILENT of an active link (R361). -/
theorem exec_tapSilent_of_active (ha : s.dev.gauge.tapActive = true) :
    let g := s.dev.gauge
    let silent : Gauge := { g.reach (g.recordAt + 1000000) with
      tapActive := false, interval := { g.interval with gaps := allGaps, silent := true } }
    exec .tapSilent s = .next (s.put { s.dev with gauge := silent.audit 15 (beBytes 4 g.lastAny) }) := by
  have hactive : ((s.dev.gauge.reach (s.dev.gauge.recordAt + 1000000)).interval.silent
      && !(s.dev.gauge.reach (s.dev.gauge.recordAt + 1000000)).tapActive) = false := by
    rw [show (s.dev.gauge.reach (s.dev.gauge.recordAt + 1000000)).tapActive = true from ha, Bool.not_true, Bool.and_false]
  rw [exec, execTapSilent, onDie_of_powered hp]
  simp only [Device.onGauge, hactive, Bool.false_eq_true, if_false]
  rfl


/-- Holdover starts 1.5 s after the last named pulse (R358). -/
theorem exec_gaugeHoldoverStart_of_due (hset : s.dev.gauge.timeSet = true) (hnone : s.dev.gauge.holdover = none) :
    let g := s.dev.gauge
    let at' := g.reach (g.pulseAt + 1500000000)
    exec .gaugeHoldoverStart s = .next (s.put { s.dev with gauge :=
      ({ at' with holdover := some at'.ns, interval := { g.interval with holdover := true } } : Gauge).audit 7 [] }) := by
  rw [exec, execGaugeHoldoverStart]
  exact onDie_of_pos hp (by rw [hset, hnone]; rfl)

theorem exec_gaugeHoldoverStart_of_not_set (hb : s.Between) (hset : s.dev.gauge.timeSet = false) :
    exec .gaugeHoldoverStart s = .next s := by
  rw [exec, execGaugeHoldoverStart]
  exact onDie_of_not_met hp hb (by rw [hset]; exact Bool.false_ne_true)

/-- HOLDOVER_EXCEEDED is written once, when the holdover has lasted HOLDOVER_LIMIT_S (R358). -/
theorem exec_holdoverExceeded_of_due (hsome : s.dev.gauge.holdover.isSome = true) (hfirst : s.dev.gauge.exceeded = false) :
    let g := s.dev.gauge
    exec .holdoverExceeded s = .next (s.put { s.dev with gauge :=
      ({ g.reach (g.holdover.getD 0 + ((1000000000 * g.params.holdoverS : Nat) : Int)).toNat with
         exceeded := true, interval := { g.interval with exceeded := true } } : Gauge).audit 9 [] }) := by
  rw [exec, execHoldoverExceeded]
  exact onDie_of_pos hp (by rw [hsome, hfirst]; rfl)

theorem exec_holdoverExceeded_of_none (hb : s.Between) (hnone : s.dev.gauge.holdover = none) :
    exec .holdoverExceeded s = .next s := by
  rw [exec, execHoldoverExceeded]
  exact onDie_of_not_met hp hb (by rw [hnone]; exact Bool.false_ne_true)

/-- Gauge time reaches the boundary, whatever the Core does (log entry 37: the model's choice). -/
theorem exec_gaugeIntervalBoundary : exec .gaugeIntervalBoundary s = .next (s.put
    ({ s.dev with gauge := s.dev.gauge.reach s.dev.gauge.nextBoundary } : Device).gaugeBoundary) := by
  rw [exec, execGaugeIntervalBoundary, onDie_of_powered hp, Device.onGauge]

theorem exec_gaugeIntervalBoundary_of_same_length (h : s.dev.gauge.oldMinutes = none) :
    exec .gaugeIntervalBoundary s = .next (s.put (({ s.dev with gauge := s.dev.gauge.opening } : Device).gaugeClose
      s.dev.gauge.nextBoundary s.dev.gauge.nextBoundary 0)) :=
  (exec_gaugeIntervalBoundary hp).trans (congrArg (fun d => Host.Outcome.next (s.put d))
    (Device.gaugeBoundary_of_same_length (d := s.dev) h (Gauge.nextBoundary_reach _ _)))

theorem exec_gaugeIntervalBoundary_of_new_length {old : Nat} (h : s.dev.gauge.oldMinutes = some old) :
    exec .gaugeIntervalBoundary s = .next (s.put ((({ s.dev with gauge := s.dev.gauge.opening } : Device).gaugeClose
      s.dev.gauge.nextBoundary s.dev.gauge.nextBoundary 512).onGauge
      (fun x => x.audit 18 (beBytes 1 old ++ beBytes 1 s.dev.gauge.params.minutes)))) :=
  (exec_gaugeIntervalBoundary hp).trans (congrArg (fun d => Host.Outcome.next (s.put d))
    (Device.gaugeBoundary_of_new_length (d := s.dev) h (Gauge.nextBoundary_reach _ _)))

/-- GAUGE_SEAL_BREAK_N asserted breaks the seal of a sealed Gauge (R367). -/
theorem exec_sealBreakAssert_of_sealed (hsealed : s.dev.gauge.sealState = 1) : exec (.sealBreakAssert true) s = .next (s.put
    { s.dev with gauge := ({ s.dev.gauge with pin := true, sealState := 2 } : Gauge).audit 2 (beBytes 4 s.dev.gauge.reseals) }) := by
  rw [exec, execSealBreakAssert]
  exact onDie_of_pos hp (by rw [hsealed]; rfl)

theorem exec_sealBreakAssert_of_not_breaking {asserted : Bool} (h : s.dev.gauge.sealState ≠ 1 ∨ asserted = false) :
    exec (.sealBreakAssert asserted) s = .next (s.put { s.dev with gauge := { s.dev.gauge with pin := asserted } }) := by
  rw [exec, execSealBreakAssert]
  refine onDie_of_neg hp ?_
  rcases h with h | h <;> simp [h]

theorem exec_gaugeCheckpoint : let g := s.dev.gauge.reach (s.dev.gauge.savedAt + 60000000000)
    exec .gaugeCheckpoint s = .next (s.put { s.dev with gauge := { g with saved := s.dev.gauge.interval, savedAt := g.ns } }) := by
  rw [exec, execGaugeCheckpoint, onDie_of_powered hp]
  rfl

theorem exec_gaugeMirrorCycleEnd_of_ready (hr : s.Runs) (hready : s.dev.ready = true) : exec .gaugeMirrorCycleEnd s = .next (s.put
    (({ s.dev with gauge := { s.dev.gauge with mirrorComplete := true, mirrorRecords := s.dev.gauge.records,
                                               mirrorAudits := s.dev.gauge.audits } } : Device).wrBit E.GAUGE_STATUS 5 true)) :=
  on_runs_of_pos hr ⟨hready, hp⟩

/-- Before the mirror is complete, a publish brings the status alone (R374). -/
theorem exec_gaugeStatusPublish_of_ready (hr : s.Runs) (hready : s.dev.ready = true) (hm : s.dev.gauge.mirrorComplete = false) :
    exec .gaugeStatusPublish s = .next (s.put (s.dev.onGauge (fun g =>
      { g.reach (g.publishedAt + 1000000) with publishedAt := (g.reach (g.publishedAt + 1000000)).ns })).publish) := by
  rw [exec, execGaugeStatusPublish, onDie_of_powered hp]
  have hm' : (s.dev.gauge.reach (s.dev.gauge.publishedAt + 1000000)).mirrorComplete = false := hm
  simp only [Device.clocked, Device.onGauge, hr.1, hready, hm', Bool.false_eq_true, if_false, if_true]

end

/-- Settles O34: while VDD_GAUGE is absent by what each command then finds, and for a powered die each event by its condition; the
cases of a sealing by where Gauge time stands to the boundary. That Gauge time reaches what an event names whatever the Core does
(log entry 37), that one whose condition is not met changes nothing (log entry 7), and what the die takes for its pin and the
Core's supply when its own is back (log entry 205) are the model's choices. -/
theorem gaugeEvents : Obligations.GaugeEvents := by
  unfold Obligations.GaugeEvents
  refine ⟨fun s hb hp => ?unpowered, fun s asserted unreadable hp => ?powered⟩
  case unpowered =>
    have hnone := onDie_of_unpowered hb hp
    simp only [List.forall_mem_cons]
    exact ⟨⟨(hnone _ : execTapSilent s = _), (hnone _ : execGaugePulse s = _), (hnone _ : execGaugeHoldoverStart s = _),
      (hnone _ : execHoldoverExceeded s = _), (hnone _ : execGaugeIntervalBoundary s = _), (hnone _ : execGaugeCheckpoint s = _),
      (hnone _ : execGaugeStatusPublish s = _), exec_gaugeMirrorCycleEnd_of_unpowered hb hp, fun _ h => nomatch h⟩,
      fun bytes => ⟨(hnone _ : execDeltaRecord bytes s = _), (hnone _ : execTimeRecord bytes s = _)⟩,
      fun asserted => (hnone _ : execSealBreakAssert asserted s = _), fun unreadable =>
      ⟨exec_gaugeRestart_resetPin_of_unpowered hb hp unreadable, exec_gaugeRestart_supplyBack_of_unpowered hp unreadable⟩⟩
  case powered =>
    exact ⟨rfl, exec_tapSilent_of_active hp, exec_gaugeHoldoverStart_of_due hp,
      fun h hb => exec_gaugeHoldoverStart_of_not_set hp hb h, exec_holdoverExceeded_of_due hp,
      fun h hb => exec_holdoverExceeded_of_none hp hb h, exec_gaugeIntervalBoundary_of_same_length hp,
      fun _ => exec_gaugeIntervalBoundary_of_new_length hp,
      Device.sealClose_of_reached, Device.sealClose_of_same_cycle, Device.sealClose_between,
      exec_sealBreakAssert_of_sealed hp, exec_sealBreakAssert_of_not_breaking hp, exec_gaugeCheckpoint hp,
      exec_gaugeRestart_resetPin_of_powered hp unreadable, fun hb => exec_gaugeRestart_supplyBack_of_powered hp hb unreadable,
      fun lost => Gauge.timeSet_restart _ _ lost unreadable, exec_gaugeMirrorCycleEnd_of_ready hp,
      exec_gaugeStatusPublish_of_ready hp⟩

end Sys2Proof.Machine
end

section
/-! SUPPORT. The queue of commands: a step runs the one at its front, and without a factory action it drains. -/

namespace Sys2Proof.Machine

open Sys2Proof

theorem step_of_empty {s : State} (h : s.pending = []) : step s = .next s := by rw [step, h]

theorem step_cons (c : Instr) (s : State) : step { s with pending := c :: s.pending } = exec c s := rfl

theorem step_of_front {s : State} {c : Instr} {rest : List Instr} (h : s.pending = c :: rest) :
    step s = exec c { s with pending := rest } := by rw [step, h]

theorem steps_of_empty {s : State} (h : s.pending = []) (n : Nat) : steps n s = .next s := by
  induction n with
  | zero => rfl
  | succ n ih => rw [steps, step_of_empty h]; exact ih

/-- A command but a factory action is carried out: a next state, with the same queue. -/
theorem exec_of_not_factoryAction {c : Instr} (s : State) (h : ∀ n a, c ≠ .factoryAction n a) :
    ∃ d, exec c s = .next (s.put d) := by
  rcases everyCommandAnswers c s with hd | ⟨-, n, a, -, hc, -, -⟩
  · exact hd
  · exact absurd hc (h n a)

/-- As many steps as commands, and any further ones, lead to one state with an empty queue. -/
theorem steps_drains {q : List Instr} {s : State} (hs : s.pending = q) (h : ∀ c ∈ q, ∀ n a, c ≠ .factoryAction n a) :
    ∃ t, t.pending = [] ∧ ∀ n, steps (q.length + n) s = .next t := by
  induction q generalizing s with
  | nil => exact ⟨s, hs, fun n => steps_of_empty hs _⟩
  | cons c rest ih =>
    obtain ⟨hc, hrest⟩ := List.forall_mem_cons.mp h
    obtain ⟨d, hd⟩ := exec_of_not_factoryAction { s with pending := rest } hc
    obtain ⟨t, hempty, ht⟩ := ih (s := ({ s with pending := rest } : State).put d) rfl hrest
    refine ⟨t, hempty, fun n => ?_⟩
    rw [List.length_cons, Nat.add_right_comm, steps, step_of_front hs, hd]
    exact ht n

/-- Settles O1: the queue's rest is what the command finds waiting. -/
theorem stepRunsFrontCommand : Obligations.StepRunsFrontCommand := step_cons

/-- Settles O2, by induction on the queue: each command is carried out and leaves the rest waiting, and an empty queue idles (log
entry 1: the model's choice). -/
theorem queueDrains : Obligations.QueueDrains := by
  unfold Obligations.QueueDrains
  intro s h
  obtain ⟨t, hempty, ht⟩ := steps_drains rfl h
  exact ⟨t, ht 0, hempty, ht⟩

end Sys2Proof.Machine
end

section
/-! SUPPORT. The hardware trip: the freeze that it starts, and the test access port that it leaves. -/

namespace Sys2Proof.Machine

open Sys2Proof

/-! ### The freeze (R411) -/

section
variable {r d : Device}

/-- The Gauge's die goes on. -/
theorem Frozen.onGauge (h : Frozen r d) (f : Gauge → Gauge) : Frozen r (d.onGauge f) := by
  obtain ⟨htrip, hcycle, heq⟩ := h
  exact ⟨htrip, hcycle, congrArg (fun x : Device => { x with gauge := f d.gauge }) heq⟩

theorem Frozen.draw (h : Frozen r d) : Frozen r d.draw.2 := by
  obtain ⟨htrip, hcycle, heq⟩ := h
  exact ⟨htrip, hcycle, congrArg (fun x : Device => { x with draws := d.draws + 1 }) heq⟩

theorem Frozen.send (h : Frozen r d) (x : Sent) : Frozen r (d.send x) := by
  obtain ⟨htrip, hcycle, heq⟩ := h
  exact ⟨htrip, hcycle, congrArg (fun e : Device => { e with sent := d.sent ++ [x] }) heq⟩

theorem Frozen.ite {c : Prop} [Decidable c] {e f : Device} (he : Frozen r e) (hf : Frozen r f) :
    Frozen r (if c then e else f) := by split <;> assumption

/-- The test port's registers are no part of the Core. -/
theorem Frozen.tap (h : Frozen r d) (b : Nat) (drive : Option Nat) (code : Nat) :
    Frozen r { d with board := { d.board with boundary := b, driven := drive, ir := code } } := by
  obtain ⟨htrip, hcycle, heq⟩ := h
  exact ⟨htrip, hcycle,
    congrArg (fun e : Device => { e with board := { e.board with boundary := b, driven := drive, ir := code } }) heq⟩

theorem Frozen.boundaryScan (h : Frozen r d) (shift : Nat) (drive : Bool) : Frozen r (d.boundaryScan shift drive) :=
  (h.draw.tap _ _ d.board.ir).send _

theorem Frozen.shiftOut (h : Frozen r d) (width value : Nat) : Frozen r (d.shiftOut width value) :=
  (h.tap d.board.boundary none d.board.ir).send _

theorem Frozen.raise (h : Frozen r d) (n v : Nat) : Frozen r (d.raise n v) := by rwa [Device.raise_tripped d n v h.1]

/-- The Gauge closes an interval; that it raises an event finds the Core's clocks stopped. -/
theorem Frozen.gaugeClose (h : Frozen r d) (stop start extra : Nat) : Frozen r (d.gaugeClose stop start extra) :=
  (h.onGauge _).raise _ _

theorem Frozen.gaugeBoundary (h : Frozen r d) : Frozen r d.gaugeBoundary := by
  unfold Device.gaugeBoundary
  dsimp only
  split
  · exact (h.onGauge _).gaugeClose _ _ _
  · exact ((h.onGauge _).gaugeClose _ _ _).onGauge _

theorem Frozen.gaugeSet (h : Frozen r d) (s kind : Nat) : Frozen r (d.gaugeSet s kind) := (h.gaugeClose _ _ _).onGauge _

theorem Frozen.gaugePulse (h : Frozen r d) (s : Nat) : Frozen r (d.gaugePulse s) :=
  Frozen.ite (h.gaugeSet _ _) (Frozen.ite (h.draw.onGauge _) (Frozen.ite (h.gaugeSet _ _) (h.onGauge _)))

theorem Frozen.clocked (h : Frozen r d) (f : Device → Device) : d.clocked f = d := if_pos h.1

/-- After a cycle nothing of it is left. -/
theorem Frozen.endCycle (h : Frozen r d) : Frozen r d.endCycle := by
  rwa [show d.endCycle = d from congrArg State.dev (put_dev ⟨d, []⟩ h.2.1)]

end

/-! ### The commands that meet a frozen device (R411, R487) -/

/-- The outcome is a next state with the same queue, and its device is frozen as `r`. -/
def StaysFrozen (r : Device) (s : State) (o : Host.Outcome State Fault Refusal) : Prop :=
  ∃ t, o = .next t ∧ Frozen r t.dev ∧ t.pending = s.pending

theorem StaysFrozen.onBoard {r : Device} {s : State} {f : Device → Device} (hf : Frozen r (f s.dev)) :
    StaysFrozen r s (s.onBoard f) := ⟨s.put (f s.dev), rfl, hf.endCycle, rfl⟩

section
variable {r : Device} {s : State} (h : Frozen r s.dev)
include h

/-- A command of the Core finds every clock stopped. -/
theorem StaysFrozen.on (f : Device → Device) : StaysFrozen r s (s.on f) :=
  StaysFrozen.onBoard (by rwa [h.clocked])

theorem StaysFrozen.onDie {f : Device → Device} (hf : Frozen r (f s.dev)) : StaysFrozen r s (s.onDie f) :=
  StaysFrozen.onBoard (Frozen.ite hf h)

theorem StaysFrozen.onGauge (f : Gauge → Gauge) : StaysFrozen r s (s.onDie (fun d => d.onGauge f)) :=
  StaysFrozen.onDie h (h.onGauge f)

theorem StaysFrozen.onTap {code : Nat} {f : Device → Device} (hf : ∀ d, Frozen r d → Frozen r (f d)) :
    StaysFrozen r s (s.onTap code f) :=
  StaysFrozen.onBoard (Frozen.ite (hf _ (h.tap _ _ code)) h)

theorem StaysFrozen.gaugePulse : StaysFrozen r s (exec .gaugePulse s) := by
  rw [exec, execGaugePulse]
  refine StaysFrozen.onDie h ?_
  split
  · exact ((h.onGauge _).gaugePulse _).onGauge _
  · exact h

theorem StaysFrozen.gaugeStatusPublish : StaysFrozen r s (exec .gaugeStatusPublish s) := by
  rw [exec, execGaugeStatusPublish]
  refine StaysFrozen.onDie h ?_
  rw [(h.onGauge _).clocked]
  exact h.onGauge _

theorem StaysFrozen.gaugeRestart (cause : GaugeCause) (unreadable : Bool) :
    StaysFrozen r s (exec (.gaugeRestart cause unreadable) s) := by
  rw [exec, execGaugeRestart]
  refine StaysFrozen.onBoard ?_
  cases cause
  case supplyGone => exact h.onGauge _
  case supplyBack => exact Frozen.ite h ((h.onGauge _).raise _ _)
  case resetPin => exact Frozen.ite ((h.onGauge _).raise _ _) h

/-- A factory action is refused by a running Core alone. -/
theorem StaysFrozen.factoryAction (n : Nat) (a : ActArgs) : StaysFrozen r s (exec (.factoryAction n a) s) := by
  rw [exec_factoryAction_of_not_taken (fun _ _ _ => h.1)]
  exact StaysFrozen.on h _

theorem staysFrozen_exec {c : Instr} (hc : supplyCommand c = false) : StaysFrozen r s (exec c s) := by
  cases c with
  | suppliesInRange | coreSupplyLost | resetNFall => cases hc
  | deltaRecord | timeRecord | tapSilent | gaugeHoldoverStart | holdoverExceeded | sealBreakAssert | gaugeCheckpoint =>
    exact StaysFrozen.onGauge h _
  | gaugeIntervalBoundary => exact StaysFrozen.onDie (f := fun d => (d.onGauge _).gaugeBoundary) h (h.onGauge _).gaugeBoundary
  | gaugePulse => exact StaysFrozen.gaugePulse h
  | gaugeStatusPublish => exact StaysFrozen.gaugeStatusPublish h
  | gaugeRestart cause unreadable => exact StaysFrozen.gaugeRestart h cause unreadable
  | extest | extestPulse | extestTrain =>
    exact StaysFrozen.onTap h (fun _ hd => Frozen.ite (hd.boundaryScan _ _) (hd.shiftOut _ _))
  | samplePreload => exact StaysFrozen.onTap h (fun _ hd => hd.boundaryScan _ _)
  | idcode | bootStatus | bypass => exact StaysFrozen.onTap h (fun _ hd => hd.shiftOut _ _)
  | factoryAction n a => exact StaysFrozen.factoryAction h n a
  | _ => exact StaysFrozen.on h _

end

/-- Settles O5: a step on an empty queue changes nothing, and by the command at its front otherwise: the Core's find every clock
stopped, those of the Gauge's die change it alone, and those of the test port its registers. -/
theorem tripFreezesTheCore : Obligations.TripFreezesTheCore := by
  unfold Obligations.TripFreezesTheCore
  intro r s t ⟨hfrozen, hqueue⟩ hstep
  unfold step at hstep
  split at hstep
  next =>
    cases hstep
    exact ⟨hfrozen, hqueue⟩
  next c rest hp =>
    rw [hp, List.forall_mem_cons] at hqueue
    obtain ⟨u, hu, hdev, hpend⟩ := staysFrozen_exec (s := { s with pending := rest }) hfrozen hqueue.1
    cases hu.symm.trans hstep
    exact ⟨hdev, hpend ▸ hqueue.2⟩

theorem exec_hardwareTrip_of_powered {s : State} (hr : s.Runs) (hm : s.dev.mode ≠ .off) : exec .hardwareTrip s =
    .next (s.put { s.dev with board := { s.dev.board with tripped := true } }) :=
  (on_runs s _ hr).trans (by rw [if_neg hm])

/-- Settles O6: in a mode but Off the trip sets the one bit of the board that stops the clocks, and no cycle is under way. -/
theorem tripStartsFreeze : Obligations.TripStartsFreeze := by
  unfold Obligations.TripStartsFreeze
  intro s hr hoff hqueue
  refine ⟨_, exec_hardwareTrip_of_powered hr hoff, ⟨⟨rfl, rfl, ?_⟩, hqueue⟩, rfl, rfl⟩
  exact congrArg State.dev (put_dev ⟨{ s.dev with board := { s.dev.board with tripped := true } }, []⟩ hr.2)

end Sys2Proof.Machine
end

section
/-! SUPPORT. Raises of an event source, the messages of one cycle, delivery edges and pending groups. -/

namespace Sys2Proof.Machine

open Sys2Proof

/-! ### One bit of a status word -/

theorem setBit_eq (v i : Nat) (b : Bool) : setBit v i b = 2 ^ i * (2 ^ 1 * (v / 2 ^ (i + 1)) + b.toNat) + v % 2 ^ i := by
  have hq : v / 2 ^ i = 2 * (v / 2 ^ (i + 1)) + v / 2 ^ i % 2 := by
    rw [pow_succ, ← Nat.div_div_eq_div_mul]
    exact (Nat.div_add_mod _ 2).symm
  have hv : v = 2 ^ i * (2 * (v / 2 ^ (i + 1))) + v / 2 ^ i % 2 * 2 ^ i + v % 2 ^ i := by
    conv_lhs => rw [← Nat.div_add_mod v (2 ^ i), hq]
    ring
  have hb : b.toNat % 2 = b.toNat := Nat.mod_eq_of_lt b.toNat_lt
  rw [setBit, setBits, bits, Nat.pow_one, hb, Nat.mul_add, Nat.mul_comm b.toNat]
  omega

theorem testBit_setBit (v i j : Nat) (b : Bool) : (setBit v i b).testBit j = if j = i then b else v.testBit j := by
  rw [setBit_eq, Nat.testBit_two_pow_mul_add _ (Nat.mod_lt _ (Nat.two_pow_pos i)), Nat.testBit_mod_two_pow,
    Nat.testBit_two_pow_mul_add _ (show b.toNat < 2 ^ 1 from b.toNat_lt), Nat.testBit_div_two_pow]
  rcases Nat.lt_trichotomy j i with h | rfl | h
  · rw [if_pos h, if_neg (Nat.ne_of_lt h), decide_eq_true h, Bool.true_and]
  · rw [if_neg (Nat.lt_irrefl _), if_pos (by omega), if_pos rfl, Nat.sub_self, Nat.testBit_zero]
    cases b <;> rfl
  · rw [if_neg (by omega), if_neg (by omega), if_neg (by omega), show j - i - 1 + (i + 1) = j by omega]

/-! ### What a raise writes (R441) -/

theorem occNext_of_not_full {occ : Nat} (h : occ % 256 ≠ 255) : occNext occ = occ + 1 := if_neg h

theorem occNext_of_full {occ : Nat} (h : occ % 256 = 255) : occNext occ % 256 = 255 ∧ (occNext occ).testBit 8 = true := by
  have hset : occNext occ = setBit occ 8 true := if_pos h
  refine ⟨?_, by rw [hset, testBit_setBit, if_pos rfl]⟩
  rw [hset, setBit_eq]
  omega

/-! The registers of sources: every STATUS before every OCC, these before every DETAIL, and these before every RAISES; those of
two sources lie apart. -/

section
variable {k : Nat} (n : Nat) (hk : k < 1024)
include hk

theorem status_lt_occ : E.GROUP_STATUS (k / 16) < E.SOURCE_OCC (n / 16) (n % 16) := by
  unfold E.GROUP_STATUS E.SOURCE_OCC entry
  exact Nat.lt_of_succ_le (by omega)

theorem occ_lt_detail : E.SOURCE_OCC (k / 16) (k % 16) < E.SOURCE_DETAIL (n / 16) (n % 16) := by
  unfold E.SOURCE_OCC E.SOURCE_DETAIL entry
  exact Nat.lt_of_succ_le (by omega)

theorem detail_lt_raises : E.SOURCE_DETAIL (k / 16) (k % 16) < E.SOURCE_RAISES (n / 16) (n % 16) := by
  unfold E.SOURCE_DETAIL E.SOURCE_RAISES entry
  exact Nat.lt_of_succ_le (by omega)

end

theorem occ_inj {k n : Nat} : E.SOURCE_OCC (k / 16) (k % 16) = E.SOURCE_OCC (n / 16) (n % 16) ↔ k = n := by
  show (0xC200 + k / 16) * 256 + (1 + k % 16) = (0xC200 + n / 16) * 256 + (1 + n % 16) ↔ k = n
  omega

theorem raises_inj {k n : Nat} : E.SOURCE_RAISES (k / 16) (k % 16) = E.SOURCE_RAISES (n / 16) (n % 16) ↔ k = n := by
  show (0xC400 + k / 16) * 256 + (1 + k % 16) = (0xC400 + n / 16) * 256 + (1 + n % 16) ↔ k = n
  omega

theorem Device.takesDetail_of_cycle {d e : Device} (h : e.cycle = d.cycle) (n v : Nat) :
    e.takesDetail n v = d.takesDetail n v := by
  unfold Device.takesDetail Device.raisedLow
  rw [h]

theorem Device.rd_writeDetail (d : Device) (n v : Nat) (a : Addr) : (d.writeDetail n v).rd a =
    if a = E.SOURCE_DETAIL (n / 16) (n % 16) ∧ d.takesDetail n v = true then v else d.rd a := by
  unfold Device.writeDetail
  by_cases h : d.takesDetail n v = true
  · simp only [h, if_true, and_true]
    exact Device.rd_wr d _ a v
  · simp only [h, Bool.false_eq_true, if_false, and_false]

theorem Device.cycle_writeDetail (d : Device) (n v : Nat) : (d.writeDetail n v).cycle = if d.takesDetail n v = true then
    { d.cycle with raised := d.cycle.raised.filter (fun r => r.1 ≠ n) ++ [(n, v % 2 ^ 24)] } else d.cycle := by
  unfold Device.writeDetail
  split <;> rfl

/-- What a raise of source `n` counts: STATUS, OCC and RAISES. -/
def Device.countRaise (d : Device) (n : Nat) : Device :=
  let d := d.wr (E.GROUP_STATUS (n / 16)) (setBit (d.rd (E.GROUP_STATUS (n / 16))) (n % 16) true)
  let d := d.wr (E.SOURCE_OCC (n / 16) (n % 16)) (occNext (d.rd (E.SOURCE_OCC (n / 16) (n % 16))))
  d.bump (E.SOURCE_RAISES (n / 16) (n % 16)) 32 1

section
variable (d : Device) {n : Nat} (v : Nat)

theorem Device.cycle_countRaise : (d.countRaise n).cycle = d.cycle := rfl

theorem Device.rd_countRaise (hn : n < 1024) (a : Addr) : (d.countRaise n).rd a =
    if a = E.SOURCE_RAISES (n / 16) (n % 16) then (d.rd (E.SOURCE_RAISES (n / 16) (n % 16)) + 1) % 2 ^ 32
    else if a = E.SOURCE_OCC (n / 16) (n % 16) then occNext (d.rd (E.SOURCE_OCC (n / 16) (n % 16)))
    else if a = E.GROUP_STATUS (n / 16) then setBit (d.rd (E.GROUP_STATUS (n / 16))) (n % 16) true
    else d.rd a := by
  have hso := status_lt_occ n hn
  have hor := Nat.lt_trans (occ_lt_detail n hn) (detail_lt_raises n hn)
  rw [Device.countRaise, Device.rd_bump, Device.rd_wr_ne _ _ _ _ hor.ne', Device.rd_wr_ne _ _ _ _ (hso.trans hor).ne',
    Device.rd_wr_ne _ _ _ _ hso.ne', Device.rd_wr, Device.rd_wr]

/-- A raise's marks: when it came, whether time was valid, and the round. -/
theorem Device.raiseState_eq : ∃ t u r, d.raiseState n v =
    { (d.countRaise n).writeDetail n v with raiseTime := t, raiseValid := u, raiseRound := r } := ⟨_, _, _, rfl⟩

/-- A raise writes STATUS, OCC, RAISES, and DETAIL where the source takes it. -/
theorem Device.rd_raiseState (a : Addr) : (d.raiseState n v).rd a =
    if a = E.SOURCE_DETAIL (n / 16) (n % 16) ∧ d.takesDetail n v = true then v else (d.countRaise n).rd a := by
  obtain ⟨t, u, r, h⟩ := d.raiseState_eq (n := n) v
  rw [h, Device.rd_marks, Device.rd_writeDetail, Device.takesDetail_of_cycle (d.cycle_countRaise (n := n))]

theorem Device.cycle_raiseState : (d.raiseState n v).cycle = if d.takesDetail n v = true then
    { d.cycle with raised := d.cycle.raised.filter (fun r => r.1 ≠ n) ++ [(n, v % 2 ^ 24)] } else d.cycle := by
  obtain ⟨t, u, r, h⟩ := d.raiseState_eq (n := n) v
  rw [h]
  exact (Device.cycle_writeDetail _ n v).trans
    (by rw [Device.takesDetail_of_cycle (d.cycle_countRaise (n := n)), Device.cycle_countRaise])

theorem Device.raisedLow_raiseState : (d.raiseState n v).raisedLow n =
    if d.takesDetail n v = true then some (v % 2 ^ 24) else d.raisedLow n := by
  rw [Device.raisedLow, Device.cycle_raiseState]
  split
  next =>
    have hnone : (d.cycle.raised.filter (fun r => r.1 ≠ n)).find? (fun r => r.1 = n) = none :=
      List.find?_eq_none.mpr (fun x hx => by simpa using (List.mem_filter.mp hx).2)
    rw [List.find?_append, hnone, Option.none_or, List.find?_cons_of_pos (by simp)]
    rfl
  next => rfl

theorem Device.raiseRound_raiseState : SMap.get (d.raiseState n v).raiseRound 0 n = d.rd E.ROUND_COUNT := by
  have h := d.rd_raiseState_below n v (a := E.ROUND_COUNT) (by decide)
  unfold Device.raiseState at h ⊢
  dsimp only at h ⊢
  rw [Device.rd_marks] at h
  rw [SMap.get_set, if_pos rfl, h]

theorem Device.status_raiseState (hn : n < 1024) :
    (d.raiseState n v).rd (E.GROUP_STATUS (n / 16)) = setBit (d.rd (E.GROUP_STATUS (n / 16))) (n % 16) true := by
  have hso := status_lt_occ n hn
  have hsd := hso.trans (occ_lt_detail n hn)
  rw [Device.rd_raiseState, if_neg (fun h => hsd.ne h.1), Device.rd_countRaise _ hn, if_neg (hsd.trans (detail_lt_raises n hn)).ne,
    if_neg hso.ne, if_pos rfl]

theorem Device.occ_raiseState (hn : n < 1024) {k : Nat} (hk : k < 1024) :
    (d.raiseState n v).rd (E.SOURCE_OCC (k / 16) (k % 16)) =
      if k = n then occNext (d.rd (E.SOURCE_OCC (n / 16) (n % 16))) else d.rd (E.SOURCE_OCC (k / 16) (k % 16)) := by
  have hod := occ_lt_detail n hk
  rw [Device.rd_raiseState, if_neg (fun h => hod.ne h.1), Device.rd_countRaise _ hn, if_neg (hod.trans (detail_lt_raises n hn)).ne,
    if_neg (status_lt_occ k hn).ne']
  exact if_congr occ_inj rfl rfl

theorem Device.raises_raiseState (hn : n < 1024) (k : Nat) :
    (d.raiseState n v).rd (E.SOURCE_RAISES (k / 16) (k % 16)) =
      if k = n then (d.rd (E.SOURCE_RAISES (n / 16) (n % 16)) + 1) % 2 ^ 32 else d.rd (E.SOURCE_RAISES (k / 16) (k % 16)) := by
  have hor := (occ_lt_detail n hn).trans (detail_lt_raises k hn)
  rw [Device.rd_raiseState, if_neg (fun h => (detail_lt_raises k hn).ne' h.1), Device.rd_countRaise _ hn, if_neg hor.ne',
    if_neg ((status_lt_occ n hn).trans hor).ne']
  exact if_congr raises_inj rfl rfl

theorem Device.detail_raiseState (hn : n < 1024) : (d.raiseState n v).rd (E.SOURCE_DETAIL (n / 16) (n % 16)) =
    if d.takesDetail n v = true then v else d.rd (E.SOURCE_DETAIL (n / 16) (n % 16)) := by
  have hod := occ_lt_detail n hn
  rw [Device.rd_raiseState, Device.rd_countRaise _ hn, if_neg (detail_lt_raises n hn).ne, if_neg hod.ne',
    if_neg ((status_lt_occ n hn).trans hod).ne']
  exact if_congr (and_iff_right rfl) rfl rfl

end

/-! ### One message a vector and cycle (R444) -/

theorem Device.cycle_sendMsix (d : Device) (v : Nat) : (d.sendMsix v).cycle = d.cycle := by
  unfold Device.sendMsix
  dsimp only
  split <;> rfl

theorem Device.deliver_of_sent {d : Device} {g : Nat}
    (h : d.cycle.vectors.contains (bits (d.rd (E.GROUP_ROUTE g)) 0 7) = true) : d.deliver g = d := by
  simp only [Device.deliver, h, Bool.not_true, Bool.and_false, Bool.false_eq_true, if_false]

theorem Device.vectors_deliver {d : Device} {g : Nat} (h : (d.rd (E.GROUP_ROUTE g)).testBit 8 = true) :
    (d.deliver g).cycle.vectors.contains (bits (d.rd (E.GROUP_ROUTE g)) 0 7) = true := by
  by_cases hsent : d.cycle.vectors.contains (bits (d.rd (E.GROUP_ROUTE g)) 0 7) = true
  · rwa [Device.deliver_of_sent hsent]
  · have hdue : (bit (d.rd (E.GROUP_ROUTE g)) 8 && !d.cycle.vectors.contains (bits (d.rd (E.GROUP_ROUTE g)) 0 7)) = true :=
      Bool.and_eq_true_iff.mpr ⟨h, by rw [Bool.of_not_eq_true hsent]; rfl⟩
    rw [show d.deliver g = _ from if_pos hdue, Device.cycle_sendMsix]
    simp [Device.markVector]

theorem Device.deliver_deliver {d : Device} {k l : Nat} (h : (d.rd (E.GROUP_ROUTE k)).testBit 8 = true)
    (hv : d.rd (E.GROUP_ROUTE k) % 128 = d.rd (E.GROUP_ROUTE l) % 128) : (d.deliver k).deliver l = d.deliver k := by
  have hbits : bits (d.rd (E.GROUP_ROUTE l)) 0 7 = bits (d.rd (E.GROUP_ROUTE k)) 0 7 := by rw [bits_zero, bits_zero]; exact hv.symm
  refine Device.deliver_of_sent ?_
  rw [Device.rd_of_bk_eq (Device.bk_deliver _ _), hbits]
  exact Device.vectors_deliver h

/-- Settles O46, register by register: a raise counts, and then DETAIL takes its value unless the cycle has one of a lower instance.
That a command is a cycle is log entry 178 (the model's choice). -/
theorem raiseCounts : Obligations.RaiseCounts := by
  unfold Obligations.RaiseCounts
  intro d n v hn _
  have htakes : (d.takesDetail n v = true → (d.raiseState n v).rd (E.SOURCE_DETAIL (n / 16) (n % 16)) = v ∧
      (d.raiseState n v).raisedLow n = some (v % 2 ^ 24)) := fun h => by
    rw [Device.detail_raiseState d v hn, Device.raisedLow_raiseState, if_pos h, if_pos h]
    exact ⟨rfl, rfl⟩
  refine ⟨?status, fun j _ hj => ?others, fun h => ?occ, fun h => ?full, ?raises, fun h => htakes ?_, fun low h hlt => htakes ?_,
    fun low h hle => ?lower, d.raiseRound_raiseState v, fun k hk hne => ⟨?occOther, ?raisesOther⟩,
    fun h => Device.raise_quiet d n v h, fun k l => Device.deliver_deliver⟩
  case status => rw [Device.status_raiseState d v hn, testBit_setBit, if_pos rfl]
  case others => rw [Device.status_raiseState d v hn, testBit_setBit, if_neg hj]
  case occ => rw [Device.occ_raiseState d v hn hn, if_pos rfl, occNext_of_not_full h]
  case full =>
    rw [Device.occ_raiseState d v hn hn, if_pos rfl]
    exact occNext_of_full h
  case raises => rw [Device.raises_raiseState d v hn, if_pos rfl]
  · rw [Device.takesDetail, h]
  · rw [Device.takesDetail, h]
    exact decide_eq_true hlt
  case lower =>
    have hno : ¬ d.takesDetail n v = true := by
      rw [Device.takesDetail, h]
      exact mt of_decide_eq_true (Nat.not_lt.mpr hle)
    rw [Device.detail_raiseState d v hn, Device.raisedLow_raiseState, if_neg hno, if_neg hno]
    exact ⟨rfl, h⟩
  case occOther => rw [Device.occ_raiseState d v hn hk, if_neg hne]
  case raisesOther => rw [Device.raises_raiseState d v hn, if_neg hne]

/-! ### Delivery edges and pending groups (R443) -/

theorem testBit_lnot (w v i : Nat) : (lnot w v).testBit i = (decide (i < w) && !v.testBit i) := by
  have h : lnot w v = 2 ^ w - (v % 2 ^ w + 1) := Nat.sub_right_comm _ _ _
  rw [h, Nat.testBit_two_pow_sub_succ (Nat.mod_lt _ (Nat.two_pow_pos w)), Nat.testBit_mod_two_pow]
  by_cases hi : i < w <;> simp [hi]

theorem Device.raiseEdge_iff (d : Device) (n : Nat) (met : Bool) : d.raiseEdge n met = true ↔
    (d.rd (E.GROUP_ENABLE (n / 16))).testBit (n % 16) = true ∧
      (met = true ∨ (d.rd (E.GROUP_STATUS (n / 16))).testBit (n % 16) = false) := by
  simp only [Device.raiseEdge, bit, Bool.and_eq_true, Bool.or_eq_true, Bool.not_eq_true']

theorem and_ne_zero_iff (a b : Nat) : a &&& b ≠ 0 ↔ ∃ i, a.testBit i = true ∧ b.testBit i = true := by
  constructor
  · intro h
    obtain ⟨i, hi⟩ := Nat.exists_testBit_of_ne_zero h
    exact ⟨i, by simpa only [Nat.testBit_and, Bool.and_eq_true] using hi⟩
  · rintro ⟨i, ha, hb⟩ h
    have hi : (a &&& b).testBit i = true := by rw [Nat.testBit_and, ha, hb]; rfl
    rw [h, Nat.zero_testBit] at hi
    cases hi

theorem Device.writeEnable_eq (d : Device) (g v : Nat) : d.writeEnable g v =
    if v &&& lnot 16 (d.rd (E.GROUP_ENABLE g)) &&& d.rd (E.GROUP_STATUS g) = 0 then d.wr (E.GROUP_ENABLE g) (v % 2 ^ 16)
    else (d.wr (E.GROUP_ENABLE g) (v % 2 ^ 16)).deliver g := rfl

/-- Settles O47: the bits of the registers, one at a time. -/
theorem deliveryEdges : Obligations.DeliveryEdges := by
  unfold Obligations.DeliveryEdges
  intro d n g v met
  refine ⟨d.raiseEdge_iff n met, by rw [Device.groupPending, decide_eq_true_iff]; exact and_ne_zero_iff _ _,
    fun i hi hv hoff hon => ?rises, fun hen => ?none⟩
  case rises =>
    rw [Device.writeEnable_eq, if_neg]
    refine (and_ne_zero_iff _ _).mpr ⟨i, ?_, hon⟩
    rw [Nat.testBit_and, testBit_lnot, hv, hoff, decide_eq_true hi]
    rfl
  case none =>
    rw [Device.writeEnable_eq, if_pos]
    by_contra h
    obtain ⟨i, hi, -⟩ := (and_ne_zero_iff _ _).mp h
    simp only [Nat.testBit_and, testBit_lnot, Bool.and_eq_true, decide_eq_true_eq, Bool.not_eq_true'] at hi
    obtain ⟨hv, hlt, hoff⟩ := hi
    rw [hen i hlt hv] at hoff
    cases hoff

end Sys2Proof.Machine
end

section
/-! SUPPORT. The test access port: each instruction with VDD_IO, and none without it. -/

namespace Sys2Proof.Machine

open Sys2Proof

theorem next_put_congr {s : State} {d e : Device} (h : d = e) :
    (.next (s.put d) : Host.Outcome State Fault Refusal) = .next (s.put e) := by rw [h]

theorem onTap_of_no_vddIo {s : State} (hb : s.Between) (hv : s.dev.board.vddIo = false) (code : Nat) (f : Device → Device) :
    s.onTap code f = .next s := by
  simp only [State.onTap, State.onBoard, hv, Bool.false_eq_true, if_false]
  exact congrArg _ (put_dev s hb)

/-- The block with an instruction's code in the instruction register. -/
def Device.withIr (d : Device) (code : Nat) : Device := { d with board := { d.board with ir := code } }

section
variable {s : State} (hv : s.dev.board.vddIo = true)
include hv

theorem onTap_of_vddIo (code : Nat) (f : Device → Device) : s.onTap code f = .next (s.put (f (s.dev.withIr code))) :=
  next_put_congr (if_pos hv)

theorem exec_extest (shift : Nat) : exec (.extest shift) s = .next (s.put
    (if s.dev.mode = .reset then (s.dev.withIr 0x00).boundaryScan shift true else (s.dev.withIr 0x00).bypass)) := by
  rw [exec, execExtest]
  exact onTap_of_vddIo hv _ _

theorem exec_extestPulse : exec .extestPulse s = .next (s.put
    (if s.dev.mode = .reset then (s.dev.withIr 0x08).driveAc else (s.dev.withIr 0x08).bypass)) := by
  rw [exec, execExtestPulse]
  exact onTap_of_vddIo hv _ _

theorem exec_extestTrain : exec .extestTrain s = .next (s.put
    (if s.dev.mode = .reset then (s.dev.withIr 0x09).driveAc else (s.dev.withIr 0x09).bypass)) := by
  rw [exec, execExtestTrain]
  exact onTap_of_vddIo hv _ _

theorem exec_samplePreload (shift : Nat) :
    exec (.samplePreload shift) s = .next (s.put ((s.dev.withIr 0x02).boundaryScan shift false)) := by
  rw [exec, execSamplePreload]
  exact onTap_of_vddIo hv _ _

theorem exec_idcode : exec .idcode s = .next (s.put ((s.dev.withIr 0x01).shiftOut 32 s.dev.idcode)) := by
  rw [exec, execIdcode]
  exact onTap_of_vddIo hv _ _

theorem exec_bootStatus : exec .bootStatus s = .next (s.put ((s.dev.withIr 0x21).shiftOut 32 s.dev.bootStatus)) := by
  rw [exec, execBootStatus]
  exact onTap_of_vddIo hv _ _

theorem exec_bypass : exec .bypass s = .next (s.put (s.dev.withIr 0xFF).bypass) := by
  rw [exec, execBypass]
  exact onTap_of_vddIo hv _ _

end

/-- The IDCODE register of IEEE 1149.1: a 1, the manufacturer's 11 bits, and the part's 16. -/
theorem Device.idcode_fields (d : Device) : d.idcode % 2 = 1 ∧ d.idcode / 2 ^ 12 % 2 ^ 16 = 0x2048 := by
  unfold Device.idcode
  omega

/-- Settles O36: without VDD_IO nothing of an instruction reaches the port, and with it each instruction by its own data register.
That TDO is then high-impedance is log entry 207 (the model's choice). -/
theorem testAccessPort : Obligations.TestAccessPort := by
  unfold Obligations.TestAccessPort
  refine ⟨fun s shift hb hv => ?absent, fun s shift hv => ?present⟩
  case absent =>
    have hnone := onTap_of_no_vddIo hb hv
    simp only [List.forall_mem_cons]
    exact ⟨(hnone _ _ : execExtest shift s = _), (hnone _ _ : execExtestPulse s = _), (hnone _ _ : execExtestTrain s = _),
      (hnone _ _ : execSamplePreload shift s = _), (hnone _ _ : execIdcode s = _), (hnone _ _ : execBootStatus s = _),
      (hnone _ _ : execBypass s = _), fun _ h => nomatch h⟩
  case present =>
    have hreset {d e : Device} (hm : s.dev.mode = .reset) := next_put_congr (s := s) (if_pos hm : (if _ then d else e) = d)
    have hother {d e : Device} (hm : s.dev.mode ≠ .reset) := next_put_congr (s := s) (if_neg hm : (if _ then d else e) = e)
    obtain ⟨hone, hpart⟩ := s.dev.idcode_fields
    exact ⟨fun hm => ⟨(exec_extest hv shift).trans (hreset hm), (exec_extestPulse hv).trans (hreset hm),
        (exec_extestTrain hv).trans (hreset hm)⟩,
      fun hm => ⟨(exec_extest hv shift).trans (hother hm), (exec_extestPulse hv).trans (hother hm),
        (exec_extestTrain hv).trans (hother hm)⟩,
      exec_samplePreload hv shift, exec_idcode hv, hone, hpart, exec_bootStatus hv, exec_bypass hv⟩

end Sys2Proof.Machine
end

section
/-! SUPPORT. The entry into Safe-Hold: what stops with it, and what stays. -/

namespace Sys2Proof.Machine

open Sys2Proof

/-- What every step of a fold keeps, the fold keeps. -/
theorem Device.foldl_keeps {α β : Type} {view : Device → β} {g : Device → α → Device} (hg : ∀ d a, view (g d a) = view d) :
    ∀ (xs : List α) (d : Device), view (xs.foldl g d) = view d
  | [], _ => rfl
  | x :: xs, d => (foldl_keeps hg xs (g d x)).trans (hg d x)

/-! ### What an entry into Safe-Hold leaves, part by part (R456 to R458) -/

/-- What an entry into Safe-Hold is judged by. -/
structure HoldView where
  mode : Mode
  armed : Option Mode
  resetHold : Bool
  commit : CommitState
  trigWaiting : List Nat
  flashCause : Nat
  flashTotal : Nat
  p0 : SMap
  p1 : SMap
  joined : Bool
  frames : List Frame
  headers : List Header
  cells : List Cell

def Device.holdView (d : Device) : HoldView :=
  ⟨d.mode, d.armed, d.resetHold, d.commit, d.trigWaiting, d.flashCause, d.flashTotal, d.p0, d.p1, d.joined, d.frames, d.headers,
    d.cells⟩

/-- No entry of the vintage's copies differs from its default. -/
def HoldView.DefaultCopies (v : HoldView) : Prop := v.p0 = [] ∧ v.p1 = []

theorem Device.joined_wr (d : Device) {a : Addr} (v : Nat) (h : a ≠ E.JOIN_STATE) : (d.wr a v).joined = d.joined := by
  unfold Device.joined
  rw [Device.rd_wr_ne _ _ _ _ h.symm]

theorem Device.joined_raise (d : Device) (n v : Nat) : (d.raise n v).joined = d.joined := by
  unfold Device.joined
  rw [Device.rd_raise_below _ _ _ (by decide)]

theorem E.laneStatus_ne_joinState (l : Nat) : E.LANE_STATUS l ≠ E.JOIN_STATE := by
  have h : (0x2000 + l) * 256 + 3 ≠ 0xB100 * 256 + 4 := by omega
  exact h

section
variable (d : Device)

theorem Device.holdView_wr {a : Addr} (v : Nat) (h : a ≠ E.JOIN_STATE) : (d.wr a v).holdView = d.holdView := by
  unfold Device.holdView
  rw [d.joined_wr v h]
  rfl

theorem Device.holdView_raise (n v : Nat) : (d.raise n v).holdView = d.holdView := by
  have h := d.eventOnly_raise n v
  unfold Device.EventOnly at h
  have hj := d.joined_raise n v
  unfold Device.holdView
  rw [hj]
  rw [h]

theorem Device.holdView_endCheck (reason : Nat) (bad : Option Addr) (detail : Nat) :
    (d.endCheck reason bad detail).holdView = d.holdView := by
  unfold Device.endCheck
  rw [Device.holdView_raise, Device.holdView_wr _ _ (by decide), Device.holdView_wr _ _ (by decide),
    Device.holdView_wr _ _ (by decide)]

theorem Device.holdView_setEntries (store : Nat) (es : List TableEntry) : (d.setEntries store es).holdView = d.holdView := by
  unfold Device.setEntries Device.setStore
  split <;> rfl

theorem Device.holdView_alignCopies (h : d.holdView.DefaultCopies) : d.alignCopies.holdView = d.holdView := by
  obtain ⟨h0, h1⟩ := h
  have h10 : d.p1 = d.p0 := h1.trans h0.symm
  unfold Device.alignCopies
  split
  · exact congrArg (fun m => { d.holdView with p1 := m }) h10.symm
  · exact congrArg (fun m => { d.holdView with p0 := m }) h10

theorem Device.holdView_sweepCopies (h : d.holdView.DefaultCopies) : d.sweepCopies.holdView = d.holdView := by
  have hsweep := Device.foldl_keeps (view := Device.holdView)
    (fun e k => e.holdView_setEntries k (sweepEntries (e.stores.get k) d.parity)) (List.range 4) d
  unfold Device.sweepCopies
  rw [Device.holdView_alignCopies _ (hsweep.symm ▸ h), hsweep]

theorem Device.holdView_undoPreparing (h : d.holdView.DefaultCopies) : d.undoPreparing.holdView = d.holdView := by
  unfold Device.undoPreparing
  split
  · rfl
  · exact d.holdView_sweepCopies h

/-- Where no commit is in progress there is none to abort. -/
theorem Device.abortCommit_of_not_committing (reason detail : Nat) (h : d.committing = false) :
    d.abortCommit reason detail = d := by
  simp [Device.abortCommit, h]

theorem Device.commit_abortCommit {d : Device} (reason detail : Nat) (h : d.committing = true) :
    (d.abortCommit reason detail).commit = .aborted :=
  congrArg Device.commit (if_neg (by simp [h]))

theorem Device.abortCommit_not_committing (reason detail : Nat) : (d.abortCommit reason detail).committing = false := by
  by_cases h : d.committing
  · simp [Device.committing, Device.commit_abortCommit reason detail h]
  · rwa [d.abortCommit_of_not_committing _ _ (by simpa using h), ← Bool.not_eq_true]

theorem Device.holdView_abortCommit (reason detail : Nat) (h : d.holdView.DefaultCopies) :
    (d.abortCommit reason detail).holdView = { d.holdView with commit := (d.abortCommit reason detail).commit } := by
  by_cases hc : d.committing
  · have hundo := d.holdView_undoPreparing h
    have hended : (if d.undoPreparing.commit = .checking then d.undoPreparing.endCheck reason none detail
        else (d.undoPreparing.wr E.CHECK_REASON reason).wr E.CHECK_DETAIL detail).holdView = d.holdView := by
      split
      · rw [Device.holdView_endCheck, hundo]
      · rw [Device.holdView_wr _ _ (by decide), Device.holdView_wr _ _ (by decide), hundo]
    simp only [Device.abortCommit, hc, Bool.not_true, Bool.false_eq_true, if_false]
    exact congrArg (fun v => { v with commit := .aborted }) hended
  · rw [d.abortCommit_of_not_committing _ _ (by simpa using hc)]
    rfl

/-- What runs stops (R457, R466): nothing is armed, no Reset is requested, and a commit in progress is aborted. -/
theorem Device.holdView_stopForHold (h : d.holdView.DefaultCopies) :
    d.stopForHold.holdView = { d.holdView with armed := none, resetHold := false, commit := d.stopForHold.commit } := by
  have hcheck : (if d.mode = .check ∧ !d.installDue then d.endCheck 0x0101 none 11 else d).holdView = d.holdView := by
    split
    · exact d.holdView_endCheck _ _ _
    · rfl
  have habort := Device.holdView_abortCommit _ 0x0101 11 (hcheck.symm ▸ h)
  rw [hcheck] at habort
  have hdisarm (e : Device) : ({ e.disarm with resetHold := false, installDue := false } : Device).holdView =
      { e.holdView with armed := none, resetHold := false } := rfl
  unfold Device.stopForHold
  rw [hdisarm, habort]
  rfl

theorem Device.stopForHold_not_committing : d.stopForHold.committing = false := by
  have hdisarm (e : Device) : ({ e.disarm with resetHold := false, installDue := false } : Device).committing = e.committing := rfl
  unfold Device.stopForHold
  rw [hdisarm, Device.abortCommit_not_committing]

theorem Device.holdView_enterMode (m : Mode) : (d.enterMode m).holdView = { d.holdView with mode := m } := by
  unfold Device.enterMode Device.setMode
  rw [Device.holdView_raise, Device.holdView_wr _ _ (by decide)]
  rfl

theorem Device.holdView_logSafeHold (cause detail : Nat) : (d.logSafeHold cause detail).holdView =
    { d.holdView with flashCause := cause, flashTotal := min (d.flashTotal + 1) 0xFFFFFFFF } := by
  unfold Device.logSafeHold
  rw [Device.holdView_wr _ _ (by decide)]
  rfl

theorem Device.holdView_transmittersOff : d.transmittersOff.holdView = d.holdView := by
  refine Device.foldl_keeps (view := Device.holdView) (fun e l => ?_) _ d
  split
  · rfl
  · exact e.holdView_wr _ (E.laneStatus_ne_joinState l)

theorem Device.holdView_abortHand (c cause : Nat) : (d.abortHand c cause).holdView = d.holdView := by
  rw [d.abortHand_eq, Device.holdView_raise]
  unfold Device.abortRecord Device.bumpSat
  rw [Device.holdView_wr _ _ (by decide), Device.holdView_wr _ _ (by decide), d.lastAddress_draws c]
  rfl

theorem Device.holdView_abortAll : d.abortAll.holdView = { d.holdView with trigWaiting := [] } := by
  refine Device.foldl_keeps (view := Device.holdView) (fun e c => ?_) _ _
  split
  · exact e.holdView_abortHand c 5
  · rfl

theorem Device.ports'_of_defaultCopies (h : d.holdView.DefaultCopies) : d.ports' = [] := by
  obtain ⟨h0, h1⟩ : d.p0 = [] ∧ d.p1 = [] := h
  simp [Device.ports', Device.curListed, Device.listedIn, h0, h1]

/-- The mode and the registers of an entry into Safe-Hold (R456, R458). -/
def Device.holdNoted (d : Device) (cause detail : Nat) : Device :=
  let e := ((d.enterMode .safeHold).wr E.DRAIN_STATE 0).wr E.RECOVERY_STATE 0
  ((e.wr E.SAFE_HOLD_CAUSE cause).wr E.SAFE_HOLD_DETAIL detail).wr E.SAFE_HOLD_TIME e.now80

/-- The entry into Safe-Hold with its record in the flash's log, and its event. -/
def Device.enterHold (d : Device) (cause detail : Nat) : Device :=
  ({ (d.holdNoted cause detail).logSafeHold cause detail with safeHoldSlots := 0 } : Device).raise Src.SAFE_HOLD_ENTERED 0

theorem Device.holdView_holdNoted (cause detail : Nat) :
    (d.holdNoted cause detail).holdView = { d.holdView with mode := .safeHold } := by
  unfold Device.holdNoted
  rw [Device.holdView_wr _ _ (by decide), Device.holdView_wr _ _ (by decide), Device.holdView_wr _ _ (by decide),
    Device.holdView_wr _ _ (by decide), Device.holdView_wr _ _ (by decide), d.holdView_enterMode .safeHold]

theorem Device.holdView_enterHold (cause detail : Nat) : (d.enterHold cause detail).holdView =
    { d.holdView with mode := .safeHold, flashCause := cause, flashTotal := min (d.flashTotal + 1) 0xFFFFFFFF } := by
  have hlog := (d.holdNoted cause detail).holdView_logSafeHold cause detail
  have htotal (e : Device) : e.flashTotal = e.holdView.flashTotal := rfl
  have hslots (e : Device) : ({ e with safeHoldSlots := 0 } : Device).holdView = e.holdView := rfl
  rw [htotal, d.holdView_holdNoted] at hlog
  unfold Device.enterHold
  rw [Device.holdView_raise, hslots, hlog]
  rfl

/-- Of a device without a join and with no port, an entry from a mode of service is what stops, the entry itself, and the end of the
transmitters and of the routines. -/
theorem Device.safeHold_eq (cause detail : Nat) (hd : d.holdView.DefaultCopies) (hj : d.joined = false)
    (hm : d.mode ≠ .off ∧ d.mode ≠ .reset ∧ d.mode ≠ .safeHold ∧ d.mode ≠ .boot) :
    ∃ pow, d.safeHold cause detail =
      ({ d.stopForHold.enterHold cause detail with pow := pow } : Device).transmittersOff.abortAll := by
  obtain ⟨hoff, hreset, hhold, hboot⟩ := hm
  have hview := Device.holdView_enterHold d.stopForHold cause detail
  rw [d.holdView_stopForHold hd] at hview
  have hports : (d.stopForHold.enterHold cause detail).ports' = [] :=
    Device.ports'_of_defaultCopies _ (by rw [hview]; exact hd)
  have hjoined : (d.stopForHold.enterHold cause detail).joined = false := (congrArg HoldView.joined hview).trans hj
  unfold Device.safeHold
  simp only [hoff, hreset, hhold, hboot, false_or, false_and, if_false]
  unfold Device.enterHold Device.holdNoted at hports hjoined
  rw [hports, List.foldl_nil, hjoined]
  exact ⟨_, rfl⟩

theorem Device.holdView_safeHold (cause detail : Nat) (hd : d.holdView.DefaultCopies) (hj : d.joined = false)
    (hm : d.mode ≠ .off ∧ d.mode ≠ .reset ∧ d.mode ≠ .safeHold ∧ d.mode ≠ .boot) :
    (d.safeHold cause detail).holdView = { d.holdView with
      mode := .safeHold, armed := none, resetHold := false, commit := d.stopForHold.commit, trigWaiting := []
      flashCause := cause, flashTotal := min (d.flashTotal + 1) 0xFFFFFFFF } := by
  obtain ⟨pow, heq⟩ := d.safeHold_eq cause detail hd hj hm
  have htotal : d.stopForHold.flashTotal = d.flashTotal := congrArg HoldView.flashTotal (d.holdView_stopForHold hd)
  have hpow (e : Device) : ({ e with pow := pow } : Device).holdView = e.holdView := rfl
  rw [heq, Device.holdView_abortAll, Device.holdView_transmittersOff, hpow, Device.holdView_enterHold, htotal,
    d.holdView_stopForHold hd]

/-- Only a mode from Boot's phase 3 onwards has a Safe-Hold to enter. -/
theorem Device.safeHold_of_out_of_service (cause detail : Nat) (hm : d.mode = .off ∨ d.mode = .reset ∨ d.mode = .safeHold) :
    d.safeHold cause detail = d := by
  unfold Device.safeHold
  refine if_pos ?_
  obtain h | h | h := hm
  · exact .inl h
  · exact .inr (.inl h)
  · exact .inr (.inr (.inl h))

end

/-- Settles O24: each fault by its command, and an entry part by part: what stops, the entry, the transmitters, the routines. A fault
in a mode that has no Safe-Hold to enter leaves the device (log entry 7: the model's choice). -/
theorem fatalFaultsEnterSafeHold : Obligations.FatalFaultsEnterSafeHold := by
  unfold Obligations.FatalFaultsEnterSafeHold
  refine ⟨fun s x hr => ⟨fun hm => ?_, ?_, ?_, ?_, ?_, fun cause detail => s.dev.safeHold_of_out_of_service cause detail⟩,
    fun d cause detail hj h0 h1 hm => ?entry⟩
  · rw [exec, execThermalFatal]
    exact on_runs_of_pos hr hm
  · exact on_runs s _ hr
  · exact on_runs s _ hr
  · exact on_runs s _ hr
  · exact exec_hardwareTrip_of_powered hr
  case entry =>
    intro e
    have hmode : d.mode ≠ .off ∧ d.mode ≠ .reset ∧ d.mode ≠ .safeHold ∧ d.mode ≠ .boot := by
      refine ⟨?_, ?_, ?_, ?_⟩ <;> intro hc <;> rw [hc] at hm <;> simp at hm
    have hview : e.holdView = _ := d.holdView_safeHold cause detail ⟨h0, h1⟩ hj hmode
    obtain ⟨⟨hchecking, hpreparing⟩, harmed⟩ : (e.commit ≠ .checking ∧ e.commit ≠ .preparing) ∧ e.commit ≠ .armed := by
      have hcommit : e.commit = d.stopForHold.commit := congrArg HoldView.commit hview
      simpa [hcommit, Device.committing] using d.stopForHold_not_committing
    exact ⟨congrArg HoldView.mode hview, congrArg HoldView.armed hview, congrArg HoldView.resetHold hview, hchecking, hpreparing,
      harmed, congrArg HoldView.trigWaiting hview, congrArg HoldView.flashCause hview, congrArg HoldView.flashTotal hview,
      congrArg HoldView.frames hview, congrArg HoldView.headers hview, congrArg HoldView.cells hview⟩

end Sys2Proof.Machine
end

section
/-! SUPPORT. The supplies, RESET_N, Boot, and the timed ends of the other modes. -/

namespace Sys2Proof.Machine

open Sys2Proof

/-! ### What Reset leaves and what Boot starts with (R459, R475, R478) -/

theorem Gauge.coreSupply_coreSupplyIs {g : Gauge} (hp : g.powered = true) (present : Bool) :
    (g.coreSupplyIs present).coreSupply = present := by
  unfold Gauge.coreSupplyIs
  by_cases hsame : g.coreSupply = present
  · rw [if_pos (by simp [hsame]), hsame]
  · rw [if_neg (by simp [hp, hsame])]
    rfl

/-- Entering Reset leaves the device in Reset, also where it was there. -/
theorem Device.mode_enterReset {d : Device} (hm : d.mode ≠ .off) : d.enterReset.mode = .reset := by
  unfold Device.enterReset
  by_cases hreset : d.mode = .reset
  · rw [if_pos (.inr hreset), hreset]
  · rw [if_neg (not_or.mpr ⟨hm, hreset⟩)]
    rfl

/-- A command to the regulators is sent, and nothing else of the block changes. -/
theorem Device.pmbus_keeps (d : Device) (command : Nat) (w : Nat × Nat) : (d.pmbus command w).mode = d.mode ∧
    (d.pmbus command w).bootPhase = d.bootPhase ∧ (d.pmbus command w).board = d.board := by
  rw [Device.pmbus_eq]
  exact ⟨rfl, rfl, rfl⟩

theorem Device.lowerSetpoint_keeps (d : Device) (op : Nat) : (d.lowerSetpoint op).mode = d.mode ∧
    (d.lowerSetpoint op).bootPhase = d.bootPhase ∧ (d.lowerSetpoint op).board = d.board := by
  unfold Device.lowerSetpoint
  dsimp only
  split
  · exact Device.pmbus_keeps _ 0x21 _
  · exact ⟨rfl, rfl, rfl⟩

/-- Boot starts with its phase 1, and nothing driven by the test port. -/
theorem Device.startBoot_keeps (d : Device) : d.startBoot.mode = .boot ∧ d.startBoot.bootPhase = 1 ∧
    d.startBoot.board = { d.board with driven := none } := by
  unfold Device.startBoot Device.readVoutMode
  obtain ⟨hmode, hphase, hboard⟩ := Device.lowerSetpoint_keeps (Device.pmbus
    { ((d.setMode .boot).wrBits E.POWER_STATE 3 3 4).setOp 4 0 with
      resetHold := false, bootPhase := 1, board := { d.board with driven := none } } 0x20 (0, 0)) 4
  obtain ⟨hmode', hphase', hboard'⟩ := Device.pmbus_keeps
    { ((d.setMode .boot).wrBits E.POWER_STATE 3 3 4).setOp 4 0 with
      resetHold := false, bootPhase := 1, board := { d.board with driven := none } } 0x20 (0, 0)
  exact ⟨hmode.trans hmode', hphase.trans hphase', hboard.trans hboard'⟩

/-! ### The supplies and RESET_N (R475, R476) -/

theorem exec_suppliesInRange_of_off {s : State} (hm : s.dev.mode = .off) : exec .suppliesInRange s = .next (s.put
    { s.dev.cleared .reset with board := (s.dev.cleared .reset).board.ioBack
                                gauge := (s.dev.cleared .reset).gauge.coreSupplyIs true }) :=
  next_put_congr (if_neg (not_not_intro hm))

theorem exec_suppliesInRange_of_powered {s : State} (hb : s.Between) (hm : s.dev.mode ≠ .off) :
    exec .suppliesInRange s = .next s :=
  (next_put_congr (if_pos hm)).trans (congrArg _ (put_dev s hb))

/-- The device that the loss of a Core supply leaves. -/
def Device.unsupplied (d : Device) : Device :=
  let x := (d.cleared .off).draw
  { x.2 with gauge := x.2.gauge.coreSupplyIs false, board := { x.2.board with vddIo := decide (x.1 % 2 = 1) } }

theorem exec_coreSupplyLost_of_powered {s : State} (hm : s.dev.mode ≠ .off) :
    exec .coreSupplyLost s = .next (s.put s.dev.unsupplied) :=
  next_put_congr (if_neg hm)

/-- RESET_N is low. -/
def Device.pinLow (d : Device) : Device := { d with board := { d.board with resetPin := false } }

theorem exec_resetNFall_of_powered {s : State} (hm : s.dev.mode ≠ .off) :
    exec .resetNFall s = .next (s.put s.dev.pinLow.enterReset) :=
  next_put_congr (if_neg hm)

theorem exec_resetNFall_of_off {s : State} (hm : s.dev.mode = .off) : exec .resetNFall s = .next (s.put s.dev.pinLow) :=
  next_put_congr (if_pos hm)

/-- RESET_N is high. -/
def Device.pinHigh (d : Device) : Device := { d with board := { d.board with resetPin := true } }

section
variable {s : State} (hr : s.Runs) (straps : Nat)
include hr

theorem exec_resetNRise_of_high (hpin : s.dev.board.resetPin = true) : exec (.resetNRise straps) s = .next s :=
  (on_runs s _ hr).trans ((next_put_congr (if_pos hpin)).trans (congrArg _ (put_dev s hr.2)))

theorem exec_resetNRise_of_reset (hpin : s.dev.board.resetPin = false) (hm : s.dev.mode = .reset) (hh : s.dev.resetHold = false) :
    exec (.resetNRise straps) s = .next (s.put
      ({ s.dev.pinHigh with board := { s.dev.pinHigh.board with straps := straps % 16 } } : Device).startBoot) :=
  (on_runs s _ hr).trans ((next_put_congr (if_neg (by simp [hpin]))).trans (next_put_congr (if_pos ⟨hm, by simp [hh]⟩)))

theorem exec_resetNRise_of_held (hpin : s.dev.board.resetPin = false) (h : s.dev.mode ≠ .reset ∨ s.dev.resetHold = true) :
    exec (.resetNRise straps) s = .next (s.put s.dev.pinHigh) := by
  refine (on_runs s _ hr).trans ((next_put_congr (if_neg (by simp [hpin]))).trans (next_put_congr (if_neg ?_)))
  rintro ⟨hm, hh⟩
  obtain h | h := h
  · exact h hm
  · simp [h] at hh

end

/-! ### Boot, and the timed ends of the other modes -/

/-- What the slots' failure codes say of the image that boots: where both fail, the ROM stays in its phase (R462). -/
theorem Device.selectImage_keeps (d : Device) :
    let fa := if d.board.flashDead then 7 else d.slotFailure (d.obj E.IMAGE_SLOT_A)
    let fb := if d.board.flashDead then 7 else d.slotFailure (d.obj E.IMAGE_SLOT_B)
    d.selectImage.board.failA = fa ∧ d.selectImage.board.failB = fb ∧
      d.selectImage.bootPhase = if fa ≠ 0 ∧ fb ≠ 0 then d.bootPhase else 3 := by
  intro fa fb
  unfold Device.selectImage
  by_cases h : fa ≠ 0 ∧ fb ≠ 0
  · rw [if_pos h, if_pos h]
    exact ⟨rfl, rfl, rfl⟩
  · rw [if_neg h, if_neg h]
    exact ⟨rfl, rfl, rfl⟩

section
variable {s : State} (hr : s.Runs)
include hr

theorem exec_requestedResetHoldEnd_of_high (hm : s.dev.mode = .reset) (hh : s.dev.resetHold = true)
    (hpin : s.dev.board.resetPin = true) : exec .requestedResetHoldEnd s = .next (s.put s.dev.startBoot) :=
  (on_runs s _ hr).trans ((next_put_congr (if_neg (by simp [hm, hh]))).trans (next_put_congr (if_pos hpin)))

section
variable (b : BootReport)

theorem exec_bootPhaseEnd_of_other_mode (hm : s.dev.mode ≠ .boot) : exec (.bootPhaseEnd b) s = .next s :=
  (on_runs s _ hr).trans ((next_put_congr (if_pos hm)).trans (congrArg _ (put_dev s hr.2)))

variable (hm : s.dev.mode = .boot)
include hm

theorem exec_bootPhaseEnd_of_phase1 (hp : s.dev.bootPhase ≤ 1) : exec (.bootPhaseEnd b) s = .next (s.put
    { s.dev with bootPhase := 2, board := { s.dev.board with voutModes := some b.voutModes } }) :=
  (on_runs s _ hr).trans ((next_put_congr (if_neg (not_not_intro hm))).trans (next_put_congr (if_pos hp)))

theorem exec_bootPhaseEnd_of_phase2 (hp : s.dev.bootPhase = 2) : exec (.bootPhaseEnd b) s = .next (s.put
    ({ s.dev with board := { s.dev.board with flashDead := b.flashDead } } : Device).selectImage) :=
  (on_runs s _ hr).trans ((next_put_congr (if_neg (not_not_intro hm))).trans
    ((next_put_congr (if_neg (by omega))).trans (next_put_congr (if_pos hp))))

theorem exec_bootPhaseEnd_of_later (hp : 2 < s.dev.bootPhase) : exec (.bootPhaseEnd b) s = .next (s.put (s.dev.endPhase b)) :=
  (on_runs s _ hr).trans ((next_put_congr (if_neg (not_not_intro hm))).trans
    ((next_put_congr (if_neg (by omega))).trans (next_put_congr (if_neg (by omega)))))

end

theorem exec_drainLimitExpiry_of_drain (hm : s.dev.mode = .drain) (hd : s.dev.rd E.DRAIN_STATE = 1) :
    exec .drainLimitExpiry s = .next (s.put ({ s.dev with drainOver := true } : Device).noteDrained) :=
  on_runs_of_pos hr ⟨hm, hd⟩

end

/-- Past its limit, a Drain that is not at its end discards what is queued (R467). -/
theorem Device.noteDrained_over {d : Device} (hm : d.mode = .drain) (hd : d.rd E.DRAIN_STATE = 1) (ho : d.drainOver = true) :
    d.noteDrained = if d.flushQueues.drained then d.flushQueues.wr E.DRAIN_STATE 2 else d.flushQueues := by
  unfold Device.noteDrained
  rw [if_pos ⟨hm, by rw [hd]; decide⟩]
  dsimp only
  rw [if_pos ho]

/-- The device as a bus's transaction ends: it is no longer under way, and its RESULT stands. -/
def Device.busEnded (d : Device) (bus result : Nat) : Device :=
  ({ d with board := { d.board with jobs := d.board.jobs.filter (fun x => x.bus ≠ bus) } } : Device).wr
    (E.BUS_STATUS bus) (result % 4 * 2)

section
variable {s : State} (hr : s.Runs)
include hr

section
variable (bus result : Nat) (data : List Byte)

theorem exec_busTransactionEnd_of_idle (h : s.dev.board.jobs.find? (fun j => j.bus = bus) = none) :
    exec (.busTransactionEnd bus result data) s = .next s := by
  refine (on_runs s _ hr).trans ?_
  simp only [h, put_dev s hr.2]

variable {j : BusJob} (h : s.dev.board.jobs.find? (fun j => j.bus = bus) = some j)
include h

theorem exec_busTransactionEnd_of_running : exec (.busTransactionEnd bus result data) s = .next (s.put
    (if j.reads ∧ result % 4 = 0 then (s.dev.busEnded bus result).wr (E.BUS_DATA bus) (beNat (slice data 0 j.readLength ++
        (beBytes 32 ((s.dev.busEnded bus result).rd (E.BUS_DATA bus))).drop j.readLength))
      else s.dev.busEnded bus result)) := by
  refine (on_runs s _ hr).trans ?_
  rw [h]
  rfl

end

theorem exec_imageSlotProgrammed_of_running {slotB : Bool} (ok : Bool) {g : Programming} (hg : s.dev.board.programming = some g)
    (hs : g.slotB = slotB) : exec (.imageSlotProgrammed slotB ok) s =
      let e : Device := { s.dev with board := { s.dev.board with programming := none } }
      .next (s.put (if ok then (e.setSlot slotB g.data).answer g.reply Res.OK else e.answer g.reply Res.CRC_MISMATCH)) := by
  refine (on_runs s _ hr).trans ?_
  rw [hg]
  exact next_put_congr (if_neg (not_not_intro hs))

end

/-- Settles O35: each command by its condition on the mode, the pin and the phase. An occurrence that cannot be changes nothing (log
entry 7), and whether VDD_IO is gone with a Core supply is a free value (log entry 207): the model's choices. -/
theorem suppliesResetAndBoot : Obligations.SuppliesResetAndBoot := by
  unfold Obligations.SuppliesResetAndBoot
  refine ⟨fun s straps => ?pins, fun s b bus result data slotB ok hr => ?timed⟩
  case pins =>
    intro d low
    refine ⟨fun hm => ⟨_, exec_suppliesInRange_of_off hm, rfl, rfl,
        fun hp => Gauge.coreSupply_coreSupplyIs (g := (d.cleared .reset).gauge) hp true, rfl, rfl, rfl, rfl, rfl, rfl, rfl, rfl⟩,
      fun hm hb => exec_suppliesInRange_of_powered hb hm,
      fun hm => ⟨_, exec_coreSupplyLost_of_powered hm, rfl,
        fun hp => Gauge.coreSupply_coreSupplyIs (g := (d.cleared .off).gauge) hp false, rfl, rfl, rfl⟩,
      exec_resetNFall_of_powered, fun hm => Device.mode_enterReset hm, exec_resetNFall_of_off, fun hr hpin hm hh => ?_,
      fun hr hpin h => exec_resetNRise_of_held hr straps hpin h, fun hr hpin => exec_resetNRise_of_high hr straps hpin⟩
    obtain ⟨hmode, hphase, hboard⟩ :=
      Device.startBoot_keeps { d.pinHigh with board := { d.pinHigh.board with straps := straps % 16 } }
    exact ⟨_, exec_resetNRise_of_reset hr straps hpin hm hh, hmode, hphase, congrArg Board.straps hboard,
      congrArg Board.resetPin hboard⟩
  case timed =>
    intro d tried
    refine ⟨exec_requestedResetHoldEnd_of_high hr, exec_bootPhaseEnd_of_phase1 hr b, exec_bootPhaseEnd_of_phase2 hr b,
      exec_bootPhaseEnd_of_later hr b, exec_bootPhaseEnd_of_other_mode hr b, fun hm hp => on_runs_of_pos hr ⟨hm, hp⟩,
      d.selectImage_keeps, fun hm hd => ?_, fun hm => on_runs_of_neg hr fun h => hm h.1,
      fun hm hd => on_runs_of_pos hr ⟨hm, hd⟩, exec_busTransactionEnd_of_idle hr bus result data, fun j hj => ?_,
      fun g hg hs => exec_imageSlotProgrammed_of_running hr ok hg hs⟩
    · exact (exec_drainLimitExpiry_of_drain hr hm hd).trans (next_put_congr (Device.noteDrained_over hm hd rfl))
    · rw [exec_busTransactionEnd_of_running hr bus result data hj]
      exact ⟨fun h => next_put_congr (if_neg (by rintro ⟨hreads, hok⟩; obtain h | h := h <;> simp_all)),
        fun hreads hok => next_put_congr (if_pos ⟨hreads, hok⟩)⟩

end Sys2Proof.Machine
end

section
/-! SUPPORT. The doorbell page of a Siphon channel: each write by the state that it meets. -/

namespace Sys2Proof.Machine

open Sys2Proof

/-! ### A write of SIPHON_RING (R381, R384) -/

section
variable {d : Device} {c v : Nat}

/-- A channel that walks or is parked takes doorbell writes whatever its use. -/
theorem Device.deaf_of_live (hs : (d.channel c).state = 1 ∨ (d.channel c).state = 2) : d.deaf c = false := by
  obtain hs | hs := hs <;> simp [Device.deaf, hs]

theorem Device.doorbell_of_deaf (h : d.deaf c = true) : d.doorbell c v = d.ignoreDoorbell c := by
  simp [Device.doorbell, h]

/-- RING wakes a parked channel (R384). -/
theorem Device.doorbell_ring_of_parked (hs : (d.channel c).state = 2) (h0 : v.testBit 0 = true) (h2 : v.testBit 2 = false) :
    d.doorbell c v = (d.withChannel { d.channel c with budget := d.cur (E.WALK_BUDGET c), state := 1, phase := 3 }).engines := by
  simp [Device.doorbell, Device.deaf_of_live (.inr hs), bit, hs, h0, h2]

/-- RING of a walking channel is latched (R384). -/
theorem Device.doorbell_ring_of_walking (hs : (d.channel c).state = 1) (h0 : v.testBit 0 = true) (h2 : v.testBit 2 = false) :
    d.doorbell c v = d.withChannel { d.channel c with budget := d.cur (E.WALK_BUDGET c), latched := true } := by
  simp [Device.doorbell, Device.deaf_of_live (.inl hs), bit, hs, h0, h2]

theorem Device.doorbell_restart_of_armable (hs : (d.channel c).state = 0 ∨ (d.channel c).state = 4)
    (hw : (d.channel c).headWritten = true) (hu : d.channelUse c = 1 ∨ d.channelUse c = 2) (h1 : v.testBit 1 = true)
    (h2 : v.testBit 2 = false) : d.doorbell c v = (d.startChannel c (d.channelUse c) none).engines := by
  have hhears : d.deaf c = false := by
    obtain hs | hs := hs <;> obtain hu | hu := hu <;> simp [Device.deaf, hs, hu]
  have hlive : (decide ((d.channel c).state = 1) || decide ((d.channel c).state = 2)) = false := by
    obtain hs | hs := hs <;> simp [hs]
  have harm : ((decide ((d.channel c).state = 0) || decide ((d.channel c).state = 4)) && (d.channel c).headWritten &&
      (decide (d.channelUse c = 1) || decide (d.channelUse c = 2))) = true := by simp [hs, hw, hu]
  simp [Device.doorbell, hhears, bit, h1, h2, hlive, harm]

/-- A write of an idle or halted channel without STOP that does not start it is ignored. -/
theorem Device.doorbell_of_unarmed (h1 : (d.channel c).state ≠ 1) (hp : (d.channel c).state ≠ 2) (h2 : v.testBit 2 = false)
    (harm : v.testBit 1 = false ∨ d.channelUse c = 4) : d.doorbell c v = d.ignoreDoorbell c := by
  obtain harm | harm := harm <;> simp [Device.doorbell, bit, h1, hp, h2, harm]

theorem Device.doorbell_stop (h2 : v.testBit 2 = true) (hs : (d.channel c).state = 1 ∨ (d.channel c).state = 2)
    (hh : d.channelHeld (d.channel c) = false) : d.doorbell c v = (d.stopChannel c).engines := by
  simp [Device.doorbell, Device.deaf_of_live hs, bit, h2, hs, hh]

/-- STOP is not taken outside Walking and Parked, nor in Held. -/
theorem Device.doorbell_stop_of_unstoppable (h2 : v.testBit 2 = true)
    (h : ¬ ((d.channel c).state = 1 ∨ (d.channel c).state = 2) ∨ d.channelHeld (d.channel c) = true) :
    d.doorbell c v = d.ignoreDoorbell c := by
  obtain h | h := h <;> simp [Device.doorbell, bit, h2, h]

theorem Device.writeHead_of_stopped (hs : (d.channel c).state = 0 ∨ (d.channel c).state = 4) (hd : d.deaf c = false)
    (ha : v % 32 = 0) : d.writeHead c v = d.withChannel { d.channel c with head := v % 2 ^ 64, headWritten := true } := by
  refine if_neg ?_
  simp only [hd, ha, Bool.false_eq_true, ne_eq, not_true_eq_false, or_false, false_or]
  omega

theorem Device.writeHead_of_refused (h : (d.channel c).state = 1 ∨ (d.channel c).state = 2 ∨ v % 32 ≠ 0) :
    d.writeHead c v = d.ignoreDoorbell c :=
  if_pos (by omega)

theorem Device.writeConsumed_of_within (hd : d.deaf c = false) (h : (v % 2 ^ 32 + 2 ^ 32 - (d.channel c).consumed) % 2 ^ 32 ≤
      ((d.channel c).completed + 2 ^ 32 - (d.channel c).consumed) % 2 ^ 32) :
    d.writeConsumed c v = (d.withChannel { d.channel c with consumed := v % 2 ^ 32 }).engines :=
  if_neg (by simp only [hd, Bool.false_eq_true, false_or, Nat.not_lt]; exact h)

/-! ### The engine (R386, R387) -/

theorem Device.engine_of_not_walking (h : (d.channel c).state ≠ 1 ∨ d.channelHeld (d.channel c) = true) : d.engine c = d :=
  if_pos h

section
variable (hs : (d.channel c).state = 1) (hh : d.channelHeld (d.channel c) = false)
include hs hh

theorem Device.engine_fetch (hp : (d.channel c).phase = 1) (hb : (d.channel c).budget ≠ 0) : d.engine c =
    (d.withChannel { d.channel c with budget := (d.channel c).budget - 1, phase := 2, desc := [] }).send
      (.hostRead (d.channel c).current 32) := by
  simp [Device.engine, hs, hh, hp, hb]

/-- A chain that has used up its budget halts (R386). -/
theorem Device.engine_chainLoop (hp : (d.channel c).phase = 1) (hb : (d.channel c).budget = 0) : d.engine c =
    ((d.haltChannel c 1).bumpSat (E.CHAIN_LOOPS c) 1).raise Src.SIPHON_HALTED c := by
  simp [Device.engine, hs, hh, hp, hb]

theorem Device.engine_reread (hp : (d.channel c).phase = 3) : d.engine c =
    (d.withChannel { d.channel c with phase := 4 }).send (.hostRead (d.channel c).current 16) := by
  simp [Device.engine, hs, hh, hp]

theorem Device.engine_buffer (hp : (d.channel c).phase = 10) : d.engine c =
    (d.withChannel { d.channel c with phase := 5 }).readBuffer c (descBuffer (d.channel c).desc) (d.channel c).wanted := by
  simp [Device.engine, hs, hh, hp]

theorem Device.engine_failedRead (hp : (d.channel c).phase = 8) : d.engine c = d.failRead c := by
  simp [Device.engine, hs, hh, hp]

theorem Device.engine_failedBuffer (hp : (d.channel c).phase = 11) : d.engine c = d.failBuffer c := by
  simp [Device.engine, hs, hh, hp]

end
end

/-! ### The commands -/

/-- An access takes effect at once while no boundary is due (R489). -/
theorem access_of_accesses {s : State} (ha : s.Accesses) (a : Instr) : s.access a = .next (s.put (s.dev.runAccess a)) := by
  obtain ⟨hr, hdue⟩ := ha
  exact (on_runs s _ hr).trans (next_put_congr (if_neg (by simp [hdue])))

section
variable {s : State} {c : Nat} (v : Nat) (ha : s.Accesses) (hbar : s.dev.barReaches c = true)
include ha hbar

theorem exec_ring_of_reaches : exec (.ring c v) s = .next (s.put (s.dev.doorbell c (v ||| 1))) :=
  (access_of_accesses ha (.ring c v)).trans (next_put_congr (if_pos hbar))

theorem exec_restart_of_reaches : exec (.restart c v) s = .next (s.put (s.dev.doorbell c (v ||| 2))) :=
  (access_of_accesses ha (.restart c v)).trans (next_put_congr (if_pos hbar))

theorem exec_stop_of_reaches : exec (.stop c v) s = .next (s.put (s.dev.doorbell c (v ||| 4))) :=
  (access_of_accesses ha (.stop c v)).trans (next_put_congr (if_pos hbar))

theorem exec_siphonHeadWrite_of_reaches : exec (.siphonHeadWrite c v) s = .next (s.put (s.dev.writeHead c v)) :=
  (access_of_accesses ha (.siphonHeadWrite c v)).trans (next_put_congr (if_pos hbar))

theorem exec_siphonConsumedWrite_of_reaches : exec (.siphonConsumedWrite c v) s = .next (s.put (s.dev.writeConsumed c v)) :=
  (access_of_accesses ha (.siphonConsumedWrite c v)).trans (next_put_congr (if_pos hbar))

end

/-- Settles O54: the BAR reaches the page, and then by the write and the state that it meets. That an access waits for a boundary that
is due alone is log entry 167, and that D3hot takes bus mastering log entry 165: the model's choices. -/
theorem channelDoorbells : Obligations.ChannelDoorbells := by
  unfold Obligations.ChannelDoorbells
  intro s c v ha hd3 hc d ch budget ignored
  have hbar : s.dev.barReaches c = true := by simp [Device.barReaches, hc, hd3]
  have hring := exec_ring_of_reaches v ha hbar
  have hrestart := exec_restart_of_reaches v ha hbar
  have hstop := exec_stop_of_reaches v ha hbar
  have hhead := exec_siphonHeadWrite_of_reaches v ha hbar
  have hstopped (h : ch.state = 0 ∨ ch.state = 4) : ch.state ≠ 1 ∧ ch.state ≠ 2 := by obtain h | h := h <;> simp [h]
  have hring0 : (v ||| 1).testBit 0 = true := (Nat.testBit_or v 1 0).trans (Bool.or_true _)
  have hring1 : (v ||| 1).testBit 1 = v.testBit 1 := (Nat.testBit_or v 1 1).trans (Bool.or_false _)
  have hring2 : (v ||| 1).testBit 2 = v.testBit 2 := (Nat.testBit_or v 1 2).trans (Bool.or_false _)
  have hrestart1 : (v ||| 2).testBit 1 = true := (Nat.testBit_or v 2 1).trans (Bool.or_true _)
  have hrestart2 : (v ||| 2).testBit 2 = v.testBit 2 := (Nat.testBit_or v 2 2).trans (Bool.or_false _)
  have hstop2 : (v ||| 4).testBit 2 = true := (Nat.testBit_or v 4 2).trans (Bool.or_true _)
  refine ⟨fun hs h2 => hring.trans (next_put_congr (Device.doorbell_ring_of_parked hs hring0 (hring2.trans h2))),
    fun hs h2 => hring.trans (next_put_congr (Device.doorbell_ring_of_walking hs hring0 (hring2.trans h2))),
    fun hs h1 h2 => hring.trans (next_put_congr
      (Device.doorbell_of_unarmed (hstopped hs).1 (hstopped hs).2 (hring2.trans h2) (.inl (hring1.trans h1)))),
    fun hs hw hu h2 => hrestart.trans (next_put_congr
      (Device.doorbell_restart_of_armable hs hw hu hrestart1 (hrestart2.trans h2))),
    fun hu h1 hp h2 => hrestart.trans (next_put_congr (Device.doorbell_of_unarmed h1 hp (hrestart2.trans h2) (.inr hu))),
    fun hs hh => hstop.trans (next_put_congr (Device.doorbell_stop hstop2 hs hh)),
    fun h1 hp => hstop.trans (next_put_congr (Device.doorbell_stop_of_unstoppable hstop2 (.inl (not_or.mpr ⟨h1, hp⟩)))),
    fun hh => hstop.trans (next_put_congr (Device.doorbell_stop_of_unstoppable hstop2 (.inr hh))),
    fun hs hd hv => hhead.trans (next_put_congr (Device.writeHead_of_stopped hs hd hv)),
    fun h => hhead.trans (next_put_congr (Device.writeHead_of_refused h)),
    fun hd h => (exec_siphonConsumedWrite_of_reaches v ha hbar).trans (next_put_congr (Device.writeConsumed_of_within hd h)),
    fun hs hh => ⟨Device.engine_fetch hs hh, Device.engine_chainLoop hs hh, Device.engine_reread hs hh, Device.engine_buffer hs hh⟩,
    Device.engine_of_not_walking, fun x => on_runs s _ ha.1⟩

end Sys2Proof.Machine
end

section
/-! SUPPORT. The transfers of a Siphon channel that walks, and its turn at the write engine. -/

namespace Sys2Proof.Machine

open Sys2Proof

/-! ### The turn at the write engine (R389, R390) -/

/-- A channel's turn: the round robin of the Bulk channels goes on after it. -/
def Device.atWriter (d : Device) (c : Nat) : Device := if 64 ≤ c then { d with writeServed := c } else d

section
variable (d : Device) (c : Nat)

/-- The turn is the engine's own: the channels, the book and what waits stay. -/
theorem Device.atWriter_eq : d.atWriter c = { d with writeServed := (d.atWriter c).writeServed } := by
  unfold Device.atWriter
  split <;> rfl

@[simp] theorem Device.channel_atWriter (k : Nat) : (d.atWriter c).channel k = d.channel k := by rw [Device.atWriter_eq]; rfl

@[simp] theorem Device.recordsOpen_atWriter (ch : Channel) : (d.atWriter c).recordsOpen ch = d.recordsOpen ch := by
  rw [Device.atWriter_eq]; rfl

@[simp] theorem Device.descMalformed_atWriter (ch : Channel) : (d.atWriter c).descMalformed ch = d.descMalformed ch := by
  rw [Device.atWriter_eq]; rfl

@[simp] theorem Device.cur_atWriter (a : Addr) : (d.atWriter c).cur a = d.cur a := by rw [Device.atWriter_eq]; rfl

@[simp] theorem Device.rd_atWriter (a : Addr) : (d.atWriter c).rd a = d.rd a := by rw [Device.atWriter_eq]; rfl

@[simp] theorem Device.tel_atWriter : (d.atWriter c).tel = d.tel := by rw [Device.atWriter_eq]

@[simp] theorem Device.busMaster_atWriter : (d.atWriter c).busMaster = d.busMaster := by rw [Device.atWriter_eq]

end

/-- One channel that is ready alone is served. -/
theorem served_single (c last : Nat) : served [c] last = some c := by
  by_cases h : c < 64
  · simp [served, h]
  · by_cases hlast : last < c <;> simp [served, h, nextRequester, hlast]

/-- The least Priority channel that is ready is served (R389). -/
theorem served_of_least {xs : List Nat} {p : Nat} (hp : p < 64) (hmem : p ∈ xs) (hle : ∀ k ∈ xs, p ≤ k) (last : Nat) :
    served xs last = some p := by
  have hmin : (xs.filter (· < 64)).min? = some p :=
    List.min?_eq_some_iff.mpr ⟨List.mem_filter.mpr ⟨hmem, by simpa using hp⟩, fun k hk => hle k (List.mem_of_mem_filter hk)⟩
  simp [served, hmin]

section
variable {d : Device} {c : Nat}

/-- Where no other channel has write beats ready, the channel's own go at once. -/
theorem Device.toWrite_of_alone (h : d.writersDue.filter (· ≠ c) = []) : d.toWrite c = d.atWriter c := by
  unfold Device.toWrite Device.serveUntil
  rw [h]
  simp only [served_single, if_true]
  rfl

/-- The least Priority channel with write beats ready goes before. -/
theorem Device.serveUntil_of_priority {p : Nat} (n : Nat) (hp : p < 64) (hpc : p < c) (hmem : p ∈ d.writersDue)
    (hle : ∀ k ∈ d.writersDue, p ≤ k) : Device.serveUntil c (n + 1) d =
      Device.serveUntil c n ((d.bump64 E.PRIORITY_PREEMPTS (d.dueBeats p)).serveWrite p) := by
  have hother : p ∈ d.writersDue.filter (· ≠ c) := List.mem_filter.mpr ⟨hmem, by simpa using Nat.ne_of_lt hpc⟩
  have hserved := served_of_least hp (List.mem_cons_of_mem c hother)
    (List.forall_mem_cons.mpr ⟨hpc.le, fun k hk => hle k (List.mem_of_mem_filter hk)⟩) d.writeServed
  have hturn : d.writeTurn p (d.writersDue.filter (· ≠ c) ≠ []) = d.bump64 E.PRIORITY_PREEMPTS (d.dueBeats p) := by
    unfold Device.writeTurn
    rw [if_neg (by omega), if_pos (by simpa using List.ne_nil_of_mem hother)]
  rw [Device.serveUntil]
  dsimp only
  rw [hserved]
  dsimp only
  rw [if_neg (Nat.ne_of_lt hpc), hturn]

/-! ### Reads that arrive, and those that do not (R384, R387) -/

theorem Device.fetched_of_not_walking (bytes : List Byte) (hs : (d.channel c).state ≠ 1) : d.fetched c bytes = d :=
  if_pos (.inl hs)

theorem Device.fetched_descriptor {bytes : List Byte} (hs : (d.channel c).state = 1) (hp : (d.channel c).phase = 2)
    (hlen : bytes.length = 32) (hchange : (d.channel c).changing = false) (hstop : (d.channel c).stopping = false) :
    d.fetched c bytes = (d.withChannel { d.channel c with desc := bytes }).process c := by
  have htake : bytes.take 32 = bytes := List.take_of_length_le hlen.le
  simp [Device.fetched, hs, hp, hlen, hchange, hstop, htake]

theorem Device.fetched_short {bytes : List Byte} (hs : (d.channel c).state = 1) (hp : (d.channel c).phase = 2)
    (hlen : bytes.length < 32) : d.fetched c bytes = d.withChannel { d.channel c with phase := 8 } := by
  simp [Device.fetched, hs, hp, hlen]

/-- A re-read of a parked descriptor: at END the channel parks again, else it goes on. -/
theorem Device.fetched_reread {bytes : List Byte} (hs : (d.channel c).state = 1) (hp : (d.channel c).phase = 4)
    (hlen : bytes.length = 16) (hchange : (d.channel c).changing = false) (hstop : (d.channel c).stopping = false) :
    d.fetched c bytes =
      let e := d.withChannel { d.channel c with desc := bytes ++ (d.channel c).desc.drop 16 }
      if (descControl bytes).testBit 0 then e.park c else e.follow c := by
  have htake : bytes.take 16 = bytes := List.take_of_length_le hlen.le
  simp [Device.fetched, hs, hp, hlen, hchange, hstop, htake, bit]

theorem Device.timeoutRead_of_not_walking (came : List Byte) (hs : (d.channel c).state ≠ 1) : d.timeoutRead c came = d :=
  if_pos hs

theorem Device.timeoutRead_descriptor (came : List Byte) (hs : (d.channel c).state = 1)
    (hp : (d.channel c).phase = 2 ∨ (d.channel c).phase = 4) :
    d.timeoutRead c came = d.noteTimeout.withChannel { d.channel c with phase := 8 } := by
  simp [Device.timeoutRead, hs, hp]

/-- The read of an INJECT channel's buffer. -/
theorem Device.timeoutRead_buffer (came : List Byte) (hs : (d.channel c).state = 1) (hp : (d.channel c).phase = 5)
    (hu : (d.channel c).use = 2) (hdom : (d.channel c).dom = none) (hrun : (d.channel c).badRun = false)
    (hwell : d.descMalformed (d.channel c) = false) :
    d.timeoutRead c came = d.noteTimeout.withChannel { d.channel c with phase := 11, came := came } := by
  simp [Device.timeoutRead, hs, hp, hwell, Channel.readsBuffers, Channel.abandons, hu, hdom, hrun]

/-- The record of an INJECT channel's buffer read that missed its time. -/
theorem Device.failBuffer_of_inject (hdom : (d.channel c).dom = none) : d.failBuffer c =
    let got := (d.channel c).came.take (descLength (d.channel c).desc)
    d.failRun c got.length (movedCrc got) 1 1 := by
  simp [Device.failBuffer, Channel.wanted, hdom]

/-! ### Descriptors that finish (R383, R391, R392) -/

theorem Device.finishes_record (hs : (d.channel c).state = 1) (ho : d.recordsOpen (d.channel c) = true)
    (hp : (d.channel c).phase = 6) : d.finishes c = true := by
  simp [Device.finishes, hs, ho, hp]

theorem Device.finishes_inject (hs : (d.channel c).state = 1) (ho : d.recordsOpen (d.channel c) = true)
    (hp : (d.channel c).phase = 5) (hu : (d.channel c).use = 2) : d.finishes c = true := by
  simp [Device.finishes, hs, ho, hp, hu]

theorem Device.finishes_of_not_walking (hs : (d.channel c).state ≠ 1) : d.finishes c = false := by
  simp [Device.finishes, hs]

theorem Device.completeDescriptor_record (bytes : List Byte) (staging : Bool) (hs : (d.channel c).state = 1)
    (ho : d.recordsOpen (d.channel c) = true) (hp : (d.channel c).phase = 6) :
    d.completeDescriptor c bytes staging = d.endChunk c staging := by
  simp [Device.completeDescriptor, hs, ho, hp]

/-- A buffer read whole completes its descriptor, with the bytes that the descriptor asks for. -/
theorem Device.completeDescriptor_inject {bytes : List Byte} (hs : (d.channel c).state = 1)
    (ho : d.recordsOpen (d.channel c) = true) (hp : (d.channel c).phase = 5) (hu : (d.channel c).use = 2)
    (hdom : (d.channel c).dom = none) (hrun : (d.channel c).badRun = false) (hwell : d.descMalformed (d.channel c) = false)
    (hlen : descLength (d.channel c).desc ≤ bytes.length) :
    d.completeDescriptor c bytes false = d.readRun c (bytes.take (descLength (d.channel c).desc)) := by
  have hread : d.completeDescriptor c bytes false = d.readRun c bytes := by
    simp [Device.completeDescriptor, hs, ho, hp, hu, hdom, hrun, hwell, Channel.readsBuffers, Channel.wanted, hlen]
  rw [hread]
  simp only [Device.readRun, List.take_take, Nat.min_self]

theorem Device.partReady_of_not_walking (hs : (d.channel c).state ≠ 1) : d.partReady c = none := if_pos (.inl hs)

/-- The next part of the copy under way (R391). -/
theorem Device.partReady_of_running {id : Nat} (hs : (d.channel c).state = 1) (hu : (d.channel c).use = 1)
    (hp : (d.channel c).phase = 5) (ho : d.recordsOpen (d.channel c) = true) (hwell : d.descMalformed (d.channel c) = false)
    (hcopy : (d.channel c).rxCopy = some id) : d.partReady c =
      some (d.channel c, ((d.channel c).rxBytes.drop (d.channel c).rxSent).take (descLength (d.channel c).desc)) := by
  simp [Device.partReady, hs, hu, hp, ho, hwell, Device.loadCopy, hcopy]

theorem Device.copyToHost_of_part {ch : Channel} {part : List Byte} (h : d.partReady c = some (ch, part)) :
    d.copyToHost c = (d.writeBuffer c (descBuffer ch.desc) part).withChannel
      { ch with phase := 6, moved := part.length, rxSent := ch.rxSent + part.length } := by
  simp only [Device.copyToHost, h]

/-! ### Injection (R392) -/

theorem Device.inject_of_not_walking (hs : (d.channel c).state ≠ 1) : d.inject c = d := if_pos (.inl hs)

theorem Device.inject_of_room (hs : (d.channel c).state = 1) (hp : (d.channel c).phase = 7) (hm : d.mode.forwards = true)
    (hroom : d.intakeUsed (d.injected (d.channel c)).slice + (d.injected (d.channel c)).len ≤ 65536)
    (hgate : d.sliceGated (d.injected (d.channel c)).slice = false) : d.inject c =
      ((d.offerHeader (d.injected (d.channel c)) 0xFFF).withChannel { d.channel c with phase := 5, run := [] }).proceed c := by
  refine (if_neg (by simp [hs, hp, hm])).trans (if_neg ?_)
  simpa [hgate, intakeSize] using hroom

/-! ### Export (R344, R393) -/

section
variable {x : Nat} {item : List Byte} {rest : List (List Byte)}

theorem Device.itemReady_of_item (hitem : d.tel.fifos.getD x [] = item :: rest) (hb : d.busMaster = true)
    (hring : d.cur (E.RING_CHANNEL x) ≠ 0xFFFF) (hs : (d.channel (d.cur (E.RING_CHANNEL x))).state ≠ 5) : d.itemReady x = true := by
  simp only [Device.itemReady, hitem, hb]
  simp [hring, hs]

/-- The device without the oldest item of a ring's FIFO. -/
def Device.itemTaken (d : Device) (x : Nat) (rest : List (List Byte)) : Device :=
  { d with tel := { d.tel with fifos := modAt d.tel.fifos x (fun _ => rest) } }

@[simp] theorem Device.rd_itemTaken (a : Addr) : (d.itemTaken x rest).rd a = d.rd a := rfl

@[simp] theorem Device.cur_itemTaken (a : Addr) : (d.itemTaken x rest).cur a = d.cur a := rfl

/-- An item goes into its ring of host memory where that has room, and is lost where it has none (R393). -/
def Device.storeItem (d : Device) (x c : Nat) (item : List Byte) : Device :=
  let k := d.rd (E.RING_WRITTEN x)
  if (k + 2 ^ 32 - d.rd (E.RING_CONSUMED x)) % 2 ^ 32 = d.cur (E.RING_RECORDS x) then d.bump64 (E.RING_LOST x) 1
  else
    let at' := d.cur (E.RING_BASE x) + itemSize x * (k % max 1 (d.cur (E.RING_RECORDS x)))
    ((d.send (.hostWrite at' item)).bump64 (E.BYTES_MOVED c) item.length).bump (E.RING_WRITTEN x) 32 1

theorem Device.storeItem_of_full {y : Nat} (h : (d.rd (E.RING_WRITTEN x) + 2 ^ 32 - d.rd (E.RING_CONSUMED x)) % 2 ^ 32 =
    d.cur (E.RING_RECORDS x)) : d.storeItem x y item = d.bump64 (E.RING_LOST x) 1 := if_pos h

theorem Device.storeItem_of_room {y : Nat} (h : (d.rd (E.RING_WRITTEN x) + 2 ^ 32 - d.rd (E.RING_CONSUMED x)) % 2 ^ 32 ≠
    d.cur (E.RING_RECORDS x)) : d.storeItem x y item = ((d.send (.hostWrite (d.cur (E.RING_BASE x) +
      itemSize x * (d.rd (E.RING_WRITTEN x) % max 1 (d.cur (E.RING_RECORDS x)))) item)).bump64 (E.BYTES_MOVED y) item.length).bump
        (E.RING_WRITTEN x) 32 1 := if_neg h

theorem Device.exportItem_of_item (hitem : d.tel.fifos.getD x [] = item :: rest) (hb : d.busMaster = true)
    (hring : d.cur (E.RING_CHANNEL x) ≠ 0xFFFF) (hs : (d.channel (d.cur (E.RING_CHANNEL x))).state ≠ 5) :
    d.exportItem x false = (d.itemTaken x rest).storeItem x (d.cur (E.RING_CHANNEL x)) item := by
  unfold Device.exportItem
  rw [hitem]
  dsimp only
  rw [if_neg (by simp [hb, hring, hs]), if_neg Bool.false_ne_true]
  rfl

end

theorem E.bytesMoved_ne_harvestWritten (k : Nat) : E.HARVEST_WRITTEN ≠ E.BYTES_MOVED k := by
  have h : 0x8600 * 256 + 0x0B ≠ (0xA100 + k) * 256 + 0x0F := by omega
  exact h

end

theorem Device.harvest_raise (d : Device) (n v : Nat) : (d.raise n v).tel.harvest = d.tel.harvest ∧
    (d.raise n v).tel.harvestSkips = d.tel.harvestSkips := by
  have h := d.eventOnly_raise n v
  unfold Device.EventOnly at h
  exact ⟨(congrArg (fun e : Device => e.tel.harvest) h :), (congrArg (fun e : Device => e.tel.harvestSkips) h :)⟩

/-- A Harvest that is written is no longer in assembly, and counts one slot of its ring (R344). -/
theorem Device.writeHarvest_keeps (d : Device) (h : Harvest) (k : Nat) : (d.writeHarvest h k).tel.harvest = none ∧
    (d.writeHarvest h k).tel.harvestSkips = 0 ∧
    (d.writeHarvest h k).rd E.HARVEST_WRITTEN = (d.rd E.HARVEST_WRITTEN + 1) % 2 ^ 32 := by
  unfold Device.writeHarvest
  dsimp only
  have hkeep (e : Device) (t : Telemetry) (a : Addr) : ({ e with tel := t } : Device).rd a = e.rd a := rfl
  have hsend (e : Device) (x : Sent) (a : Addr) : (e.send x).rd a = e.rd a := rfl
  refine ⟨(Device.harvest_raise _ _ _).1, (Device.harvest_raise _ _ _).2, ?_⟩
  rw [Device.rd_raise_below _ _ _ (by decide), Device.rd_bump, if_pos rfl, hkeep, Device.bump64, Device.rd_bump,
    if_neg (E.bytesMoved_ne_harvestWritten k), hsend, hsend]

/-! ### The commands -/

section
variable {s : State} (hr : s.Runs) (c : Nat)
include hr

theorem exec_descriptorFetch_eq (bytes : List Byte) :
    exec (.descriptorFetch c bytes) s = .next (s.put (s.dev.fetched c bytes).engines) := on_runs s _ hr

theorem exec_readTimeout_eq (bytes : List Byte) :
    exec (.readTimeout ⟨c, bytes⟩) s = .next (s.put (s.dev.timeoutRead c bytes).engines) := on_runs s _ hr

theorem exec_injectFrame_eq : exec (.injectFrame c) s = .next (s.put (s.dev.inject c).engines) := on_runs s _ hr

theorem exec_cpuRxCopy_of_part (hpart : (s.dev.partReady c).isSome = true)
    (halone : s.dev.writersDue.filter (· ≠ c) = []) :
    exec (.cpuRxCopy c) s = .next (s.put ((s.dev.atWriter c).copyToHost c).engines) := by
  rw [← Device.toWrite_of_alone halone]
  exact on_runs_of_pos hr hpart

theorem exec_cpuRxCopy_of_none (hpart : s.dev.partReady c = none) : exec (.cpuRxCopy c) s = .next s :=
  on_runs_of_neg hr (by simp [hpart])

theorem exec_descriptorCompletion_of_finishes (bytes : List Byte) (staging : Bool) (hf : s.dev.finishes c = true)
    (halone : s.dev.writersDue.filter (· ≠ c) = []) : exec (.descriptorCompletion c bytes staging) s =
      .next (s.put ((s.dev.atWriter c).completeDescriptor c bytes staging).engines) := by
  rw [← Device.toWrite_of_alone halone]
  exact on_runs_of_pos hr hf

theorem exec_descriptorCompletion_of_unfinished (bytes : List Byte) (staging : Bool) (hf : s.dev.finishes c = false) :
    exec (.descriptorCompletion c bytes staging) s = .next s :=
  on_runs_of_neg hr (by simp [hf])

theorem exec_exportItem_of_ready {x : Nat} (hx : x < 3) (hi : s.dev.itemReady x = true)
    (halone : s.dev.writersDue.filter (· ≠ s.dev.cur (E.RING_CHANNEL x)) = []) :
    exec (.exportItem x false) s =
      .next (s.put ((s.dev.atWriter (s.dev.cur (E.RING_CHANNEL x))).exportItem x false).engines) := by
  rw [← Device.toWrite_of_alone halone]
  exact on_runs_of_pos hr ⟨hx, hi⟩

/-- A Harvest in assembly whose channel issues writes; with a staging error it is skipped (R393). -/
theorem exec_harvestWrite_of_assembly {h : Harvest} (hh : s.dev.tel.harvest = some h) (hb : s.dev.busMaster = true)
    (hs : (s.dev.channel (s.dev.cur E.HARVEST_CHANNEL)).state ≠ 5)
    (halone : s.dev.writersDue.filter (· ≠ s.dev.cur E.HARVEST_CHANNEL) = []) (staging : Bool) :
    exec (.harvestWrite staging) s =
      let e := (s.dev.atWriter (s.dev.cur E.HARVEST_CHANNEL)).engines
      .next (s.put (if staging then (({ e with tel := { e.tel with harvest := none } } : Device).skipHarvests 1).strikeChannel
          (s.dev.cur E.HARVEST_CHANNEL) else e.writeHarvest h (s.dev.cur E.HARVEST_CHANNEL))) := by
  rw [← Device.toWrite_of_alone halone]
  refine (on_runs s _ hr).trans ?_
  rw [hh]
  exact next_put_congr (if_neg (by simp [hb, hs]))

end

/-- Settles O55: each transfer by its channel's phase; where no other channel has beats ready, the engine's turn changes nothing else.
That beats are served whole, and what counts as a Priority channel's preemption, is log entry 177; a command without its transfer
changes nothing (log entry 7): the model's choices. -/
theorem channelTransfers : Obligations.ChannelTransfers := by
  unfold Obligations.ChannelTransfers
  intro s c x bytes staging hr d ch next alone turn
  have hdone {e f : Device} (h : e = f) : next e = next f := congrArg next h
  refine ⟨Device.toWrite_of_alone, fun p n => Device.serveUntil_of_priority n,
    fun hs hp hlen hch hst => (exec_descriptorFetch_eq hr c bytes).trans (hdone (Device.fetched_descriptor hs hp hlen hch hst)),
    fun hs hp hlen => (exec_descriptorFetch_eq hr c bytes).trans (hdone (Device.fetched_short hs hp hlen)),
    fun hs hp hlen hch hst => (exec_descriptorFetch_eq hr c bytes).trans (hdone (Device.fetched_reread hs hp hlen hch hst)),
    fun hs hp => (exec_readTimeout_eq hr c bytes).trans (hdone (Device.timeoutRead_descriptor bytes hs hp)),
    fun hs hp hh => Device.engine_failedRead hs hh hp,
    fun hs hp hu hdom hrun hwell => ⟨(exec_readTimeout_eq hr c bytes).trans
      (hdone (Device.timeoutRead_buffer bytes hs hp hu hdom hrun hwell)), fun ho halone hlen => ?inject⟩,
    fun hs hp hh hdom => (Device.engine_failedBuffer hs hh hp).trans (Device.failBuffer_of_inject hdom),
    fun hs hp ho halone => ?record, fun id hs hu hp ho hwell hcopy halone => ?part, fun hs hp hm => ⟨rfl, fun hroom hgate =>
      (exec_injectFrame_eq hr c).trans (hdone (Device.inject_of_room hs hp hm hroom hgate))⟩,
    fun hs => ⟨(exec_injectFrame_eq hr c).trans (hdone (Device.inject_of_not_walking hs)),
      exec_cpuRxCopy_of_none hr c (Device.partReady_of_not_walking hs),
      (exec_descriptorFetch_eq hr c bytes).trans (hdone (Device.fetched_of_not_walking bytes hs)),
      exec_descriptorCompletion_of_unfinished hr c bytes staging (Device.finishes_of_not_walking hs),
      (exec_readTimeout_eq hr c bytes).trans (hdone (Device.timeoutRead_of_not_walking bytes hs))⟩,
    fun item rest hx hitem hb hring hs halone => ?item, fun h hh hb hs halone => ?harvest, Device.writeHarvest_keeps⟩
  case inject =>
    have hdone' := Device.completeDescriptor_inject (d := s.dev.atWriter c) (c := c) (bytes := bytes)
    simp only [Device.channel_atWriter, Device.recordsOpen_atWriter, Device.descMalformed_atWriter] at hdone'
    exact (exec_descriptorCompletion_of_finishes hr c bytes false (Device.finishes_inject hs ho hp hu) halone).trans
      (hdone (hdone' hs ho hp hu hdom hrun hwell hlen))
  case record =>
    have hended := Device.completeDescriptor_record (d := s.dev.atWriter c) (c := c) bytes staging
    simp only [Device.channel_atWriter, Device.recordsOpen_atWriter] at hended
    exact (exec_descriptorCompletion_of_finishes hr c bytes staging (Device.finishes_record hs ho hp) halone).trans
      (hdone (hended hs ho hp))
  case part =>
    have hpart := Device.partReady_of_running (d := s.dev.atWriter c) (c := c) (id := id)
    simp only [Device.channel_atWriter, Device.recordsOpen_atWriter, Device.descMalformed_atWriter] at hpart
    have hready : (s.dev.partReady c).isSome = true := by rw [Device.partReady_of_running hs hu hp ho hwell hcopy]; rfl
    exact (exec_cpuRxCopy_of_part hr c hready halone).trans
      (hdone (Device.copyToHost_of_part (hpart hs hu hp ho hwell hcopy)))
  case item =>
    have hitem' := Device.exportItem_of_item (d := s.dev.atWriter (s.dev.cur (E.RING_CHANNEL x))) (x := x) (item := item) (rest := rest)
    simp only [Device.channel_atWriter, Device.cur_atWriter, Device.tel_atWriter, Device.busMaster_atWriter] at hitem'
    have hexec := (exec_exportItem_of_ready hr hx (Device.itemReady_of_item hitem hb hring hs) halone).trans
      (hdone (hitem' hitem hb hring hs))
    have htaken : (s.dev.atWriter (s.dev.cur (E.RING_CHANNEL x))).itemTaken x rest =
        { turn (d.cur (E.RING_CHANNEL x)) with tel := { d.tel with fifos := modAt d.tel.fifos x (fun _ => rest) } } := by
      unfold Device.itemTaken
      rw [Device.tel_atWriter]
      rfl
    have hfull := Device.storeItem_of_full (d := (s.dev.atWriter (s.dev.cur (E.RING_CHANNEL x))).itemTaken x rest) (x := x)
      (item := item) (y := s.dev.cur (E.RING_CHANNEL x))
    have hroom := Device.storeItem_of_room (d := (s.dev.atWriter (s.dev.cur (E.RING_CHANNEL x))).itemTaken x rest) (x := x)
      (item := item) (y := s.dev.cur (E.RING_CHANNEL x))
    simp only [Device.rd_itemTaken, Device.rd_atWriter, Device.cur_itemTaken, Device.cur_atWriter] at hfull hroom
    rw [htaken] at hexec hfull hroom
    exact ⟨fun h => hexec.trans (hdone (hfull h)), fun h => hexec.trans (hdone (hroom h))⟩
  case harvest =>
    have hexec := exec_harvestWrite_of_assembly hr hh hb hs halone
    exact ⟨(hexec true).trans (next_put_congr (if_pos rfl)), (hexec false).trans (next_put_congr (if_neg Bool.false_ne_true))⟩

end Sys2Proof.Machine
end

section
/-! SUPPORT. A pair's two-phase commit, joint writes, and what the partner tells. -/

namespace Sys2Proof.Machine

open Sys2Proof

/-! ### A commit that is aborted (R434) -/

theorem Device.committing_of_preparing {d : Device} (h : d.commit = .preparing) : d.committing = true := by
  simp [Device.committing, h]

/-- The reason of an abort stands in CHECK_REASON, whether the check still ran or not. -/
theorem Device.rd_abortCommit_reason {d : Device} (reason detail : Nat) (h : d.committing = true) :
    (d.abortCommit reason detail).rd E.CHECK_REASON = reason := by
  have hended (e : Device) : (if e.commit = .checking then e.endCheck reason none detail
      else (e.wr E.CHECK_REASON reason).wr E.CHECK_DETAIL detail).rd E.CHECK_REASON = reason := by
    split
    · rw [Device.endCheck, Device.rd_raise_below _ _ _ (by decide), Device.rd_wr_ne _ _ _ _ (by decide),
        Device.rd_wr_ne _ _ _ _ (by decide), Device.rd_wr_same]
    · rw [Device.rd_wr_ne _ _ _ _ (by decide), Device.rd_wr_same]
  have hjoin (e : Device) (j : Join) : ({ e with commit := .aborted, join := j } : Device).rd E.CHECK_REASON =
      e.rd E.CHECK_REASON := rfl
  unfold Device.abortCommit
  rw [if_neg (by simp [h])]
  exact (hjoin _ _).trans (hended _)

/-! ### The steps of the commit, each at the member that takes it (R434) -/

section
variable {s : State} (hr : s.Runs) (hj : s.dev.joined = true)
include hr hj

theorem exec_prepare_at_secondary (hm : s.dev.member = 1) (hc : s.dev.committing = false) :
    exec (.prepare (s.dev.rd E.VINTAGE_STAGING)) s = .next (s.put { s.dev with
      commit := .preparing, commitTime := s.dev.rd E.COMMIT_TIME, newDigest := []
      join := { s.dev.join with prepared := false, armFlip := none, acked := false, go := false } }) :=
  on_runs_of_pos hr ⟨hj, hm, by simp [hc], rfl⟩

/-- PREPARED where the primary has prepared its own copies. -/
theorem exec_prepared_at_primary (hm : s.dev.member = 0) (hc : s.dev.commit = .preparing) (hd : s.dev.newDigest ≠ []) :
    exec (.prepared (s.dev.rd E.VINTAGE_STAGING)) s =
      .next (s.put { s.dev with commit := .armed, join := { s.dev.join with prepared := true } }) :=
  (on_runs_of_pos hr ⟨hj, hm, Device.committing_of_preparing hc, rfl⟩).trans (next_put_congr (if_pos ⟨hc, by simpa using hd⟩))

theorem exec_arm_at_secondary (f : Nat) (hm : s.dev.member = 1) (hc : s.dev.commit = .preparing) (hd : s.dev.newDigest ≠ []) :
    exec (.arm (s.dev.rd E.VINTAGE_STAGING) f) s = .next (s.put
      (({ s.dev with join := { s.dev.join with armFlip := some f, acked := true } } : Device).commitMessage 3 f)) :=
  on_runs_of_pos hr ⟨hj, hm, hc, by simpa using hd, rfl⟩

theorem exec_ack_at_primary {f : Nat} (hm : s.dev.member = 0) (hc : s.dev.commit = .armed) (hf : s.dev.join.armFlip = some f)
    (hround : s.dev.rd E.ROUND_COUNT ≤ s.dev.join.armAt + 16) : exec (.ack (s.dev.rd E.VINTAGE_STAGING)) s = .next (s.put
      (({ s.dev with join := { s.dev.join with acked := true, go := true } } : Device).commitMessage 4 f)) := by
  refine (on_runs s _ hr).trans ?_
  rw [hf]
  exact next_put_congr (if_pos ⟨hj, hm, hc, rfl, hround⟩)

theorem exec_go_at_secondary {f : Nat} (hm : s.dev.member = 1) (hc : s.dev.commit = .preparing) (hf : s.dev.join.armFlip = some f) :
    exec (.go (s.dev.rd E.VINTAGE_STAGING)) s =
      .next (s.put { s.dev with commit := .armed, join := { s.dev.join with go := true } }) :=
  on_runs_of_pos hr ⟨hj, hm, hc, by rw [hf]; rfl, rfl⟩

theorem exec_abort_of_committing (hc : s.dev.committing = true) :
    exec (.abort (s.dev.rd E.VINTAGE_STAGING)) s = .next (s.put (s.dev.abortCommit 0x0C05 1)) :=
  on_runs_of_pos hr ⟨hj, hc, rfl⟩

theorem exec_ackTimeout_at_primary (hm : s.dev.member = 0) (hc : s.dev.commit = .armed) (hf : s.dev.join.armFlip.isSome = true)
    (hack : s.dev.join.acked = false) (hround : s.dev.join.armAt + 16 ≤ s.dev.rd E.ROUND_COUNT) :
    exec .ackTimeout s = .next (s.put ((s.dev.commitMessage 5 0).abortCommit 0x0C05 1)) :=
  on_runs_of_pos hr ⟨hj, hm, hc, hf, by simp [hack], hround⟩

theorem exec_flipWithoutGo_at_secondary {f : Nat} (hm : s.dev.member = 1) (hc : s.dev.committing = true)
    (hf : s.dev.join.armFlip = some f) (hgo : s.dev.join.go = false) (hround : f ≤ s.dev.rd E.ROUND_COUNT) :
    exec .flipWithoutGo s = .next (s.put (s.dev.split 5)) := by
  refine (on_runs s _ hr).trans ?_
  rw [hf]
  exact next_put_congr (if_pos ⟨hj, hm, hc, by simp [hgo], hround⟩)

omit hj

theorem exec_abort_of_not_committing (v : Nat) (hc : s.dev.committing = false) : exec (.abort v) s = .next s :=
  on_runs_of_neg hr (by simp [hc])

theorem exec_ackTimeout_of_acked (hack : s.dev.join.acked = true) : exec .ackTimeout s = .next s :=
  on_runs_of_neg hr (by simp [hack])

/-- A secondary that holds GO is not without it at the boundary. -/
theorem exec_flipWithoutGo_of_go (hgo : s.dev.join.go = true) : exec .flipWithoutGo s = .next s := by
  refine (on_runs s _ hr).trans (congrArg _ ?_)
  cases hf : s.dev.join.armFlip with
  | none => exact put_dev s hr.2
  | some f =>
    dsimp only
    rw [if_neg (by simp [hgo]), put_dev s hr.2]

end

/-! ### BOOK messages (R429, R430, R466) -/

section
variable {d : Device} (hj : d.joined = true)
include hj

/-- A joint write of the partner's, where no request waits before it. -/
theorem Device.book_request {a : Addr} (data : List Byte) (p : Nat) (hq : d.tendrilQueue = []) (ha : d.isJoint a = true) :
    d.book (.request a data p) = (d.bookRequest a data p).2.bookMessage 2 (beBytes 2 (d.bookRequest a data p).1) := by
  simp [Device.book, hj, ha, hq, Device.serveFrames]

theorem Device.book_result_refused {code : Nat} {w : JointWrite} {rest : List JointWrite} (hw : d.join.waitingBooks = w :: rest)
    (hcode : code ≠ Res.OK) : d.book (.result code) =
      (({ d with join := { d.join with waitingBooks := rest } } : Device).answer w.reply code).serveRequests := by
  simp [Device.book, hj, Device.bookResult, hw, hcode]

theorem Device.book_notice {a : Addr} (data : List Byte) (ha : memberEntry a = true) (hA : a ≠ E.IMAGE_SLOT_A)
    (hB : a ≠ E.IMAGE_SLOT_B) : d.book (.notice a data) =
      { d with peer := { d.peer with entries := SMap.set d.peer.entries (defaultOf a) a (beNat data) } } := by
  simp [Device.book, hj, Device.bookNotice, ha, hA, hB]

theorem Device.book_ready : d.book .ready = { d with join := { d.join with partnerReady := true } } := by
  simp [Device.book, hj]

theorem Device.book_change (b : Nat) : d.book (.change b) = { d with join := { d.join with changeAt := some b } } := by
  simp [Device.book, hj]

end

theorem exec_book_of_accesses {s : State} (ha : s.Accesses) (m : BookMsg) : exec (.book m) s = .next (s.put (s.dev.book m)) :=
  access_of_accesses ha (.book m)

/-- Settles O57: each step by the member that takes it, and each BOOK message by its kind. The numbers of the steps are log entry 43,
the layout of a message and the partner's notices log entry 215, the agreement on a mode log entry 219, and a step that is not due
changes nothing (log entry 7): the model's choices. -/
theorem pairCommit : Obligations.PairCommit := by
  unfold Obligations.PairCommit
  intro s v f ha ⟨hqueue, _, _⟩ hj hv d j told
  subst hv
  have hr := ha.1
  have hbook {m : BookMsg} {e : Device} (h : s.dev.book m = e) := (exec_book_of_accesses ha m).trans (next_put_congr h)
  exact ⟨exec_prepare_at_secondary hr hj, exec_prepared_at_primary hr hj, exec_arm_at_secondary hr hj f,
    exec_ack_at_primary hr hj, exec_go_at_secondary hr hj,
    fun hc => ⟨exec_abort_of_committing hr hj hc, Device.commit_abortCommit _ _ hc, Device.rd_abortCommit_reason _ _ hc⟩,
    exec_abort_of_not_committing hr _, exec_ackTimeout_at_primary hr hj, exec_ackTimeout_of_acked hr,
    exec_flipWithoutGo_at_secondary hr hj, exec_flipWithoutGo_of_go hr,
    fun a data p hjoint => hbook (Device.book_request hj data p hqueue hjoint),
    fun code w rest hw hcode => hbook (Device.book_result_refused hj hw hcode),
    fun a data hmember hA hB => hbook (Device.book_notice hj data hmember hA hB),
    hbook (Device.book_ready hj), fun b => hbook (Device.book_change hj b)⟩

end Sys2Proof.Machine
end

section
/-! SUPPORT. A join's codewords, and the stripes that come. -/

namespace Sys2Proof.Machine

open Sys2Proof

/-! ### Bytes and the number that they spell -/

theorem beNat_append (bs : List Byte) (b : Byte) : beNat (bs ++ [b]) = beNat bs * 256 + b.toNat := by
  simp [beNat]

theorem beNat_lt (bs : List Byte) : beNat bs < 256 ^ bs.length := by
  induction bs using List.reverseRecOn with
  | nil => decide
  | append_singleton bs b ih =>
    have hb : b.toNat < 256 := b.isLt
    rw [beNat_append, List.length_append, List.length_singleton, pow_succ]
    omega

/-- The bytes of the number that bytes spell are those bytes. -/
theorem beBytes_beNat (bs : List Byte) : beBytes bs.length (beNat bs) = bs := by
  have hle : ∀ bs : List Byte, leBytes bs.length (beNat bs) = bs.reverse := by
    intro bs
    induction bs using List.reverseRecOn with
    | nil => rfl
    | append_singleton bs b ih =>
      have hb : b.toNat < 256 := b.isLt
      have hlow : BitVec.ofNat 8 (beNat bs * 256 + b.toNat) = b := by
        apply BitVec.eq_of_toNat_eq
        rw [BitVec.toNat_ofNat]
        omega
      have hhigh : (beNat bs * 256 + b.toNat) / 256 = beNat bs := by omega
      rw [beNat_append, List.length_append, List.length_singleton, leBytes, hlow, hhigh, ih, List.reverse_append]
      rfl
  rw [beBytes, hle, List.reverse_reverse]

/-! ### Codewords (R420) -/

/-- A number of three parts gives them back. -/
theorem parts_of_three {a b c n m : Nat} (hb : b < m) (hc : c < n) : (a * (m * n) + b * n + c) / (m * n) = a ∧
    (a * (m * n) + b * n + c) / n % m = b ∧ (a * (m * n) + b * n + c) % n = c := by
  have hn : 0 < n := Nat.lt_of_le_of_lt (Nat.zero_le _) hc
  have hm : 0 < m := Nat.lt_of_le_of_lt (Nat.zero_le _) hb
  have hword : a * (m * n) + b * n + c = n * (m * a + b) + c := by ring
  have hdiv : (n * (m * a + b) + c) / n = m * a + b := by
    rw [Nat.mul_add_div hn, Nat.div_eq_of_lt hc, Nat.add_zero]
  rw [hword]
  refine ⟨?_, ?_, ?_⟩
  · rw [Nat.mul_comm m n, ← Nat.div_div_eq_div_mul, hdiv, Nat.mul_add_div hm, Nat.div_eq_of_lt hb, Nat.add_zero]
  · rw [hdiv, Nat.mul_add_mod, Nat.mod_eq_of_lt hb]
  · rw [Nat.mul_add_mod, Nat.mod_eq_of_lt hc]

/-- A codeword gives back its STREAM, SIDE and DATA (R420). -/
theorem joinWord_decodes {stream side : Nat} {data : List Byte} (hs : stream < 16) (hside : side < 65536) (hd : data.length = 640) :
    wordStream (joinWord stream side data) = stream ∧ wordSide (joinWord stream side data) = side ∧
      wordData (joinWord stream side data) = data := by
  unfold wordStream wordSide wordData bits joinWord
  rw [slice_self data 640 hd, Nat.mod_eq_of_lt hs, Nat.mod_eq_of_lt hside]
  obtain ⟨n, hn⟩ : ∃ n, n = 5120 := ⟨_, rfl⟩
  have hhigh : 5136 = 16 + n := by omega
  have hdata : beNat data < 2 ^ n := by
    have hwidth : n = 8 * data.length := by omega
    rw [hwidth, pow_mul]
    exact beNat_lt data
  rw [hhigh, ← hn, pow_add]
  obtain ⟨hfirst, hmiddle, hlast⟩ := parts_of_three (a := stream) (m := 2 ^ 16) hside hdata
  rw [hfirst, hmiddle, hlast, ← hd, beBytes_beNat]
  exact ⟨Nat.mod_eq_of_lt hs, rfl, rfl⟩

/-! ### A stripe that comes (R421) -/

/-- Where no stripe waits for its acknowledgement, an acknowledgement and a NAK act on none. -/
theorem Device.ackStripes_of_none_sent {d : Device} (h : d.join.sentStripes = []) (ack : Nat) : d.ackStripes ack = d := by
  simp [Device.ackStripes, h]

theorem Device.resendStripes_of_none_sent {d : Device} (h : d.join.sentStripes = []) : d.resendStripes = d := by
  simp [Device.resendStripes, h]

/-- Idle codewords and management messages yield no unit (R420, R422). -/
theorem Device.foldl_takeWord_of_no_unit (ws : List Nat) (h : ∀ w ∈ ws, 8 ≤ wordStream w) (d : Device) :
    ws.foldl (fun (d : Device) w => d.takeWord w) d = d := by
  induction ws with
  | nil => rfl
  | cons w ws ih =>
    obtain ⟨hw, hws⟩ := List.forall_mem_cons.mp h
    have htake : d.takeWord w = d := if_pos hw
    rw [List.foldl_cons, htake, ih hws]

/-- The classes that the partner holds, where SIDE names them (R425). -/
def Device.heldBy (d : Device) (h : Option Nat) : Device :=
  match h with
  | some h => d.wr (E.HOLD_ACTIVE 0) (h % 128)
  | none => d

/-- What holds a class is an entry. -/
theorem Device.heldBy_keeps (d : Device) (h : Option Nat) : (d.heldBy h).join = d.join ∧ (d.heldBy h).frames = d.frames ∧
    (d.heldBy h).queued = d.queued := by
  cases h <;> exact ⟨rfl, rfl, rfl⟩

/-- The stripe in its turn is taken with its codewords, any other answered with one NAK (R421). -/
def Device.stripeTaken (d : Device) (x : Stripe) (lanes : List Nat) : Device :=
  let next := (d.join.rxSeq + 1) % 65536
  if stripeDecoded x lanes ∧ stripeSide x lanes 0 = some next then
    let d : Device := { d with join := { d.join with rxSeq := next, nak := false } }
    (stripeWords x lanes).foldl (fun (d : Device) w => d.takeWord w) d
  else if d.join.nak then d
  else ({ d with join := { d.join with nak := true } } : Device).bump64 (E.REPLAYS 1) 1

/-- What the SIDE values of a stripe say acts on the sender's side (R421): the classes held, the acknowledgement, and a NAK. -/
def Device.sideActs (d : Device) (x : Stripe) (lanes : List Nat) : Device :=
  let d := d.heldBy (stripeSide x lanes 3)
  let d := match stripeSide x lanes 1 with
    | some a => d.ackStripes a
    | none => d
  if (stripeSide x lanes 2).elim false (fun v => bit v 15) then d.resendStripes else d

theorem exec_stripeReceived_of_run {s : State} (hr : s.Runs) {x : Stripe} (hrun : s.dev.stripesRun = true) :
    exec (.stripeReceived x) s =
      .next (s.put ((s.dev.sideActs x (s.dev.stripeLanes x)).stripeTaken x (s.dev.stripeLanes x))) := by
  refine (on_runs s _ hr).trans ((next_put_congr (if_neg (by simp [hrun]))).trans ?_)
  rfl

/-- Where no stripe waits for its acknowledgement, SIDE acts on the held classes alone. -/
theorem Device.sideActs_of_none_sent {d : Device} (hsent : d.join.sentStripes = []) (x : Stripe) (lanes : List Nat) :
    d.sideActs x lanes = d.heldBy (stripeSide x lanes 3) := by
  have hheld : (d.heldBy (stripeSide x lanes 3)).join.sentStripes = [] := by rw [(d.heldBy_keeps _).1, hsent]
  unfold Device.sideActs
  cases stripeSide x lanes 1 with
  | none =>
    dsimp only
    rw [Device.resendStripes_of_none_sent hheld, ite_self]
  | some a =>
    dsimp only
    rw [Device.ackStripes_of_none_sent hheld, Device.resendStripes_of_none_sent hheld, ite_self]

end Sys2Proof.Machine
end

section
/-! SUPPORT. Forming, keeping and splitting a join. -/

namespace Sys2Proof.Machine

open Sys2Proof

/-! ### Messages leave the book and what the partner has told (R422, R430) -/

/-- What a member holds of its partner's HELLO and MAP. -/
def Join.met (j : Join) : Option HelloMsg × Nat × Nat × Bool := (j.hello, j.txEpoch, j.naks, j.mapOutstanding)

theorem Device.met_message (d : Device) (op : Nat) (content : List Byte) : (d.message op content).join.met = d.join.met := rfl

/-- A BOOK message goes to the partner: the book stays, and what the partner has told. -/
theorem Device.bookMessage_keeps (d : Device) (kind : Nat) (content : List Byte) :
    (d.bookMessage kind content).bk = d.bk ∧ (d.bookMessage kind content).join.met = d.join.met := by
  unfold Device.bookMessage
  constructor
  · refine Device.foldl_keeps (view := Device.bk) ?_ _ _
    exact fun _ _ => rfl
  · refine Device.foldl_keeps (view := fun d => d.join.met) ?_ _ _
    exact fun e _ => e.met_message 4 _

theorem Device.mirrorOut_keeps (d : Device) : d.mirrorOut.bk = d.bk ∧ d.mirrorOut.join.met = d.join.met := d.bookMessage_keeps 6 _

/-- A map is written into the book, bit by bit. -/
theorem Device.join_foldl_wrBit (xs : List Nat) (a : Nat → Addr) (i : Nat → Nat) (b : Nat → Bool) (d : Device) :
    (xs.foldl (fun (d : Device) k => d.wrBit (a k) (i k) (b k)) d).join = d.join := by
  refine Device.foldl_keeps (view := Device.join) ?_ xs d
  exact fun _ _ => rfl

theorem Device.join_countActive (d : Device) (dir : Nat) : (d.countActive dir).join = d.join :=
  (Device.join_wr _ _ _).trans (d.join_wr _ _)

/-- The receive direction's map in the book as its best lanes make it (R419). -/
def Device.mapDrawn (d : Device) : Device :=
  let ls := d.bestLanes.map d.joinIndex
  ((List.range 256).foldl (fun (d : Device) i => d.wrBit (E.LANE_MAP 1 (i / 32)) (i % 32) (ls.contains i)) d).countActive 1

theorem Device.takeMap_eq (d : Device) (epoch : Nat) : ∃ maps bytes, d.takeMap epoch =
    ({ d.mapDrawn with join := { d.mapDrawn.join with rxEpoch := epoch, rxMaps := maps } } : Device).message 2 bytes :=
  ⟨_, _, rfl⟩

theorem Device.met_takeMap (d : Device) (epoch : Nat) : (d.takeMap epoch).join.met = d.join.met := by
  obtain ⟨maps, bytes, heq⟩ := d.takeMap_eq epoch
  have hdrawn (e : Device) : ({ e with join := { e.join with rxEpoch := epoch, rxMaps := maps } } : Device).join.met =
      e.join.met := rfl
  rw [heq, Device.met_message, hdrawn, Device.mapDrawn, Device.join_countActive, Device.join_foldl_wrBit]

theorem Device.met_identify (d : Device) : d.identify.join.met = d.join.met := by
  unfold Device.identify
  cases d.join.hello with
  | none => rfl
  | some m =>
    dsimp only
    split
    · rw [(Device.mirrorOut_keeps _).2, Device.join_wr]
    · rfl

theorem Device.met_joinProgress (d : Device) : d.joinProgress.join.met = d.join.met := by
  have hmap : (if !d.mapped && d.rd E.MIN_ACTIVE_LANES ≤ d.bestLanes.length then d.takeMap 0 else d).join.met = d.join.met := by
    split
    · exact d.met_takeMap 0
    · rfl
  unfold Device.joinProgress
  by_cases htrains : d.rd E.JOIN_STATE ≠ 1
  · rw [if_pos htrains]
  · rw [if_neg htrains]
    dsimp only
    generalize (if !d.mapped && d.rd E.MIN_ACTIVE_LANES ≤ d.bestLanes.length then d.takeMap 0 else d) = e at hmap ⊢
    split
    · rw [Device.met_identify, Device.met_message, Device.join_wr, hmap]
    · exact hmap

/-! ### HELLO and Mirroring (R435, R482) -/

/-- The device that has taken a HELLO. -/
def Device.greeted (d : Device) (m : HelloMsg) : Device :=
  { (d.wr E.PARTNER_SERIAL m.serial).wr E.PARTNER_STEPPING m.stepping with join := { d.join with hello := some m } }

section
variable {d : Device} {m : HelloMsg}

theorem Device.rd_greeted (a : Addr) : (d.greeted m).rd a =
    if a = E.PARTNER_STEPPING then m.stepping else if a = E.PARTNER_SERIAL then m.serial else d.rd a := by
  have h : (d.greeted m).rd a = ((d.wr E.PARTNER_SERIAL m.serial).wr E.PARTNER_STEPPING m.stepping).rd a := rfl
  rw [h, Device.rd_wr, Device.rd_wr]

theorem Device.partnerFits_greeted : (d.greeted m).partnerFits m = d.partnerFits m := by
  have hkept {a : Addr} (hs : a ≠ E.PARTNER_STEPPING) (hn : a ≠ E.PARTNER_SERIAL) : (d.greeted m).rd a = d.rd a := by
    rw [Device.rd_greeted, if_neg hs, if_neg hn]
  unfold Device.partnerFits
  rw [hkept (by decide) (by decide), hkept (by decide) (by decide), hkept (by decide) (by decide)]

/-- Outside Training nothing progresses. -/
theorem Device.joinProgress_of_not_training (h : d.rd E.JOIN_STATE ≠ 1) : d.joinProgress = d := if_pos h

theorem Device.identify_of_fitting (hh : d.join.hello = some m) (hst : d.rd E.JOIN_STATE = 2) (hfit : d.partnerFits m = true) :
    d.identify = (d.wr E.JOIN_STATE 3).mirrorOut := by
  simp only [Device.identify, hh, hst, hfit, and_self, if_true]

theorem Device.identify_of_unfitting (hh : d.join.hello = some m) (hfit : d.partnerFits m = false) : d.identify = d := by
  simp [Device.identify, hh, hfit]

end

section
variable {s : State} (hr : s.Runs)
include hr

theorem exec_hello_of_disabled (m : HelloMsg) (h : s.dev.rd E.JOIN_ENABLE = 0) : exec (.hello m) s = .next s :=
  on_runs_of_neg hr (by simp [h])

theorem exec_hello_of_enabled (m : HelloMsg) (he : s.dev.rd E.JOIN_ENABLE = 1)
    (hst : s.dev.rd E.JOIN_STATE = 1 ∨ s.dev.rd E.JOIN_STATE = 2) :
    exec (.hello m) s = .next (s.put (s.dev.greeted m).joinProgress.identify) :=
  on_runs_of_pos hr ⟨he, hst⟩

/-- In Identifying HELLO is judged at once. -/
theorem exec_hello_of_identifying (m : HelloMsg) (he : s.dev.rd E.JOIN_ENABLE = 1) (hst : s.dev.rd E.JOIN_STATE = 2) :
    exec (.hello m) s = .next (s.put (if s.dev.partnerFits m then ((s.dev.greeted m).wr E.JOIN_STATE 3).mirrorOut
      else s.dev.greeted m)) := by
  have hstate : (s.dev.greeted m).rd E.JOIN_STATE = 2 := by
    rw [Device.rd_greeted, if_neg (by decide), if_neg (by decide), hst]
  have hhello : (s.dev.greeted m).join.hello = some m := rfl
  have htraining : (s.dev.greeted m).joinProgress = s.dev.greeted m :=
    Device.joinProgress_of_not_training (by rw [hstate]; decide)
  rw [exec_hello_of_enabled hr m he (.inr hst), htraining]
  cases hfit : s.dev.partnerFits m with
  | true => rw [Device.identify_of_fitting hhello hstate (Device.partnerFits_greeted.trans hfit), if_pos rfl]
  | false => rw [Device.identify_of_unfitting hhello (Device.partnerFits_greeted.trans hfit), if_neg Bool.false_ne_true]

theorem exec_joinMirroringEnd_of_other_state (m : MirrorReport) (es : List (Nat × Nat)) (os : List (Nat × List Byte))
    (h : s.dev.rd E.JOIN_STATE ≠ 3) : exec (.joinMirroringEnd m es os) s = .next s :=
  (on_runs s _ hr).trans ((next_put_congr (if_pos h)).trans (congrArg _ (put_dev s hr.2)))

end

/-- What a member takes of the other at the end of Mirroring: the secondary the joint entries and the round, each the partner's own
(R435). -/
def Device.mirrored (d : Device) (m : MirrorReport) (es : List (Nat × Nat)) (os : List (Nat × List Byte)) : Device :=
  (if d.member = 1 then (d.takeJoint es os).wr E.ROUND_COUNT (m.roundCount % 2 ^ 64) else d).takePeer es os

/-- The join is formed: its delays stand, and pace begins (R435, R482). -/
def Device.joinFormed (d : Device) (m : MirrorReport) : Device :=
  let e := ((d.wr E.JOIN_DELAY_PS (m.flightPs % 2 ^ 32)).wr E.PACE_OFFSET_MAX 0).wr E.JOIN_STATE 4
  ({ e with join := { e.join with progress := [], crossRx := 0, rxParts := [], rxNumbers := [], naks := 0, mapOutstanding := false
                                  pinDelayPs := m.roundTripPs / 2 } } : Device).raise Src.JOIN_FORMED 0

theorem exec_joinMirroringEnd_of_mirroring {s : State} (hr : s.Runs) (m : MirrorReport) (es : List (Nat × Nat))
    (os : List (Nat × List Byte)) (h : s.dev.rd E.JOIN_STATE = 3) :
    exec (.joinMirroringEnd m es os) s = .next (s.put ((s.dev.mirrored m es os).joinFormed m)) :=
  (on_runs s _ hr).trans (next_put_congr (if_neg (not_not_intro h)))

theorem Device.roundCount_mirrored (d : Device) (m : MirrorReport) (es : List (Nat × Nat)) (os : List (Nat × List Byte)) :
    (d.mirrored m es os).rd E.ROUND_COUNT = if d.member = 1 then m.roundCount % 2 ^ 64 else d.rd E.ROUND_COUNT := by
  have hpeer (e : Device) : (e.takePeer es os).rd E.ROUND_COUNT = e.rd E.ROUND_COUNT := rfl
  unfold Device.mirrored
  rw [hpeer]
  split
  · exact Device.rd_wr_same _ _ _
  · rfl

theorem Device.rd_joinFormed (d : Device) (m : MirrorReport) {a : Addr} (ha : a < 0xC10000) : (d.joinFormed m).rd a =
    if a = E.JOIN_STATE then 4 else if a = E.PACE_OFFSET_MAX then 0
      else if a = E.JOIN_DELAY_PS then m.flightPs % 2 ^ 32 else d.rd a := by
  have hjoin (e : Device) (j : Join) : ({ e with join := j } : Device).rd a = e.rd a := rfl
  unfold Device.joinFormed
  rw [Device.rd_raise_below _ _ _ ha]
  dsimp only
  rw [hjoin, Device.rd_wr, Device.rd_wr, Device.rd_wr]

theorem Device.join_raise (d : Device) (n v : Nat) : (d.raise n v).join = d.join := (d.untouched_raise n v).join

end Sys2Proof.Machine
end

section
/-! SUPPORT. A join's map, pace and split, and the life of a join. -/

namespace Sys2Proof.Machine

open Sys2Proof

theorem Device.rdBit_wrBit_same (d : Device) (a : Addr) (i : Nat) (b : Bool) : (d.wrBit a i b).rdBit a i = b := by
  rw [Device.rdBit, Device.wrBit, Device.wrBits, Device.rd_wr_same]
  exact (testBit_setBit (d.rd a) i i b).trans (if_pos rfl)

/-! ### The partner's map (R436) -/

/-- The transmit direction's map in the book as the partner's MAP names it. -/
def Device.mapNamed (d : Device) (lanes : List Nat) : Device :=
  ((List.range 256).foldl (fun (d : Device) i => d.wrBit (E.LANE_MAP 0 (i / 32)) (i % 32) (lanes.contains i)) d).countActive 0

/-- The device that has taken a MAP. -/
def Device.mapHeard (d : Device) (m : MapMsg) : Device :=
  let before := (List.range 256).filter (fun i => bit (d.rd (E.LANE_MAP 0 (i / 32))) (i % 32))
  let lanes := m.lanes.filter (fun i => i < d.rd E.JOIN_WIDTH)
  let e := d.mapNamed lanes
  let e : Device := { e with join := { e.join with txEpoch := m.epoch % 256, naks := 0, mapOutstanding := true } }
  if narrows before lanes then (e.bumpSat (E.NARROWINGS 0) 1).raise Src.JOIN_NARROWED 0 else e

theorem exec_map_of_run {s : State} (hr : s.Runs) (m : MapMsg) (hrun : s.dev.stripesRun = true) : exec (.map m) s = .next (s.put
    (if (s.dev.mapHeard m).joined ∧ (s.dev.mapHeard m).rd (E.ACTIVE_LANES 0) < (s.dev.mapHeard m).rd E.MIN_ACTIVE_LANES then
      (s.dev.mapHeard m).split 1 else (s.dev.mapHeard m).joinProgress)) :=
  (on_runs s _ hr).trans (next_put_congr (if_neg (by simp [hrun])))

theorem exec_map_of_no_stripes {s : State} (hr : s.Runs) (m : MapMsg) (hrun : s.dev.stripesRun = false) :
    exec (.map m) s = .next s :=
  (on_runs s _ hr).trans ((next_put_congr (if_pos (by simp [hrun]))).trans (congrArg _ (put_dev s hr.2)))

theorem Device.join_mapNamed (d : Device) (lanes : List Nat) : (d.mapNamed lanes).join = d.join := by
  rw [Device.mapNamed, Device.join_countActive, Device.join_foldl_wrBit]

theorem E.laneMap_ne_joinState (dir i : Nat) : E.LANE_MAP dir i ≠ E.JOIN_STATE := by
  have h : (0xB110 + dir) * 256 + (0x02 + i) ≠ 0xB100 * 256 + 4 := by omega
  exact h

theorem Device.joined_mapNamed (d : Device) (lanes : List Nat) : (d.mapNamed lanes).joined = d.joined := by
  unfold Device.mapNamed Device.countActive
  rw [Device.joined_wr _ _ (by decide), Device.joined_wr _ _ (by decide)]
  refine Device.foldl_keeps (view := Device.joined) ?_ _ _
  exact fun e i => e.joined_wr _ (E.laneMap_ne_joinState 0 (i / 32))

/-- MAP leaves the join as it is formed, with the partner's epoch outstanding. -/
theorem Device.mapHeard_keeps (d : Device) (m : MapMsg) : (d.mapHeard m).joined = d.joined ∧
    (d.mapHeard m).join.met = (d.join.hello, m.epoch % 256, 0, true) := by
  have hjoined (e : Device) (j : Join) : ({ e with join := j } : Device).joined = e.joined := rfl
  unfold Device.mapHeard
  dsimp only
  split
  · rw [Device.joined_raise, Device.bumpSat, Device.joined_wr _ _ (by decide), hjoined, Device.joined_mapNamed, Device.join_raise,
      Device.join_wr, Device.join_mapNamed]
    exact ⟨rfl, rfl⟩
  · rw [hjoined, Device.joined_mapNamed, Device.join_mapNamed]
    exact ⟨rfl, rfl⟩

/-! ### Pace (R432, R433) -/

section
variable {s : State} (hr : s.Runs)
include hr

section
variable (hj : s.dev.joined = true)
include hj

theorem exec_pacePlan_of_joined (m : PacePlanMsg) : exec (.pacePlan m) s =
    .next (s.put { s.dev with join := { s.dev.join with partnerPlan := some (m.epoch, m.op, m.skips) } }) :=
  on_runs_of_pos hr hj

theorem exec_boundaryMark_of_joined (t : MarkTime) : exec (.paceInMark (.boundary t)) s =
    .next (s.put (if s.dev.member = 1 then s.dev.followTime t else s.dev).paceMark) :=
  (on_runs s _ hr).trans (next_put_congr (if_neg (by simp [hj])))

theorem exec_droopMark_of_joined (n : Nat) : exec (.paceInMark (.droop n)) s =
    .next (s.put { s.dev with join := { s.dev.join with burstLeft := max s.dev.join.burstLeft n } }) :=
  (on_runs s _ hr).trans (next_put_congr (if_neg (by simp [hj])))

end
end

/-- A secondary's time has the primary's rate and validity (R433). -/
theorem Device.followTime_rate (d : Device) (t : MarkTime) : (d.followTime t).rd E.TIME_RATE = t.rate ∧
    (d.followTime t).rdBit E.TIME_STATUS 0 = t.valid := by
  refine ⟨?_, Device.rdBit_wrBit_same _ _ _ _⟩
  unfold Device.followTime Device.wrBit Device.wrBits
  dsimp only
  rw [Device.rd_wr_ne _ _ _ _ (by decide), Device.rd_wr_same]

/-! ### Split (R437) -/

/-- What a message and its stripe leave: the queues and the mode. -/
def Device.carried (d : Device) : List Copy × Mode := (d.queued, d.mode)

theorem Device.carried_laneBlock (d : Device) (l : Nat) (ws : List Nat) : (d.laneBlock l ws).carried = d.carried := by
  have hsend (bs : List Bool) : (d.laneSend l bs).1.carried = d.carried := by
    unfold Device.laneSend
    split <;> rfl
  unfold Device.laneBlock
  split
  · exact hsend _
  · rfl

theorem Device.carried_putStripe (d : Device) (content : List (Nat × List Byte)) : (d.putStripe content).carried = d.carried := by
  have hblocks {α : Type} (l : α → Nat) (ws : α → List Nat) (xs : List α) (e : Device) :
      (xs.foldl (fun (d : Device) x => d.laneBlock (l x) (ws x)) e).carried = e.carried :=
    Device.foldl_keeps (view := Device.carried) (fun e x => e.carried_laneBlock (l x) (ws x)) xs e
  have hjoin (e : Device) (j : Join) : ({ e with join := j } : Device).carried = e.carried := rfl
  unfold Device.putStripe
  dsimp only
  rw [hjoin, hblocks, hblocks]
  rfl

theorem Device.carried_sendLeave (d : Device) (cause : Nat) : (d.sendLeave cause).carried = d.carried := by
  unfold Device.sendLeave
  dsimp only
  split
  · rfl
  · rw [Device.carried_putStripe]
    rfl

/-- The join's state and the counts of a split. -/
def Device.splitNoted (d : Device) (cause : Nat) : Device :=
  (((d.wr E.JOIN_STATE 5).bumpSat E.SPLITS 1).wr E.SPLIT_CAUSE cause).raise Src.JOIN_SPLIT 0

theorem Device.carried_raise (d : Device) (n v : Nat) : (d.raise n v).carried = d.carried := by
  obtain ⟨-, -, -, hqueued, -, -, hmode, -⟩ := d.raise_keeps n v
  exact Prod.ext hqueued hmode

theorem Device.carried_wr (d : Device) (a v : Nat) : (d.wr a v).carried = d.carried := rfl

theorem Device.carried_splitNoted (d : Device) (cause : Nat) : (d.splitNoted cause).carried = d.carried := by
  rw [Device.splitNoted, Device.carried_raise, Device.carried_wr, Device.bumpSat, Device.carried_wr, Device.carried_wr]

/-- What a join forgets as it splits. -/
def Join.forgot (j : Join) : Join :=
  { j with sentStripes := [], progress := [], rxParts := [], rxNumbers := [], partnerPlan := none, outbox := [], burstLeft := 0
           paceSkips := 0, markSkips := 0, markNext := 0, armFlip := none, go := false, acked := false }

theorem Device.split_of_not_joined {d : Device} (h : d.joined = false) (cause : Nat) : d.split cause = d :=
  if_neg (by simp [h])

/-- With nothing queued and outside Joined Run, a split names its cause and forgets what crossed. -/
theorem Device.split_of_empty {d : Device} (cause : Nat) (hj : d.joined = true) (hq : d.queued = []) (hm : d.mode ≠ .joinedRun) :
    ∃ e : Device, e.carried = d.carried ∧ d.split cause =
      { (e.splitNoted cause).bump64 E.CROSS_LOST 0 with join := (e.splitNoted cause).join.forgot } := by
  have hleave : (if cause = 4 then d else d.sendLeave cause).carried = d.carried := by
    split
    · rfl
    · exact d.carried_sendLeave cause
  refine ⟨_, hleave, ?_⟩
  unfold Device.split
  rw [if_pos hj]
  generalize (if cause = 4 then d else d.sendLeave cause) = e at hleave ⊢
  have hnoted := (e.carried_splitNoted cause).trans hleave
  have hqueued : (e.splitNoted cause).queued = [] := (congrArg Prod.fst hnoted).trans hq
  have hmode : (e.splitNoted cause).mode ≠ .joinedRun := fun h => hm ((congrArg Prod.snd hnoted).symm.trans h)
  unfold Device.splitNoted at hqueued hmode ⊢
  dsimp only
  rw [hqueued, List.filter_nil, List.foldl_nil]
  exact if_neg hmode

/-- A split's state and cause stand in the book. -/
theorem Device.split_state {d : Device} (cause : Nat) (hj : d.joined = true) (hq : d.queued = []) (hm : d.mode ≠ .joinedRun) :
    (d.split cause).rd E.JOIN_STATE = 5 ∧ (d.split cause).rd E.SPLIT_CAUSE = cause ∧ (d.split cause).join.sentStripes = [] ∧
      (d.split cause).mode = d.mode := by
  obtain ⟨e, hcarried, heq⟩ := Device.split_of_empty cause hj hq hm
  have hrd (a : Addr) (hlost : a ≠ E.CROSS_LOST) (hlow : a < 0xC10000) :
      (d.split cause).rd a = (((e.wr E.JOIN_STATE 5).bumpSat E.SPLITS 1).wr E.SPLIT_CAUSE cause).rd a := by
    have hjoin (x : Device) (j : Join) : ({ x with join := j } : Device).rd a = x.rd a := rfl
    rw [heq, hjoin, Device.bump64, Device.rd_bump, if_neg hlost, Device.splitNoted, Device.rd_raise_below _ _ _ hlow]
  refine ⟨?_, ?_, ?_, ?_⟩
  · rw [hrd _ (by decide) (by decide), Device.rd_wr_ne _ _ _ _ (by decide), Device.rd_bumpSat, if_neg (by decide), Device.rd_wr_same]
  · rw [hrd _ (by decide) (by decide), Device.rd_wr_same]
  · rw [heq]
    rfl
  · rw [heq]
    exact congrArg Prod.snd ((e.carried_splitNoted cause).trans hcarried)

theorem exec_leave_eq {s : State} (hr : s.Runs) : exec .leave s = .next (s.put (s.dev.split 4)) := on_runs s _ hr

/-! ### A stripe in its turn, and one that is not (R421) -/

theorem exec_stripeReceived_of_no_stripes {s : State} (hr : s.Runs) (x : Stripe) (hrun : s.dev.stripesRun = false) :
    exec (.stripeReceived x) s = .next s :=
  (on_runs s _ hr).trans ((next_put_congr (if_pos (by simp [hrun]))).trans (congrArg _ (put_dev s hr.2)))

theorem Device.stripeTaken_of_turn {d : Device} {x : Stripe} {lanes : List Nat} (hdec : stripeDecoded x lanes = true)
    (hseq : stripeSide x lanes 0 = some ((d.join.rxSeq + 1) % 65536)) (hidle : ∀ w ∈ stripeWords x lanes, 8 ≤ wordStream w) :
    d.stripeTaken x lanes = { d with join := { d.join with rxSeq := (d.join.rxSeq + 1) % 65536, nak := false } } :=
  (if_pos ⟨hdec, hseq⟩).trans (Device.foldl_takeWord_of_no_unit _ hidle _)

theorem Device.stripeTaken_of_fault {d : Device} {x : Stripe} {lanes : List Nat} (hnak : d.join.nak = false)
    (h : stripeDecoded x lanes = false ∨ stripeSide x lanes 0 ≠ some ((d.join.rxSeq + 1) % 65536)) :
    d.stripeTaken x lanes = ({ d with join := { d.join with nak := true } } : Device).bump64 (E.REPLAYS 1) 1 := by
  refine (if_neg ?_).trans (if_neg (by simp [hnak]))
  rintro ⟨hdec, hseq⟩
  obtain h | h := h
  · simp [hdec] at h
  · exact h hseq

/-- Settles O56: message by message, each from the state in which it is due. The time that a mark brings is log entry 217, the pins'
delay as half the round trip of the command log entry 34, JOIN_DELAY_PS as the flight time that the command brings R435's (log entry
126 calls it a free value), and a message that is not due changes nothing (log entry 7): the model's choices. -/
theorem joinFormedAndKept : Obligations.JoinFormedAndKept := by
  unfold Obligations.JoinFormedAndKept
  intro s hr d
  refine ⟨fun m => exec_hello_of_disabled hr m, fun m he hst => ⟨_, exec_hello_of_enabled hr m he (.inl hst), ?trained⟩,
    fun m he hst hfit => ⟨_, (exec_hello_of_identifying hr m he hst).trans (next_put_congr (if_pos hfit)), ?fits⟩,
    fun m he hst hfit =>
      ⟨_, (exec_hello_of_identifying hr m he hst).trans (next_put_congr (if_neg (Bool.eq_false_iff.mp hfit))), ?unfits⟩,
    fun m es os hst => ⟨_, exec_joinMirroringEnd_of_mirroring hr m es os hst, ?formed⟩,
    exec_joinMirroringEnd_of_other_state hr, fun m hrun hj => ?map, exec_map_of_no_stripes hr,
    fun m hj => exec_pacePlan_of_joined hr hj m,
    fun t hj hm => (exec_boundaryMark_of_joined hr hj t).trans (next_put_congr (by rw [if_neg (by rw [hm]; decide)])),
    fun t hj hm => ⟨(exec_boundaryMark_of_joined hr hj t).trans (next_put_congr (by rw [if_pos hm])), d.followTime_rate t⟩,
    fun n hj => exec_droopMark_of_joined hr hj n, fun x hrun hsent => ?turn, fun x hrun hsent hnak => ?fault,
    fun stream side data => joinWord_decodes, exec_stripeReceived_of_no_stripes hr, fun h => on_runs_of_pos hr h,
    fun hj => exec_leave_eq hr, fun hj => ?notJoined, fun cause => Device.split_state cause⟩
  case trained =>
    exact congrArg Prod.fst ((Device.met_identify _).trans (Device.met_joinProgress _))
  case fits =>
    have hrd (a : Addr) : ((d.greeted m).wr E.JOIN_STATE 3).mirrorOut.rd a = ((d.greeted m).wr E.JOIN_STATE 3).rd a :=
      Device.rd_of_bk_eq (Device.mirrorOut_keeps _).1 a
    refine ⟨(hrd _).trans (Device.rd_wr_same _ _ _), (hrd _).trans ?_, (hrd _).trans ?_⟩
    · rw [Device.rd_wr_ne _ _ _ _ (by decide), Device.rd_greeted, if_neg (by decide), if_pos rfl]
    · rw [Device.rd_wr_ne _ _ _ _ (by decide), Device.rd_greeted, if_pos rfl]
  case unfits =>
    have hrd (a : Addr) := Device.rd_greeted (d := d) (m := m) a
    refine ⟨(hrd _).trans ?_, (hrd _).trans ?_, rfl⟩
    · rw [if_neg (by decide), if_neg (by decide), hst]
    · rw [if_neg (by decide), if_pos rfl]
  case formed =>
    have hrd {a : Addr} (ha : a < 0xC10000) := (d.mirrored m es os).rd_joinFormed m ha
    refine ⟨(hrd (by decide)).trans (if_pos rfl), (hrd (by decide)).trans ?_, (hrd (by decide)).trans ?_,
      congrArg Join.pinDelayPs (Device.join_raise _ _ _), (hrd (by decide)).trans ?_⟩
    · rw [if_neg (by decide), if_pos rfl]
    · rw [if_neg (by decide), if_neg (by decide), if_pos rfl]
    · rw [if_neg (by decide), if_neg (by decide), if_neg (by decide), Device.roundCount_mirrored]
  case map =>
    obtain ⟨hjoined, hmet⟩ := d.mapHeard_keeps m
    have hend := (Device.met_joinProgress (d.mapHeard m)).trans hmet
    refine ⟨_, (exec_map_of_run hr m hrun).trans (next_put_congr (if_neg fun h => ?_)), congrArg (fun x => x.2.2.1) hend,
      congrArg (fun x => x.2.1) hend, congrArg (fun x => x.2.2.2) hend⟩
    exact Bool.false_ne_true (hj.symm.trans (hjoined.symm.trans h.1))
  case turn =>
    intro lanes hdec hseq hidle
    obtain ⟨hjoin, hframes, hqueued⟩ := d.heldBy_keeps (stripeSide x lanes 3)
    have htaken := Device.stripeTaken_of_turn (d := d.heldBy (stripeSide x lanes 3)) hdec (hseq.trans (by rw [hjoin])) hidle
    rw [← Device.sideActs_of_none_sent hsent] at htaken
    refine ⟨_, (exec_stripeReceived_of_run hr hrun).trans (next_put_congr htaken), ?_, rfl, fun h hside => ?_, ?_, ?_⟩
    all_goals rw [Device.sideActs_of_none_sent hsent]
    · exact congrArg (fun j : Join => (j.rxSeq + 1) % 65536) hjoin
    · rw [hside]
      exact Device.rd_wr_same _ _ _
    · exact hframes
    · exact hqueued
  case fault =>
    intro lanes h
    obtain ⟨hjoin, hframes, -⟩ := d.heldBy_keeps (stripeSide x lanes 3)
    have hnaked := Device.stripeTaken_of_fault (d := d.heldBy (stripeSide x lanes 3)) (by rw [hjoin, hnak]) (by rwa [hjoin])
    rw [← Device.sideActs_of_none_sent hsent] at hnaked
    refine ⟨_, (exec_stripeReceived_of_run hr hrun).trans (next_put_congr hnaked), rfl, ?_, ?_⟩
    all_goals rw [Device.sideActs_of_none_sent hsent]
    · exact (congrArg Join.rxSeq hjoin :)
    · exact hframes
  case notJoined =>
    exact (exec_leave_eq hr).trans (by rw [Device.split_of_not_joined hj, put_dev s hr.2])

end Sys2Proof.Machine
end

section
/-! SUPPORT. What reset leaves, the actions that set the disposition, and what a read of an entry returns. -/

namespace Sys2Proof.Machine

open Sys2Proof

/-- Settles O4: nothing is listed in any map of the entries or of the objects, so each reads its default (log entry 4), and the
mode is the one that log entry 5 names. -/
theorem resetState : Obligations.ResetState := by
  unfold Obligations.ResetState
  intro s
  have hvintage : s.dev.rd E.VINTAGE_CURRENT = 0 := by decide
  have hparity : s.dev.parity = 0 := by rw [Device.parity, Device.vintage, hvintage]
  exact ⟨rfl, ⟨rfl, rfl⟩, rfl, rfl, hvintage, hparity, fun _ => ⟨rfl, rfl, rfl⟩, fun _ => rfl, rfl, rfl, rfl, rfl, rfl, rfl, rfl⟩

/-! ### The actions that set the disposition (R198) -/

section
variable {s : State} {h : Nat} {x : Header} {a : ActArgs} (hr : s.Runs) (hx : s.dev.header? h = some x) (ht : actTaken x a = true)
include hr hx ht

theorem exec_forward_of_taken : exec (.forward h a) s = .next (s.put (s.dev.actForward x (actValue x.p a))) :=
  act_of_action hr hx (action_taken s.dev x 0x01 a ht)

theorem exec_mcast_of_taken : exec (.mcast h a) s = .next (s.put (s.dev.actMcast x (actValue x.p a))) :=
  act_of_action hr hx (action_taken s.dev x 0x02 a ht)

theorem exec_trap_of_taken : exec (.trap h a) s = .next (s.put (s.dev.actTrap x (actValue x.p a))) :=
  act_of_action hr hx (action_taken s.dev x 0x03 a ht)

theorem exec_discard_of_taken : exec (.discard h a) s = .next (s.put (s.dev.actDiscard x (actValue x.p a))) :=
  act_of_action hr hx (action_taken s.dev x 0x04 a ht)

theorem exec_recirc_of_taken : exec (.recirc h a) s = .next (s.put (s.dev.actRecirc x)) :=
  act_of_action hr hx (action_taken s.dev x 0x05 a ht)

end

/-- An ingress pass takes a disposition. -/
theorem Device.setDisp_of_ingress (d : Device) {x : Header} (hi : x.egress = false) (z : Disp) :
    d.setDisp x z = d.modPass x.id (fun p => { p with disp := z }) := by
  simp [Device.setDisp, hi]

/-- Outside an Assemblage a local port goes by its own number (R427). -/
theorem Device.localPort_of_not_joined {d : Device} (hj : d.joined = false) (p : Nat) :
    d.localPort p = if p < 512 then some p else none := by
  simp [Device.localPort, hj]

theorem Device.isTarget_iff_of_not_joined {d : Device} (hj : d.joined = false) (q p : Nat) :
    d.isTarget q p = true ↔ (p < 512 ∧ d.rdp q (E.PORT_WIDTH p) ≠ 0) ∨ p = 0x840 := by
  rw [Device.isTarget, d.localPort_of_not_joined hj]
  by_cases hp : p < 512 <;> simp [hp, hj, or_comm]

theorem trapReason_eq (v : Nat) : max 16 (bits v 0 8) = if v % 256 < 16 then 16 else v % 256 := by
  have hb : bits v 0 8 = v % 256 := bits_zero v 8
  rw [hb]
  split <;> omega

/-- Settles O9: each action by the disposition that it sets, with its operand's fields as remainders of the slot's value. -/
theorem dispositionActions : Obligations.DispositionActions := by
  unfold Obligations.DispositionActions
  refine ⟨fun s h x a hr hx ht => ?actions, fun d q p hj => d.isTarget_iff_of_not_joined hj q p⟩
  case actions =>
    obtain rfl := header_id hx
    refine ⟨fun hi => ⟨?_, ?_, ?_, ?_⟩, ?_⟩
    · rw [exec_forward_of_taken hr hx ht, Device.actForward, Device.setDisp_of_ingress _ hi, bits_zero]
      rfl
    · rw [exec_mcast_of_taken hr hx ht, Device.actMcast, Device.setDisp_of_ingress _ hi, bits_zero]
      rfl
    · rw [exec_trap_of_taken hr hx ht, Device.actTrap, Device.setDisp_of_ingress _ hi, trapReason_eq]
      rfl
    · rw [exec_recirc_of_taken hr hx ht, Device.actRecirc, Device.setDisp_of_ingress _ hi]
    · rw [exec_discard_of_taken hr hx ht, Device.actDiscard, bits_zero]
      rfl

/-! ### What a read returns (R43) -/

section
variable {d : Device} {a : Addr} {r : Row} (hr : findRow a = some r)
include hr

theorem Device.value_of_rwv (h : r.acc = .rwv) (current : Bool) : d.value a current = if current then d.cur a else d.rd a := by
  simp only [Device.value, hr, h]

theorem Device.value_of_wo (h : r.acc = .wo) (current : Bool) : d.value a current = 0 := by
  simp only [Device.value, hr, h]

/-- Every other entry follows the state, or holds a value of its own. -/
theorem Device.value_of_other (hv : r.acc ≠ .rwv) (hw : r.acc ≠ .wo) (current : Bool) :
    d.value a current = (d.live a).getD (d.rd a) := by
  simp only [Device.value, hr]

variable {p : Nat}

/-- No access code forbids a read. -/
theorem Device.accessCode_read : d.accessCode p a false = if d.permits p a false then Res.OK else Res.PRINCIPAL := by
  simp only [Device.accessCode, hr, Bool.false_and, Bool.false_eq_true, if_false]
  cases d.permits p a false <;> rfl

theorem Device.readEntry_of_permits (hp : d.permits p a false = true) (hty : r.ty ≠ .domain) (hm : isMeasured a = false)
    (current little : Bool) :
    d.readEntry p a current little = (Res.OK, r.ty.code, valueBytes r.ty little (d.value a current), d) := by
  simp [Device.readEntry, Device.accessCode_read hr, hp, hr, hty, hm]

theorem Device.readEntry_of_not_permits (hp : d.permits p a false = false) (current little : Bool) :
    d.readEntry p a current little = (Res.PRINCIPAL, 0, [], d) := by
  have hne : Res.PRINCIPAL ≠ Res.OK := by decide
  simp [Device.readEntry, Device.accessCode_read hr, hp, hne]

end

theorem Device.frameOperation_of_read (d : Device) {f : TendrilFrame} (h : hdrOp f.header = 1) : d.frameOperation f =
    d.readEntry (2 + hdrCtrl f.header) (hdrAddr f.header) (hdrCurrent f.header) false := by
  simp only [Device.frameOperation, h]

theorem Device.mailboxOperation_of_read (d : Device) {q : Doorbell} (h : q.request % 256 = 1) : d.mailboxOperation q =
    let x := d.readEntry (mailboxPrincipal q.mailbox) q.addr (q.request.testBit 16) true
    (x.1, x.2.2.1, x.2.2.2) := by
  have hop : bits q.request 0 8 = 1 := (bits_zero _ _).trans h
  simp only [Device.mailboxOperation, hop]
  rfl

/-- Settles O53: an entry's value by its access code, and each path's READ with the vintage selector that its request carries. -/
theorem readsSelectAVintage : Obligations.ReadsSelectAVintage := by
  unfold Obligations.ReadsSelectAVintage
  intro d a r current hr
  exact ⟨fun h => ⟨Device.value_of_rwv hr h false, Device.value_of_rwv hr h true⟩, fun h => Device.value_of_wo hr h current,
    fun hv hw => Device.value_of_other hr hv hw current,
    fun p little hp hty hm => Device.readEntry_of_permits hr hp hty hm current little,
    fun f hf => d.frameOperation_of_read hf, fun q hq => d.mailboxOperation_of_read hq,
    fun p little hp => Device.readEntry_of_not_permits hr hp current little⟩

end Sys2Proof.Machine
end

section
/-! SUPPORT. Vintages: the copy sweep, and the discard of staging values. -/

namespace Sys2Proof.Machine

open Sys2Proof

/-! ### The copy sweep (R57) -/

/-- An entry that a sweep leaves is valid in both parities or in neither. -/
theorem sweepEntries_valid_eq {es : List TableEntry} {q : Nat} {e : TableEntry} (h : e ∈ sweepEntries es q) : e.v0 = e.v1 := by
  obtain ⟨hmem, -⟩ := List.mem_filter.mp h
  obtain ⟨x, -, rfl⟩ := List.mem_map.mp hmem
  rcases Nat.mod_two_eq_zero_or_one q with hq | hq
  · simp [TableEntry.setValid, TableEntry.valid, hq, show (q + 1) % 2 ≠ 0 by omega]
  · simp [TableEntry.setValid, TableEntry.valid, hq, show (q + 1) % 2 = 0 by omega]

section
variable (d : Device)

/-- The tables after a sweep from the copy of parity `q`. -/
def Stores.swept (x : Stores) (q : Nat) : Stores :=
  { exact := sweepEntries x.exact q, lpm := sweepEntries x.lpm q, mask := sweepEntries x.mask q, care := sweepEntries x.care q }

/-- The entries' values, their copies, and those of the objects. -/
def Device.copies (d : Device) : SMap × SMap × SMap × BMap × BMap := (d.bk, d.p0, d.p1, d.objs0, d.objs1)

theorem Device.copies_setEntries (k : Nat) (es : List TableEntry) : (d.setEntries k es).copies = d.copies := by
  unfold Device.setEntries Device.setStore
  split <;> rfl

theorem Device.stores_setEntries (k : Nat) (es : List TableEntry) : (d.setEntries k es).stores = d.stores.set k es := by
  unfold Device.setEntries Device.setStore
  split <;> rfl

/-- The sweep of the tables from the copy of parity `q`. -/
def Device.sweepTables (q : Nat) : Device :=
  (List.range 4).foldl (fun (e : Device) k => e.setEntries k (sweepEntries (e.stores.get k) q)) d

theorem Device.sweepCopies_eq : d.sweepCopies = (d.sweepTables d.parity).alignCopies := rfl

theorem Device.copies_sweepTables (q : Nat) : (d.sweepTables q).copies = d.copies :=
  Device.foldl_keeps (view := Device.copies) (fun e k => e.copies_setEntries k _) _ d

theorem Device.stores_sweepTables (q : Nat) : (d.sweepTables q).stores = d.stores.swept q := by
  simp only [Device.sweepTables, show List.range 4 = [0, 1, 2, 3] from rfl, List.foldl_cons, List.foldl_nil,
    Device.stores_setEntries]
  rfl

theorem Device.alignCopies_stores : d.alignCopies.stores = d.stores := by
  unfold Device.alignCopies; split <;> rfl

/-- Both copies hold afterwards what the current one held. -/
theorem Device.alignCopies_copies :
    (∀ a, d.alignCopies.rdp 0 a = d.cur a ∧ d.alignCopies.rdp 1 a = d.cur a) ∧
      (∀ a, d.alignCopies.objp 0 a = d.curObj a ∧ d.alignCopies.objp 1 a = d.curObj a) ∧ d.alignCopies.bk = d.bk := by
  unfold Device.alignCopies
  split
  next h => simp [Device.rdp, Device.cur, Device.objp, Device.curObj, h]
  next h =>
    have h1 : d.parity % 2 = 1 := by unfold Device.parity at h ⊢; omega
    simp [Device.rdp, Device.cur, Device.objp, Device.curObj, h1]

theorem Device.sweepCopies_copies :
    (∀ a, d.sweepCopies.rdp 0 a = d.cur a ∧ d.sweepCopies.rdp 1 a = d.cur a) ∧
      (∀ a, d.sweepCopies.objp 0 a = d.curObj a ∧ d.sweepCopies.objp 1 a = d.curObj a) ∧ d.sweepCopies.bk = d.bk := by
  have h := d.copies_sweepTables d.parity
  simp only [Device.copies, Prod.mk.injEq] at h
  obtain ⟨hbk, hp0, hp1, hobjs0, hobjs1⟩ := h
  have hparity : (d.sweepTables d.parity).parity = d.parity := congrArg (· % 2) (Device.rd_of_bk_eq hbk E.VINTAGE_CURRENT)
  have hcur (a : Addr) : (d.sweepTables d.parity).cur a = d.cur a := by
    rw [Device.cur, hparity, Device.rdp, hp0, hp1]
    rfl
  have hcurObj (a : Addr) : (d.sweepTables d.parity).curObj a = d.curObj a := by
    rw [Device.curObj, hparity, Device.objp, hobjs0, hobjs1]
    rfl
  obtain ⟨hrdp, hobjp, halign⟩ := (d.sweepTables d.parity).alignCopies_copies
  rw [d.sweepCopies_eq]
  exact ⟨fun a => hcur a ▸ hrdp a, fun a => hcurObj a ▸ hobjp a, halign.trans hbk⟩

theorem Device.stores_sweepCopies : d.sweepCopies.stores = d.stores.swept d.parity := by
  rw [d.sweepCopies_eq, Device.alignCopies_stores, Device.stores_sweepTables]

theorem Stores.swept_valid_eq (x : Stores) {q k : Nat} {e : TableEntry} (h : e ∈ (x.swept q).get k) : e.v0 = e.v1 := by
  unfold Stores.get at h
  split at h <;> exact sweepEntries_valid_eq h

end

theorem exec_copySweepEnd_of_sweeping {s : State} (hr : s.Runs) (h : s.dev.sweeping = true) : exec .copySweepEnd s = .next (s.put
    { s.dev.sweepCopies with sweeping := false
                             commit := if s.dev.sweepCopies.commit = .retiring then .idle else s.dev.sweepCopies.commit }) := by
  refine (on_runs s _ hr).trans ?_
  rw [Device.sweepEnd, if_neg (by simp [h])]

/-- Settles O51: the sweep of the tables, then of the copies of entries and objects. -/
theorem sweepEqualsCopies : Obligations.SweepEqualsCopies := by
  unfold Obligations.SweepEqualsCopies
  intro s t hr hs hexec
  rw [exec_copySweepEnd_of_sweeping hr hs] at hexec
  cases hexec
  obtain ⟨hrdp, hobjp, hbk⟩ := s.dev.sweepCopies_copies
  exact ⟨hrdp, hobjp, fun k e _ he => Stores.swept_valid_eq s.dev.stores (s.dev.stores_sweepCopies ▸ he),
    congrArg (· % 2) (Device.rd_of_bk_eq hbk E.VINTAGE_CURRENT)⟩

/-! ### DISCARD_STAGING (R42) -/

theorem SMap.get_filter (m : SMap) (p : Nat → Bool) (d k : Nat) (h : p k = true) :
    SMap.get (m.filter (fun e => p e.1)) d k = SMap.get m d k := by
  induction m with
  | nil => rfl
  | cons e t ih =>
    by_cases hk : e.1 = k
    · simp [hk, h, SMap.get]
    · by_cases hp : p e.1 = true <;> simp [hp, hk, SMap.get, ih]

theorem SMap.get_filter_none (m : SMap) (p : Nat → Bool) (d k : Nat) (h : p k = false) :
    SMap.get (m.filter (fun e => p e.1)) d k = d := by
  induction m with
  | nil => rfl
  | cons e t ih =>
    by_cases hp : p e.1 = true
    · have hk : e.1 ≠ k := fun hk => by rw [hk, h] at hp; cases hp
      simp [hp, hk, SMap.get, ih]
    · simp [hp, ih]

theorem SMap.get_of_lt (m : SMap) (d k : Nat) (h : ∀ e ∈ m, k < e.1) : SMap.get m d k = d := by
  induction m with
  | nil => rfl
  | cons e t ih =>
    have hk : e.1 ≠ k := (h e (List.mem_cons_self ..)).ne'
    rw [SMap.get, if_neg hk, ih (fun x hx => h x (List.mem_cons_of_mem _ hx))]

/-- The entries of a sorted map, written one by one, read as in that map; the others read as before. -/
theorem SMap.get_foldl_ins (c m : SMap) (d k : Nat) (hc : SMap.sorted c = true) :
    SMap.get (c.foldl (fun m e => SMap.ins m e.1 e.2) m) d k = SMap.get c (SMap.get m d k) k := by
  induction c generalizing m with
  | nil => rfl
  | cons e t ih =>
    obtain ⟨hlt, ht⟩ := (SMap.sorted_cons e.1 e.2 t).mp hc
    rw [List.foldl_cons, ih _ ht, SMap.get_ins]
    by_cases hk : k = e.1
    · rw [if_pos hk, SMap.get_of_lt t _ _ (hk ▸ hlt), SMap.get, if_pos hk.symm]
    · rw [if_neg hk, SMap.get, if_neg (Ne.symm hk)]

section
variable (staged copy : SMap) (d : Nat) {a : Addr}

/-- The staging value of an RWV entry is that of the copy afterwards. -/
theorem get_unstage_of_rwv (hc : SMap.sorted copy = true) (h : isRwv a = true) :
    SMap.get (unstage staged copy) d a = SMap.get copy d a := by
  rw [unstage, SMap.get_foldl_ins _ _ _ _ (SMap.sorted_filter _ _ hc), SMap.get_filter copy isRwv _ _ h,
    SMap.get_filter_none staged (fun k => !isRwv k) _ _ (by simp [h])]

/-- Every other entry stays. -/
theorem get_unstage_of_not_rwv (hc : SMap.sorted copy = true) (h : isRwv a = false) :
    SMap.get (unstage staged copy) d a = SMap.get staged d a := by
  rw [unstage, SMap.get_foldl_ins _ _ _ _ (SMap.sorted_filter _ _ hc), SMap.get_filter_none copy isRwv _ _ h,
    SMap.get_filter staged (fun k => !isRwv k) _ _ (by simp [h])]

end

section
variable {d : Device} {a : Addr} (h0 : SMap.sorted d.p0 = true) (h1 : SMap.sorted d.p1 = true)

theorem Device.parity_eq_one_of_ne_zero {d : Device} (h : d.parity ≠ 0) : d.parity = 1 := by
  unfold Device.parity at h ⊢
  omega

theorem Device.currentCopy_get (d : Device) (a : Addr) :
    SMap.get (if d.parity = 0 then d.p0 else d.p1) (defaultOf a) a = d.cur a := by
  rw [Device.cur, Device.rdp]
  by_cases h : d.parity = 0
  · rw [if_pos h, h, if_pos rfl]
  · rw [if_neg h, Device.parity_eq_one_of_ne_zero h, if_neg (by decide)]

include h0 h1

theorem Device.currentCopy_sorted : SMap.sorted (if d.parity = 0 then d.p0 else d.p1) = true := by
  split
  · exact h0
  · exact h1

theorem Device.rd_discardStaging_of_rwv (h : isRwv a = true) : d.discardStaging.rd a = d.cur a :=
  (get_unstage_of_rwv d.bk _ _ (Device.currentCopy_sorted h0 h1) h).trans (d.currentCopy_get a)

theorem Device.rd_discardStaging_of_not_rwv (h : isRwv a = false) : d.discardStaging.rd a = d.rd a :=
  get_unstage_of_not_rwv d.bk _ _ (Device.currentCopy_sorted h0 h1) h

/-- The current vintage, an entry that only the device writes, stays; so does what the copies hold. -/
theorem Device.cur_discardStaging (a : Addr) : d.discardStaging.cur a = d.cur a := by
  have hparity : d.discardStaging.parity = d.parity :=
    congrArg (· % 2) (Device.rd_discardStaging_of_not_rwv h0 h1 (a := E.VINTAGE_CURRENT) (by decide))
  rw [Device.cur, hparity]
  rfl

end

theorem exists_row_of_isRwv {a : Addr} (h : isRwv a = true) : ∃ r, findRow a = some r ∧ r.acc = .rwv := by
  unfold isRwv at h
  split at h
  next r hr => exact ⟨r, hr, of_decide_eq_true h⟩
  next => cases h

/-- Settles O52: the staging values by the two maps that DISCARD_STAGING joins, and a read by its vintage selector. -/
theorem discardTakesCurrent : Obligations.DiscardTakesCurrent := by
  unfold Obligations.DiscardTakesCurrent
  intro d a h0 h1 e
  refine ⟨fun h => ?_, Device.rd_discardStaging_of_not_rwv h0 h1, rfl, rfl⟩
  have hrd : e.rd a = d.cur a := Device.rd_discardStaging_of_rwv h0 h1 h
  obtain ⟨r, hr, hacc⟩ := exists_row_of_isRwv h
  refine ⟨hrd, ?_⟩
  rw [Device.value_of_rwv hr hacc, Device.value_of_rwv hr hacc]
  exact (Device.cur_discardStaging h0 h1 a).trans hrd.symm

end Sys2Proof.Machine
end

section
/-! SUPPORT. Sequence numbers and keys of the controllers. -/

namespace Sys2Proof.Machine

open Sys2Proof

/-! ### The replay rule (R85) -/

/-- The receive sequence of a controller's key slot. -/
def E.rxSeq (c : Nat) (slotB : Bool) : Addr := if slotB then E.RX_SEQ_B c else E.RX_SEQ_A c

/-- The marks of the sequences that a key slot has accepted, bit i for RX_SEQ - i. -/
def Device.seen (d : Device) (c : Nat) (slotB : Bool) : Nat :=
  if slotB then (d.ctrlSeq.getD c {}).seenB else (d.ctrlSeq.getD c {}).seenA

def Device.markSeen (d : Device) (c : Nat) (slotB : Bool) (v : Nat) : Device :=
  { d with ctrlSeq := modAt d.ctrlSeq c (fun x => if slotB then { x with seenB := v } else { x with seenA := v }) }

theorem Device.seen_markSeen {d : Device} {c : Nat} (hc : c < d.ctrlSeq.length) (slotB : Bool) (v : Nat) :
    (d.markSeen c slotB v).seen c slotB = v := by
  unfold Device.seen Device.markSeen
  rw [modAt_getD_same _ _ _ _ hc]
  cases slotB <;> rfl

theorem Device.seen_wr (d : Device) (a v c : Nat) (slotB : Bool) : (d.wr a v).seen c slotB = d.seen c slotB := rfl

theorem Device.rd_markSeen (d : Device) (c : Nat) (slotB : Bool) (v : Nat) (a : Addr) : (d.markSeen c slotB v).rd a = d.rd a := rfl

/-- The newest sequence is marked as seen. -/
theorem testBit_shiftSeen (seen : Nat) {k : Nat} (hk : k ≠ 0) : (shiftSeen seen k).testBit 0 = true := by
  unfold shiftSeen
  split
  · rfl
  · obtain ⟨n, rfl⟩ := Nat.exists_eq_succ_of_ne_zero hk
    rw [Nat.testBit_mod_two_pow, Nat.testBit_zero, pow_succ', Nat.mul_left_comm]
    simp only [Nat.zero_lt_succ, decide_true, Bool.true_and, decide_eq_true_eq]
    omega

section
variable {d : Device} {c seq : Nat} {slotB : Bool}

theorem Device.acceptSeq_eq (d : Device) (c seq : Nat) (slotB : Bool) : d.acceptSeq c slotB seq =
    if seq = 0 ∨ d.rd (E.rxSeq c slotB) = 0xFFFFFFFF then none
    else if d.rd (E.rxSeq c slotB) < seq then
      some ((d.markSeen c slotB (shiftSeen (d.seen c slotB) (seq - d.rd (E.rxSeq c slotB)))).wr (E.rxSeq c slotB) seq)
    else if seq + 63 < d.rd (E.rxSeq c slotB) ∨ (d.seen c slotB).testBit (d.rd (E.rxSeq c slotB) - seq) = true then none
    else some (d.markSeen c slotB (setBit (d.seen c slotB) (d.rd (E.rxSeq c slotB) - seq) true)) := rfl

theorem Device.acceptSeq_zero : d.acceptSeq c slotB 0 = none := by rw [Device.acceptSeq_eq, if_pos (.inl rfl)]

/-- The last sequence of all ends a key slot. -/
theorem Device.acceptSeq_of_exhausted (h : d.rd (E.rxSeq c slotB) = 0xFFFFFFFF) : d.acceptSeq c slotB seq = none := by
  rw [Device.acceptSeq_eq, if_pos (.inr h)]

theorem Device.acceptSeq_of_greater (h : d.rd (E.rxSeq c slotB) < seq) (hmax : d.rd (E.rxSeq c slotB) ≠ 0xFFFFFFFF) :
    d.acceptSeq c slotB seq = some ((d.markSeen c slotB (shiftSeen (d.seen c slotB) (seq - d.rd (E.rxSeq c slotB)))).wr
      (E.rxSeq c slotB) seq) := by
  rw [Device.acceptSeq_eq, if_neg (not_or_intro (Nat.ne_zero_of_lt h) hmax), if_pos h]

/-- A sequence behind the window, or one that is marked in it, is not accepted. -/
theorem Device.acceptSeq_of_seen (h : seq ≤ d.rd (E.rxSeq c slotB))
    (hs : seq + 63 < d.rd (E.rxSeq c slotB) ∨ (d.seen c slotB).testBit (d.rd (E.rxSeq c slotB) - seq) = true) :
    d.acceptSeq c slotB seq = none := by
  rw [Device.acceptSeq_eq, if_neg (Nat.not_lt.mpr h), if_pos hs, ite_self]

/-- What an accepted sequence leaves: it is the newest, or one of the window that is marked now. -/
theorem Device.acceptSeq_cases {e : Device} (h : d.acceptSeq c slotB seq = some e) :
    (d.rd (E.rxSeq c slotB) < seq ∧
      e = (d.markSeen c slotB (shiftSeen (d.seen c slotB) (seq - d.rd (E.rxSeq c slotB)))).wr (E.rxSeq c slotB) seq) ∨
    (seq ≤ d.rd (E.rxSeq c slotB) ∧
      e = d.markSeen c slotB (setBit (d.seen c slotB) (d.rd (E.rxSeq c slotB) - seq) true)) := by
  rw [Device.acceptSeq_eq] at h
  split at h
  · cases h
  · split at h
    next hlt => exact .inl ⟨hlt, (Option.some.inj h).symm⟩
    next hle =>
      split at h
      · cases h
      · exact .inr ⟨Nat.not_lt.mp hle, (Option.some.inj h).symm⟩

/-- An accepted sequence is not accepted again. -/
theorem Device.acceptSeq_acceptSeq {e : Device} (hc : c < d.ctrlSeq.length) (h : d.acceptSeq c slotB seq = some e) :
    e.acceptSeq c slotB seq = none := by
  rcases Device.acceptSeq_cases h with ⟨hlt, rfl⟩ | ⟨hle, rfl⟩
  · have hrd := (d.markSeen c slotB (shiftSeen (d.seen c slotB) (seq - d.rd (E.rxSeq c slotB)))).rd_wr_same (E.rxSeq c slotB) seq
    refine Device.acceptSeq_of_seen hrd.ge (.inr ?_)
    rw [hrd, Device.seen_wr, Device.seen_markSeen hc, Nat.sub_self]
    exact testBit_shiftSeen _ (by omega)
  · refine Device.acceptSeq_of_seen (by rwa [Device.rd_markSeen]) (.inr ?_)
    rw [Device.rd_markSeen, Device.seen_markSeen hc, testBit_setBit, if_pos rfl]

theorem Device.rd_rxSeq_acceptSeq {e : Device} (h : d.acceptSeq c slotB seq = some e) :
    e.rd (E.rxSeq c slotB) = max (d.rd (E.rxSeq c slotB)) seq := by
  rcases Device.acceptSeq_cases h with ⟨hlt, rfl⟩ | ⟨hle, rfl⟩
  · rw [Device.rd_wr_same, Nat.max_eq_right (Nat.le_of_lt hlt)]
  · rw [Device.rd_markSeen, Nat.max_eq_left hle]

theorem Device.rd_acceptSeq_ne {e : Device} (h : d.acceptSeq c slotB seq = some e) {a : Addr} (ha : a ≠ E.rxSeq c slotB) :
    e.rd a = d.rd a := by
  rcases Device.acceptSeq_cases h with ⟨-, rfl⟩ | ⟨-, rfl⟩
  · rw [Device.rd_wr_ne _ _ _ _ ha, Device.rd_markSeen]
  · rw [Device.rd_markSeen]

end

/-- Settles O42: a sequence is accepted as the newest, or marked in the window, and what is marked is refused. -/
theorem sequencesAcceptedOnce : Obligations.SequencesAcceptedOnce := by
  unfold Obligations.SequencesAcceptedOnce
  intro d e c seq slotB hc hseq rx
  exact ⟨Device.acceptSeq_zero, fun hlt hmax _ => ⟨_, Device.acceptSeq_of_greater hlt hmax, Device.rd_wr_same _ _ _⟩,
    fun h => Device.acceptSeq_of_seen (Nat.le_of_lt (Nat.lt_of_le_of_lt (Nat.le_add_right _ _) h)) (.inl h),
    Device.acceptSeq_of_exhausted,
    fun h => ⟨Device.acceptSeq_acceptSeq hc h, Device.rd_rxSeq_acceptSeq h, fun x hx => Device.rd_acceptSeq_ne h hx⟩⟩

end Sys2Proof.Machine
end

section
/-! SUPPORT. What a write of each entry does: the entries whose write is a request, and those of a plain effect of their own. -/

namespace Sys2Proof.Machine

open Sys2Proof

/-! ### Addresses (R33) -/

theorem indexOf_entry (i : Nat) {s : Nat} (h : s < 256) : indexOf (entry i s) = i := by unfold indexOf entry; omega

theorem subOf_entry (i : Nat) {s : Nat} (h : s < 256) : subOf (entry i s) = s := by unfold subOf entry; omega

/-- Entries of one index with different subindices are different. -/
theorem entry_ne (i : Nat) {s t : Nat} (h : s ≠ t) : entry i s ≠ entry i t := by
  show (i * 256 + s : Nat) ≠ i * 256 + t
  omega

/-! ### Requests -/

/-- An entry whose write is a request, or is refused by a rule of its own, has one of these indices. -/
def requestIndex (i : Nat) : Prop :=
  i = 0x1000 ∨ i = 0x1010 ∨ i = 0x8000 ∨ i = 0x8100 ∨ i = 0xC040 ∨ i = 0xD000 ∨ i = 0xD100 ∨ i = 0x9020 ∨
    (0xA100 ≤ i ∧ i < 0xA500) ∨ (0x2E00 ≤ i ∧ i < 0x2E12)

section
variable (d : Device) (p v : Nat)

theorem Device.requestEffect_of_index {a : Addr} (h : ¬ requestIndex (indexOf a)) : d.requestEffect p a v = none := by
  have hne (b : Addr) (i : Nat) (hi : indexOf a ≠ i) (hb : indexOf b = i) : (a = b) = False :=
    eq_false (fun hab => hi ((congrArg indexOf hab).trans hb))
  unfold requestIndex at h
  simp only [not_or] at h
  obtain ⟨h1000, h1010, h8000, h8100, hC040, hD000, hD100, h9020, hchannel, hbus⟩ := h
  simp only [Device.requestEffect, hne E.MODE_REQUEST _ h1000 rfl, hne E.ENABLE _ h1000 rfl, hne E.COMMIT _ h1010 rfl,
    hne E.DISCARD_STAGING _ h1010 rfl, hne E.CLEAR _ h8100 rfl, hne E.TIME_STEP_NS _ h8000 rfl, hne E.PPS_SECONDS _ h8000 rfl,
    hne E.TIME_RATE _ h8000 rfl, hne E.TIME_RELEASE _ h8000 rfl, hne E.TIME_CAPTURE _ h8000 rfl, hne E.RETIRE_REQUEST _ hC040 rfl,
    hne E.UNRETIRE_REQUEST _ hC040 rfl, hne E.ROLLBACK_ADVANCE _ hD000 rfl, hne E.CARE_TEST_GO _ hD100 rfl,
    hne E.GAUGE_SEAL _ h9020 rfl, ← and_assoc, hchannel, hbus, false_and, if_false]

theorem Device.requestEffect_modeRequest : d.requestEffect p E.MODE_REQUEST v = some (d.modeRequest p v) := rfl

theorem Device.requestEffect_enable : d.requestEffect p E.ENABLE v = some (d.ifOne v Device.startEnable) := rfl

theorem Device.requestEffect_commit : d.requestEffect p E.COMMIT v = some (d.ifOne v Device.startCommit) := rfl

theorem Device.requestEffect_discardStaging : d.requestEffect p E.DISCARD_STAGING v =
    some (d.ifOne v (fun d => if d.rwvBusy then (Res.BUSY, d) else (Res.OK, d.discardStaging))) := rfl

/-- The clear of the range that CLEAR_FIRST and CLEAR_COUNT name is armed (R335). -/
def Device.armClear (d : Device) (first count : Nat) : Device :=
  { d with tel := { d.tel with clearArmed := some (first, count) } }

theorem Device.requestEffect_clear : d.requestEffect p E.CLEAR v = some (d.ifOne v (fun d =>
    if d.tel.clearArmed.isSome then (Res.BUSY, d) else (Res.OK, d.armClear (d.rd E.CLEAR_FIRST) (d.rd E.CLEAR_COUNT)))) := rfl

theorem Device.requestEffect_timeStepNs : d.requestEffect p E.TIME_STEP_NS v =
    some (if d.cur E.TIME_SOURCE ≠ 1 ∨ d.timeValid ∨ d.followsTime then (Res.BUSY, d) else (Res.OK, d.askStep v)) := rfl

theorem Device.requestEffect_ppsSeconds : d.requestEffect p E.PPS_SECONDS v =
    some (if d.cur E.TIME_SOURCE ≠ 2 ∨ d.timeValid ∨ d.followsTime then (Res.BUSY, d) else (Res.OK, d.armPps v)) := rfl

theorem Device.requestEffect_timeRelease : d.requestEffect p E.TIME_RELEASE v =
    some (d.ifOne v (fun d => (Res.OK, d.releaseTime))) := rfl

theorem Device.requestEffect_timeCapture : d.requestEffect p E.TIME_CAPTURE v =
    some (d.ifOne v (fun d => (Res.OK, d.captureTime))) := rfl

theorem Device.requestEffect_retireRequest : d.requestEffect p E.RETIRE_REQUEST v = some (d.retireRequest v) := rfl

theorem Device.requestEffect_unretireRequest : d.requestEffect p E.UNRETIRE_REQUEST v = some (d.unretireRequest v) := rfl

theorem Device.requestEffect_rollbackAdvance : d.requestEffect p E.ROLLBACK_ADVANCE v =
    some (d.ifOne v Device.advanceRollback) := rfl

theorem Device.requestEffect_careTestGo : d.requestEffect p E.CARE_TEST_GO v = some (d.ifOne v Device.careTest) := rfl

theorem Device.requestEffect_gaugeSeal : d.requestEffect p E.GAUGE_SEAL v =
    some (if v = 1 then (Res.OK, d.gaugeSeal) else (Res.SEALED, d)) := rfl

/-- Indices of two entries that lie apart. -/
theorem ne_of_indexOf_ne {a b : Addr} (h : indexOf a ≠ indexOf b) : a ≠ b := mt (congrArg indexOf) h

theorem Device.requestEffect_domainArm {c : Nat} (hc : c < 1024) :
    d.requestEffect p (E.DOMAIN_ARM c) v = some (d.ifOne v (fun d => d.armDomain p c)) := by
  have hi : indexOf (E.DOMAIN_ARM c) = 0xA100 + c := indexOf_entry _ (by decide)
  have hs : subOf (E.DOMAIN_ARM c) = 0x0B := subOf_entry _ (by decide)
  have hne (b : Addr) (hb : indexOf b < 0xA100 ∨ 0xA500 ≤ indexOf b) : (E.DOMAIN_ARM c = b) = False :=
    eq_false (ne_of_indexOf_ne (by omega))
  simp only [Device.requestEffect, hne E.MODE_REQUEST (by decide), hne E.ENABLE (by decide), hne E.COMMIT (by decide),
    hne E.DISCARD_STAGING (by decide), hne E.CLEAR (by decide), hne E.TIME_STEP_NS (by decide), hne E.PPS_SECONDS (by decide),
    hne E.TIME_RATE (by decide), hne E.TIME_RELEASE (by decide), hne E.TIME_CAPTURE (by decide), if_false, hi, hs]
  rw [if_pos ⟨by omega, by omega, trivial⟩, Nat.add_sub_cancel_left]

/-- The request entry of a module bus (R485). -/
theorem Device.requestEffect_busRequest {b : Nat} (hb : b < 18) :
    d.requestEffect p (entry (0x2E00 + b) 2) v = some (d.startBus b v) := by
  have hi : indexOf (entry (0x2E00 + b) 2) = 0x2E00 + b := indexOf_entry _ (by decide)
  have hs : subOf (entry (0x2E00 + b) 2) = 2 := subOf_entry _ (by decide)
  have hne (c : Addr) (hc : indexOf c < 0x2E00 ∨ 0x2E12 ≤ indexOf c) : (entry (0x2E00 + b) 2 = c) = False :=
    eq_false (ne_of_indexOf_ne (by omega))
  simp only [Device.requestEffect, hne E.MODE_REQUEST (by decide), hne E.ENABLE (by decide), hne E.COMMIT (by decide),
    hne E.DISCARD_STAGING (by decide), hne E.CLEAR (by decide), hne E.TIME_STEP_NS (by decide), hne E.PPS_SECONDS (by decide),
    hne E.TIME_RATE (by decide), hne E.TIME_RELEASE (by decide), hne E.TIME_CAPTURE (by decide),
    hne E.RETIRE_REQUEST (by decide), hne E.UNRETIRE_REQUEST (by decide), hne E.ROLLBACK_ADVANCE (by decide),
    hne E.CARE_TEST_GO (by decide), if_false, hi, hs]
  rw [if_neg (by omega), if_pos ⟨by omega, by omega, trivial⟩, Nat.add_sub_cancel_left]

/-! ### Plain effects -/

variable (r : Row)

theorem Device.plainEffect_key {c : Nat} (hc : c < 16) (slotB : Bool) :
    d.plainEffect r (if slotB then E.KEY_B c else E.KEY_A c) v = d.writeKey c slotB v := by
  have hkey (s : Nat) (hs : s = 2 ∨ s = 3) :
      d.plainEffect r (entry (0x1101 + c) s) v = d.writeKey c (s = 3) v := by
    simp only [Device.plainEffect, indexOf_entry (0x1101 + c) (show s < 256 by omega), subOf_entry (0x1101 + c) (show s < 256 by omega)]
    rw [if_neg (by omega), if_pos ⟨by omega, by omega, hs⟩, Nat.add_sub_cancel_left]
  cases slotB
  · exact hkey 2 (.inl rfl)
  · exact hkey 3 (.inr rfl)

theorem Device.plainEffect_grant {g k : Nat} (hg : g < 128) (hk : k < 256) :
    d.plainEffect r (entry (0x1180 + g) k) v = (d.wr (entry (0x1180 + g) k) v).raise Src.GRANT_CHANGED 0 := by
  simp only [Device.plainEffect, indexOf_entry _ hk]
  rw [if_neg (by omega), if_neg (by omega), if_pos ⟨by omega, by omega⟩]

theorem Device.plainEffect_gaugeParam {k : Nat} (hk : k < 256) :
    d.plainEffect r (entry 0x9010 k) v = d.gaugeParam k r.ty.code r.ty.size v := by
  simp only [Device.plainEffect, indexOf_entry _ hk, subOf_entry _ hk, if_true]

theorem Device.plainEffect_powerCapW : d.plainEffect r E.POWER_CAP_W v =
    if r.acc = .w1c then d.wr E.POWER_CAP_W (d.rd E.POWER_CAP_W &&& lnot 64 v) else d.wr E.POWER_CAP_W v := rfl

theorem Device.plainEffect_joinEnable : d.plainEffect r E.JOIN_ENABLE v = (d.wr E.JOIN_ENABLE v).enableJoin v := rfl

end

/-! ### What time and its release change (R309 to R311) -/

theorem Device.followsTime_eq_false {d : Device} (h : d.joined = true → d.member ≠ 1) : d.followsTime = false := by
  cases hj : d.joined
  · simp [Device.followsTime, hj]
  · simp [Device.followsTime, hj, h hj]

theorem Device.timeValid_releaseTime (d : Device) : d.releaseTime.timeValid = false := by
  have h : d.releaseTime.rd E.TIME_STATUS = setBit (d.rd E.TIME_STATUS) 0 false := Device.rd_wr_same _ _ _
  rw [Device.timeValid, Device.rdBit, h, bit, testBit_setBit, if_pos rfl]

/-- Settles O45: each entry by the equation of its own. -/
theorem entryWriteEffects : Obligations.EntryWriteEffects := by
  unfold Obligations.EntryWriteEffects
  intro d p v
  refine ⟨rfl, rfl, rfl, fun h => ?discard, fun h => ?clear, fun h => ?clearBusy, fun hj ht hs => ?step, fun ht => ?stepBusy,
    fun hj ht hs => ?pps, rfl, d.timeValid_releaseTime, rfl, rfl, rfl, rfl, rfl, rfl, fun c => d.requestEffect_domainArm p 1,
    fun b => d.requestEffect_busRequest p v, d.plainEffect_powerCapW v, d.plainEffect_joinEnable v,
    fun r g k => d.plainEffect_grant v r, fun r k => d.plainEffect_gaugeParam v r,
    fun r c hc => ⟨d.plainEffect_key v r hc false, d.plainEffect_key v r hc true⟩⟩
  case discard => simp [d.requestEffect_discardStaging, Device.ifOne, h]
  case clear => simp [d.requestEffect_clear, Device.ifOne, Device.armClear, h]
  case clearBusy => simp [d.requestEffect_clear, Device.ifOne, h]
  case step => simp [d.requestEffect_timeStepNs, hs, ht, Device.followsTime_eq_false hj, Device.askStep]
  case stepBusy => simp [d.requestEffect_timeStepNs, ht]
  case pps => simp [d.requestEffect_ppsSeconds, hs, ht, Device.followsTime_eq_false hj, Device.armPps]

/-! ### Keys (R78) -/

/-- The catalogue's row of KEY_A, or of KEY_B. -/
def keyRow (slotB : Bool) : Row :=
  { index := 0x1101, count := 16, sub0 := if slotB then 3 else 2, sub1 := if slotB then 3 else 2, ty := .octets 32, acc := .wo
    dflt := .const 0, allowed := .any, kept := 0, checked := false }

theorem findRow_key : ∀ c < 16, ∀ slotB, findRow (if slotB then E.KEY_B c else E.KEY_A c) = some (keyRow slotB) := by
  decide +kernel

theorem Device.ownValueOk_of_index (d : Device) {a : Addr} (h : 0x1100 ≤ indexOf a ∧ indexOf a ≤ 0x11FF) (v : Nat) :
    d.ownValueOk a v = true := by
  have hne (b : Addr) (hb : indexOf b < 0x1100 ∨ 0x11FF < indexOf b) : (a = b) = False :=
    eq_false (ne_of_indexOf_ne (by omega))
  have hedge : ¬ (E.BAND_EDGE 0 ≤ a ∧ a ≤ E.BAND_EDGE 2) := by
    rintro ⟨hedge, -⟩
    have hlow : (0xB00009 : Nat) ≤ a := hedge
    unfold indexOf at h
    omega
  simp only [Device.ownValueOk, hne E.POWER_CAP_W (by decide), hne E.CLEAR (by decide), hne E.HARVEST_CONSUMED (by decide),
    hne E.RETIRE_REQUEST (by decide), hedge, if_false]
  rw [if_neg (by omega), if_neg (by omega)]

theorem Device.bookWrite_key (d : Device) {c : Nat} (hc : c < 16) (slotB : Bool) (p v : Nat) :
    d.bookWrite p (if slotB then E.KEY_B c else E.KEY_A c) v = (Res.OK, d.writeKey c slotB v) := by
  have hi : indexOf (if slotB then E.KEY_B c else E.KEY_A c) = 0x1101 + c := by
    cases slotB <;> exact indexOf_entry _ (by decide)
  rw [bookWrite_of_passes (findRow_key c hc slotB) rfl (d.ownValueOk_of_index (by omega) _) rfl,
    d.requestEffect_of_index _ _ (by rw [hi]; unfold requestIndex; omega)]
  exact congrArg (Prod.mk _) (d.plainEffect_key v _ hc slotB)

section
variable (d : Device) (c v : Nat) (slotB : Bool)

/-- The entries that a key's write touches. -/
theorem Device.rd_writeKey (a : Addr) : (d.writeKey c slotB v).rd a =
    if a = E.rxSeq c slotB then 0 else if a = (if slotB then E.KEY_B c else E.KEY_A c) then v else d.rd a := by
  have h : (d.writeKey c slotB v).rd a = ((d.wr (if slotB then E.KEY_B c else E.KEY_A c) v).wr (E.rxSeq c slotB) 0).rd a := rfl
  rw [h, Device.rd_wr, Device.rd_wr]

theorem Device.tx_writeKey (hc : c < d.ctrlSeq.length) : ((d.writeKey c slotB v).ctrlSeq.getD c {}).tx = 1 := by
  refine (congrArg CtrlSeq.tx (modAt_getD_same d.ctrlSeq c _ {} hc)).trans ?_
  split <;> rfl

theorem Device.ctrlSeq_writeKey_ne {k : Nat} (hk : k ≠ c) : (d.writeKey c slotB v).ctrlSeq.getD k {} = d.ctrlSeq.getD k {} :=
  modAt_getD_ne _ _ _ _ _ hk

end

/-- Settles O43: a key has no test of its own to meet, and its write touches the key, its slot's sequence and its controller. -/
theorem keyWriteRestartsSequences : Obligations.KeyWriteRestartsSequences := by
  unfold Obligations.KeyWriteRestartsSequences
  intro d c v slotB hc hlen e
  have hkey : (if slotB then E.KEY_B c else E.KEY_A c) ≠ E.rxSeq c slotB := by
    cases slotB <;> exact entry_ne _ (by decide)
  have hother : (if slotB then E.RX_SEQ_A c else E.RX_SEQ_B c) ≠ E.rxSeq c slotB := by
    cases slotB <;> exact entry_ne _ (by decide)
  have hotherKey : (if slotB then E.RX_SEQ_A c else E.RX_SEQ_B c) ≠ if slotB then E.KEY_B c else E.KEY_A c := by
    cases slotB <;> exact entry_ne _ (by decide)
  refine ⟨fun p => d.bookWrite_key hc slotB p v, ?_, ?_, d.tx_writeKey c v slotB hlen, ?_,
    fun k => d.ctrlSeq_writeKey_ne c v slotB, rfl, rfl, rfl⟩
  · rw [d.rd_writeKey, if_neg hkey, if_pos rfl]
  · exact (d.rd_writeKey c v slotB _).trans (if_pos rfl)
  · rw [d.rd_writeKey, if_neg hother, if_neg hotherKey]

end Sys2Proof.Machine
end

section
/-! SUPPORT. Searches: a launch, and what a result writes. -/

namespace Sys2Proof.Machine

open Sys2Proof

section
variable {s : State} {h : Nat} {x : Header} (hr : s.Runs) (hx : s.dev.header? h = some x)
include hr hx

theorem exec_searchLaunch {profile dest : Nat} (hp : profile < 256) (hd : dest < 4) :
    exec (.searchLaunch h profile dest) s = .next (s.put (s.dev.launch x x.p profile dest)) := by
  refine (on_runs s _ hr).trans ?_
  simp only [hx, hp, hd, and_self, if_true]

/-- No search of an expired frame is launched (R58). -/
theorem exec_searchLaunch_of_expired (he : x.p.vintageExpired = true) (profile dest : Nat) :
    exec (.searchLaunch h profile dest) s = .next s := by
  refine (on_runs s _ hr).trans ?_
  simp only [hx, Device.launch, he, if_true, ite_self, put_dev s hr.2]

theorem exec_searchResult {reg : Nat} {y : Search} (hy : x.p.searches.find? (fun y => y.reg = reg) = some y) (fault : WordFault) :
    exec (.searchResult h reg fault) s = .next (s.put (s.dev.finishSearch h x.frame y fault.state fault.loc)) := by
  refine (on_runs s _ hr).trans ?_
  simp only [hx, hy]

end

section
variable {d : Device} {x : Header} {profile dest : Nat}

/-- The first search of a stage, within the budget of R164, is launched. -/
theorem Device.launch_of_first (he : x.p.vintageExpired = false) (hv : x.egress = true ∨ d.expired.contains x.vtag = false)
    (hs : x.p.searches = []) (hb : x.p.stage + d.latency x.parity profile ≤ if x.egress then 11 else 23) :
    d.launch x x.p profile dest = d.modPass x.id (fun p => { p with searches := p.searches ++
      [{ profile := profile, key := d.searchKey x.parity profile x.p.space, parity := x.parity
         care := d.mode = .recovery && d.rdp x.parity (E.TARGET profile) = 4 &&
           (d.rdp x.parity (E.PROFILE_FLAGS profile)).testBit 1
         reg := dest, due := x.p.stage + d.latency x.parity profile }] }) := by
  have hnot : ¬ (!x.egress ∧ d.expired.contains x.vtag) := by
    rcases hv with hv | hv
    · simp [hv]
    · simp only [hv, Bool.false_eq_true, and_false, not_false_eq_true]
  have hin : ¬ x.p.stage + d.latency x.parity profile > if x.egress then 11 else 23 := Nat.not_lt.mpr hb
  simp only [Device.launch, he, hnot, hs, hin, List.filter_nil, List.any_nil, List.length_nil, Bool.false_eq_true, and_false, if_false,
    or_false, ge_iff_le, Nat.reduceLeDiff]
  rfl

theorem Device.launch_of_vtag_expired (he : x.p.vintageExpired = false) (hi : x.egress = false)
    (hv : d.expired.contains x.vtag = true) : d.launch x x.p profile dest = d.expire x := by
  simp only [Device.launch, he, hi, hv, Bool.false_eq_true, Bool.not_false, and_self, if_true, if_false]

end

section
variable (d : Device) (frame : Nat) {y : Search} {store : Nat}

theorem Device.searchResult_of_miss (hf : d.find y = (store, none, false, false)) : d.searchResult frame y .none 0 =
    (d.bump64 (E.SEARCHES y.profile) 1,
      resultWord false false false false y.care 0 0 (d.rdp y.parity (E.MISS_DATA y.profile))) := by
  simp [Device.searchResult, hf, Device.noteResult, Device.failedAt]

theorem Device.searchResult_of_hit {e : TableEntry} (hf : d.find y = (store, some e, false, false))
    (hc : e.check = entryCheck e.bytes) (hs : store ≠ 0) : d.searchResult frame y .none 0 =
    ((d.bump64 (E.SEARCHES y.profile) 1).bump64 (E.HITS y.profile) 1,
      resultWord true false false false y.care (locationField store e) (if store = 2 then maskPriority e else 0)
        (entryData store e.bytes)) := by
  simp [Device.searchResult, hf, Device.noteResult, Device.failedAt, hc, hs]

/-- An entry whose check does not agree fails the search (R183). -/
theorem Device.searchResult_of_bad_check {e : TableEntry} (hf : d.find y = (store, some e, false, false))
    (hc : e.check ≠ entryCheck e.bytes) : d.searchResult frame y .none 0 =
    ((d.bump64 (E.SEARCHES y.profile) 1).verifyFails y store e.loc,
      resultWord false true false false y.care 0 0 (d.rdp y.parity (E.MISS_DATA y.profile))) := by
  simp [Device.searchResult, hf, Device.noteResult, Device.failedAt, hc]

end

/-- Settles O13: a launch by its tests, and a result by the entry that the search finds. -/
theorem searchCommands : Obligations.SearchCommands := by
  unfold Obligations.SearchCommands
  intro s h x hr hx d q
  obtain rfl := header_id hx
  refine ⟨fun profile dest hp hd he hv hs hb => ?_, fun profile dest hp hd hi he hv => ?_,
    fun profile dest he => exec_searchLaunch_of_expired hr hx he profile dest, fun reg y store hy hf => ?_,
    fun reg y store e hy hf hc hs => ?_, fun reg y store e hy hf hc => ?_⟩
  · rw [exec_searchLaunch hr hx hp hd, Device.launch_of_first he hv hs hb]
  · rw [exec_searchLaunch hr hx hp hd, Device.launch_of_vtag_expired he hi hv]
  · rw [exec_searchResult hr hx hy, Device.finishSearch, d.searchResult_of_miss x.frame hf]
  · rw [exec_searchResult hr hx hy, Device.finishSearch, d.searchResult_of_hit x.frame hf hc hs]
  · rw [exec_searchResult hr hx hy, Device.finishSearch, d.searchResult_of_bad_check x.frame hf hc]

end Sys2Proof.Machine
end

section
/-! SUPPORT. When an access takes effect, and the request queue. -/

namespace Sys2Proof.Machine

open Sys2Proof

/-! ### Accesses (R489) -/

/-- Every access waits for a boundary that is due. -/
theorem exec_of_accessCommand {c : Instr} (h : accessCommand c = true) (s : State) : exec c s = s.access c := by
  cases c <;> cases h <;> rfl

theorem exec_of_accesses {s : State} (ha : s.Accesses) {c : Instr} (h : accessCommand c = true) :
    exec c s = .next (s.put (s.dev.runAccess c)) := (exec_of_accessCommand h s).trans (access_of_accesses ha c)

/-- An access is held while a boundary is due, behind those that are held already. -/
theorem access_of_boundaryDue {s : State} (hr : s.Runs) (h : s.dev.boundaryDue = true) (c : Instr) :
    s.access c =
      .next (s.put { s.dev with held := s.dev.held ++ [{ access := c, frames := s.dev.tendrilQueue.length }] }) :=
  (on_runs s _ hr).trans (next_put_congr (if_pos h))

theorem Device.boundaryDue_eq (d : Device) : d.boundaryDue = (d.mode.counts && decide (d.clk.slot = 1024)) := rfl

/-! ### The request queue (R71) -/

section
variable {d : Device}

theorem Device.serveQueue_of_requestWaits (h : d.requestWaits = true) (n : Nat) : d.serveQueue n = d := by
  cases n with
  | zero => rfl
  | succ n =>
    unfold Device.serveQueue
    cases d.doorbells <;> simp [h]

theorem Device.tendril_of_requestWaits (h : d.requestWaits = true) (want : TendrilFrame → Bool) : d.tendril want = d := by
  unfold Device.tendril
  cases d.tendrilQueue <;> simp [h]

theorem Device.tendril_of_empty (h : d.tendrilQueue = []) (want : TendrilFrame → Bool) : d.tendril want = d := by
  simp only [Device.tendril, h]

variable {q : Doorbell} {t : List Doorbell} (hw : d.requestWaits = false) (hq : d.doorbells = q :: t)
include hw hq

/-- A frame that came before the next mailbox request is taken before it. -/
theorem Device.serveQueue_of_ahead {f : TendrilFrame} {rest : List TendrilFrame} (hf : d.tendrilQueue = f :: rest)
    (ha : 0 < q.ahead) (n : Nat) : d.serveQueue (n + 1) = Device.serveQueue n
      (({ d with tendrilQueue := rest, doorbells := (q :: t).map (fun x => { x with ahead := x.ahead - 1 }) } : Device).takeFrame f) := by
  simp [Device.serveQueue, Device.serveFrame1, hw, hq, hf, ha]

theorem Device.serveQueue_of_next (ha : q.ahead = 0 ∨ d.tendrilQueue = []) (n : Nat) :
    d.serveQueue (n + 1) = Device.serveQueue n (({ d with doorbells := t } : Device).runMailbox q) := by
  have hnot : ¬ (0 < q.ahead ∧ d.tendrilQueue ≠ []) := fun ⟨hpos, hne⟩ => ha.elim hpos.ne' hne
  simp only [Device.serveQueue, hw, hq, hnot, Bool.false_eq_true, if_false]

end

/-- Settles O59: an access by whether a boundary is due, and the queue by what stands at its head. That an access is held only while
a boundary is due is log entry 167, and the order of frames and doorbells log entry 168: the model's choices. -/
theorem accessesInOrder : Obligations.AccessesInOrder := by
  unfold Obligations.AccessesInOrder
  refine ⟨fun s c hr hc => ⟨fun hm hs => ?held, fun hn => ?atOnce⟩, fun d c rest hh => ?released,
    fun d q f t rest n => ⟨fun hw => ⟨Device.serveQueue_of_requestWaits hw n, Device.tendril_of_requestWaits hw⟩,
      fun hw hq hf => ⟨fun ha => Device.serveQueue_of_ahead hw hq hf ha n, fun ha => Device.serveQueue_of_next hw hq (.inl ha) n⟩,
      fun m => rfl⟩⟩
  case held =>
    have hdue : s.dev.boundaryDue = true := by simp [s.dev.boundaryDue_eq, hm, hs]
    exact (exec_of_accessCommand hc s).trans (access_of_boundaryDue hr hdue c)
  case atOnce =>
    have hdue : s.dev.boundaryDue = false := by
      rcases hn with hn | hn <;> simp [s.dev.boundaryDue_eq, hn]
    exact exec_of_accesses ⟨hr, hdue⟩ hc
  case released =>
    intro after
    simp only [Device.releaseHeld, hh, List.foldl_cons]
    rfl

end Sys2Proof.Machine
end

section
/-! SUPPORT. Mailboxes: the words that a request leaves in its page, what its doorbell latches, and the operation that runs. -/

namespace Sys2Proof.Machine

open Sys2Proof

/-! ### Bytes in little-endian words -/

theorem leNat_cons (b : Byte) (bs : List Byte) : leNat (b :: bs) = leNat bs * 256 + b.toNat := rfl

/-- The bytes of the number that bytes spell are those bytes. -/
theorem leBytes_leNat (bs : List Byte) : leBytes bs.length (leNat bs) = bs := by
  induction bs with
  | nil => rfl
  | cons b t ih =>
    have hb : b.toNat < 256 := b.isLt
    have hlow : BitVec.ofNat 8 (leNat t * 256 + b.toNat) = b := by
      apply BitVec.eq_of_toNat_eq
      rw [BitVec.toNat_ofNat]
      omega
    rw [leNat_cons, List.length_cons, leBytes, hlow, show (leNat t * 256 + b.toNat) / 256 = leNat t by omega, ih]

/-- Bytes within a string. -/
theorem slice_of_le {bs : List Byte} {i n : Nat} (h : i + n ≤ bs.length) : slice bs i n = (bs.drop i).take n := by
  have hlen : ((bs.drop i).take n).length = n := by rw [List.length_take, List.length_drop]; omega
  simp [slice, hlen]

/-- The words of a string, one after the other. -/
theorem flatMap_words (bs : List Byte) (n : Nat) (h : 4 * n ≤ bs.length) :
    (List.range n).flatMap (fun k => slice bs (4 * k) 4) = bs.take (4 * n) := by
  induction n with
  | zero => rfl
  | succ n ih =>
    rw [List.range_succ, List.flatMap_append, ih (by omega), List.flatMap_singleton, slice_of_le (by omega), Nat.mul_succ,
      List.take_add]

theorem take_slice {bs : List Byte} {n k : Nat} (hk : k ≤ bs.length) (hn : k ≤ n) : (slice bs 0 n).take k = bs.take k := by
  rw [slice, List.drop_zero, List.take_append_of_le_length (by rw [List.length_take]; omega), List.take_take, Nat.min_eq_left hn]

/-- A string shorter than the field that holds it. -/
theorem slice_slice {bs : List Byte} {n : Nat} (hn : bs.length ≤ n) : slice (slice bs 0 n) 0 bs.length = bs := by
  rw [slice_of_le (by rw [slice_length]; omega), List.drop_zero, take_slice (Nat.le_refl _) hn, List.take_length]

/-! ### Words of BAR0 -/

/-- Words written one after the other from an offset on. -/
def Device.fillBar (d : Device) (off n : Nat) (word : Nat → Nat) : Device :=
  (List.range n).foldl (fun e k => e.setBar (off + 4 * k) (word k)) d

section
variable (d : Device) (off : Nat)

theorem Device.storeWords_eq (bs : List Byte) :
    d.storeWords off bs = d.fillBar off ((bs.length + 3) / 4) (fun k => leNat (slice bs (4 * k) 4)) := rfl

theorem Device.fillBar_succ (n : Nat) (word : Nat → Nat) :
    d.fillBar off (n + 1) word = (d.fillBar off n word).setBar (off + 4 * n) (word n) := by
  rw [Device.fillBar, List.range_succ, List.foldl_append, List.foldl_cons, List.foldl_nil]
  rfl

theorem Device.bar_fillBar_outside {n a : Nat} (word : Nat → Nat) (h : a < off ∨ off + 4 * n ≤ a) :
    (d.fillBar off n word).bar a = d.bar a := by
  induction n with
  | zero => rfl
  | succ n ih => rw [d.fillBar_succ, Device.bar_setBar, if_neg (by omega), ih (by omega)]

theorem Device.bar_fillBar {n k : Nat} (word : Nat → Nat) (h : k < n) : (d.fillBar off n word).bar (off + 4 * k) = word k := by
  induction n with
  | zero => omega
  | succ n ih =>
    rw [d.fillBar_succ, Device.bar_setBar]
    by_cases hk : k = n
    · rw [hk, if_pos rfl]
    · rw [if_neg (by omega), ih (by omega)]

end

/-- Only words of BAR0 differ. -/
def Device.BarOnly (d e : Device) : Prop := ∃ b, e = { d with bar0 := b }

theorem Device.BarOnly.trans {a b c : Device} (h : a.BarOnly b) (g : b.BarOnly c) : a.BarOnly c := by
  obtain ⟨x, rfl⟩ := h
  obtain ⟨y, rfl⟩ := g
  exact ⟨y, rfl⟩

theorem Device.barOnly_setBar (d : Device) (a v : Nat) : d.BarOnly (d.setBar a v) := ⟨_, rfl⟩

theorem Device.barOnly_fillBar (d : Device) (off n : Nat) (word : Nat → Nat) : d.BarOnly (d.fillBar off n word) := by
  induction n with
  | zero => exact ⟨_, rfl⟩
  | succ n ih => exact d.fillBar_succ off n word ▸ ih.trans (Device.barOnly_setBar _ _ _)

/-! ### A request's page (Table 3.4) -/

/-- What the doorbell of a request latches, with no frame before it. -/
def requestSpelled (m opcode tag : Nat) (current asked : Bool) (a length offset : Nat) (data : List Byte) : Doorbell :=
  { mailbox := m, ahead := 0, request := opcode + tag % 256 * 256 + current.toNat * 2 ^ 16 + asked.toNat * 2 ^ 17
    addr := a % 2 ^ 24, length := length % 2 ^ 32, offset := offset % 2 ^ 32, data := slice data 0 256 }

section
variable (d : Device) (m opcode tag : Nat) (current asked : Bool) (a length offset : Nat) (data : List Byte)

theorem Device.barOnly_latched : d.BarOnly (d.latched m opcode tag current asked a length offset data) :=
  ((((d.barOnly_setBar _ _).trans (Device.barOnly_setBar _ _ _)).trans (Device.barOnly_setBar _ _ _)).trans
    (Device.barOnly_setBar _ _ _)).trans (Device.barOnly_fillBar _ _ _ _)

/-- The four words of the request in its page. -/
def Device.spelledIn : Device :=
  let d := d.setBar (mailboxPage m) (opcode + tag % 256 * 256 + current.toNat * 2 ^ 16 + asked.toNat * 2 ^ 17)
  ((d.setBar (mailboxPage m + 4) (a % 2 ^ 24)).setBar (mailboxPage m + 8) (length % 2 ^ 32)).setBar (mailboxPage m + 12) (offset % 2 ^ 32)

theorem Device.latched_eq : d.latched m opcode tag current asked a length offset data =
    (d.spelledIn m opcode tag current asked a length offset).fillBar (mailboxPage m + 0x100) 64
      (fun k => leNat (slice (slice data 0 256) (4 * k) 4)) := by
  have h : d.latched m opcode tag current asked a length offset data =
      (d.spelledIn m opcode tag current asked a length offset).storeWords (mailboxPage m + 0x100) (slice data 0 256) := rfl
  rw [h, Device.storeWords_eq, slice_length]

theorem Device.bar_latched_of_below {b : Nat} (h : b < mailboxPage m + 0x100) :
    (d.latched m opcode tag current asked a length offset data).bar b =
      if b = mailboxPage m + 12 then offset % 2 ^ 32 else if b = mailboxPage m + 8 then length % 2 ^ 32
      else if b = mailboxPage m + 4 then a % 2 ^ 24
      else if b = mailboxPage m then opcode + tag % 256 * 256 + current.toNat * 2 ^ 16 + asked.toNat * 2 ^ 17
      else d.bar b := by
  rw [Device.latched_eq, Device.bar_fillBar_outside _ _ _ (.inl h)]
  simp only [Device.spelledIn, Device.bar_setBar]

/-- MB_STATUS is no word of the request. -/
theorem Device.status_latched : (d.latched m opcode tag current asked a length offset data).bar (mailboxPage m + 0x14) =
    d.bar (mailboxPage m + 0x14) := by
  rw [Device.bar_latched_of_below _ _ _ _ _ _ _ _ _ _ (by omega), if_neg (by omega), if_neg (by omega), if_neg (by omega),
    if_neg (by omega)]

theorem Device.mailboxBusy_latched :
    (d.latched m opcode tag current asked a length offset data).mailboxBusy m = d.mailboxBusy m := by
  rw [Device.mailboxBusy, Device.status_latched]
  rfl

theorem Device.submit_eq : d.submit m opcode tag current asked a length offset data =
    (d.latched m opcode tag current asked a length offset data).doorbellMailbox m := rfl

theorem Device.requestData_latched : ((d.latched m opcode tag current asked a length offset data).running m).requestData m =
    slice data 0 256 := by
  have hword (k : Nat) (hk : k < 64) :
      leBytes 4 (((d.latched m opcode tag current asked a length offset data).running m).bar (mailboxPage m + 0x100 + 4 * k)) =
        slice (slice data 0 256) (4 * k) 4 := by
    rw [Device.running, Device.bar_setBar, if_neg (by omega), Device.latched_eq, Device.bar_fillBar _ _ _ hk]
    have h := leBytes_leNat (slice (slice data 0 256) (4 * k) 4)
    rwa [slice_length] at h
  have hlen : (slice data 0 256).length = 256 := slice_length _ _ _
  have hwords : ((d.latched m opcode tag current asked a length offset data).running m).requestData m =
      (List.range 64).flatMap (fun k => slice (slice data 0 256) (4 * k) 4) :=
    List.flatMap_congr (fun k hk => hword k (List.mem_range.mp hk))
  rw [hwords, flatMap_words _ _ (by omega), List.take_of_length_le (by omega)]

/-- What the doorbell latches while no frame waits. -/
theorem Device.latch_latched (hq : d.tendrilQueue = []) :
    ((d.latched m opcode tag current asked a length offset data).running m).latch m =
      requestSpelled m opcode tag current asked a length offset data := by
  have hqueue : ((d.latched m opcode tag current asked a length offset data).running m).tendrilQueue = [] := by
    obtain ⟨b, hb⟩ := (d.barOnly_latched m opcode tag current asked a length offset data).trans
      (Device.barOnly_setBar _ (mailboxPage m + 0x14) _)
    rw [Device.running, hb]
    exact hq
  have hbar (b : Nat) (hb : b < mailboxPage m + 0x14) :
      ((d.latched m opcode tag current asked a length offset data).running m).bar b =
        (d.latched m opcode tag current asked a length offset data).bar b := by
    rw [Device.running, Device.bar_setBar, if_neg (by omega)]
  simp only [Device.latch, requestSpelled, Device.requestData_latched, hqueue, List.length_nil, Nat.zero_sub,
    Doorbell.mk.injEq, true_and, and_true]
  rw [hbar _ (by omega), hbar _ (by omega), hbar _ (by omega), hbar _ (by omega)]
  simp (disch := omega) only [Device.bar_latched_of_below, Nat.add_eq_left, Nat.add_left_cancel_iff]
  simp

end

end Sys2Proof.Machine
end

section
/-! SUPPORT. The requests of mailboxes: each operation on the words that its request spells. -/

namespace Sys2Proof.Machine

open Sys2Proof

/-! ### A doorbell (R69, R71) -/

section
variable {d : Device} {m : Nat}

theorem Device.doorbellMailbox_of_busy (h : d.mailboxBusy m = true) : d.doorbellMailbox m = d.bumpBar MB_IGNORED 1 := by
  simp [Device.doorbellMailbox, h]

theorem Device.doorbellMailbox_of_not_ready (hb : d.mailboxBusy m = false) (hr : d.ready = false) :
    d.doorbellMailbox m = d.completeMailbox m (d.latch m).tag Res.NOT_READY [] := by
  simp [Device.doorbellMailbox, hb, hr]

theorem Device.requestWaits_of_join {d e : Device} (h : e.join = d.join) : e.requestWaits = d.requestWaits := by
  unfold Device.requestWaits
  rw [h]

/-- The doorbell of a request latches its tag. -/
theorem Device.tag_latch_latched (d : Device) (m opcode tag : Nat) (current asked : Bool) (a length offset : Nat) (data : List Byte)
    (hop : opcode < 256) : ((d.latched m opcode tag current asked a length offset data).latch m).tag = tag % 256 := by
  have hc := current.toNat_lt
  simp only [Doorbell.tag, Device.latch, Device.bar_latched_of_below _ _ _ _ _ _ _ _ _ _ (show mailboxPage m < mailboxPage m + 0x100 by omega)]
  rw [if_neg (by omega), if_neg (by omega), if_neg (by omega), if_pos trivial, bits]
  omega

/-- With nothing before it a request is executed at once. -/
theorem Device.doorbellMailbox_of_quiet (hb : d.mailboxBusy m = false) (hr : d.ready = true) (hq : d.Quiet) :
    d.doorbellMailbox m = (d.running m).runMailbox ((d.running m).latch m) := by
  obtain ⟨htendril, hdoorbells, hwaits⟩ := hq
  let e : Device := { d.running m with doorbells := [(d.running m).latch m] }
  have hrings : d.doorbellMailbox m = e.serveRequests := by
    simp only [Device.doorbellMailbox, hb, hr, Bool.not_true, Bool.false_eq_true, if_false]
    show ({ d.running m with doorbells := d.doorbells ++ [(d.running m).latch m] } : Device).serveRequests = _
    rw [hdoorbells]
    rfl
  have hserved : e.serveRequests = Device.serveQueue 1 e := by
    have hlen : e.tendrilQueue.length + e.doorbells.length = 1 := by
      rw [show e.tendrilQueue = [] from htendril]
      rfl
    rw [Device.serveRequests, hlen]
  have hleft : ({ e with doorbells := [] } : Device) = d.running m := by rw [← hdoorbells]; rfl
  rw [hrings, hserved, Device.serveQueue_of_next (d := e) hwaits rfl (.inr htendril), hleft]
  rfl

end

/-! ### A request that runs (R72) -/

/-- The tag counts by its low byte. -/
theorem Device.completeMailbox_mod (d : Device) (m tag result : Nat) (response : List Byte) :
    d.completeMailbox m (tag % 256) result response = d.completeMailbox m tag result response := by
  simp only [Device.completeMailbox, Nat.mod_mod]

section
variable {m opcode : Nat} (tag : Nat) (current asked : Bool) (a length offset : Nat) (data : List Byte) (hop : opcode < 256)
include hop

theorem tag_requestSpelled : (requestSpelled m opcode tag current asked a length offset data).tag = tag % 256 := by
  have hc := current.toNat_lt
  simp only [Doorbell.tag, requestSpelled, bits]
  omega

theorem opcode_requestSpelled : bits (requestSpelled m opcode tag current asked a length offset data).request 0 8 = opcode := by
  simp only [requestSpelled, bits]
  omega

theorem current_requestSpelled : bit (requestSpelled m opcode tag current asked a length offset data).request 16 = current := by
  simp only [requestSpelled, bit, Nat.testBit_eq_decide_div_mod_eq]
  cases current <;> simp <;> omega

theorem asked_requestSpelled : bit (requestSpelled m opcode tag current asked a length offset data).request 17 = asked := by
  have hc := current.toNat_lt
  simp only [requestSpelled, bit, Nat.testBit_eq_decide_div_mod_eq]
  cases asked <;> simp <;> omega

end

theorem Device.granted_of_barOnly {d e : Device} (h : d.BarOnly e) (n : Nat) : e.granted n = d.granted n := by
  obtain ⟨b, rfl⟩ := h
  rfl

section
variable {d : Device} {m opcode : Nat} (tag : Nat) (current asked : Bool) (a length offset : Nat) (data : List Byte)

theorem Device.barOnly_running : d.BarOnly ((d.latched m opcode tag current asked a length offset data).running m) :=
  (d.barOnly_latched m opcode tag current asked a length offset data).trans (Device.barOnly_setBar _ _ _)

/-- A mailbox that takes a doorbell runs the operation on the words of its request. -/
theorem submit_of_takesDoorbell (hop : opcode < 256) (ht : d.takesDoorbell m) :
    d.submit m opcode tag current asked a length offset data =
      deliver m tag (((d.latched m opcode tag current asked a length offset data).running m).mailboxOperation
        (requestSpelled m opcode tag current asked a length offset data)) := by
  obtain ⟨-, -, hquiet, hready, hbusy, hgranted⟩ := ht
  have hlatched := d.barOnly_latched m opcode tag current asked a length offset data
  have hquiet' : (d.latched m opcode tag current asked a length offset data).Quiet := by
    obtain ⟨b, hb⟩ := hlatched
    rw [hb]
    exact hquiet
  have hready' : (d.latched m opcode tag current asked a length offset data).ready = true := by
    obtain ⟨b, hb⟩ := hlatched
    rw [hb]
    exact hready
  rw [Device.submit_eq, Device.doorbellMailbox_of_quiet ((Device.mailboxBusy_latched ..).trans hbusy) hready' hquiet',
    Device.latch_latched _ _ _ _ _ _ _ _ _ _ hquiet.1, Device.runMailbox, if_neg, tag_requestSpelled _ _ _ _ _ _ _ hop, deliver]
  · simp only [Device.completeMailbox_mod]
    rfl
  · rintro ⟨hm, hnot⟩
    rw [Device.granted_of_barOnly (Device.barOnly_running tag current asked a length offset data)] at hnot
    simp [show d.granted (m - 4) = true from hgranted hm, requestSpelled] at hnot

end

/-! ### The operations of a mailbox (Table 3.7) -/

/-- A mailbox's number names it. -/
theorem reply_of_mailbox {m n : Nat} {kernel : Bool} (he : mailboxExists kernel n = true) (hm : m = mailboxNumber kernel n) (tag : Nat) :
    Reply.mailbox (m < 4) (if m < 4 then m else m - 4) tag = .mailbox kernel n tag := by
  subst hm
  cases kernel
  · simp [mailboxNumber]
  · simp [mailboxNumber, show n < 4 by simpa [mailboxExists] using he]

section
variable (d : Device) {q : Doorbell}

theorem Device.mailboxOperation_of_write {kernel : Bool} {n : Nat} (he : mailboxExists kernel n = true)
    (hm : q.mailbox = mailboxNumber kernel n) (h : bits q.request 0 8 = 2) : d.mailboxOperation q =
    let x := d.writeEntry (mailboxPrincipal q.mailbox) q.addr true (slice q.data 0 (min q.length 256))
      (.mailbox kernel n q.tag)
    (x.1, [], x.2) := by simp only [Device.mailboxOperation, h, reply_of_mailbox he hm]

theorem Device.mailboxOperation_of_describe (h : bits q.request 0 8 = 3) : d.mailboxOperation q =
    let x := d.describe q.addr (bit q.request 16) true
    (x.1, x.2, d) := by simp only [Device.mailboxOperation, h]

/-- DOMAIN_READ is no operation of a mailbox. -/
theorem Device.mailboxOperation_of_domainRead (h : bits q.request 0 8 = 4) : d.mailboxOperation q = (Res.BAD_OPCODE, [], d) := by
  simp only [Device.mailboxOperation, h]

theorem Device.mailboxOperation_of_domainBegin (h : bits q.request 0 8 = 5) : d.mailboxOperation q =
    let x := d.windowBegin q.mailbox q.addr q.length (bit q.request 17)
    (x.1, [], x.2) := by simp only [Device.mailboxOperation, h]

theorem Device.mailboxOperation_of_domainSegment (h : bits q.request 0 8 = 6) : d.mailboxOperation q =
    let x := d.windowMove q.mailbox q.offset
    (x.1, [], x.2) := by simp only [Device.mailboxOperation, h]

theorem Device.mailboxOperation_of_domainEnd {kernel : Bool} {n : Nat} (he : mailboxExists kernel n = true)
    (hm : q.mailbox = mailboxNumber kernel n) (h : bits q.request 0 8 = 7) : d.mailboxOperation q =
    let x := d.windowEnd q.mailbox (leNat (q.data.take 4))
      (.mailbox kernel n q.tag)
    (x.1, [], x.2) := by simp only [Device.mailboxOperation, h, reply_of_mailbox he hm]

theorem Device.mailboxOperation_of_windowRead (h : bits q.request 0 8 = 8) : d.mailboxOperation q =
    let x := d.windowRead q.mailbox q.addr q.offset (bit q.request 16)
    (x.1, [], x.2) := by simp only [Device.mailboxOperation, h]

theorem Device.mailboxOperation_of_windowClose (h : bits q.request 0 8 = 9) : d.mailboxOperation q =
    let x := d.windowClose q.mailbox
    (x.1, [], x.2) := by simp only [Device.mailboxOperation, h]

end

section
variable {s : State} {kernel current asked : Bool} {n tag a length offset : Nat} {data : List Byte}

theorem Device.fromMailbox_of_reaches {d : Device} (he : mailboxExists kernel n = true) (hm : d.mode ≠ .off)
    (hp : d.board.pci.d3hot = false) (op : Nat) :
    d.fromMailbox kernel n op tag current asked a length offset data =
      d.submit (mailboxNumber kernel n) op tag current asked a length offset data := by
  simp [Device.fromMailbox, he, hm, hp]

/-- A request of a mailbox that takes it: the operation's result is delivered in its page. -/
theorem fromMailbox_of_takesDoorbell {d : Device} (he : mailboxExists kernel n = true)
    (ht : d.takesDoorbell (mailboxNumber kernel n)) {op : Nat} (hop : op < 256) :
    let m := mailboxNumber kernel n
    d.fromMailbox kernel n op tag current asked a length offset data =
      deliver m tag (((d.latched m op tag current asked a length offset data).running m).mailboxOperation
        (requestSpelled m op tag current asked a length offset data)) :=
  (Device.fromMailbox_of_reaches he ht.1 ht.2.1 op).trans (submit_of_takesDoorbell _ _ _ _ _ _ _ hop ht)

/-- A WRITE of a mailbox that takes it. -/
theorem fromMailbox_of_write {d : Device} (he : mailboxExists kernel n = true)
    (ht : d.takesDoorbell (mailboxNumber kernel n)) (hd : data.length ≤ 256) :
    let m := mailboxNumber kernel n
    let x := ((d.latched m 2 tag current asked a data.length offset data).running m).writeEntry (mailboxPrincipal m) (a % 2 ^ 24)
      true data (.mailbox kernel n (tag % 256))
    d.fromMailbox kernel n 2 tag current asked a data.length offset data = deliver m tag (x.1, [], x.2) := by
  have hbytes : slice (slice data 0 256) 0 (min (data.length % 2 ^ 32) 256) = data := by
    rw [show min (data.length % 2 ^ 32) 256 = data.length by omega, slice_slice hd]
  intro m x
  rw [fromMailbox_of_takesDoorbell he ht (by omega),
    Device.mailboxOperation_of_write _ he rfl (opcode_requestSpelled (m := m) _ _ _ _ _ _ _ (by omega)),
    tag_requestSpelled _ _ _ _ _ _ _ (by omega)]
  simp only [requestSpelled, hbytes]
  rfl

end

/-- Settles O38: the doorbell latches what the page spells, and the operation of that code runs on it. -/
theorem mailboxRequestsRun : Obligations.MailboxRequestsRun := by
  unfold Obligations.MailboxRequestsRun
  constructor
  case left =>
    intro s kernel current asked n tag a length offset data ha m p q reply at' index out he ht hd hl ho
    have hl' : length % 2 ^ 32 = length := Nat.mod_eq_of_lt hl
    have ho' : offset % 2 ^ 32 = offset := Nat.mod_eq_of_lt ho
    have hruns (c : Instr) (op : Nat) (hop : op < 256) (hc : accessCommand c = true)
        (hrun : s.dev.runAccess c = s.dev.operation op q) :
        exec c s = out ((at' op).mailboxOperation (requestSpelled m op tag current asked a length offset data)) := by
      rw [exec_of_accesses ha hc, hrun]
      exact congrArg (fun x => Host.Outcome.next (s.put x)) (fromMailbox_of_takesDoorbell he ht hop)
    have hcode (op : Nat) (hop : op < 256) := opcode_requestSpelled (m := m) tag current asked a length offset data hop
    have hcur (op : Nat) (hop : op < 256) := current_requestSpelled (m := m) tag current asked a length offset data hop
    have hasked (op : Nat) (hop : op < 256) := asked_requestSpelled (m := m) tag current asked a length offset data hop
    have htag (op : Nat) (hop : op < 256) := tag_requestSpelled (m := m) tag current asked a length offset data hop
    refine ⟨?_, fun hlen => ?_, ?_, ?_, ?_, ?_, fun h4 => ?_, ?_, ?_⟩
    case _ =>
      rw [hruns _ 1 (by omega) rfl rfl, Device.mailboxOperation_of_read _ ((bits_zero _ _).symm.trans (hcode 1 (by omega)))]
      have h := hcur 1 (by omega)
      simp only [bit] at h
      rw [h]
      rfl
    case _ =>
      rw [exec_of_accesses ha rfl]
      subst hlen
      exact congrArg (fun x => Host.Outcome.next (s.put x)) (fromMailbox_of_write he ht hd)
    case _ =>
      rw [hruns _ 3 (by omega) rfl rfl, Device.mailboxOperation_of_describe _ (hcode 3 (by omega)), hcur 3 (by omega)]
      rfl
    case _ =>
      rw [hruns _ 4 (by omega) rfl rfl, Device.mailboxOperation_of_domainRead _ (hcode 4 (by omega))]
    case _ =>
      rw [hruns _ 5 (by omega) rfl rfl, Device.mailboxOperation_of_domainBegin _ (hcode 5 (by omega)), hasked 5 (by omega)]
      simp only [requestSpelled, hl']
      rfl
    case _ =>
      rw [hruns _ 6 (by omega) rfl rfl, Device.mailboxOperation_of_domainSegment _ (hcode 6 (by omega))]
      simp only [requestSpelled, ho']
    case _ =>
      rw [hruns _ 7 (by omega) rfl rfl, Device.mailboxOperation_of_domainEnd _ he rfl (hcode 7 (by omega)), htag 7 (by omega)]
      simp only [requestSpelled, take_slice h4 (by omega : 4 ≤ 256)]
      rfl
    case _ =>
      rw [hruns _ 8 (by omega) rfl rfl, Device.mailboxOperation_of_windowRead _ (hcode 8 (by omega)), hcur 8 (by omega)]
      simp only [requestSpelled, ho']
      rfl
    case _ =>
      rw [hruns _ 9 (by omega) rfl rfl, Device.mailboxOperation_of_windowClose _ (hcode 9 (by omega))]
      rfl
  case right =>
    intro s kernel current asked n tag a length offset data ha m e q he hm hp
    have hrings : exec (.write q) s = .next (s.put (e.doorbellMailbox m)) := by
      rw [exec_of_accesses ha rfl]
      exact congrArg (fun x => Host.Outcome.next (s.put x)) (Device.fromMailbox_of_reaches he hm hp 2)
    have hbusy : e.mailboxBusy m = s.dev.mailboxBusy m := Device.mailboxBusy_latched ..
    refine ⟨fun hb => ?_, fun hb hr => ?_⟩
    · rw [hrings, Device.doorbellMailbox_of_busy (hbusy.trans hb)]
    · have hready : e.ready = false := by
        obtain ⟨b, heq⟩ := s.dev.barOnly_latched m 2 tag current asked a length offset data
        rw [show e = _ from heq]
        exact hr
      rw [hrings, Device.doorbellMailbox_of_not_ready (hbusy.trans hb) hready, Device.tag_latch_latched _ _ _ _ _ _ _ _ _ _ (by omega),
        Device.completeMailbox_mod]

end Sys2Proof.Machine
end

section
/-! SUPPORT. The commands that write one entry, and the requests of Tendril's queue. -/

namespace Sys2Proof.Machine

open Sys2Proof

/-! ### Writes of one entry -/

section
variable {r q : Requester} {a b : Addr} {f : Bool → List Byte}

/-- A write of a value is the WRITE of the bytes that it spells. -/
theorem Device.writeFrom_of_spell {v : Nat} (h : (spell a v).map (r, ·) = some (q, b, f)) (d : Device) :
    d.writeFrom r a v = d.writeBytes q b f := by
  unfold spell at h
  unfold Device.writeFrom
  cases hrow : findRow a with
  | none =>
    rw [hrow] at h
    exact nomatch h
  | some x =>
    rw [hrow] at h
    cases h
    rfl

/-- A command that writes one entry is an access, and it is the WRITE of that entry. -/
theorem runAccess_of_entryWrite {c : Instr} (h : entryWrite c = some (r, a, f)) :
    accessCommand c = true ∧ ∀ d : Device, d.runAccess c = d.writeBytes r a f := by
  unfold entryWrite at h
  split at h
  case h_1 r g s v =>
    split at h
    next hg => exact ⟨rfl, fun d => (if_pos hg).trans (Device.writeFrom_of_spell h d)⟩
    next => exact nomatch h
  case h_2 r c b k =>
    split at h
    next hc =>
      cases h
      exact ⟨rfl, fun d => if_pos hc⟩
    next => exact nomatch h
  case h_12 =>
    cases h
    exact ⟨rfl, fun d => rfl⟩
  case h_20 r c v =>
    split at h
    next hc => exact ⟨rfl, fun d => (if_pos hc).trans (Device.writeFrom_of_spell h d)⟩
    next => exact nomatch h
  case h_21 r b v =>
    split at h
    next hb => exact ⟨rfl, fun d => (if_pos hb).trans (Device.writeFrom_of_spell h d)⟩
    next => exact nomatch h
  case h_22 => exact nomatch h
  all_goals
    have hspelled := Device.writeFrom_of_spell h
    exact ⟨rfl, hspelled⟩

theorem exec_of_entryWrite {s : State} (ha : s.Accesses) {c : Instr} (h : entryWrite c = some (r, a, f)) :
    exec c s = .next (s.put (s.dev.writeBytes r a f)) := by
  obtain ⟨hc, hruns⟩ := runAccess_of_entryWrite h
  rw [exec_of_accesses ha hc, hruns]

end

/-- Settles O40: the command is the WRITE, and each requester carries it in its own way. That a frame waits in the queue until the
command that names its operation takes it is the model's choice (log entries 49 and 168). -/
theorem entryCommandsAreWrites : Obligations.EntryCommandsAreWrites := by
  unfold Obligations.EntryCommandsAreWrites
  intro s c a f n tag ha data written
  refine ⟨fun hd hc hn ht => ?_, fun hd hc hn ht => ?_, fun hc => exec_of_entryWrite ha hc⟩
  · rw [exec_of_entryWrite ha hc]
    exact congrArg (fun x => Host.Outcome.next (s.put x))
      (fromMailbox_of_write (kernel := true) (by simpa [mailboxExists] using hn) ht hd)
  · rw [exec_of_entryWrite ha hc]
    exact congrArg (fun x => Host.Outcome.next (s.put x))
      (fromMailbox_of_write (kernel := false) (by simpa [mailboxExists] using hn) ht hd)

/-! ### The frame at the head of the Tendril queue -/

section
variable {d : Device} {f : TendrilFrame} {rest : List TendrilFrame} {want : TendrilFrame → Bool} (hq : d.tendrilQueue = f :: rest)
include hq

/-- With no mailbox request before it the frame is taken. -/
theorem Device.serveFrame1_of_head (hd : d.doorbells = []) :
    d.serveFrame1 = ({ d with tendrilQueue := rest } : Device).takeFrame f := by
  simp only [Device.serveFrame1, hq]
  rw [hd, List.map_nil, ← hd]

theorem Device.tendril_of_wanted (hd : d.doorbells = []) (ha : d.alive = true) (hw : d.requestWaits = false) (hf : want f = true) :
    d.tendril want = ({ d with tendrilQueue := rest } : Device).takeFrame f := by
  simp only [Device.tendril, hq, ha, hw, hf, Bool.not_false, Bool.and_self, if_true]
  exact Device.serveFrame1_of_head hq hd

/-- A request does not take a frame of another operation. -/
theorem Device.tendril_of_unwanted (hf : want f = false) : d.tendril want = d := by
  simp [Device.tendril, hq, hf]

end

section
variable {d : Device} {f : TendrilFrame}

theorem Device.takeFrame_of_not_authentic (h : d.authentic f = false) : d.takeFrame f = d.dropTendril E.AUTH_DROPS := by
  simp [Device.takeFrame, h]

theorem Device.takeFrame_of_replay (h : d.authentic f = true)
    (hs : d.acceptSeq (hdrCtrl f.header) (hdrSlotB f.header) (hdrSeq f.header) = none) :
    d.takeFrame f = d.dropTendril E.REPLAY_DROPS := by
  simp [Device.takeFrame, h, hs]

theorem Device.takeFrame_of_accepted {g : Device} (h : d.authentic f = true)
    (hs : d.acceptSeq (hdrCtrl f.header) (hdrSlotB f.header) (hdrSeq f.header) = some g) :
    d.takeFrame f = g.serveFrame f := by
  simp [Device.takeFrame, h, hs]

end

/-- The response to a request that is kept (R86). -/
def Device.keptFor (d : Device) (f : TendrilFrame) : Option Kept :=
  d.kept.find? (fun k => k.ctrl = hdrCtrl f.header ∧ k.requestId = hdrId f.header ∧ k.opcode = hdrOp f.header ∧
    k.addr = hdrAddr f.header ∧ k.offset = hdrOffset f.header)

section
variable {d : Device} {f : TendrilFrame}

theorem Device.serveFrame_of_kept {k : Kept} (h : d.keptFor f = some k) : d.serveFrame f = d.sendResponse f k.header k.payload := by
  simp only [Device.keptFor] at h
  simp only [Device.serveFrame, h]

theorem Device.serveFrame_of_not_ready (h : d.keptFor f = none) (hr : d.ready = false) :
    d.serveFrame f = d.answerFrame f Res.NOT_READY 0 [] := by
  simp only [Device.keptFor] at h
  simp only [Device.serveFrame, h, hr, Bool.not_false, if_true]

theorem Device.serveFrame_of_runs (h : d.keptFor f = none) (hr : d.ready = true) (hp : (d.frameOperation f).1 ≠ Res.PENDING) :
    d.serveFrame f = (d.frameOperation f).2.2.2.answerFrame f (d.frameOperation f).1 (d.frameOperation f).2.1
      (d.frameOperation f).2.2.1 := by
  simp only [Device.keptFor] at h
  simp only [Device.serveFrame, h, hr, hp, Bool.not_true, Bool.false_eq_true, if_false]

end

/-- Settles O41: the head of the queue by the operation that it names, and its frame by the tests in their order. READ takes the
unknown operation codes too (log entry 49); AUTH_DROPS counts LENGTH and TENDRIL_ENABLE among its tests (log entry 190), and a kept
response comes before the test of READY (log entry 81): the model's choices. -/
theorem tendrilRequestsRun : Obligations.TendrilRequestsRun := by
  unfold Obligations.TendrilRequestsRun
  intro s f rest ha hdoorbells hwaits d e h command
  have hruns (c : Instr) (hc : accessCommand c = true) (want : TendrilFrame → Bool) (hrun : d.runAccess c = d.tendril want) :
      exec c s = .next (s.put (d.tendril want)) := (exec_of_accesses ha hc).trans (by rw [hrun])
  have hsame : Host.Outcome.next (s.put s.dev) = (.next s : Host.Outcome State Fault Refusal) := by rw [put_dev s ha.1.2]
  refine ⟨fun hq halive => ?_, fun hq op => ?_, fun hq hop => ?_, Device.takeFrame_of_not_authentic, Device.takeFrame_of_replay,
    fun g hauth hseq => ?_⟩
  case refine_1 =>
    have htaken {want : TendrilFrame → Bool} (hf : want f = true) := Device.tendril_of_wanted hq hdoorbells halive hwaits hf
    simp only [command]
    split
    case h_9 n2 n3 n4 n5 n6 n7 n8 n9 =>
      have hother : hdrOp h ≠ 2 ∧ hdrOp h ≠ 3 ∧ hdrOp h ≠ 4 ∧ hdrOp h ≠ 5 ∧ hdrOp h ≠ 6 ∧ hdrOp h ≠ 7 ∧ hdrOp h ≠ 8 ∧ hdrOp h ≠ 9 :=
        ⟨n2, n3, n4, n5, n6, n7, n8, n9⟩
      rw [hruns _ rfl _ rfl, htaken]
      simp only [Bool.or_eq_true, decide_eq_true_eq]
      change (hdrOp h = 1 ∨ hdrOp h = 0) ∨ 9 < hdrOp h
      omega
    all_goals
      rw [hruns _ rfl _ rfl, htaken (by simpa using ‹_›)]
  case refine_2 =>
    have hleft (want : TendrilFrame → Bool) : d.tendril want = d := Device.tendril_of_empty hq want
    simp only [command]
    split <;> exact (hruns _ rfl _ rfl).trans ((congrArg (fun x => Host.Outcome.next (s.put x)) (hleft _)).trans hsame)
  case refine_3 =>
    rw [hruns _ rfl _ rfl, Device.tendril_of_unwanted hq (by simp [show hdrOp f.header = 2 from hop]), hsame]
  case refine_4 =>
    rw [Device.takeFrame_of_accepted hauth hseq]
    exact ⟨fun k hk => Device.serveFrame_of_kept hk, fun hk hready hx => Device.serveFrame_of_runs hk hready hx,
      fun hk hready => Device.serveFrame_of_not_ready hk hready⟩

end Sys2Proof.Machine
end

section
/-! SUPPORT. Writes of the event registers, coalesced EVENT frames and beacons. -/

namespace Sys2Proof.Machine

open Sys2Proof

/-! ### The event registers' own path (R442) -/

section
variable (d : Device)

theorem Device.clearStatus_of_none (g v : Nat) :
    d.clearStatus g v [] = d.wr (E.GROUP_STATUS g) (d.rd (E.GROUP_STATUS g) &&& lnot 16 v) := by
  simp [Device.clearStatus]

/-- A W1C that one raise meets: the raise in full, on the STATUS that is left. -/
theorem Device.clearStatus_of_met {n : Nat} (hready : d.ready = true) (hn : (groupSources (n / 16)).testBit (n % 16) = true) (v x : Nat) :
    let e := d.wr (E.GROUP_STATUS (n / 16)) (d.rd (E.GROUP_STATUS (n / 16)) &&& lnot 16 v)
    let r := e.raiseState n (x % 2 ^ 32)
    d.clearStatus (n / 16) v [(n % 16, x)] = (if e.raiseEdge n false then r.deliver (n / 16) else r).eventFrames n := by
  have hsource : 16 * (n / 16) + n % 16 = n := Nat.div_add_mod n 16
  have hmet : [(n % 16, x)].filter (fun y => bit (groupSources (n / 16)) y.1) = [(n % 16, x)] :=
    List.filter_eq_self.mpr (by simpa [bit] using hn)
  intro e r
  simp only [Device.clearStatus, hmet]
  rw [if_pos ⟨hready, List.cons_ne_nil _ _⟩]
  simp only [List.any_cons, List.any_nil, Bool.or_false, List.foldl_cons, List.foldl_nil, List.map_cons, List.map_nil, hsource,
    List.eraseDups_cons, List.eraseDups_nil, List.filter_nil]
  rfl

theorem Device.bk_clearStatus_of_met {n : Nat} (hready : d.ready = true) (hn : (groupSources (n / 16)).testBit (n % 16) = true)
    (v x : Nat) : (d.clearStatus (n / 16) v [(n % 16, x)]).bk =
      ((d.wr (E.GROUP_STATUS (n / 16)) (d.rd (E.GROUP_STATUS (n / 16)) &&& lnot 16 v)).raiseState n (x % 2 ^ 32)).bk := by
  rw [d.clearStatus_of_met hready hn, Device.bk_eventFrames]
  split
  · rw [Device.bk_deliver]
  · rfl

/-- A write of OCC: the count less the value, and SATURATED cleared by the value's bit 8. -/
theorem occLeft (occ v : Nat) :
    let w := occ % 256 - v % 256 + (if bit v 8 then 0 else bits occ 8 1 * 256)
    w % 256 = occ % 256 - v % 256 ∧ w.testBit 8 = (occ.testBit 8 && !v.testBit 8) := by
  intro w
  have hocc : bits occ 8 1 = (occ.testBit 8).toNat := by
    rw [Nat.toNat_testBit]
    rfl
  simp only [w, hocc, bit]
  cases v.testBit 8 <;> cases occ.testBit 8 <;>
    simp only [Bool.not_false, Bool.not_true, Bool.and_true, Bool.and_false, Bool.toNat_true, Bool.toNat_false, Bool.false_eq_true,
      if_true, if_false, Nat.testBit_eq_decide_div_mod_eq, decide_eq_true_eq, decide_eq_false_iff_not] <;>
    omega

end

/-! ### Coalesced EVENT frames and beacons (R88, R445) -/

theorem Device.sendCoalesced_of_none {d : Device} {c n : Nat}
    (h : d.eventHolds.find? (fun h => h.ctrl = c && h.source = n && h.waiting) = none) : d.sendCoalesced c n = d := by
  simp only [Device.sendCoalesced, h]

/-- The hold of a controller's source has ended. -/
def Device.endHold (d : Device) (c n : Nat) : Device :=
  let held := modFirst d.eventHolds (fun h => h.ctrl = c && h.source = n) (fun h => { h with waiting := false, sentPs := d.clk.nowPs })
  { d with eventHolds := held }

theorem Device.sendCoalesced_of_waiting {d : Device} {c n : Nat} {x : EventHold}
    (h : d.eventHolds.find? (fun h => h.ctrl = c && h.source = n && h.waiting) = some x) (hs : d.selects c (n / 16) = true) :
    d.sendCoalesced c n = (d.endHold c n).originate c 0x20 (d.eventPayload n true) := by
  simp only [Device.sendCoalesced, h, hs, if_true]
  rfl

/-- A beacon to one controller. -/
def Device.beaconTo (d : Device) (c : Nat) : Device :=
  if d.rd (E.CTRL_ENABLE c) = 1 ∧ d.rd (E.CTRL_MAC c) ≠ 0 then d.originate c 0x30 d.beaconPayload else d

theorem Device.beaconTo_of_not_enabled {d : Device} {c : Nat} (h : d.rd (E.CTRL_ENABLE c) = 0) : d.beaconTo c = d := by
  simp [Device.beaconTo, h]

theorem exec_beacon {s : State} (hr : s.Runs) (ht : s.dev.rd E.TENDRIL_ENABLE ≠ 0) (hp : s.dev.rd E.BEACON_PERIOD_MS ≠ 0)
    (hready : s.dev.ready = true) : exec .beacon s = .next (s.put ((List.range 16).foldl Device.beaconTo s.dev)) := by
  refine (on_runs s _ hr).trans ?_
  rw [if_neg]
  · rfl
  · simp [ht, hp, hready]

/-- The controllers that are not enabled get no beacon. -/
theorem foldl_beaconTo_of_not_enabled {d : Device} {l : List Nat} (h : ∀ k ∈ l, d.rd (E.CTRL_ENABLE k) = 0) :
    l.foldl Device.beaconTo d = d := by
  induction l with
  | nil => rfl
  | cons k t ih =>
    rw [List.foldl_cons, Device.beaconTo_of_not_enabled (h k List.mem_cons_self), ih (fun i hi => h i (List.mem_cons_of_mem _ hi))]

/-- Where one controller alone is enabled, it alone gets a beacon. -/
theorem foldl_beaconTo_of_one {d : Device} {c : Nat} (hc : c < 16) (he : d.rd (E.CTRL_ENABLE c) = 1) (hm : d.rd (E.CTRL_MAC c) ≠ 0)
    (h : ∀ k, k < 16 → k ≠ c → d.rd (E.CTRL_ENABLE k) = 0) :
    (List.range 16).foldl Device.beaconTo d = d.originate c 0x30 d.beaconPayload := by
  have hto : d.beaconTo c = d.originate c 0x30 d.beaconPayload := by simp [Device.beaconTo, he, hm]
  have hsplit : List.range 16 = List.range c ++ c :: (List.range (15 - c)).map (c + 1 + ·) := by
    have h16 : 16 = c + (15 - c + 1) := by omega
    rw [h16, List.range_add, List.range_succ_eq_map, List.map_cons, List.map_map]
    simp [Function.comp_def, Nat.add_assoc, Nat.add_comm 1]
  have hbefore : (List.range c).foldl Device.beaconTo d = d :=
    foldl_beaconTo_of_not_enabled (fun k hk => by
      have hlt := List.mem_range.mp hk
      exact h k (hlt.trans hc) hlt.ne)
  rw [hsplit, List.foldl_append, List.foldl_cons, hbefore, hto, foldl_beaconTo_of_not_enabled]
  intro k hk
  obtain ⟨i, hi, rfl⟩ := List.mem_map.mp hk
  have hlt := List.mem_range.mp hi
  rw [Device.rd_of_bk_eq (d.bk_originate ..)]
  exact h _ (by omega) (by omega)

/-- Settles O48, register by register. That a coalesced frame which does not wait sends nothing is log entry 7 (the model's choice). -/
theorem eventRegisterWrites : Obligations.EventRegisterWrites := by
  unfold Obligations.EventRegisterWrites
  refine ⟨fun s r g v n ha hmode hd3 => ?_, fun s c n hr => ?_⟩
  case refine_1 =>
    intro d a
    have hruns {c : Instr} (hc : accessCommand c = true) {e : Device} (he : d.runAccess c = e) : exec c s = .next (s.put e) :=
      (exec_of_accesses ha hc).trans (by rw [he])
    have hgroup (hg : g < 64) : ¬ (64 ≤ g ∨ d.mode = .off) := by rintro (h | h); exacts [absurd hg (by omega), hmode h]
    have hsource (hn : n < 1024) : ¬ (1024 ≤ n ∨ d.mode = .off) := by rintro (h | h); exacts [absurd hn (by omega), hmode h]
    have hbar {α : Type} (x y : α) : (if d.board.pci.d3hot = true then x else y) = y := if_neg (by simp [d, hd3])
    refine ⟨fun hg => ⟨_, hruns rfl ((if_neg (hgroup hg)).trans ((hbar _ _).trans (d.clearStatus_of_none g _))), fun i hi => ?status,
        fun x hx => Device.rd_wr_ne d _ _ _ hx, rfl⟩,
      fun hn hs hready x => ⟨_, hruns rfl ((if_neg ?group).trans (hbar _ _)), ?met⟩,
      fun hn => ⟨_, hruns rfl ((if_neg (hsource hn)).trans (hbar _ _)), ?occ⟩,
      fun hg => hruns rfl ((if_neg (hgroup hg)).trans (hbar _ _)), fun hg => hruns rfl (if_neg (hgroup hg)),
      fun hg => hruns rfl (if_neg (hgroup hg)), fun hn => hruns rfl (if_neg (hsource hn))⟩
    case status =>
      have hstatus : (d.wr (E.GROUP_STATUS g) (d.rd (E.GROUP_STATUS g) &&& lnot 16 (v % 2 ^ 16))).rd (E.GROUP_STATUS g) = _ :=
        Device.rd_wr_same ..
      refine (congrArg (fun x => x.testBit i) hstatus).trans ?_
      simp only [Nat.testBit_and, testBit_lnot, Nat.testBit_mod_two_pow, hi, decide_true, Bool.true_and]
    case group =>
      rintro (h | h)
      · omega
      · exact hmode h
    case met =>
      let e := d.wr (E.GROUP_STATUS (n / 16)) (d.rd (E.GROUP_STATUS (n / 16)) &&& lnot 16 (v % 2 ^ 16))
      have hreads (b : Addr) : (d.clearStatus (n / 16) (v % 2 ^ 16) [(n % 16, x)]).rd b = (e.raiseState n (x % 2 ^ 32)).rd b :=
        Device.rd_of_bk_eq (d.bk_clearStatus_of_met hready hs _ x) b
      have htakes : e.takesDetail n (x % 2 ^ 32) = true := by
        have hcycle : e.cycle = {} := ha.1.2
        simp [Device.takesDetail, Device.raisedLow, hcycle]
      refine ⟨?_, ?_, ?_⟩
      · refine (congrArg (fun x => x.testBit (n % 16)) ((hreads _).trans (Device.status_raiseState e _ hn))).trans ?_
        simp only [testBit_setBit, if_true]
      · refine ((hreads _).trans (Device.occ_raiseState e _ hn hn)).trans ?_
        rw [if_pos rfl, Device.rd_wr_ne _ _ _ _ (status_lt_occ n hn).ne']
      · exact ((hreads _).trans (Device.detail_raiseState e _ hn)).trans (if_pos htakes)
    case occ =>
      have hleft := occLeft (d.rd a) v
      have hocc : (d.writeOcc n v).rd a = _ := Device.rd_wr_same d a _
      exact ⟨(congrArg (· % 256) hocc).trans hleft.1, (congrArg (fun x => x.testBit 8) hocc).trans hleft.2,
        fun x hx => Device.rd_wr_ne d _ _ _ hx, rfl⟩
  case refine_2 =>
    intro d
    refine ⟨fun h hf hs => (on_runs s _ hr).trans ?_, fun hf => (on_runs s _ hr).trans ?_, fun hoff => (on_runs s _ hr).trans ?_,
      fun ht hp hready hoff => ?_, fun ht hp hready hc he hm hoff => ?_⟩
    · exact congrArg (fun x => Host.Outcome.next (s.put x)) (Device.sendCoalesced_of_waiting hf hs)
    · rw [Device.sendCoalesced_of_none hf, put_dev s hr.2]
    · rw [if_pos (by simpa using hoff), put_dev s hr.2]
    · rw [exec_beacon hr ht hp hready, foldl_beaconTo_of_not_enabled (fun k hk => hoff k (List.mem_range.mp hk)), put_dev s hr.2]
    · rw [exec_beacon hr ht hp hready, foldl_beaconTo_of_one hc he hm hoff]

end Sys2Proof.Machine
end

section
/-! SUPPORT. Writes into the BARs, and Function Level Reset. -/

namespace Sys2Proof.Machine

open Sys2Proof

/-! ### The words of a write (R67) -/

theorem leNat_leBytes (n v : Nat) : leNat (leBytes n v) = v % 256 ^ n := by
  induction n generalizing v with
  | zero => exact (Nat.mod_one v).symm
  | succ n ih =>
    have hmod : v % 256 ^ (n + 1) = v % 256 + 256 * (v / 256 % 256 ^ n) := by rw [Nat.pow_succ', Nat.mod_mul]
    rw [leBytes, leNat_cons, ih, BitVec.toNat_ofNat, hmod]
    omega

theorem lnot_full : lnot 32 0xFFFFFFFF = 0 := by decide

/-- A whole word takes the value. -/
theorem merge_full (old : Nat) {v : Nat} (h : v < 2 ^ 32) : merge old 0xFFFFFFFF v = v := by
  rw [merge, lnot_full, Nat.and_zero, Nat.zero_or]
  exact (Nat.and_two_pow_sub_one_eq_mod v 32).trans (Nat.mod_eq_of_lt h)

/-- An aligned write of 4 bytes is one word. -/
theorem wordsOf_four {offset v : Nat} (ha : offset % 4 = 0) (hv : v < 2 ^ 32) : wordsOf offset 4 v = [(offset, 0xFFFFFFFF, v)] := by
  have hlen (w : Nat) : (leBytes 4 w).length = 4 := rfl
  have hvalue : leNat (slice (leBytes 4 v) 0 4) = v := by
    rw [slice_self _ _ (hlen v), leNat_leBytes]
    exact Nat.mod_eq_of_lt hv
  have hmask : leNat (slice (List.replicate 4 (0xFF : Byte)) 0 4) = 0xFFFFFFFF := by decide
  simp only [wordsOf, ha, List.replicate_zero, List.nil_append, hlen]
  show [(offset / 4 * 4 + 4 * 0, leNat (slice (List.replicate 4 (0xFF : Byte)) (4 * 0) 4), leNat (slice (leBytes 4 v) (4 * 0) 4))] = _
  simp only [Nat.mul_zero, hmask, hvalue, List.cons.injEq, Prod.mk.injEq, and_true]
  omega

theorem statusFirst_singleton (w : Nat × Nat × Nat) : statusFirst [w] = [w] := by
  unfold statusFirst
  cases h : isStatusWord w.1 <;> simp [h]

section
variable {d : Device} {offset v : Nat}

theorem Device.writeWords_taken {f : Device → Nat → Nat → Nat → Option Device} {w : Nat × Nat × Nat} {e : Device}
    (h : f d w.1 w.2.1 w.2.2 = some e) : d.writeWords f [w] = e := by
  simp [Device.writeWords, h]

theorem Device.writeWords_not_taken {f : Device → Nat → Nat → Nat → Option Device} {w : Nat × Nat × Nat}
    (h : f d w.1 w.2.1 w.2.2 = none) : d.writeWords f [w] = d.bumpBar HOST_BAD_WRITES 1 := by
  simp [Device.writeWords, h]

/-- A write of BAR0 below its window. -/
theorem Device.registerWrite_of_bar0 {size : Nat} (hm : d.mode ≠ .off) (hp : d.board.pci.d3hot = false) (hs : 0 < size) (hs' : size ≤ 256)
    (ho : offset + size ≤ 0x800000) :
    d.registerWrite 0 offset size v = d.writeWords Device.writeWord0 (statusFirst (wordsOf offset size v)) := by
  rw [Device.registerWrite, if_neg (by simp [hm, hp]; omega), if_neg (by omega), if_pos ⟨rfl, ho⟩]

theorem Device.registerWrite_word (hm : d.mode ≠ .off) (hp : d.board.pci.d3hot = false) (ha : offset % 4 = 0)
    (ho : offset + 4 ≤ 0x800000) (hv : v < 2 ^ 32) {e : Device} (h : d.writeWord0 offset 0xFFFFFFFF v = some e) :
    d.registerWrite 0 offset 4 v = e := by
  rw [Device.registerWrite_of_bar0 hm hp (by omega) (by omega) ho, wordsOf_four ha hv, statusFirst_singleton,
    Device.writeWords_taken h]

end

/-! ### A mailbox's words (Table 3.4) -/

section
variable (d : Device) {m o : Nat}

theorem mailboxPage_add_lt (hm : m < 20) (ho : o < 0x1000) : mailboxPage m + o < 0x30000 := by
  unfold mailboxPage
  split <;> omega

theorem mailboxPage_mod (m : Nat) : mailboxPage m % 0x1000 = 0 := by
  unfold mailboxPage
  split <;> omega

theorem Device.writeWord0_mailbox (hm : m < 20) (ho : o < 0x1000) (mask v : Nat) :
    d.writeWord0 (mailboxPage m + o) mask v = d.writeMailboxWord m o mask v := by
  unfold mailboxPage
  by_cases h : m < 4
  · rw [if_pos h, Device.writeWord0, if_neg (by omega), if_pos (by omega), show (0x10000 + 0x1000 * m + o - 0x10000) / 0x1000 = m by omega,
      show (0x10000 + 0x1000 * m + o) % 0x1000 = o by omega]
  · rw [if_neg h, Device.writeWord0, if_neg (by omega), if_neg (by omega), if_pos (by omega),
      show 4 + (0x20000 + 0x1000 * (m - 4) + o - 0x20000) / 0x1000 = m by omega,
      show (0x20000 + 0x1000 * (m - 4) + o) % 0x1000 = o by omega]

theorem Device.writeWord0_readOnly {off : Nat} (h : off < 0x14) (mask v : Nat) : d.writeWord0 off mask v = some d := if_pos h

theorem Device.writeWord0_undefined {off : Nat} (h : 0x14 ≤ off) (h' : off < 0x10000) (mask v : Nat) :
    d.writeWord0 off mask v = none := by
  rw [Device.writeWord0, if_neg (by omega), if_neg (by omega), if_neg (by omega), if_neg (by omega), if_neg (by omega),
    if_neg (by omega)]

end

/-! ### A write that holds the doorbell and the clear of DONE (R69) -/

section
variable {d : Device} {m : Nat}

/-- The doorbell and MB_STATUS in one write of 8 bytes, each word with the value that its half holds. -/
theorem wordsOf_doorbell {offset : Nat} (ha : offset % 4 = 0) :
    wordsOf offset 8 (2 ^ 33 + 1) = [(offset, 0xFFFFFFFF, 1), (offset + 4, 0xFFFFFFFF, 2)] := by
  have hbytes : (leBytes 8 (2 ^ 33 + 1)).length = 8 := rfl
  simp only [wordsOf, ha, List.replicate_zero, List.nil_append, hbytes]
  show [(offset / 4 * 4 + 4 * 0, leNat (slice (List.replicate 8 (0xFF : Byte)) 0 4), leNat (slice (leBytes 8 (2 ^ 33 + 1)) 0 4)),
    (offset / 4 * 4 + 4 * 1, leNat (slice (List.replicate 8 (0xFF : Byte)) 4 4), leNat (slice (leBytes 8 (2 ^ 33 + 1)) 4 4))] = _
  have hoff : offset / 4 * 4 = offset := by omega
  rw [hoff]
  rfl

theorem isStatusWord_page (hm : m < 20) {o : Nat} (ho : o < 0x1000) : isStatusWord (mailboxPage m + o) = decide (o = 0x14) := by
  have hlt := mailboxPage_add_lt hm ho
  have hmod := mailboxPage_mod m
  have hin : (0x10000 ≤ mailboxPage m + o ∧ mailboxPage m + o < 0x14000) ∨ (0x20000 ≤ mailboxPage m + o ∧ mailboxPage m + o < 0x30000) := by
    unfold mailboxPage
    split <;> omega
  have hlow : (mailboxPage m + o) % 0x1000 = o := by omega
  unfold isStatusWord
  rw [hlow]
  have hregion : ((0x10000 ≤ mailboxPage m + o && mailboxPage m + o < 0x14000) ||
      (0x20000 ≤ mailboxPage m + o && mailboxPage m + o < 0x30000)) = true := by simpa using hin
  rw [hregion, Bool.and_true]

theorem Device.registerWrite_doorbell (hmode : d.mode ≠ .off) (hp : d.board.pci.d3hot = false) (hm : m < 20) :
    d.registerWrite 0 (mailboxPage m + 0x10) 8 (2 ^ 33 + 1) =
      (d.setBar (mailboxPage m + 0x14) (setBit (d.bar (mailboxPage m + 0x14)) 1 false)).doorbellMailbox m := by
  have hlt := mailboxPage_add_lt hm (show 0x10 < 0x1000 by omega)
  have hmod := mailboxPage_mod m
  have hwords : statusFirst (wordsOf (mailboxPage m + 0x10) 8 (2 ^ 33 + 1)) =
      [(mailboxPage m + 0x14, 0xFFFFFFFF, 2), (mailboxPage m + 0x10, 0xFFFFFFFF, 1)] := by
    rw [wordsOf_doorbell (by omega)]
    simp [statusFirst, isStatusWord_page hm (show 0x10 < 0x1000 by omega),
      show isStatusWord (mailboxPage m + 0x10 + 4) = true by rw [Nat.add_assoc, isStatusWord_page hm (by omega)]; rfl]
  rw [Device.registerWrite_of_bar0 hmode hp (by omega) (by omega) (by omega), hwords]
  simp only [Device.writeWords, List.foldl_cons, List.foldl_nil, Device.writeWord0_mailbox _ hm (show 0x14 < 0x1000 by omega),
    Device.writeWord0_mailbox _ hm (show 0x10 < 0x1000 by omega)]
  rfl

end

/-! ### Function Level Reset (R66) -/

section
variable (d : Device)

theorem Device.channel_c (k : Nat) : (d.channel k).c = k := by
  unfold Device.channel
  cases h : d.channels.find? (fun x => x.c = k) with
  | none => rfl
  | some x => simpa using List.find?_some h

/-- A channel of a list that holds one of each number in order. -/
theorem find?_channel {f : Nat → Channel} (hf : ∀ c, (f c).c = c) {n k : Nat} (hk : k < n) :
    ((List.range n).map f).find? (fun x => x.c = k) = some (f k) := by
  have hfind : (List.range n).find? ((fun x : Channel => decide (x.c = k)) ∘ f) = some k := by
    rw [List.find?_range_eq_some]
    refine ⟨by simp [hf], List.mem_range.mpr hk, fun j hj => ?_⟩
    simp [hf, hj.ne]
  rw [List.find?_map, hfind]
  rfl

/-- A channel after every one that is not retired has halted. -/
def Channel.halted (ch : Channel) : Channel :=
  if ch.state = 5 then ch else { ch.cleared with state := 4, cause := 4, latched := false }

theorem Device.channel_haltChannels {k : Nat} (hk : k < 1024) : d.haltChannels.channel k = (d.channel k).halted := by
  have hc (c : Nat) : (d.channel c).halted.c = c := by
    unfold Channel.halted
    split
    · exact d.channel_c c
    · exact d.channel_c c
  have hall : d.haltChannels.channels = (List.range 1024).map (fun c => (d.channel c).halted) := by
    unfold Device.haltChannels
    generalize 1024 = n
    rfl
  rw [Device.channel, hall, find?_channel hc hk]
  rfl

theorem Device.closeWindow_eq : ∃ ws, d.closeWindow = { d with window := none, writes := ws } := by
  unfold Device.closeWindow
  split
  next w h =>
    by_cases hw : w.write = true
    · exact ⟨_, by rw [if_pos hw]; rfl⟩
    · exact ⟨_, by rw [if_neg hw]⟩
  next h => exact ⟨_, by rw [← h]⟩

/-- The mask bits of the first `n` vectors are set. -/
def Device.maskFirst (n : Nat) : Device := (List.range n).foldl (fun (e : Device) v => e.setBar (0x110000 + 16 * v + 12) 1) d

theorem Device.maskVectors_eq : d.maskVectors = d.maskFirst 128 := by
  unfold Device.maskVectors Device.maskFirst
  generalize 128 = n
  rfl

theorem Device.maskFirst_succ (n : Nat) : d.maskFirst (n + 1) = (d.maskFirst n).setBar (0x110000 + 16 * n + 12) 1 := by
  rw [Device.maskFirst, List.range_succ, List.foldl_append, List.foldl_cons, List.foldl_nil]
  rfl

theorem Device.barOnly_maskFirst (n : Nat) : d.BarOnly (d.maskFirst n) := by
  induction n with
  | zero => exact ⟨_, rfl⟩
  | succ n ih => exact d.maskFirst_succ n ▸ ih.trans (Device.barOnly_setBar _ _ _)

theorem Device.bar_maskFirst_vector {n v : Nat} (h : v < n) : (d.maskFirst n).bar (0x110000 + 16 * v + 12) = 1 := by
  induction n with
  | zero => omega
  | succ n ih =>
    rw [d.maskFirst_succ, Device.bar_setBar]
    split
    · rfl
    · exact ih (by omega)

/-- The words below the vectors' table stay. -/
theorem Device.bar_maskFirst_below {a : Nat} (h : a < 0x110000) (n : Nat) : (d.maskFirst n).bar a = d.bar a := by
  induction n with
  | zero => rfl
  | succ n ih => rw [d.maskFirst_succ, Device.bar_setBar, if_neg (by omega), ih]

/-- No word of a mailbox page keeps its value. -/
theorem Device.bar_clearMailboxes {m o : Nat} (hm : m < 20) (ho : o < 0x1000) :
    d.clearMailboxes.bar (mailboxPage m + o) = bar0Default (mailboxPage m + o) := by
  refine SMap.get_filter_none d.bar0 (fun a => !(0x10000 ≤ a && a < 0x14000) && !(0x20000 ≤ a && a < 0x30000)) _ _ ?_
  unfold mailboxPage
  by_cases h : m < 4 <;> simp [h] <;> omega

theorem mailboxBusy_of_bar0Default {d : Device} {m : Nat} (h : d.bar (mailboxPage m + 0x14) = bar0Default (mailboxPage m + 0x14))
    (hm : m < 20) : d.mailboxBusy m = false := by
  have hlt := mailboxPage_add_lt hm (show 0x14 < 0x1000 by omega)
  rw [Device.mailboxBusy, h, bar0Default, if_neg (by omega), if_neg (by omega)]
  rfl

/-- What the steps of a Function Level Reset after the channels' halt leave: the window is closed, and the host's writes are dropped. -/
theorem Device.maskVectors_closeWindow : ∃ (b : SMap) (ws : List OpenWrite),
    ((d.closeWindow.dropWrite 0).dropWrite 1).clearMailboxes.maskVectors = { d with
      window := none, bar0 := b, writes := (ws.filter (fun w => w.principal ≠ 0)).filter (fun w => w.principal ≠ 1) } := by
  obtain ⟨ws, hclose⟩ := d.closeWindow_eq
  obtain ⟨b, hmask⟩ := ((d.closeWindow.dropWrite 0).dropWrite 1).clearMailboxes.barOnly_maskFirst 128
  refine ⟨b, ws, ?_⟩
  rw [Device.maskVectors_eq, hmask, hclose]
  simp only [Device.dropWrite, Device.clearMailboxes]

theorem Device.mailboxBusy_maskVectors {m : Nat} (hm : m < 20) : d.clearMailboxes.maskVectors.mailboxBusy m = false := by
  refine mailboxBusy_of_bar0Default ?_ hm
  have hlt := mailboxPage_add_lt hm (show 0x14 < 0x1000 by omega)
  rw [Device.maskVectors_eq, Device.bar_maskFirst_below _ (by omega)]
  exact Device.bar_clearMailboxes _ hm (by omega)

theorem Device.bar_maskVectors {v : Nat} (hv : v < 128) : d.maskVectors.bar (0x110000 + 16 * v + 12) = 1 := by
  rw [Device.maskVectors_eq, Device.bar_maskFirst_vector _ hv]

/-- The channels' halt, with the requests abandoned: neither touches the book or the data path. -/
theorem Device.haltChannels_abandonRequests : ∃ ws cs held join board, d.abandonRequests.haltChannels =
    { d with writes := ws, channels := cs, doorbells := [], held := held, join := join, board := board } := by
  unfold Device.haltChannels
  generalize 1024 = n
  exact ⟨_, _, _, _, _, rfl⟩

end

/-- Settles O49: the writes by the word that they name, and the reset by what each of its steps leaves. -/
theorem registerWritesAndFunctionReset : Obligations.RegisterWritesAndFunctionReset := by
  unfold Obligations.RegisterWritesAndFunctionReset
  refine ⟨fun s bar k m value ha hmode hp hv => ?_, fun s c hr => ⟨fun hmode => ?_, on_runs s _ hr⟩⟩
  case refine_1 =>
    intro d page
    have hwrite (bar offset size v : Nat) {e : Device} (h : d.registerWrite bar offset size v = e) :
        exec (.registerWrite bar offset size v) s = .next (s.put e) :=
      (exec_of_accesses ha rfl).trans (congrArg (fun x => Host.Outcome.next (s.put x)) h)
    have hbad (bar offset size v : Nat) (hb : d.isBadWrite bar offset size = true) {e : Device}
        (h : d.registerWrite bar offset size v = e) : exec (.hostBadWrite bar offset size v) s = .next (s.put e) :=
      (exec_of_accesses ha rfl).trans (congrArg (fun x => Host.Outcome.next (s.put x)) ((if_pos hb).trans h))
    have hword {o v : Nat} {e : Device} (hm : m < 20) (ho : o < 0x1000) (ha : o % 4 = 0) (hv : v < 2 ^ 32)
        (h : d.writeMailboxWord m o 0xFFFFFFFF v = some e) : d.registerWrite 0 (page + o) 4 v = e := by
      have hlt := mailboxPage_add_lt hm ho
      have hmod := mailboxPage_mod m
      exact Device.registerWrite_word hmode hp (by omega) (by omega) hv ((d.writeWord0_mailbox hm ho _ _).trans h)
    refine ⟨fun offset size hs hs' h0 h4 => ?none, fun hk => ?readOnly, fun hk hk' => ?undefined, fun hm => ?address, fun hm hk hk' => ?data,
      fun hm => ?doorbell, fun hm => hwrite _ _ _ _ (Device.registerWrite_doorbell hmode hp hm)⟩
    case none =>
      have hout : d.registerWrite bar offset size value = d.bumpBar HOST_BAD_WRITES 1 := by
        rw [Device.registerWrite, if_neg (by simp [d, hmode, hp]; omega), if_neg (by simp [h0]), if_neg (by simp [h0]), if_neg (by simp [h4])]
      have hnone : d.isBadWrite bar offset size = true := by
        rw [Device.isBadWrite, if_neg (by simp [h0]), if_neg (by simp [h0]), if_neg (by simp [h4])]
      exact ⟨hwrite _ _ _ _ hout, hbad _ _ _ _ hnone hout⟩
    case readOnly =>
      rw [hwrite _ _ _ _ (Device.registerWrite_word hmode hp (by omega) (by omega) hv (d.writeWord0_readOnly (by omega) _ _)),
        put_dev s ha.1.2]
    case undefined =>
      have hnone (v : Nat) := d.writeWord0_undefined (show 0x14 ≤ 4 * k by omega) (show 4 * k < 0x10000 by omega) 0xFFFFFFFF v
      refine hbad _ _ _ _ ?_ ?_
      · rw [Device.isBadWrite, if_pos ⟨rfl, by omega⟩, wordsOf_four (by omega) (by omega)]
        simp [d.writeWord0_undefined (show 0x14 ≤ 4 * k by omega) (show 4 * k < 0x10000 by omega)]
      · rw [Device.registerWrite_of_bar0 hmode hp (by omega) (by omega) (by omega), wordsOf_four (by omega) hv, statusFirst_singleton,
          Device.writeWords_not_taken (hnone value)]
    case address =>
      refine hwrite _ _ _ _ (hword hm (by omega) (by omega) hv ?_)
      rw [Device.writeMailboxWord, merge_full _ hv]
      rfl
    case data =>
      refine hwrite _ _ _ _ (hword hm (by omega) (by omega) hv ?_)
      rw [Device.writeMailboxWord, merge_full _ hv, if_neg (by omega), if_neg (by omega), if_pos (by omega)]
    case doorbell => exact hwrite _ _ _ _ (hword hm (by omega) (by omega) (by omega) rfl)
  case refine_2 =>
    obtain ⟨ws, cs, held, join, board, hhalted⟩ := s.dev.haltChannels_abandonRequests
    have hchannel (k : Nat) (hk : k < 1024) := s.dev.abandonRequests.channel_haltChannels hk
    have hexec : exec .functionLevelReset s = .next (s.put
        ((((s.dev.abandonRequests.haltChannels.closeWindow).dropWrite 0).dropWrite 1).clearMailboxes.maskVectors)) := by
      refine (on_runs s _ hr).trans ?_
      rw [if_neg hmode]
    generalize s.dev.abandonRequests.haltChannels = h at *
    obtain ⟨b, us, heq⟩ := h.maskVectors_closeWindow
    have hbusy (m : Nat) (hm : m < 20) := Device.mailboxBusy_maskVectors ((h.closeWindow.dropWrite 0).dropWrite 1) hm
    have hmasked (v : Nat) (hv : v < 128) := Device.bar_maskVectors ((h.closeWindow.dropWrite 0).dropWrite 1).clearMailboxes hv
    rw [heq] at hbusy hmasked hexec
    refine ⟨_, hexec, rfl, ?_, ?_, ?_, ?_, ?_, ?_, ?_, ?_, ?_, fun w hw => ?_, fun k hk hs => ?_, hbusy, hmasked⟩
    case refine_10 =>
      obtain ⟨hw, h1⟩ := List.mem_filter.mp hw
      obtain ⟨-, h0⟩ := List.mem_filter.mp hw
      exact ⟨of_decide_eq_true h0, of_decide_eq_true h1⟩
    case refine_11 =>
      have hch : h.channel k = { (s.dev.channel k).cleared with state := 4, cause := 4, latched := false } :=
        (hchannel k hk).trans (if_neg hs)
      exact ⟨congrArg Channel.state hch, congrArg Channel.cause hch⟩
    all_goals
      rw [hhalted]
      rfl

end Sys2Proof.Machine
end

section
/-! SUPPORT. Checks and the phases of a commit. -/

namespace Sys2Proof.Machine

open Sys2Proof

/-! ### The end of a check (R46) and a mode's entry -/

section
variable (d : Device)

/-- A check's three words, before it is announced. -/
def Device.noteCheck (reason word detail : Nat) : Device :=
  ((d.wr E.CHECK_REASON reason).wr E.CHECK_ENTRY word).wr E.CHECK_DETAIL detail

section
variable (reason : Nat) (bad : Option Addr) (detail : Nat)

theorem Device.endCheck_eq : ∃ word, d.endCheck reason bad detail = (d.noteCheck reason word detail).raise Src.CHECK_DONE 0 := ⟨_, rfl⟩

theorem Device.eventOnly_endCheck : d.EventOnly (d.endCheck reason bad detail) := by
  obtain ⟨word, h⟩ := d.endCheck_eq reason bad detail
  rw [h]
  exact Device.EventOnly.trans (b := d.noteCheck reason word detail) rfl (Device.eventOnly_raise _ _ _)

theorem Device.rd_endCheck_reason : (d.endCheck reason bad detail).rd E.CHECK_REASON = reason := by
  obtain ⟨word, h⟩ := d.endCheck_eq reason bad detail
  rw [h, Device.rd_raise_below _ _ _ (by decide), Device.noteCheck, Device.rd_wr_ne _ _ _ _ (by decide),
    Device.rd_wr_ne _ _ _ _ (by decide), Device.rd_wr_same]

theorem Device.rd_endCheck_detail : (d.endCheck reason bad detail).rd E.CHECK_DETAIL = detail := by
  obtain ⟨word, h⟩ := d.endCheck_eq reason bad detail
  rw [h, Device.rd_raise_below _ _ _ (by decide), Device.noteCheck, Device.rd_wr_same]

theorem Device.joined_endCheck : (d.endCheck reason bad detail).joined = d.joined := by
  obtain ⟨word, h⟩ := d.endCheck_eq reason bad detail
  rw [h, Device.joined_raise, Device.noteCheck, Device.joined_wr _ _ (by decide), Device.joined_wr _ _ (by decide),
    Device.joined_wr _ _ (by decide)]

end

theorem Device.eventOnly_enterMode (m : Mode) :
    Device.EventOnly { d with careLoaded := d.careLoaded && m.powersCare, mode := m } (d.enterMode m) :=
  Device.EventOnly.trans (b := ({ d with careLoaded := d.careLoaded && m.powersCare } : Device).setMode m) rfl (Device.eventOnly_raise _ _ _)

theorem Device.rd_enterMode {a : Addr} (h : a < 0xC10000) (ha : a ≠ E.MODE_STATE) (m : Mode) : (d.enterMode m).rd a = d.rd a :=
  (Device.rd_raise_below _ _ _ h).trans (Device.rd_wr_ne _ _ _ _ ha)

end

section
variable {d e : Device} (h : d.EventOnly e)
include h

theorem Device.EventOnly.mode_eq : e.mode = d.mode := by rw [h]
theorem Device.EventOnly.commit_eq : e.commit = d.commit := by rw [h]
theorem Device.EventOnly.checkFound_eq : e.checkFound = d.checkFound := by rw [h]
theorem Device.EventOnly.checkMember_eq : e.checkMember = d.checkMember := by rw [h]
theorem Device.EventOnly.copies_eq : e.p0 = d.p0 ∧ e.p1 = d.p1 := by
  rw [h]
  exact ⟨rfl, rfl⟩

end

/-! ### A check's verdict over a pair (R431) -/

section
variable {d : Device} (commit : Bool)

theorem Device.pairCheck_of_not_joined (h : d.joined = false) :
    d.pairCheck commit = (d.enableCheck commit).map (fun f => (d.member, f)) := by
  simp only [Device.pairCheck, h, Bool.not_false, if_true]

/-- Both members have a finding: the lower code, the primary's where they are equal. -/
theorem Device.pairCheck_of_both {f g : Finding} (hj : d.joined = true) (hf : d.enableCheck commit = some f)
    (hg : d.partnerView.enableCheck commit = some g) :
    d.pairCheck commit = some (if f.1 < g.1 ∨ (f.1 = g.1 ∧ d.member = 0) then (d.member, f) else (1 - d.member, g)) := by
  simp only [Device.pairCheck, hj, hf, hg, Bool.not_true, Bool.false_eq_true, if_false, Option.map_some]
  by_cases h0 : d.member = 0
  · simp only [h0, if_true, and_true]
    by_cases hlt : g.1 < f.1
    · rw [if_pos hlt, if_neg (by omega)]
    · rw [if_neg hlt, if_pos (by omega)]
  · simp only [h0, if_false, and_false, or_false]
    split <;> rfl

end

/-! ### Preparing (R54) -/

section
variable (d : Device)

theorem Device.holdView_loadTable (k q : Nat) (both : Bool) : (d.loadTable k q both).holdView = d.holdView := d.holdView_setEntries _ _

theorem Device.joined_of_holdView {d e : Device} (h : e.holdView = d.holdView) : e.joined = d.joined := congrArg HoldView.joined h

theorem Device.mode_of_holdView {d e : Device} (h : e.holdView = d.holdView) : e.mode = d.mode := congrArg HoldView.mode h

theorem Device.joined_writeCopy (q : Nat) : (d.writeCopy q).joined = d.joined := by
  unfold Device.writeCopy
  dsimp only
  split <;> rfl

theorem Device.mode_writeCopy (q : Nat) : (d.writeCopy q).mode = d.mode := by
  unfold Device.writeCopy
  dsimp only
  split <;> rfl

end

/-! ### The ends of checks (R46, R47, R54) -/

/-- The sweep of the copies leaves the phase of the commit. -/
theorem Device.commit_sweepCopies (d : Device) : d.sweepCopies.commit = d.commit := by
  have htables : (d.sweepTables d.parity).commit = d.commit :=
    Device.foldl_keeps (view := Device.commit) (fun e k => congrArg HoldView.commit (e.holdView_setEntries k _)) _ d
  rw [Device.sweepCopies_eq, ← htables]
  unfold Device.alignCopies
  split <;> rfl


section
variable {d : Device} {f : Finding}

theorem Device.checkComplete_of_failed (hm : d.mode = .check) (hi : d.installDue = false) (hf : d.checkFound = some f) :
    d.checkComplete = ((d.wr E.CHECK_MEMBER d.checkMember).endCheck f.1 (some f.2.1) f.2.2).enterMode .configure := by
  simp [Device.checkComplete, hm, hi, hf]

theorem Device.checkComplete_of_passed (hm : d.mode = .check) (hi : d.installDue = false) (hf : d.checkFound = none) :
    d.checkComplete = { d.endCheck 0 none 0 with installDue := true, armed := some d.runMode, armedPair := d.joined } := by
  simp [Device.checkComplete, hm, hi, hf]

theorem Device.checkingEnd_of_failed (hc : d.commit = .checking) (hf : d.checkFound = some f) :
    d.checkingEnd = (({ d with commit := .refused } : Device).wr E.CHECK_MEMBER d.checkMember).endCheck f.1 (some f.2.1) f.2.2 := by
  simp only [Device.checkingEnd, hc, hf, ne_eq, not_true_eq_false, if_false]

theorem Device.checkingEnd_of_passed (hc : d.commit = .checking) (hf : d.checkFound = none) (hj : d.joined = false) :
    d.checkingEnd = ({ d with commit := .preparing } : Device).endCheck 0 none 0 := by
  have hnot : ¬ ((({ d with commit := .preparing } : Device).endCheck 0 none 0).joined = true ∧
      (({ d with commit := .preparing } : Device).endCheck 0 none 0).member = 0) := by
    rw [Device.joined_endCheck, show ({ d with commit := .preparing } : Device).joined = false from hj]
    simp
  rw [Device.checkingEnd, if_neg (not_not_intro hc)]
  split
  next f hsome => exact nomatch hf.symm.trans hsome
  next => exact if_neg hnot

theorem Device.joined_newDigest (d : Device) (b : List Byte) : ({ d with newDigest := b } : Device).joined = d.joined := rfl

/-- The tables of the parity that is prepared, once the Exact entries are placed. -/
def Device.tablesWritten (d : Device) (q : Nat) (es : List TableEntry) : Device :=
  [1, 2, 3].foldl (fun (e : Device) k => e.loadTable k q false) (d.setEntries 0 es)

theorem Device.holdView_tablesWritten (d : Device) (q : Nat) (es : List TableEntry) : (d.tablesWritten q es).holdView = d.holdView :=
  (Device.foldl_keeps (view := Device.holdView) (fun e k => e.holdView_loadTable k q false) [1, 2, 3] _).trans
    (d.holdView_setEntries 0 es)

/-- A device outside a pair is armed as soon as its copies are written and the digest is computed. -/
theorem Device.prepare_eq {es : List TableEntry} (hc : d.commit = .preparing) (hw : d.waitCode = 0) (hj : d.joined = false)
    (hes : d.loadStore 0 (d.rd E.VINTAGE_STAGING % 2) false d.stores.exact (d.stagedEntries 0) = .ok es) :
    ∃ digest, d.prepare = { (d.tablesWritten (d.rd E.VINTAGE_STAGING % 2) es).writeCopy (d.rd E.VINTAGE_STAGING % 2) with
      newDigest := digest, commit := .armed } := by
  have hstarts : ¬ (d.commit ≠ .preparing ∨ d.waitCode ≠ 0) := by simp [hc, hw]
  have hjoined : ((d.tablesWritten (d.rd E.VINTAGE_STAGING % 2) es).writeCopy (d.rd E.VINTAGE_STAGING % 2)).joined = false :=
    (Device.joined_writeCopy _ _).trans ((Device.joined_of_holdView (d.holdView_tablesWritten _ es)).trans hj)
  have htables : [1, 2, 3].foldl (fun (e : Device) k => e.loadTable k (d.rd E.VINTAGE_STAGING % 2) false) (d.setEntries 0 es) =
      d.tablesWritten (d.rd E.VINTAGE_STAGING % 2) es := rfl
  rw [Device.prepare, if_neg hstarts]
  simp only [hes, htables]
  generalize (d.tablesWritten (d.rd E.VINTAGE_STAGING % 2) es).writeCopy (d.rd E.VINTAGE_STAGING % 2) = e at *
  generalize e.vintageDigest e.joined (d.rd E.VINTAGE_STAGING % 2) (d.rd E.VINTAGE_STAGING) = digest
  refine ⟨digest, ?_⟩
  have hnot : ¬ ({ e with newDigest := digest } : Device).joined = true := by
    rw [Device.joined_newDigest, hjoined]
    exact Bool.false_ne_true
  rw [if_neg hnot]

theorem Device.prepare_of_placed {es : List TableEntry} (hc : d.commit = .preparing) (hw : d.waitCode = 0) (hj : d.joined = false)
    (hes : d.loadStore 0 (d.rd E.VINTAGE_STAGING % 2) false d.stores.exact (d.stagedEntries 0) = .ok es) :
    d.prepare.commit = .armed ∧ d.prepare.mode = d.mode := by
  obtain ⟨digest, h⟩ := Device.prepare_eq hc hw hj hes
  rw [h]
  exact ⟨rfl, (Device.mode_writeCopy _ _).trans (Device.mode_of_holdView (d.holdView_tablesWritten _ es))⟩

end

/-! ### The start of a commit, of a check, and a pass over the digest (R45, R53, R64) -/

section
variable {d : Device}

theorem Device.startCommit_of_refused (h : d.mode.forwards = false) :
    d.startCommit = (Res.OK, ({ d with commit := .refused } : Device).endCheck 0x0101 none d.mode.code) := by
  simp only [Device.startCommit, h, Bool.not_false, if_true]

theorem Device.startCommit_of_committing (h : d.mode.forwards = true) (hc : d.committing = true) : d.startCommit = (Res.BUSY, d) := by
  simp only [Device.startCommit, h, hc, Bool.not_true, Bool.false_eq_true, if_false, if_true]

/-- An accepted commit: what it latches, and the verdict. -/
theorem Device.startCommit_of_accepted (h : d.mode.forwards = true) (hc : d.committing = false) :
    d.startCommit = (Res.OK, { (({ d with
      commitTime := d.rd E.COMMIT_TIME, newDigest := []
      join := { d.join with prepared := false, armFlip := none, acked := false, go := false } } : Device).judge true) with commit := .checking }) := by
  simp only [Device.startCommit, h, hc, Bool.not_true, Bool.false_eq_true, if_false]

theorem Device.startEnable_of_configure (h : d.mode = .configure) :
    d.startEnable = (Res.OK, ({ (d.judge false) with armed := none, installDue := false } : Device).enterMode .check) := by
  simp only [Device.startEnable, h]

theorem Device.startEnable_of_check (h : d.mode = .check) : d.startEnable = (Res.BUSY, d) := by
  simp only [Device.startEnable, h]

theorem Device.digestPass_of_agree (h : d.vintageDigest d.pairDigest d.parity d.vintage = d.partDigest) (hm : d.mode ≠ .recovery) :
    d.digestPass = { (d.wr E.DIGEST_STATE 1).bumpSat E.VERIFY_PASSES 1 with digestPassStart := d.clk.nowPs } := by
  have hmode : (((d.wr E.DIGEST_STATE 1).bumpSat E.VERIFY_PASSES 1).mode == Mode.recovery) = false := beq_eq_false_iff_ne.mpr hm
  simp only [Device.digestPass, h, decide_true, if_true, hmode, Bool.and_false, Bool.false_and, Bool.false_eq_true, if_false]
  rfl

theorem Device.digestPass_of_differ (h : d.vintageDigest d.pairDigest d.parity d.vintage ≠ d.partDigest) :
    let e := ((d.wr E.DIGEST_STATE 2).bumpSat E.DIGEST_MISMATCHES 1).raise Src.DIGEST_MISMATCH 0
    d.digestPass = { e with digestPassStart := e.clk.nowPs } := by
  simp [Device.digestPass, h]

end

/-- Settles O50, a command at a time. A commit's mode is tested before one in progress (log entry 193), and VERIFY_PASSES saturates
(log entry 194): the model's choices. -/
theorem checksAndCommitPhases : Obligations.ChecksAndCommitPhases := by
  unfold Obligations.ChecksAndCommitPhases
  refine ⟨fun d => ⟨fun h hc => ?_, Device.startCommit_of_committing, fun h => ?_, fun h => ?_, Device.startEnable_of_check,
    fun commit h => Device.pairCheck_of_not_joined commit h, fun commit f g hj hf hg _ => Device.pairCheck_of_both commit hj hf hg⟩, fun s hr => ?_⟩
  · rw [Device.startCommit_of_accepted h hc]
    exact ⟨rfl, rfl, rfl, rfl, rfl, rfl, rfl⟩
  · rw [Device.startCommit_of_refused h]
    exact ⟨rfl, (Device.eventOnly_endCheck _ _ _ _).commit_eq, Device.rd_endCheck_reason .., Device.rd_endCheck_detail ..⟩
  · rw [Device.startEnable_of_configure h]
    have hents := Device.eventOnly_enterMode ({ (d.judge false) with armed := none, installDue := false } : Device) .check
    exact ⟨rfl, hents.mode_eq, hents.checkFound_eq, hents.checkMember_eq⟩
  · intro d
    have hsame {c : Instr} {f : Device → Device} (hc : exec c s = s.on f) (hf : f d = d) : exec c s = .next s := by
      rw [hc, on_runs s f hr, hf, put_dev s hr.2]
    refine ⟨fun f hm hi hf => ⟨_, (on_runs s _ hr).trans (by rw [Device.checkComplete_of_failed hm hi hf]), ?failed⟩,
      fun hm hi hf => ⟨_, (on_runs s _ hr).trans (by rw [Device.checkComplete_of_passed hm hi hf]), ?passed⟩,
      fun hm => hsame rfl (if_pos (.inl hm)),
      fun f hc hf => ⟨_, (on_runs s _ hr).trans (by rw [Device.checkingEnd_of_failed hc hf]), ?refused⟩,
      fun hc hf hj => ⟨_, (on_runs s _ hr).trans (by rw [Device.checkingEnd_of_passed hc hf hj]), ?preparing⟩,
      fun hc => hsame rfl (if_pos hc), fun es hc hw hj hes => ?prepared, fun hc hw => hsame rfl (if_pos (.inr hw)),
      fun h => ⟨_, exec_copySweepEnd_of_sweeping hr h, rfl, ?swept⟩, fun h => hsame rfl (by simp [Device.sweepEnd, h]),
      fun hready hagree hmode => (on_runs_of_pos hr hready).trans (by rw [Device.digestPass_of_agree hagree hmode]),
      fun hready hdiffer => (on_runs_of_pos hr hready).trans (by rw [Device.digestPass_of_differ hdiffer])⟩
    case failed =>
      exact ⟨(Device.eventOnly_enterMode _ _).mode_eq, (Device.rd_enterMode _ (by decide) (by decide) _).trans (Device.rd_endCheck_reason ..)⟩
    case passed => exact ⟨rfl, rfl, Device.rd_endCheck_reason .., (d.eventOnly_endCheck _ _ _).mode_eq.trans hm⟩
    case refused =>
      have hkeeps := Device.eventOnly_endCheck (({ d with commit := .refused } : Device).wr E.CHECK_MEMBER d.checkMember) f.1 (some f.2.1) f.2.2
      exact ⟨hkeeps.commit_eq, Device.rd_endCheck_reason .., hkeeps.mode_eq, hkeeps.copies_eq.1, hkeeps.copies_eq.2⟩
    case preparing => exact ⟨(Device.eventOnly_endCheck _ _ _ _).commit_eq, Device.rd_endCheck_reason ..⟩
    case prepared =>
      obtain ⟨hcommit, hmode⟩ := Device.prepare_of_placed hc hw hj hes
      exact ⟨_, on_runs s _ hr, hcommit, hmode⟩
    case swept =>
      show (if d.sweepCopies.commit = .retiring then _ else _) = _
      rw [Device.commit_sweepCopies]

end Sys2Proof.Machine
end

section
/-! SUPPORT. Outside a pair: what ends frames and ports, retires lanes and enters Safe-Hold forms no join. -/

namespace Sys2Proof.Machine

open Sys2Proof

/-- What both branches keep is kept. -/
theorem Device.ite_keeps {β : Type} {view : Device → β} {p : Prop} [Decidable p] {x y d : Device} (hx : view x = view d)
    (hy : view y = view d) : view (if p then x else y) = view d := by
  split
  · exact hx
  · exact hy

/-! ### Writes beside JOIN_STATE -/

theorem entry_ne_joinState {i s : Nat} (hs : s < 256) (h : s ≠ 4 ∨ i ≠ 0xB100) : entry i s ≠ E.JOIN_STATE := by
  show (i * 256 + s : Nat) ≠ 0xB100 * 256 + 4
  omega

section
variable {d : Device}

theorem Device.joined_of_bk_eq {e : Device} (h : e.bk = d.bk) : e.joined = d.joined := by
  rw [Device.joined, Device.joined, Device.rd_of_bk_eq h]

variable (d) {a : Addr} (h : a ≠ E.JOIN_STATE)
include h

theorem Device.joined_bumpSat (n : Nat) : (d.bumpSat a n).joined = d.joined := d.joined_wr _ h

theorem Device.joined_bump (w n : Nat) : (d.bump a w n).joined = d.joined := d.joined_wr _ h

theorem Device.joined_wrBits (lo w v : Nat) : (d.wrBits a lo w v).joined = d.joined := d.joined_wr _ h

theorem Device.joined_wrBit (i : Nat) (b : Bool) : (d.wrBit a i b).joined = d.joined := d.joined_wr _ h

end

/-! ### Cells, frames and copies given back -/

section
variable (d : Device)

theorem Device.joined_freeReject (w : Nat) :
    (((d.bumpSat E.FREE_REJECTS 1).wr E.FREE_REJECT_LAST w).raise Src.CELL_FREE_REJECTED 0).joined = d.joined := by
  rw [Device.joined_raise, Device.joined_wr _ _ (by decide), Device.joined_bumpSat _ (by decide)]

theorem Device.joined_freeCell (h token : Nat) : (d.freeCell h token).joined = d.joined := by
  unfold Device.freeCell
  split
  next c _ =>
    split
    · rfl
    · exact d.joined_freeReject _
  next => exact d.joined_freeReject _

theorem Device.bk_inflightSub (s vtag : Nat) : (d.inflightSub s vtag).bk = d.bk := by
  unfold Device.inflightSub
  dsimp only
  split <;> rfl

theorem Device.bk_land (id : Nat) : (d.land id).bk = d.bk := by
  unfold Device.land
  split
  · split
    · exact d.bk_inflightSub _ _
    · rfl
  · rfl

theorem Device.joined_freeFrame (id : Nat) : (d.freeFrame id).joined = d.joined := by
  unfold Device.freeFrame
  split
  · rfl
  next f _ =>
    have hfreed := Device.foldl_keeps (view := Device.joined) (fun (e : Device) (c : Cell) => e.joined_freeCell c.handle f.holder)
      (d.cellsOf id) (d.land id)
    exact hfreed.trans (Device.joined_of_bk_eq (d.bk_land id))

theorem Device.joined_releaseFrame (id : Nat) : (d.releaseFrame id).joined = d.joined := by
  unfold Device.releaseFrame
  split
  · rfl
  · split
    · exact d.joined_freeFrame id
    · rfl

theorem Device.bk_abandonRack (c : Copy) : (d.abandonRack c).bk = d.bk := by
  unfold Device.abandonRack
  split <;> rfl

theorem Device.bk_landRecirc (c : Copy) : (d.landRecirc c).bk = d.bk := by
  unfold Device.landRecirc
  split
  · exact d.bk_land _
  · rfl

theorem Device.joined_doneCopy (c : Copy) : (d.doneCopy c).joined = d.joined := by
  have hrack := Device.joined_of_bk_eq (d.bk_abandonRack c)
  unfold Device.doneCopy
  dsimp only
  rw [Device.joined_releaseFrame]
  refine Device.ite_keeps (view := Device.joined) ((Device.joined_of_bk_eq (Device.bk_land _ _)).trans ?_) ?_
  · exact Device.ite_keeps (view := Device.joined) hrack hrack
  · exact Device.ite_keeps (view := Device.joined) hrack hrack

/-! ### Samplers, records and counters of a loss of the link -/

theorem Device.joined_sampleEvent (q k : Nat) : (d.sampleEvent q k).1.joined = d.joined := by
  have hcount : (d.bump64 (E.SAMPLED k) 1).joined = d.joined := d.joined_bump64_ne 1 (entry_ne_joinState (by decide) (.inl (by decide)))
  unfold Device.sampleEvent
  dsimp only
  split
  · split
    · exact hcount
    · exact hcount
  · rfl

theorem Device.joined_sampleDiscard (q code : Nat) (sel : List Nat) : (d.sampleDiscard q code sel).1.joined = d.joined := by
  have hstep (st : Device × List Nat) (ks : List Nat) : (ks.foldl (fun (st : Device × List Nat) k =>
      if bits (st.1.rdp q (E.SAMPLER_CONTROL k)) 8 8 = code && bit (st.1.rdp q (E.SAMPLER_CONTROL k)) 0 then
        let r := st.1.sampleEvent q k
        (r.1, if r.2 then st.2 ++ [k] else st.2)
      else st) st).1.joined = st.1.joined := by
    induction ks generalizing st with
    | nil => rfl
    | cons k t ih =>
      rw [List.foldl_cons, ih]
      split
      · exact st.1.joined_sampleEvent q k
      · rfl
  exact hstep (d, sel) _

theorem Device.joined_pushRing (x : Nat) (item : List Byte) : (d.pushRing x item).joined = d.joined := by
  unfold Device.pushRing
  split
  · rfl
  · split
    · rfl
    · exact d.joined_bump64_ne 1 (entry_ne_joinState (by decide) (.inl (by decide)))

theorem Device.joined_postcard (sel : List Nat) (mk : Nat → Nat → List Byte) : (d.postcard sel mk).joined = d.joined := by
  unfold Device.postcard
  split
  · rfl
  · dsimp only
    split
    · rfl
    · exact Device.joined_pushRing _ _ _

theorem Device.joined_copyRecord (f : Frame) (c : Copy) (reason : Nat) (dropCode : Option Nat) (cut stomped : Bool) (tx : Nat)
    (sel : List Nat) : (d.copyRecord f c reason dropCode cut stomped tx sel).joined = d.joined := by
  unfold Device.copyRecord
  exact Device.joined_postcard _ _ _

theorem Device.bk_addAt (u n : Nat) : (d.addAt u n).bk = d.bk := by
  have hset (e : Device) (k v : Nat) : (e.setCounter k v).bk = e.bk := rfl
  unfold Device.addAt
  generalize 2097151 = last
  refine Device.ite_keeps (view := Device.bk) (Device.ite_keeps (view := Device.bk) ?_ rfl) (Device.ite_keeps (view := Device.bk) ?_ rfl)
  · exact (hset _ _ _).trans (hset _ _ _)
  · exact hset _ _ _

theorem Device.joined_discarded_linkDown : (d.discarded Reason.LINK_DOWN).joined = d.joined := d.joined_bump64_ne 1 (by decide)

/-- A copy that the fall of its link takes: its port's counters, and its member's. -/
theorem Device.joined_copyLoss_linkDown (f : Frame) (c : Copy) : (d.copyLoss f c Reason.LINK_DOWN).joined = d.joined := by
  unfold Device.copyLoss
  simp only [show Reason.LINK_DOWN ≠ Reason.QUEUE_LIMIT by decide, show Reason.LINK_DOWN ≠ Reason.NO_DESCRIPTOR by decide,
    show Reason.LINK_DOWN ≠ Reason.MGMT_FIFO_FULL by decide, show Reason.LINK_DOWN ≠ Reason.PROGRAM_DISCARD by decide,
    show Reason.LINK_DOWN ≠ Reason.STORE_ERROR by decide, show Reason.LINK_DOWN ≠ Reason.VINTAGE_EXPIRED by decide,
    show Reason.LINK_DOWN ≠ Reason.RACK_LIMIT by decide, show Reason.LINK_DOWN ≠ Reason.CELL_ERROR by decide,
    show Reason.LINK_DOWN ≠ Reason.CELLAR_ERROR by decide, if_false, if_true]
  have hlink : (if (!(decide (c.port < 512) && !isCross c.queue)) = true then d
      else d.bump64 (E.PORT_LINK_DOWN c.port) 1).joined = d.joined :=
    Device.ite_keeps (view := Device.joined) rfl
      (d.joined_bump64_ne 1 (entry_ne_joinState (by decide) (.inl (by decide))))
  have hmember := Device.ite_keeps (view := Device.joined) (p := c.multi = true ∧ (decide (c.port < 512) && !isCross c.queue) = true)
    ((Device.joined_bump64_ne _ (a := E.MC_COPY_DISCARDS c.port) 1 (entry_ne_joinState (by decide) (.inl (by decide)))).trans hlink) hlink
  split
  · exact (Device.joined_of_bk_eq (Device.bk_addAt _ _ _)).trans hmember
  · exact hmember

theorem Device.joined_tap (p a n : Nat) : (d.tap p a n).joined = d.joined := by
  unfold Device.tap
  dsimp only
  split
  · split <;> rfl
  · rfl

theorem Device.joined_tapDiscard (f : Frame) (c : Copy) : (d.tapDiscard f c).joined = d.joined := by
  unfold Device.tapDiscard
  split
  · exact d.joined_tap _ _ _
  · rfl

theorem Device.joined_dropCopy_linkDown (c : Copy) (queued : Bool) (dropCode : Option Nat) :
    (d.dropCopy c Reason.LINK_DOWN queued dropCode).joined = d.joined := by
  unfold Device.dropCopy
  split
  · exact d.joined_doneCopy c
  next f _ =>
    dsimp only
    rw [Device.joined_doneCopy, Device.joined_of_bk_eq (Device.bk_landRecirc _ c), Device.joined_copyRecord, Device.joined_sampleDiscard]
    have hloss : ((d.discarded Reason.LINK_DOWN).copyLoss f c Reason.LINK_DOWN).joined = d.joined :=
      (Device.joined_copyLoss_linkDown _ f c).trans d.joined_discarded_linkDown
    exact Device.ite_keeps (view := Device.joined) ((Device.joined_tapDiscard _ f c).trans hloss) hloss

/-! ### A port's fall (R119, R120) -/

theorem Device.bk_putOnWire (p : Nat) (bs : List Byte) (good whole : Bool) : (d.putOnWire p bs good whole).bk = d.bk := by
  unfold Device.putOnWire
  dsimp only
  split
  · split <;> rfl
  · rfl

theorem Device.joined_deliverOwn (w : OwnTx) : (d.deliverOwn w).joined = d.joined := by
  have hwire := Device.joined_of_bk_eq (d.bk_putOnWire w.port w.bytes true true)
  have hcounted : ((((d.putOnWire w.port w.bytes true true).tap w.port 2 w.bytes.length).bump64 (E.TX_FRAMES_OK w.port) 1).bump64
      (E.TX_BYTES_OK w.port) w.bytes.length).joined = d.joined := by
    rw [Device.joined_bump64_ne _ (a := E.TX_BYTES_OK w.port) _ (entry_ne_joinState (by decide) (.inl (by decide))),
      Device.joined_bump64_ne _ (a := E.TX_FRAMES_OK w.port) _ (entry_ne_joinState (by decide) (.inl (by decide))),
      Device.joined_tap, hwire]
  unfold Device.deliverOwn
  refine Device.ite_keeps (view := Device.joined) (Device.ite_keeps (view := Device.joined) ?_ hcounted) hwire
  exact (Device.joined_bump64_ne _ (a := E.TX_PFC_FRAMES w.port) 1 (entry_ne_joinState (by decide) (.inl (by decide)))).trans hcounted

theorem Device.joined_aborted (p : Nat) : (d.bump64 (E.TX_ABORTED p) 1).joined = d.joined :=
  d.joined_bump64_ne 1 (entry_ne_joinState (by decide) (.inl (by decide)))

theorem Device.joined_cutOwns (p bt : Nat) : (d.cutOwns p bt).joined = d.joined := by
  refine (Device.foldl_keeps (view := Device.joined) (fun e w => ?_) _ _).trans rfl
  split
  · exact e.joined_deliverOwn w
  · exact (Device.joined_aborted _ p).trans (Device.joined_of_bk_eq (e.bk_putOnWire _ _ _ _))

theorem Device.bk_padFree (bs : List Byte) (n : Nat) : (d.padFree bs n).1.bk = d.bk := rfl

theorem Device.bk_sentSoFar (t : Tx) (n : Nat) : (d.sentSoFar t n).1.bk = d.bk := by
  unfold Device.sentSoFar
  split
  · dsimp only
    split <;> rfl
  · rfl

theorem Device.joined_endBadly_linkDown (t : Tx) (bytes : List Byte) :
    (d.endBadly t Reason.LINK_DOWN false bytes).joined = d.joined := by
  unfold Device.endBadly
  split
  · exact d.joined_doneCopy _
  next f _ =>
    have hwire (good whole : Bool) := Device.joined_of_bk_eq (d.bk_putOnWire t.port bytes good whole)
    simp only [Bool.false_eq_true, if_false]
    rw [Device.joined_doneCopy, Device.joined_copyRecord, Device.joined_sampleDiscard, Device.joined_copyLoss_linkDown,
      Device.joined_discarded_linkDown]
    have hcounted := Device.ite_keeps (view := Device.joined) (p := t.port < 512)
      ((Device.joined_aborted _ t.port).trans ((Device.joined_tap _ t.port 3 bytes.length).trans (hwire false false))) (hwire false false)
    split
    · exact hcounted
    · exact hcounted

theorem Device.joined_cutOff (p bt : Nat) : (d.cutOff p bt).joined = d.joined := by
  refine (Device.foldl_keeps (view := Device.joined) (fun e x => ?_) _ _).trans (d.joined_cutOwns p bt)
  split
  · exact (Device.joined_endBadly_linkDown _ _ _).trans (Device.joined_of_bk_eq (e.bk_sentSoFar _ _))
  · exact e.joined_dropCopy_linkDown _ _ _

theorem Device.joined_portDownAt (p bt : Nat) : (d.portDownAt p bt).joined = d.joined := by
  have hstatus (e : Device) (lo w v : Nat) : (e.wrBits (E.PORT_STATUS p) lo w v).joined = e.joined :=
    e.joined_wrBits (entry_ne_joinState (by decide) (.inl (by decide))) lo w v
  refine Device.ite_keeps (view := Device.joined) ?_ rfl
  rw [Device.joined_cutOff, Device.joined_raise,
    Device.joined_bump64_ne _ (a := E.LINK_DOWNS p) _ (entry_ne_joinState (by decide) (.inl (by decide))),
    hstatus, hstatus, hstatus]

theorem Device.joined_portDown (p : Nat) : (d.portDown p).joined = d.joined := d.joined_portDownAt p _

/-! ### A lane out of service (R107, R436) -/

theorem Device.joined_recheckLane (l : Nat) : (d.recheckLane l).joined = d.joined := by
  unfold Device.recheckLane
  split
  · exact Device.ite_keeps (view := Device.joined) rfl (d.joined_portDown _)
  · rfl

theorem Device.joined_squelch : d.squelch.joined = d.joined := by
  unfold Device.squelch
  refine Device.foldl_keeps (view := Device.joined) (fun e o => ?_) _ d
  exact Device.ite_keeps (view := Device.joined) (e.joined_wrBit (a := E.RCLK_STATUS) (by decide) o true) rfl

theorem Device.joined_countActive (dir : Nat) (h : dir < 2) : (d.countActive dir).joined = d.joined := by
  have hne (s : Nat) (hs : s < 256) : entry (0xB110 + dir) s ≠ E.JOIN_STATE := entry_ne_joinState hs (.inr (by omega))
  unfold Device.countActive
  dsimp only
  rw [Device.joined_wr _ (a := E.CROSS_RATE_GBPS dir) _ (hne 0x0A (by omega)),
    Device.joined_wr _ (a := E.ACTIVE_LANES dir) _ (hne 0x01 (by omega))]

theorem Device.joined_takeMap (epoch : Nat) : (d.takeMap epoch).joined = d.joined := by
  have hmessage (e : Device) (j : Join) (bs : List Byte) : (({ e with join := j } : Device).message 2 bs).joined = e.joined := rfl
  unfold Device.takeMap
  dsimp only
  rw [hmessage, Device.joined_countActive _ _ (by omega)]
  refine Device.foldl_keeps (view := Device.joined) (fun e i => ?_) _ d
  exact e.joined_wrBit (E.laneMap_ne_joinState 1 (i / 32)) _ _

/-- Outside a pair a join that narrows does not split. -/
theorem Device.joined_narrow (l : Nat) (h : d.joined = false) : (d.narrow l).joined = false := by
  have hmapped : ((d.remap.bumpSat (E.NARROWINGS 1) 1).raise Src.JOIN_NARROWED 0).joined = false := by
    rw [Device.joined_raise, Device.joined_bumpSat _ (by decide), Device.remap, Device.joined_takeMap, h]
  unfold Device.narrow
  split
  · dsimp only
    generalize (d.remap.bumpSat (E.NARROWINGS 1) 1).raise Src.JOIN_NARROWED 0 = e at hmapped ⊢
    have hdue (j : Join) : ({ e with join := j } : Device).joined = false := hmapped
    split
    · exact hmapped
    · split
      · rw [Device.split_of_not_joined hmapped, hmapped]
      · exact hdue _
  · exact h

theorem Device.joined_laneOut (l : Nat) (h : d.joined = false) : (d.laneOut l).joined = false := by
  have hstatus : ({ d.wr (E.LANE_STATUS l) 0x3D0 with lanes := d.lanes.forget l } : Device).joined = false :=
    (d.joined_wr _ (E.laneStatus_ne_joinState l)).trans h
  unfold Device.laneOut
  rw [Device.joined_squelch]
  exact Device.joined_narrow _ l ((Device.joined_recheckLane _ l).trans hstatus)

/-! ### The retirement map (R451, R452) -/

theorem Device.joined_reapply (r : Retired) (h : d.joined = false) : (d.reapply r).joined = false := by
  have hretired : ({ d with retired := d.retired ++ [r] } : Device).joined = false := h
  have hlanes (m : LaneState) : ({ d with retired := d.retired ++ [r], lanes := m } : Device).joined = false := h
  unfold Device.reapply
  dsimp only
  split
  · exact Device.joined_laneOut _ _ hretired
  · split
    · exact (Device.joined_wrBit _ (entry_ne_joinState (by decide) (.inr (by simp only [bits]; omega))) _ _).trans hretired
    · split
      · exact hlanes _
      · refine (Device.joined_wrBit _ ?_ _ _).trans (hlanes _)
        split
        · exact entry_ne_joinState (by decide) (.inl (by decide))
        · exact entry_ne_joinState (by decide) (.inl (by decide))
  · exact hretired
  · exact hretired
  · split
    · split
      · exact hretired
      · exact hretired
    · exact hretired

theorem Device.joined_loadMap (badA badB : Bool) (h : d.joined = false) : (d.loadMap badA badB).joined = false := by
  have hall (rs : List Retired) (e : Device) (he : e.joined = false) :
      (rs.foldl (fun (e : Device) r => e.reapply r) e).joined = false := by
    induction rs generalizing e with
    | nil => exact he
    | cons r t ih => exact ih _ (e.joined_reapply r he)
  have hwr (e : Device) (n v : Nat) : ((e.wr E.MAP_SEQUENCE n).wr E.MAP_STATE v).joined = e.joined := by
    rw [Device.joined_wr _ _ (by decide), Device.joined_wr _ _ (by decide)]
  unfold Device.loadMap
  dsimp only
  split
  · exact (hwr _ _ _).trans (hall _ _ h)
  · split
    · exact (Device.joined_wr _ _ (by decide)).trans h
    · exact (hwr _ _ _).trans h

theorem Device.joined_writeRebuilt : d.writeRebuilt.joined = d.joined := by
  unfold Device.writeRebuilt
  refine Device.ite_keeps (view := Device.joined) ?_ rfl
  rw [Device.joined_raise, Device.joined_wr _ _ (by decide)]
  rfl

/-! ### The entry into Safe-Hold (R456 to R458, R461) -/

theorem Device.bk_sweepCopies : d.sweepCopies.bk = d.bk := d.sweepCopies_copies.2.2

theorem Device.joined_abortCommit (reason detail : Nat) : (d.abortCommit reason detail).joined = d.joined := by
  have hundo : d.undoPreparing.joined = d.joined := by
    unfold Device.undoPreparing
    exact Device.ite_keeps (view := Device.joined) rfl (Device.joined_of_bk_eq d.bk_sweepCopies)
  have hnoted (e : Device) : ((e.wr E.CHECK_REASON reason).wr E.CHECK_DETAIL detail).joined = e.joined := by
    rw [Device.joined_wr _ _ (by decide), Device.joined_wr _ _ (by decide)]
  unfold Device.abortCommit
  refine Device.ite_keeps (view := Device.joined) rfl ?_
  exact Device.ite_keeps (view := Device.joined) ((Device.joined_endCheck _ _ _ _).trans hundo) ((hnoted _).trans hundo)

theorem Device.joined_stopForHold : d.stopForHold.joined = d.joined := by
  have hdisarm (e : Device) : ({ e.disarm with resetHold := false, installDue := false } : Device).joined = e.joined := rfl
  unfold Device.stopForHold
  rw [hdisarm, Device.joined_abortCommit]
  exact Device.ite_keeps (view := Device.joined) (d.joined_endCheck _ _ _) rfl

theorem Device.bk_emptyFactory : d.emptyFactory.bk = d.bk := by
  unfold Device.emptyFactory
  refine Device.foldl_keeps (view := Device.bk) (fun e a => ?_) _ d
  rfl

theorem Device.joined_endedBoot (h : d.joined = false) : d.endedBoot.joined = false := by
  have hmap : (if d.mapRead then d else d.loadMap false false).joined = false := by
    split
    · exact h
    · exact d.joined_loadMap false false h
  have hreport (e : Device) : ({ e.reportLast with ready := true } : Device).joined = e.joined := by
    have hready (e : Device) : ({ e with ready := true } : Device).joined = e.joined := rfl
    rw [hready, Device.reportLast, Device.joined_wr _ _ (by decide), Device.joined_wr _ _ (by decide)]
  unfold Device.endedBoot
  dsimp only
  rw [Device.joined_wr _ _ (by decide), Device.joined_writeRebuilt, hreport, hmap]

theorem Device.joined_enterHold (cause detail : Nat) : (d.enterHold cause detail).joined = d.joined :=
  congrArg HoldView.joined (d.holdView_enterHold cause detail)

theorem Device.joined_abortAll : d.abortAll.joined = d.joined := congrArg HoldView.joined d.holdView_abortAll

theorem Device.joined_transmittersOff : d.transmittersOff.joined = d.joined := Device.joined_of_holdView d.holdView_transmittersOff

/-- What an entry into Safe-Hold does to the join of a pair, it does not do outside one. -/
theorem Device.joined_leaveForHold {d : Device} (h : d.joined = false) :
    (if d.joined then (d.sendLeave 4).split 4 else d).joined = false := by
  rw [if_neg (by rw [h]; exact Bool.false_ne_true), h]

theorem Device.joined_pow (p : Power) : ({ d with pow := p } : Device).joined = d.joined := rfl

/-- Outside a pair an entry into Safe-Hold forms none. -/
theorem Device.joined_safeHold (cause detail : Nat) (h : d.joined = false) : (d.safeHold cause detail).joined = false := by
  have hstop : d.stopForHold.joined = false := d.joined_stopForHold.trans h
  have hempty : d.stopForHold.emptyFactory.joined = false := (Device.joined_of_bk_eq (Device.bk_emptyFactory _)).trans hstop
  unfold Device.safeHold
  split
  · exact h
  · dsimp only
    rw [Device.joined_abortAll, Device.joined_transmittersOff, Device.joined_pow]
    refine Device.joined_leaveForHold ((Device.foldl_keeps (view := Device.joined) (fun e p => e.joined_portDown p) _ _).trans ?_)
    refine (Device.joined_enterHold _ cause detail).trans ?_
    split
    · exact Device.joined_endedBoot _ hempty
    · exact hstop

end

end Sys2Proof.Machine
end

section
/-! SUPPORT. Writes of one entry from a mailbox that pass every test. -/

namespace Sys2Proof.Machine

open Sys2Proof

/-! ### The bytes of a value -/

theorem beNat_beBytes (n v : Nat) : beNat (beBytes n v) = v % 256 ^ n := by
  have hreverse (bs : List Byte) : beNat bs.reverse = leNat bs := by
    induction bs with
    | nil => rfl
    | cons b t ih => rw [List.reverse_cons, beNat_append, ih, leNat_cons]
  rw [beBytes, hreverse, leNat_leBytes]

section
variable {ty : Ty} {v : Nat}

theorem valueOf_valueBytes (h : v < 2 ^ (8 * ty.size)) : valueOf ty true (valueBytes ty true v) = v := by
  have hfits : v % 256 ^ ty.size = v := Nat.mod_eq_of_lt (by rwa [Nat.pow_mul] at h)
  unfold valueOf valueBytes
  split
  · rw [leNat_leBytes, hfits]
  · rw [beNat_beBytes, hfits]

theorem valueBytes_length (ty : Ty) (little : Bool) (v : Nat) : (valueBytes ty little v).length = ty.size := by
  unfold valueBytes
  split
  · exact leBytes_length _ _
  · exact beBytes_length _ _

/-- The bytes of zero hold it. -/
theorem valueOf_zero (ty : Ty) (little : Bool) : valueOf ty little [0] = 0 := by
  unfold valueOf
  split <;> rfl

end

/-! ### Rows of the catalogue -/

theorem domain_rows : ∀ r ∈ bookRows, (r.ty = .domain → 0xE000 ≤ r.index) ∧ r.ty.size ≤ 256 := by decide +kernel

/-- Below index E000 every entry holds a value of at most 256 bytes. -/
theorem valueRow_of_index {a : Addr} {r : Row} (hr : findRow a = some r) (h : indexOf a < 0xE000) :
    r.ty ≠ .domain ∧ r.ty.size ≤ 256 := by
  obtain ⟨hdomain, hsize⟩ := domain_rows r (List.mem_of_find?_eq_some hr)
  have hcovers : r.covers a = true := by
    unfold findRow at hr
    exact List.find?_some (p := fun r : Row => r.covers a) hr
  simp only [Row.covers, Bool.and_eq_true, decide_eq_true_eq] at hcovers
  exact ⟨fun hty => absurd (hdomain hty) (by omega), hsize⟩

/-- Such an address fits into a request's 24 bits. -/
theorem addr_mod_of_index {a : Addr} (h : indexOf a < 0xE000) : a % 2 ^ 24 = a := by
  have hlt : (a : Nat) < 2 ^ 24 := by
    unfold indexOf at h
    exact (Nat.div_lt_iff_lt_mul (by decide)).mp h |>.trans (by decide)
  exact Nat.mod_eq_of_lt hlt

/-- Indices whose entries concern one member of a pair alone: those of the entries that the commands of one entry name. -/
abbrev memberIndex (i : Nat) : Prop :=
  (0x1100 ≤ i ∧ i ≤ 0x11FF) ∨ (0x2000 ≤ i ∧ i ≤ 0x2FFF) ∨ (0x8000 ≤ i ∧ i ≤ 0x90FF) ∨ (0xA000 ≤ i ∧ i ≤ 0xB1FF) ∨
    (0xC000 ≤ i ∧ i ≤ 0xDFFF)

theorem memberEntry_of_index {a : Addr} (h : memberIndex (indexOf a)) : memberEntry a = true := by
  unfold memberEntry
  simp only [Bool.or_eq_true, Bool.and_eq_true, decide_eq_true_eq]
  omega

/-- An entry that concerned one member alone still does, where no pair has formed. -/
theorem Device.isJoint_of_keeps {d e : Device} {a : Addr} (h : d.isJoint a = false)
    (hk : memberEntry a = true ∨ (d.joined = false → e.joined = false)) : e.isJoint a = false := by
  by_cases hm : memberEntry a = true
  · simp [Device.isJoint, hm]
  · have hj : d.joined = false := by simpa [Device.isJoint, hm] using h
    exact isJoint_of_not_joined (hk.resolve_left hm hj)

/-! ### A WRITE that passes every test (R491) -/

/-- A seal that lets a write of a value through lets one through that is not of zero. -/
theorem Device.sealRefuses_of_imp {d : Device} {a : Addr} {z y : Bool} (hi : y = true → z = true) (h : d.sealRefuses a z = false) :
    d.sealRefuses a y = false := by
  unfold Device.sealRefuses at h ⊢
  split at h
  next r hr =>
    by_cases hg : a = E.GAUGE_SEAL
    · simp only [hg, if_true] at h ⊢
      cases y
      · cases z
        · exact h
        · simp only [Bool.not_true, Bool.and_false, Bool.not_false, Bool.and_true] at h ⊢
          rw [h, Bool.false_and]
      · rw [hi rfl] at h
        exact h
    · simp only [hg, if_false] at h ⊢
      exact h
  next hr => rfl

theorem Device.letsThrough_of_barOnly {d e : Device} (hb : d.BarOnly e) {p a v : Nat} (h : d.LetsThrough p a v) :
    e.LetsThrough p a v := by
  obtain ⟨b, rfl⟩ := hb
  exact h

/-- What a value has for an effect, once it is let through. -/
def Device.TakesEffect (e : Device) (p : Nat) (row : Row) (a v : Nat) (x : Device) : Prop :=
  e.requestEffect p a v = some (Res.OK, x) ∨ (e.requestEffect p a v = none ∧ e.plainEffect row a v = x)

section
variable {d x : Device} {p v : Nat} {a : Addr} {row : Row} (hok : d.LetsThrough p a v) (hrow : findRow a = some row)
  (heffect : d.TakesEffect p row a v x)
include hok hrow heffect

theorem Device.bookWrite_of_letsThrough : d.bookWrite p a v = (Res.OK, x) := by
  obtain ⟨-, -, -, r, hr, -, hkept, hvalue, hown, hbusy⟩ := hok
  obtain rfl : r = row := Option.some.inj (hr.symm.trans hrow)
  have hsame : r.keptValue v = v := by
    unfold Row.keptValue
    split
    · rfl
    next h => exact hkept.resolve_left h
  rw [bookWrite_of_passes hr (by rwa [hsame]) (by rwa [hsame]) hbusy, hsame]
  rcases heffect with h | ⟨h, hplain⟩
  · rw [h]
    rfl
  · rw [h, hplain]
    rfl

theorem Device.writeEntry_of_letsThrough {data : List Byte} (reply : Reply) (hty : row.ty ≠ .domain) (hlen : data.length = row.ty.size)
    (hval : valueOf row.ty true data = v) (hj : x.isJoint a = false) :
    d.writeEntry p a true data reply = (Res.OK, x.noticeEntry a) := by
  have hbook := Device.bookWrite_of_letsThrough hok hrow heffect
  obtain ⟨hjoint, hseal, hacc, -⟩ := hok
  have hzero : decide (data = [0]) = true → decide (v = 0) = true := fun h => by
    rw [of_decide_eq_true h, valueOf_zero] at hval
    exact decide_eq_true hval.symm
  have hcode : d.writeCode p a data = Res.OK := by
    rw [writeCode_of_accessCode_ok hrow (Device.sealRefuses_of_imp hzero hseal) hacc, if_neg (by simp [hty, hlen])]
  rw [writeEntry_of_writeCode_ok hrow hcode, hval, jointWrite_of_applied hjoint (by rw [hbook]) (by rw [hbook]; exact hj), hbook]

end

/-- What a mailbox's WRITE of bytes leaves once it is answered OK: the effect on the device whose request runs, told to a partner. -/
def Device.answered (d : Device) (m tag : Nat) (a : Addr) (data : List Byte) (f : Device → Device) : Device :=
  ((f ((d.latched m 2 tag false false a data.length 0 data).running m)).noticeEntry a).completeMailbox m tag Res.OK []

/-- The requester is mailbox `m`. -/
def IsMailbox (r : Requester) (m n tag : Nat) : Prop :=
  (r = .kernel n tag ∧ n < 4 ∧ m = n) ∨ (r = .user n tag ∧ n < 16 ∧ m = 4 + n)

theorem Device.writeBytes_of_mailbox {r : Requester} {m n tag : Nat} (h : IsMailbox r m n tag) : ∃ kernel,
    mailboxExists kernel n = true ∧ mailboxNumber kernel n = m ∧ ∀ (d : Device) a bytes,
      d.writeBytes r a bytes = d.fromMailbox kernel n 2 tag false false a (bytes true).length 0 (bytes true) := by
  rcases h with ⟨rfl, hn, rfl⟩ | ⟨rfl, hn, rfl⟩
  · exact ⟨true, by simpa [mailboxExists] using hn, rfl, fun _ _ _ => rfl⟩
  · exact ⟨false, by simpa [mailboxExists] using hn, rfl, fun _ _ _ => rfl⟩

section
variable {s : State} {r : Requester} {m n tag v : Nat} {a : Addr} {row : Row} {g : Device → Device} {c : Instr}
  (ha : s.Accesses) (ht : s.dev.takesDoorbell m) (hm : IsMailbox r m n tag)
  (hok : s.dev.LetsThrough (mailboxPrincipal m) a v) (hlow : indexOf a < 0xE000)
  (heffect : ∀ e row, s.dev.BarOnly e → findRow a = some row → e.TakesEffect (mailboxPrincipal m) row a v (g e))
  (hjoint : memberEntry a = true ∨ ∀ e, s.dev.BarOnly e → s.dev.joined = false → (g e).joined = false)
include ha ht hm hok hlow heffect hjoint

/-- A command that writes an entry, from a mailbox, where the write passes every test: it is answered OK with its effect. -/
theorem exec_of_bytesTaken {f : Bool → List Byte} (hc : entryWrite c = some (r, a, f)) (hrow : findRow a = some row)
    (hlen : (f true).length = row.ty.size) (hval : valueOf row.ty true (f true) = v) :
    exec c s = .next (s.put (s.dev.answered m tag a (f true) g)) := by
  obtain ⟨hty, hsize⟩ := valueRow_of_index hrow hlow
  obtain ⟨kernel, he, rfl, hfrom⟩ := Device.writeBytes_of_mailbox hm
  have hbar := Device.barOnly_running (d := s.dev) (m := mailboxNumber kernel n) (opcode := 2) tag false false a (f true).length 0
    (f true)
  have haddr : a % 2 ^ 24 = a := addr_mod_of_index hlow
  have hafter : (g _).isJoint a = false :=
    Device.isJoint_of_keeps hok.1 (hjoint.imp_right (fun h hj => h _ hbar hj))
  rw [exec_of_entryWrite ha hc, hfrom, fromMailbox_of_write he ht (hlen ▸ hsize), haddr,
    Device.writeEntry_of_letsThrough (Device.letsThrough_of_barOnly hbar hok) hrow (heffect _ row hbar hrow) _ hty hlen hval hafter]
  rfl

/-- The same of a value, spelled in the entry's type. -/
theorem exec_of_valueTaken (hc : entryWrite c = (spell a v).map (r, ·)) :
    exec c s = .next (s.put (s.dev.answered m tag a (valueSpelled a v) g)) := by
  obtain ⟨row, hrow, hfits, -⟩ := hok.2.2.2
  have hspell : spell a v = some (a, fun little => valueBytes row.ty little v) := by rw [spell, hrow]; rfl
  have hbytes : valueSpelled a v = valueBytes row.ty true v := by rw [valueSpelled, hspell]; rfl
  rw [hspell] at hc
  rw [hbytes]
  exact exec_of_bytesTaken (f := fun little => valueBytes row.ty little v) ha ht hm hok hlow heffect hjoint hc
    hrow (valueBytes_length _ _ _) (valueOf_valueBytes hfits)

end

end Sys2Proof.Machine
end

section
/-! SUPPORT. What each command of an entry has for an effect where its write is let through. -/

namespace Sys2Proof.Machine

open Sys2Proof

section
variable {e x : Device} {p v : Nat} {a : Addr} {row : Row}

/-- A request that is answered OK takes effect. -/
theorem Device.TakesEffect.of_request {q : Nat × Device} (h : e.requestEffect p a v = some q) (hq : q.1 = Res.OK) :
    e.TakesEffect p row a v q.2 := .inl (h.trans (congrArg some (Prod.ext hq rfl)))

/-- An entry without a request takes its plain effect. -/
theorem Device.TakesEffect.of_plain (h : ¬ requestIndex (indexOf a)) (hx : e.plainEffect row a v = x) : e.TakesEffect p row a v x :=
  .inr ⟨e.requestEffect_of_index p v h, hx⟩

theorem Device.takesEffect_enable (h : e.mode = .configure) : e.TakesEffect p row E.ENABLE 1 e.startEnable.2 :=
  .of_request (e.requestEffect_enable p 1) (congrArg Prod.fst (Device.startEnable_of_configure h))

theorem Device.takesEffect_commit (h : e.mode.forwards = true) (hc : e.committing = false) :
    e.TakesEffect p row E.COMMIT 1 e.startCommit.2 :=
  .of_request (e.requestEffect_commit p 1) (congrArg Prod.fst (Device.startCommit_of_accepted h hc))

theorem Device.takesEffect_discardStaging (h : e.rwvBusy = false) : e.TakesEffect p row E.DISCARD_STAGING 1 e.discardStaging :=
  .inl ((e.requestEffect_discardStaging p 1).trans (by simp only [Device.ifOne, h, if_true, Bool.false_eq_true, if_false]))

theorem Device.takesEffect_clear (h : e.tel.clearArmed = none) :
    e.TakesEffect p row E.CLEAR 1 (e.armClear (e.rd E.CLEAR_FIRST) (e.rd E.CLEAR_COUNT)) :=
  .inl ((e.requestEffect_clear p 1).trans (by simp only [Device.ifOne, h, if_true, Option.isSome_none, Bool.false_eq_true, if_false]))

theorem Device.takesEffect_timeStepNs (hs : e.cur E.TIME_SOURCE = 1) (ht : e.timeValid = false) (hf : e.followsTime = false) :
    e.TakesEffect p row E.TIME_STEP_NS v (e.askStep v) :=
  .inl ((e.requestEffect_timeStepNs p v).trans (by rw [if_neg (by simp [hs, ht, hf])]))

theorem Device.takesEffect_ppsSeconds (hs : e.cur E.TIME_SOURCE = 2) (ht : e.timeValid = false) (hf : e.followsTime = false) :
    e.TakesEffect p row E.PPS_SECONDS v (e.armPps v) :=
  .inl ((e.requestEffect_ppsSeconds p v).trans (by rw [if_neg (by simp [hs, ht, hf])]))

theorem Device.takesEffect_timeRelease : e.TakesEffect p row E.TIME_RELEASE 1 e.releaseTime :=
  .of_request (e.requestEffect_timeRelease p 1) rfl

theorem Device.takesEffect_timeCapture : e.TakesEffect p row E.TIME_CAPTURE 1 e.captureTime :=
  .of_request (e.requestEffect_timeCapture p 1) rfl

theorem Device.takesEffect_gaugeSeal : e.TakesEffect p row E.GAUGE_SEAL 1 e.gaugeSeal :=
  .of_request (e.requestEffect_gaugeSeal p 1) rfl

section
variable {kind inst : Nat} (hi : inst < 2 ^ 24)
include hi

theorem Device.retireRequest_of_exists (hexists : resourceExists kind inst = true) (h : e.isRetired kind inst = false) :
    e.retireRequest (kind * 2 ^ 24 + inst) = (Res.OK,
      ((e.raise Src.STRIKE (resourceDetail kind inst)).bump64 (E.STRIKES_TOTAL kind) 1).retire kind inst true) := by
  have hkind : (kind * 2 ^ 24 + inst) / 2 ^ 24 = kind := by omega
  have hinst : (kind * 2 ^ 24 + inst) % 2 ^ 24 = inst := by omega
  simp only [Device.retireRequest, hkind, hinst, hexists, h, Bool.not_true, Bool.false_eq_true, if_false]

theorem Device.unretireRequest_of_retired (hk : kind = 1 ∨ kind = 10)
    (h : e.retired.any (fun x => x.kind = kind && x.inst = inst) = true) (hm : e.mode = .diagnostic) :
    e.unretireRequest (kind * 2 ^ 24 + inst) = (Res.OK,
      { e with retired := e.retired.filter (fun x => !(x.kind = kind && x.inst = inst))
               unretiring := e.unretiring ++ [kind * 2 ^ 24 + inst] }) := by
  have hkind : (kind * 2 ^ 24 + inst) / 2 ^ 24 = kind := by omega
  have hinst : (kind * 2 ^ 24 + inst) % 2 ^ 24 = inst := by omega
  unfold Device.unretireRequest
  simp only [hkind, hinst]
  rw [if_neg (by rw [h]; simp; omega), if_neg (by simp [hm])]

theorem Device.takesEffect_retireRequest (hexists : resourceExists kind inst = true) (h : e.isRetired kind inst = false) :
    e.TakesEffect p row E.RETIRE_REQUEST (kind * 2 ^ 24 + inst)
      (((e.raise Src.STRIKE (resourceDetail kind inst)).bump64 (E.STRIKES_TOTAL kind) 1).retire kind inst true) :=
  .inl ((e.requestEffect_retireRequest p _).trans (congrArg some (Device.retireRequest_of_exists hi hexists h)))

theorem Device.takesEffect_unretireRequest (hk : kind = 1 ∨ kind = 10)
    (h : e.retired.any (fun x => x.kind = kind && x.inst = inst) = true) (hm : e.mode = .diagnostic) :
    e.TakesEffect p row E.UNRETIRE_REQUEST (kind * 2 ^ 24 + inst)
      { e with retired := e.retired.filter (fun x => !(x.kind = kind && x.inst = inst))
               unretiring := e.unretiring ++ [kind * 2 ^ 24 + inst] } :=
  .inl ((e.requestEffect_unretireRequest p _).trans (congrArg some (Device.unretireRequest_of_retired hi hk h hm)))

end

theorem Device.advanceRollback_of_configure (hm : e.mode = .configure) (h : e.rd E.ROLLBACK_MIN < e.board.runningLevel) :
    e.advanceRollback = (Res.OK, e.wr E.ROLLBACK_MIN (min 64 e.board.runningLevel)) := by
  rw [Device.advanceRollback, if_neg (by omega), if_neg (by simp [hm])]

theorem Device.takesEffect_rollbackAdvance (hm : e.mode = .configure) (h : e.rd E.ROLLBACK_MIN < e.board.runningLevel) :
    e.TakesEffect p row E.ROLLBACK_ADVANCE 1 (e.wr E.ROLLBACK_MIN (min 64 e.board.runningLevel)) :=
  .inl ((e.requestEffect_rollbackAdvance p 1).trans (congrArg some (Device.advanceRollback_of_configure hm h)))

/-- In the modes that test the Care system a test is answered OK, whatever it finds (R471). -/
theorem Device.careTest_fst (h : e.mode = .configure ∨ e.mode = .check ∨ e.mode = .diagnostic) : e.careTest.1 = Res.OK := by
  unfold Device.careTest
  rw [if_pos h]
  dsimp only
  split
  · split <;> rfl
  · rfl

theorem Device.takesEffect_careTestGo (h : e.mode = .configure ∨ e.mode = .check ∨ e.mode = .diagnostic) :
    e.TakesEffect p row E.CARE_TEST_GO 1 e.careTest.2 :=
  .of_request (e.requestEffect_careTestGo p 1) (Device.careTest_fst h)

theorem Device.takesEffect_domainArm {c : Nat} (hc : c < 1024) (h : (e.armDomain p c).1 = Res.OK) :
    e.TakesEffect p row (E.DOMAIN_ARM c) 1 (e.armDomain p c).2 :=
  .of_request (e.requestEffect_domainArm p 1 hc) h

/-- The answer to an arming does not rest on BAR0. -/
theorem Device.armDomain_fst_of_bar0 (b : SMap) (c : Nat) : (({ e with bar0 := b } : Device).armDomain p c).1 = (e.armDomain p c).1 := by
  unfold Device.armDomain
  dsimp only
  rw [apply_ite Prod.fst, apply_ite Prod.fst, apply_ite Prod.fst, apply_ite Prod.fst]
  rfl

/-- A bus that is not busy takes a request (R485). -/
theorem Device.startBus_fst {b : Nat} (h : (e.rd (E.BUS_STATUS b)).testBit 0 = false) : (e.startBus b v).1 = Res.OK := by
  unfold Device.startBus
  rw [if_neg (by rw [bit, h]; exact Bool.false_ne_true)]
  dsimp only
  split <;> rfl

theorem Device.takesEffect_busRequest {b : Nat} (hb : b < 18) (h : (e.rd (E.BUS_STATUS b)).testBit 0 = false) :
    e.TakesEffect p row (entry (0x2E00 + b) 2) v (e.startBus b v).2 :=
  .of_request (e.requestEffect_busRequest p v hb) (Device.startBus_fst h)

theorem Device.takesEffect_safeHold (h : e.mode ≠ .safeHold) :
    e.TakesEffect p row E.MODE_REQUEST 11 ((e.wr E.MODE_REQUEST 11).safeHold 7 p) := by
  refine .inl ((e.requestEffect_modeRequest p 11).trans ?_)
  rw [Device.modeRequest, if_neg (by decide), if_pos rfl, if_neg h]

theorem Device.takesEffect_modeRequest {t : Mode} (h1 : v ≠ 1) (h11 : v ≠ 11) (hn : neverRequested v = false) (hm : e.mode ≠ .check)
    (hc : e.isCurrent v = false) (ht : e.transition v = some (t, true)) : e.TakesEffect p row E.MODE_REQUEST v
      { e.wr E.MODE_REQUEST v with armed := some t, armedPair := e.joined, resetHold := false } := by
  refine .inl ((e.requestEffect_modeRequest p v).trans ?_)
  rw [Device.modeRequest, if_neg h1, if_neg h11, if_neg (by rw [hn]; exact Bool.false_ne_true), if_neg hm,
    if_neg (by rw [hc]; exact Bool.false_ne_true), ht]
  rfl

theorem Device.takesEffect_grantWrite {g k : Nat} (hg : g < 128) (hk : k < 256) :
    e.TakesEffect p row (entry (0x1180 + g) k) v ((e.wr (entry (0x1180 + g) k) v).raise Src.GRANT_CHANGED 0) :=
  .of_plain (by rw [indexOf_entry _ hk]; unfold requestIndex; omega) (e.plainEffect_grant v row hg hk)

theorem indexOf_key {c : Nat} (slotB : Bool) : indexOf (if slotB then E.KEY_B c else E.KEY_A c) = 0x1101 + c := by
  cases slotB
  · exact indexOf_entry _ (by decide)
  · exact indexOf_entry _ (by decide)

theorem Device.takesEffect_keyWrite {c : Nat} (hc : c < 16) (slotB : Bool) :
    e.TakesEffect p row (if slotB then E.KEY_B c else E.KEY_A c) v (e.writeKey c slotB v) :=
  .of_plain (by rw [indexOf_key]; unfold requestIndex; omega) (e.plainEffect_key v row hc slotB)

theorem Device.takesEffect_gaugeParamWrite {k : Nat} (hk : k < 256) :
    e.TakesEffect p row (entry 0x9010 k) v (e.gaugeParam k row.ty.code row.ty.size v) :=
  .of_plain (by rw [indexOf_entry _ hk]; unfold requestIndex; omega) (e.plainEffect_gaugeParam v row hk)

theorem powerCapW_acc : ∀ r ∈ findRow E.POWER_CAP_W, r.acc ≠ .w1c := by decide +kernel

theorem Device.takesEffect_powerCapW (h : findRow E.POWER_CAP_W = some row) :
    e.TakesEffect p row E.POWER_CAP_W v (e.wr E.POWER_CAP_W v) :=
  .of_plain (by unfold requestIndex; decide) ((e.plainEffect_powerCapW v row).trans (if_neg (powerCapW_acc row h)))

theorem Device.takesEffect_joinEnable : e.TakesEffect p row E.JOIN_ENABLE v ((e.wr E.JOIN_ENABLE v).enableJoin v) :=
  .of_plain (by unfold requestIndex; decide) (e.plainEffect_joinEnable v row)

end

/-! ### Aging -/

/-- Aging leaves the frames and what queues (R218). -/
theorem Device.age_keeps_frames (d : Device) : d.age.frames = d.frames ∧ d.age.queued = d.queued := by
  have hends (x : Device) : (x.passEnds false).frames = x.frames ∧ (x.passEnds false).queued = x.queued := by
    unfold Device.passEnds
    split
    · exact ⟨rfl, rfl⟩
    · exact ⟨rfl, rfl⟩
  obtain ⟨hframes, hqueued⟩ := hends (d.listAged.modContext 2 (fun x => { x with output := [] }))
  exact ⟨hframes, hqueued⟩

/-! ### Outside a pair: effects that form no join -/

theorem SMap.get_foldl_ins_of_ne (c m : SMap) (d k : Nat) (h : ∀ x ∈ c, k ≠ x.1) :
    SMap.get (c.foldl (fun m x => SMap.ins m x.1 x.2) m) d k = SMap.get m d k := by
  induction c generalizing m with
  | nil => rfl
  | cons x t ih =>
    rw [List.foldl_cons, ih _ (fun y hy => h y (List.mem_cons_of_mem _ hy)), SMap.get_ins, if_neg (h x (List.mem_cons_self ..))]

/-- An entry that is no RWV entry stays, in whatever order the copy lists its entries. -/
theorem get_unstage_of_isRwv_false (staged copy : SMap) (d : Nat) {a : Addr} (h : isRwv a = false) :
    SMap.get (unstage staged copy) d a = SMap.get staged d a := by
  have hne (x : Nat × Nat) (hx : x ∈ copy.filter (fun e => isRwv e.1)) : a ≠ x.1 := fun hax => by
    rw [hax, (List.mem_filter.mp hx).2] at h
    cases h
  rw [unstage, SMap.get_foldl_ins_of_ne _ _ _ _ hne, SMap.get_filter staged (fun k => !isRwv k) _ _ (by simp [h])]

theorem joinState_not_rwv : isRwv E.JOIN_STATE = false := by decide +kernel

section
variable {e : Device} (h : e.joined = false)
include h

theorem Device.joined_startEnable (hm : e.mode = .configure) : e.startEnable.2.joined = false := by
  have hjudged : ({ (e.judge false) with armed := none, installDue := false } : Device).joined = false := h
  rw [Device.startEnable_of_configure hm]
  exact (congrArg HoldView.joined (Device.holdView_enterMode _ .check)).trans hjudged

theorem Device.joined_startCommit (hm : e.mode.forwards = true) (hc : e.committing = false) : e.startCommit.2.joined = false := by
  rw [Device.startCommit_of_accepted hm hc]
  exact h

theorem Device.joined_discardStaging : e.discardStaging.joined = false := by
  have hrd : e.discardStaging.rd E.JOIN_STATE = e.rd E.JOIN_STATE := get_unstage_of_isRwv_false e.bk _ _ joinState_not_rwv
  rw [Device.joined, hrd]
  exact h

end

end Sys2Proof.Machine
end

section
/-! SUPPORT. The commands of one entry and the work in the background complete with their own effect. -/

namespace Sys2Proof.Machine

open Sys2Proof

/-- Settles O60: each command of an entry by `exec_of_valueTaken` (of bytes, `exec_of_bytesTaken`) and its entry's effect, the work
in the background by the equation of its command. That an answer tells the partner a member entry's new value (log entry 215), that a
mode request arms the pair with the device (log entry 219), and that SHADOW_PASSES wraps (log entry 147) are the model's choices. -/
theorem commandsTakeEffect : Obligations.CommandsTakeEffect := by
  unfold Obligations.CommandsTakeEffect
  refine ⟨fun s r m n tag v ha ht hm => ?_, fun s sensor kind inst xs hr => ?_⟩
  · intro d p ok answer done
    have hanswer (a : Addr) (data : List Byte) (f : Device → Device) :
        answer a data f = .next (s.put (s.dev.answered m tag a data f)) := rfl
    have hdone (a : Addr) (w : Nat) (f : Device → Device) :
        done a w f = .next (s.put (s.dev.answered m tag a (valueSpelled a w) f)) := rfl
    clear_value answer done
    have htake {c : Instr} {a : Addr} {w : Nat} {g : Device → Device} (hok : ok a w) (hlow : indexOf a < 0xE000)
        (hjoint : memberEntry a = true ∨ ∀ b, d.joined = false → (g { d with bar0 := b }).joined = false)
        (heffect : ∀ b row, findRow a = some row → ({ d with bar0 := b } : Device).TakesEffect p row a w (g { d with bar0 := b }))
        (hc : entryWrite c = (spell a w).map (r, ·)) : exec c s = done a w g :=
      (exec_of_valueTaken ha ht hm hok hlow (fun _ row ⟨b, hb⟩ hr => hb ▸ heffect b row hr)
        (hjoint.imp_right (fun h _ ⟨b, hb⟩ hj => hb ▸ h b hj)) hc).trans (hdone a w g).symm
    have htakeMember {c : Instr} {a : Addr} {w : Nat} {g : Device → Device} (hi : memberIndex (indexOf a)) (hok : ok a w)
        (heffect : ∀ b row, findRow a = some row → ({ d with bar0 := b } : Device).TakesEffect p row a w (g { d with bar0 := b }))
        (hc : entryWrite c = (spell a w).map (r, ·)) : exec c s = done a w g :=
      htake hok (by omega) (.inl (memberEntry_of_index hi)) heffect hc
    refine ⟨?grant, ?key, ?enable, ?commit, ?discard, ?clear, ?time, ?release, ?capture, ?sealed, ?param, ?cap, ?join, ?retire,
      ?rollback, ?hold, ?mode, ?care, ?arm, ?bus⟩
    case grant =>
      intro g k hg hk hok
      exact htakeMember (by rw [indexOf_entry _ hk]; omega) hok (fun b row _ => Device.takesEffect_grantWrite hg hk) (if_pos hg)
    case key =>
      intro c key hc hlen
      have hkey (slotB : Bool) (hok : ok (if slotB then E.KEY_B c else E.KEY_A c) (beNat key)) : exec (.keyWrite r c slotB key) s =
          answer (if slotB then E.KEY_B c else E.KEY_A c) key (fun e => e.writeKey c slotB (beNat key)) := by
        have hi := indexOf_key (c := c) slotB
        refine (exec_of_bytesTaken (c := .keyWrite r c slotB key) (f := fun _ => key) ha ht hm hok (by omega)
          (fun _ row _ _ => Device.takesEffect_keyWrite hc slotB) (.inl (memberEntry_of_index (by omega))) (if_pos hc)
          (findRow_key c hc slotB) hlen ?_).trans (hanswer _ _ _).symm
        cases slotB
        · rfl
        · rfl
      exact ⟨hkey false, hkey true⟩
    case enable =>
      exact fun hok hmode => htake hok (by decide)
        (.inr (fun b hj => Device.joined_startEnable (e := { d with bar0 := b }) hj hmode))
        (fun b row _ => Device.takesEffect_enable hmode) rfl
    case commit =>
      exact fun hok hf hc => htake hok (by decide)
        (.inr (fun b hj => Device.joined_startCommit (e := { d with bar0 := b }) hj hf hc))
        (fun b row _ => Device.takesEffect_commit hf hc) rfl
    case discard =>
      exact fun hok hb => htake hok (by decide) (.inr (fun b hj => Device.joined_discardStaging (e := { d with bar0 := b }) hj))
        (fun b row _ => Device.takesEffect_discardStaging hb) rfl
    case clear =>
      exact fun hok hfree => htakeMember (by decide) hok (fun b row _ => Device.takesEffect_clear hfree) rfl
    case time =>
      intro hvalid hj
      have hfollows := Device.followsTime_eq_false hj
      exact ⟨fun hok hs => htakeMember (by decide) hok (fun b row _ => Device.takesEffect_timeStepNs hs hvalid hfollows) rfl,
        fun hok hs => htakeMember (by decide) hok (fun b row _ => Device.takesEffect_ppsSeconds hs hvalid hfollows) rfl⟩
    case release =>
      exact fun hok => htakeMember (by decide) hok (fun b row _ => Device.takesEffect_timeRelease) rfl
    case capture =>
      exact fun hok => htakeMember (by decide) hok (fun b row _ => Device.takesEffect_timeCapture) rfl
    case sealed =>
      exact fun hok => htakeMember (by decide) hok (fun b row _ => Device.takesEffect_gaugeSeal) rfl
    case param =>
      intro k row data hk hrow hlen _ hok
      have hi := indexOf_entry 0x9010 hk
      refine (exec_of_bytesTaken (c := .gaugeParamWrite r k data) (f := fun _ => data) ha ht hm hok (by omega)
        (fun _ r _ hr => ?_) (.inl (memberEntry_of_index (by omega))) rfl hrow hlen rfl).trans (hanswer _ _ _).symm
      obtain rfl : row = r := Option.some.inj (hrow.symm.trans hr)
      exact Device.takesEffect_gaugeParamWrite hk
    case cap =>
      exact fun hok => htakeMember (by decide) hok (fun b row hrow => Device.takesEffect_powerCapW hrow) rfl
    case join =>
      exact fun hok => htakeMember (by decide) hok (fun b row _ => Device.takesEffect_joinEnable) rfl
    case retire =>
      rintro k i hk hi rfl
      exact ⟨fun hok hexists hnew => htakeMember (by decide) hok (fun b row _ => Device.takesEffect_retireRequest hi hexists hnew) rfl,
        fun hok hkind hany hmode => htakeMember (by decide) hok
          (fun b row _ => Device.takesEffect_unretireRequest hi hkind hany hmode) rfl⟩
    case rollback =>
      exact fun hok hmode hlevel => htakeMember (by decide) hok (fun b row _ => Device.takesEffect_rollbackAdvance hmode hlevel) rfl
    case hold =>
      exact fun hok hmode => htake hok (by decide)
        (.inr (fun b hj => Device.joined_safeHold _ 7 p ((Device.joined_wr _ 11 (by decide)).trans hj)))
        (fun b row _ => Device.takesEffect_safeHold hmode) rfl
    case mode =>
      exact fun t hok h1 h11 hnever hcheck hcur ht => htake hok (by decide)
        (.inr (fun b hj => (Device.joined_wr _ v (by decide)).trans hj))
        (fun b row _ => Device.takesEffect_modeRequest h1 h11 hnever hcheck hcur ht) rfl
    case care =>
      exact fun hok hmode => htakeMember (by decide) hok (fun b row _ => Device.takesEffect_careTestGo hmode) rfl
    case arm =>
      intro c hc hok harm
      exact htakeMember (by rw [E.DOMAIN_ARM, indexOf_entry _ (by decide)]; omega) hok
        (fun b row _ => Device.takesEffect_domainArm hc ((d.armDomain_fst_of_bar0 b c).trans harm)) (if_pos hc)
    case bus =>
      intro b hb hok hbusy
      exact htakeMember (by rw [indexOf_entry _ (by decide)]; omega) hok
        (fun _ row _ => Device.takesEffect_busRequest hb hbusy) (if_pos hb)
  · intro d
    refine ⟨?thermal, ?shadow, ?aging, exec_flowScan hr, fun m harm hcare => exec_careLoadDone_of_due hr harm hcare, ?spare⟩
    case thermal =>
      intro hc
      rw [exec, execThermalFatal]
      exact on_runs_of_pos hr hc
    case shadow => exact fun hc => exec_shadowPass hr hc xs
    case aging =>
      refine fun hage => ⟨_, exec_agingPass_of_enabled hr hage, d.agedPasses_age, fun e he hv => ?_, d.age_keeps_frames⟩
      obtain ⟨y, -, rfl⟩ := List.mem_map.mp (d.exact_age ▸ he)
      exact y.hit_afterAging _ hv
    case spare => exact exec_spareCopyDone hr kind inst

end Sys2Proof.Machine
end
